-- ==== Sys2Proof/Word.lean ====
section
/-! DEFINITION. The word types of the device (R7): bytes, 32-bit register words, 40-bit machine words, 64-bit words. -/
namespace Sys2Proof.Machine

/-- One byte. -/
abbrev Byte := BitVec 8
/-- A register word (32 bits). -/
abbrev W32 := BitVec 32
/-- A machine word of a core (40 bits). -/
abbrev W40 := BitVec 40
/-- A counter, a time or a double word (64 bits). -/
abbrev W64 := BitVec 64

end Sys2Proof.Machine
end

