-- ==== Sys2Proof/Syntax.lean ====
section
/-! DEFINITION. The commands of the block: one constructor per row of spec/opcode_table.json, in the table's order. An
operand is what the command's sender, the environment or the hardware's own timing decides; each docstring names the
command's rule. Every command is one indivisible step (95_what_each_step_holds). -/
namespace Sys2Proof
open Sys2Proof.Machine

/-- What a namespace offered to the recorder shows at a resume (R490, R495): its index n, its byte capacity, whether its LBA
format is one that REC uses, its first 4,096 bytes, and its index area. -/
structure DriveInfo where
  n : Nat := 0
  cap : Nat := 0
  lbaOk : Bool := true
  label : List Byte := []
  area : List Byte := []
  deriving DecidableEq, Repr

/-- Where a command of an accelerator meets an uncorrectable error: nowhere; at a context slot; at an operand; at a table or
descriptor. -/
inductive UeAt where
  | none | ctx | data | table
  deriving DecidableEq, Repr

/-- The commands. -/
inductive Instr where
  /-- REGISTER_WRITE (R11): A write to a register that has no row of its own takes effect as its access code and marks lay down. -/
  | registerWrite (mid : Nat) (gen : BitVec 8) (off : Nat) (value : W32) (ue : Bool)
  /-- GUARD_FIRST_WRITE (R700): The first write of a guarded pair to a G register becomes the pending write of its guarded instance and changes nothing. -/
  | guardFirstWrite (mid : Nat) (gen : BitVec 8) (off : Nat) (value : W32)
  /-- GUARD_TIMEOUT (R701): 64 MGT cycles pass without the complement, so the pending first write ends with a GUARD_FAIL record of kind 1. -/
  | guardTimeout (off : Nat)
  /-- GUARD_COMPLEMENT_BAD (R701): A write to A + 4 that is not the complement, or that comes with no pending write, ends or is discarded with GUARD_FAIL. -/
  | guardComplementBad (mid : Nat) (gen : BitVec 8) (off : Nat) (value : W32)
  /-- LOCK_WRITE (R704): A plain or guarded write to an L register under LOCK is discarded with a LOCK_WRITE record. -/
  | lockWrite (mid : Nat) (gen : BitVec 8) (off : Nat) (value : W32)
  /-- TALLY_SNAP (R706): A write of GO to GLB_TALLY_SNAP fixes an instant and has every S source copy its live count. -/
  | tallySnap (mid : Nat) (gen : BitVec 8)
  /-- TALLY_DONE (R706): Once every copy is written, BUSY clears, SEQ advances, GLB_TALLY_TIME is written and all RS fields switch together. -/
  | tallyDone
  /-- REG_DENIED (R695): The router answers a register-path access outside the rights of R694 with an error response and a REG_DENIED record. -/
  | regDenied (mid : Nat) (gen : BitVec 8) (off : Nat) (write : Bool) (value : W32)
  /-- BEACON_POWER_ON (R516): The rise of the always-on rail resets every BCN register and the save area. -/
  | beaconPowerOn
  /-- RESET_N_ASSERT (R727): A low on RESET_N of 1 µs or longer resets the device and idles every transmitter. -/
  | resetNAssert (ns : Nat)
  /-- RESET_N_RELEASE (R548): The release of RESET_N samples PAIR_ROLE and starts the boot at step 1. -/
  | resetNRelease (role : Bool)
  /-- SUPPLY_LOSS (R723): A monitored rail stays below 90 % for 1 µs, so the device acts as under RESET_N, drives FAULT_N low and saves a SUPPLY_LOSS record. -/
  | supplyLoss (rails : Nat)
  /-- SUPPLY_RESTORE (R723): Every rail has been back in range for 1 ms after a supply loss, so the device starts cold. -/
  | supplyRestore
  /-- PERST_N_RISE (R728): PERST_N rises, so the endpoint begins training once step 3 has ended. -/
  | perstNRise
  /-- BEACON_UP (R548): Boot step 1 ends when BCN has locked to the 25 MHz reference. -/
  | beaconUp
  /-- FUSE_SENSE (R548): Boot step 2 senses and checks the fuses, and enters state FAILED on an error. -/
  | fuseSense (ok : Bool)
  /-- BOOT_ROM_ENTRY (R548): Boot step 3 checks the ROM, enters lockstep, starts the SRAM fill and the endpoint, and writes vault page 0. -/
  | bootRomEntry
  /-- IMAGE_READ (R555): Boot step 4 discovers the flash, chooses a slot and copies the image into staging with section checks. -/
  | imageRead (size erase : Nat)
  /-- IMAGE_AUTH (R559): Boot step 5 checks key, signature, rollback, binding and life cycle, and accepts or fails the slot. -/
  | imageAuth (hashOk sigOk fuseOk : Bool) (populated : Nat)
  /-- SLOT_FAIL (R566): A failed slot resets the islands, refills SRAM and tries the other slot, or enters WAIT_IMAGE with NO_IMAGE. -/
  | slotFail
  /-- BOOT_TMO (R548): A boot step overruns its timeout, so MGT writes BOOT_TMO and takes the step's action. -/
  | bootTmo
  /-- SECTION_APPLY (R556): In step 7 MGT applies the next image section once the effects of the earlier ones have completed, and stops with IMG_LOAD on a failure. -/
  | sectionApply
  /-- FEATURE_NEGOTIATION (R564): At step 8 MGT sets GLB_DEV_FEAT and GLB_FEAT_ACK. -/
  | featureNegotiation
  /-- CLUSTER_RELEASE (R558): After the last section MGT zeroes staging, sets LOCK, RUN and LIVE, starts the entry threads and releases the ports. -/
  | clusterRelease
  /-- BOOT_WRITE (R549): A write before cluster release to a register other than the allowed ones is discarded with a BOOT_WRITE record. -/
  | bootWrite (mid : Nat) (gen : BitVec 8) (off : Nat) (value : W32)
  /-- BOOT_RETRY (R566): A guarded pair with RETRY in WAIT_IMAGE restarts the boot from step 3. -/
  | bootRetry (mid : Nat) (gen : BitVec 8)
  /-- KEY_PROGRAM (R563): In BLANK a guarded pair on MGT_LC_REQ with KEY programs MGT_KEY_PROG into an empty owner slot. -/
  | keyProgram (mid : Nat) (gen : BitVec 8) (slot : Nat)
  /-- LC_REQUEST (R563): In BLANK a guarded pair with TARGET DEVELOP starts the transition of R562. -/
  | lcRequest (mid : Nat) (gen : BitVec 8) (value : W32) (ok : Bool)
  /-- DRIVER_FEATURES (R564): A write of the high half of GLB_DRV_FEAT sets GLB_FEAT_ACK to the features both offered and asked for. -/
  | driverFeatures (mid : Nat) (gen : BitVec 8) (value : W32)
  /-- SRAM_FILL_DONE (R467): ECS completes the power-on fill of every SRAM array and sets SRAM_DONE. -/
  | sramFillDone
  /-- DDR_TRAINING_DONE (R450): A channel ends training in RUN or in TRAIN_FAIL with a record. -/
  | ddrTrainingDone (ch step speed dimms ranks density cap : Nat)
  /-- DRAM_FILL_DONE (R468): ECS completes the fill of a trained channel and sets its DRAM_DONE bit, or fails it with FILL_FAIL. -/
  | dramFillDone (ch : Nat) (failAt : Option Nat)
  /-- FRAME_RECEIVE (R77): PX receives a frame, checks length and FCS, timestamps it, and passes it to PRS or discards and counts it. -/
  | frameReceive (port : Nat) (bytes : List Byte) (fcsOk whole : Bool) (sfd : W64) (fecCorr fecUncorr : Nat)
  /-- CUT_FRAME_END (R78): Under CUT, PX receives the end of a frame already passed on and reports it good or marks it bad for stomping. -/
  | cutFrameEnd (port : Nat) (rest : List Byte) (fcsOk : Bool)
  /-- MAC_CONTROL_RECEIVE (R79): PX consumes a MAC control frame, acting on a pause or PFC frame and dropping others. -/
  | macControlReceive (port : Nat) (bytes : List Byte)
  /-- PAUSE_QUANTA_EXPIRE (R85): The quanta of a received pause run out, so the paused classes may transmit again. -/
  | pauseQuantaExpire (port classes : Nat)
  /-- PAUSE_FRAME_SEND (R84): At the first frame boundary after a pause request rises or falls, PX sends a pause or PFC frame. -/
  | pauseFrameSend (port : Nat)
  /-- PAUSE_REPEAT (R84): Every 32,768 quanta while a request stands, PX repeats the pause frame. -/
  | pauseRepeat (port : Nat)
  /-- TRANSMIT_FRAME (R81): PX starts the next frame from its egress queue by class or release order, stamping PTP fields on the way. -/
  | transmitFrame (port : Nat) (sfd : W64)
  /-- TRANSMIT_DONE (R82): A transmitted frame completes and PX completes its buffer to BPM under the port's egress MID. -/
  | transmitDone (port : Nat)
  /-- TSQ_POP (R95): A write of POP to PX_PORT_TSQ_TAG removes the head timestamp entry. -/
  | tsqPop (port : Nat)
  /-- PORT_MODE_PAIR (R70): A completed pair on PX_PORT_MODE is accepted, taking the port down and retraining it, or refused with PORT_CFG_BAD. -/
  | portModePair (mid : Nat) (gen : BitVec 8) (port : Nat) (value : W32)
  /-- QUAD_PAIR (R71): A completed pair on PX_GRP_QUAD enables or disables an aligned quad, or is refused with QUAD_CONFLICT. -/
  | quadPair (mid : Nat) (gen : BitVec 8) (grp : Nat) (value : W32)
  /-- AN_RESTART (R73): A write of AN_RESTART restarts auto-negotiation on a 1000BASE-X or SGMII port. -/
  | anRestart (mid : Nat) (gen : BitVec 8) (port : Nat) (value : W32)
  /-- LINK_UP (R737): The receiver conditions hold and PX declares the port UP. -/
  | linkUp (port : Nat) (lpHalfDuplex : Bool) (lpPause speed : Nat)
  /-- LINK_DOWN (R73): Loss of signal, lock, alignment or a fault takes the port out of UP, which ends ingress and forms a FLUSH cell. -/
  | linkDown (port reason : Nat)
  /-- DOWN_HOLD_EXPIRE (R74): DOWN_HOLD ends after a link loss, so the port starts training again. -/
  | downHoldExpire (port : Nat)
  /-- LANE_FAULT (R94): A lane PLL or CDR fails and the port enters FAULT. -/
  | laneFault (port lane reason : Nat)
  /-- FAULT_RETRY (R72): Every 10 ms in FAULT, PX retries training of the port. -/
  | faultRetry (port : Nat)
  /-- PARSE_FRAME (R103): A PRS pipeline starts a frame, walks the parse tables, takes taps, classifies, spreads and forms the token. -/
  | parseFrame (pl : Nat) (ueVisit : Option Nat) (ueMatch : Bool)
  /-- TAP_OFFER (R116): PRS offers a frame's taps to REC, which accepts or refuses each, and sets TAPF. -/
  | tapOffer (pl : Nat) (cutPort : Option Nat)
  /-- CONTROL_CELL_PASS (R131): A control cell passes a unit's pipeline in order with the tokens, switching the view at a MARK. -/
  | controlCellPass (unit_ pl : Nat)
  /-- PRS_READ (R132): PRS_TCMD OP READ copies a table entry into PRS_TBUF. -/
  | prsRead (mid : Nat) (gen : BitVec 8) (table : Nat) (ue : Bool)
  /-- PRS_WRITE (R132): PRS_TCMD OP WRITE replaces a table entry, in every pipeline copy for tables 8 to 12. -/
  | prsWrite (mid : Nat) (gen : BitVec 8) (table : Nat)
  /-- PRS_INSERT (R133): PRS_TCMD OP INSERT adds a key to an exact-match table, moving residents by a chain when needed. -/
  | prsInsert (mid : Nat) (gen : BitVec 8) (table : Nat)
  /-- PRS_UPDATE (R132): PRS_TCMD OP UPDATE replaces the entry data of a present key. -/
  | prsUpdate (mid : Nat) (gen : BitVec 8) (table : Nat)
  /-- PRS_DELETE (R132): PRS_TCMD OP DELETE clears VALID of a present key. -/
  | prsDelete (mid : Nat) (gen : BitVec 8) (table : Nat)
  /-- PRS_SEARCH (R132): PRS_TCMD OP SEARCH copies a key's entry and place. -/
  | prsSearch (mid : Nat) (gen : BitVec 8) (table : Nat) (ue : Bool)
  /-- PRS_BAD_OP (R132): A PRS_TCMD write with an undefined OP ends with BAD_ARG. -/
  | prsBadOp (mid : Nat) (gen : BitVec 8) (table op : Nat)
  /-- PRS_COMMAND_DONE (R132): A PRS table command finishes and BUSY clears with its result in PRS_TSTAT. -/
  | prsCommandDone
  /-- PROF_CTRL_PAIR (R124): A completed pair on PRS_PROF_CTRL is accepted and starts a table clear, or is refused with PROF_BAD. -/
  | profCtrlPair (mid : Nat) (gen : BitVec 8) (p : Nat) (value : W32)
  /-- PROF_CLEAR_DONE (R124): The clear of a profile's table ends and CLEARING[p] falls. -/
  | profClearDone (p : Nat)
  /-- INGRESS_ALLOC (R186): BPM sizes a packet token's need, allocates from the fitting pool or drops it, and writes HANDLE. -/
  | ingressAlloc (pl : Nat)
  /-- ALLOC_LEN (R189): BPM allocates a buffer by length under the quota rules and names the caller owner. -/
  | allocLen (mid : Nat) (gen : BitVec 8) (n : Nat)
  /-- ALLOC_POOL (R189): BPM allocates a buffer from one named pool under the quota rules. -/
  | allocPool (mid : Nat) (gen : BitVec 8) (p : Nat)
  /-- SHARE (R189): BPM adds k claims to a buffer's holders. -/
  | share (mid : Nat) (gen : BitVec 8) (h : W32) (k : Nat)
  /-- RELEASE (R193): BPM removes one claim and completes a deferred free when one claim remains. -/
  | release (mid : Nat) (gen : BitVec 8) (h : W32)
  /-- GIVE (R189): BPM names a new owner of a buffer under the receiver's quota test. -/
  | give (mid : Nat) (gen : BitVec 8) (h : W32) (tgt : Nat)
  /-- FREE (R192): BPM checks and returns a buffer to the free store, or withdraws it over a retired page. -/
  | free (mid : Nat) (gen : BitVec 8) (h : W32)
  /-- FREE_LATER (R189): BPM frees a buffer now when it has one holder, or sets PEND. -/
  | freeLater (mid : Nat) (gen : BitVec 8) (h : W32)
  /-- FREE_ADDR (R191): BPM frees the buffer that starts at a given address. -/
  | freeAddr (mid : Nat) (gen : BitVec 8) (addr : Nat) (packet : Bool)
  /-- COMPLETE (R189): From a port's egress, BPM frees the buffer when the port is sole owner, or releases one claim. -/
  | complete (mid : Nat) (gen : BitVec 8) (h : W32)
  /-- BPM_OP_RANGE (R189): An undefined BPM operation code is refused with RANGE. -/
  | bpmOpRange (mid : Nat) (gen : BitVec 8) (op arg : Nat)
  /-- RING_REFILL (R184): A read of 128 handles from a pool's ring completes and BPM places them in the cache. -/
  | ringRefill (p : Nat)
  /-- RING_SPILL (R184): With more than 448 cached handles, BPM writes the 128 oldest to the ring's tail. -/
  | ringSpill (p : Nat)
  /-- POOL_UE (R201): A ring or metadata read meets an uncorrectable error, and BPM sets the pool FAILED. -/
  | poolUe (p : Nat) (meta_ : Bool) (addr : Nat)
  /-- POOL_LAYOUT_PAIR (R180): A completed pair on BPM_POOL_BASE, COUNT, RING or META is accepted or refused with LAYOUT_BAD. -/
  | poolLayoutPair (mid : Nat) (gen : BitVec 8) (p reg : Nat) (value : W32)
  /-- POOL_ENABLE (R181): A pair setting EN on BPM_POOL_SIZE is checked and starts the pool build. -/
  | poolEnable (mid : Nat) (gen : BitVec 8) (p : Nat) (value : W32)
  /-- POOL_DISABLE (R181): A pair clearing EN disables a pool with no allocated buffers or a FAILED pool. -/
  | poolDisable (mid : Nat) (gen : BitVec 8) (p : Nat) (value : W32)
  /-- POOL_BUILD_DONE (R182): BPM finishes writing the metadata and filling the ring, and clears INIT. -/
  | poolBuildDone (p : Nat)
  /-- META_READ (R206): BPM_CMD OP META_READ returns a buffer's metadata word. -/
  | metaRead (mid : Nat) (ue : Bool)
  /-- RECLAIM (R206): BPM_CMD OP RECLAIM names a new owner for every buffer of a pool held by an old MID and generation. -/
  | reclaim (mid : Nat)
  /-- AUDIT (R206): BPM_CMD OP AUDIT counts a pool's buffers owned by one MID. -/
  | audit (mid : Nat)
  /-- FORCE_FREE (R206): BPM_CMD OP FORCE_FREE frees an allocated buffer whatever its owner. -/
  | forceFree (mid : Nat)
  /-- BPM_COMMAND_DONE (R206): A BPM recovery command ends and BUSY clears with its result. -/
  | bpmCommandDone
  /-- FTE_RESOLVE (R144): FTE takes a token, resolves EGRESS by bridging or routing, raises learning messages, and hands it to ODS. -/
  | fteResolve (pl : Nat) (ue : Option (Nat × Nat))
  /-- LEARN_MESSAGE (R152): The learning engine applies a local learning message: insert, refresh, move or freeze. -/
  | learnMessage
  /-- RECENT_FILTER_EXPIRE (R153): A key leaves the recent filter after at most 1 µs. -/
  | recentFilterExpire (pl : Nat)
  /-- AGE_PASS (R155): When NOW changes, the aging scanner passes over the L2 table and asks for deletions. -/
  | agePass
  /-- AGE_DELETE (R155): The engine rechecks the age of a scanned entry and deletes it. -/
  | ageDelete
  /-- FTE_FLUSH_CELL (R157): A FLUSH cell passes FTE, which marks the port under flush and queues a flush request. -/
  | fteFlushCell (pl : Nat)
  /-- PORT_FLUSH (R157): The engine deletes every dynamic entry of the port, clears the mark, sets FLUSH_DONE and sends a FLUSH message. -/
  | portFlush
  /-- MLK_LEARN_APPLY (R160): The engine applies a learning message received over MLK. -/
  | mlkLearnApply
  /-- LNQ_POP (R154): A write of POP to FTE_LNQ_CTRL removes the head notification. -/
  | lnqPop
  /-- FTE_READ (R170): FTE_TCMD OP READ copies a table entry. -/
  | fteRead (mid : Nat) (gen : BitVec 8) (table : Nat) (ue : Bool)
  /-- FTE_WRITE (R170): FTE_TCMD OP WRITE replaces a table entry. -/
  | fteWrite (mid : Nat) (gen : BitVec 8) (table : Nat)
  /-- FTE_INSERT (R171): FTE_TCMD OP INSERT adds a key, maintaining the length filters for routes. -/
  | fteInsert (mid : Nat) (gen : BitVec 8) (table : Nat)
  /-- FTE_DELETE (R171): FTE_TCMD OP DELETE removes a key and lowers the filter counts. -/
  | fteDelete (mid : Nat) (gen : BitVec 8) (table : Nat)
  /-- FTE_SEARCH (R170): FTE_TCMD OP SEARCH copies a key's entry and place. -/
  | fteSearch (mid : Nat) (gen : BitVec 8) (table : Nat) (ue : Bool)
  /-- AGE_STEP (R170): FTE_TCMD OP AGE_STEP applies the aging rule to 4,096 slots. -/
  | ageStep (mid : Nat) (gen : BitVec 8)
  /-- FTE_FLUSH (R170): FTE_TCMD OP FLUSH deletes the L2 entries that match the enabled criteria. -/
  | fteFlush (mid : Nat) (gen : BitVec 8)
  /-- FTE_UPDATE (R170): FTE_TCMD OP UPDATE replaces the data word of a present key. -/
  | fteUpdate (mid : Nat) (gen : BitVec 8) (table : Nat)
  /-- FTE_BAD_OP (R170): An undefined OP and TABLE pair on FTE_TCMD ends with BAD_ARG. -/
  | fteBadOp (mid : Nat) (gen : BitVec 8) (table op : Nat)
  /-- FTE_COMMAND_DONE (R170): An FTE table command finishes and BUSY clears with its result. -/
  | fteCommandDone
  /-- LAYOUT_PAIR (R173): A completed pair on FTE_LAYOUT is accepted and starts a clear, or is refused with LAYOUT_BAD. -/
  | layoutPair (mid : Nat) (gen : BitVec 8) (k : Nat) (value : W32)
  /-- LAYOUT_CLEAR_DONE (R173): The clear of an FTE table ends and CLEARING[k] falls. -/
  | layoutClearDone (k : Nat)
  /-- ADMIT (R212): ODS allocates a store slot and an admission count to a forming unit's token or cell. -/
  | admitCell (pl : Nat)
  /-- HELD_CELL_ADMIT (R212): As slots free, ODS admits held control cells in their fixed order. -/
  | heldCellAdmit
  /-- TOKEN_ENTRY (R218): A token arrives from FTE, ODS checks its epoch, assigns order domain and SEQ, and queues or releases it. -/
  | tokenEntry (pl : Nat) (ue : Bool)
  /-- DISPATCH (R222): A cluster dispatcher chooses a token by deficit, level and lock, and places it in a waiting thread's window. -/
  | dispatch (c : Nat) (ue : Bool)
  /-- TKP_GET (R225): GET waits until ODS dispatches a token into the lowest free window slot. -/
  | tkpGet (mid : Nat) (gen : BitVec 8)
  /-- TKP_GET_NB (R225): GET_NB takes a token only when one is eligible in that cycle. -/
  | tkpGetNb (mid : Nat) (gen : BitVec 8) (ue : Bool)
  /-- TKP_PUT (R227): PUT checks and returns a token for its next node, handing over its lock or releasing it. -/
  | tkpPut (mid : Nat) (gen : BitVec 8) (slot : Nat)
  /-- TKP_PUT_AT (R243): PUT_AT places a token on a delay list at a given instant. -/
  | tkpPutAt (mid : Nat) (gen : BitVec 8) (slot instant : Nat)
  /-- TKP_UNLOCK (R233): UNLOCK gives up the token's flow lock at once. -/
  | tkpUnlock (mid : Nat) (gen : BitVec 8) (slot : Nat)
  /-- TKP_DISCARD (R225): DISCARD discards a token and frees its buffer. -/
  | tkpDiscard (mid : Nat) (gen : BitVec 8) (slot : Nat)
  /-- TKP_SOFT (R228): SOFT admits a window slot's contents as a new SOFT cell. -/
  | tkpSoft (mid : Nat) (gen : BitVec 8) (slot : Nat)
  /-- TKP_TIMER (R245): TIMER arms a timer entry on a delay list. -/
  | tkpTimer (mid : Nat) (gen : BitVec 8) (slot list delay : Nat) (target : Bool)
  /-- TKP_CANCEL (R246): CANCEL removes an unexpired timer or timed release armed by the thread. -/
  | tkpCancel (mid : Nat) (gen : BitVec 8) (handle : Nat)
  /-- ORDER_TIMEOUT (R236): A done token has waited longer than ORDER_TMO, so ODS skips the missing SEQs with ORDER_SKIP. -/
  | orderTimeout (id : Nat)
  /-- RELEASE_HANDOFF (R239): ODS hands the next token of a port's release list to PX when PX accepts it. -/
  | releaseHandoff (n : Nat)
  /-- DLIST_EXPIRE (R244): A delay-list entry's tick arrives, releasing its token or forming its TIMER cell. -/
  | dlistExpire (l : Nat)
  /-- TOKEN_SPILL (R215): ODS moves a distant delay-list token's body to the DRAM spill area. -/
  | tokenSpill (id : Nat)
  /-- TOKEN_UNSPILL (R215): ODS brings a spilled token body back at least 100 µs before its instant. -/
  | tokenUnspill (id : Nat) (ue : Bool)
  /-- PUT_STALL_END (R249): The condition that stalled a put, SOFT or TIMER clears and the operation proceeds. -/
  | putStallEnd (i : Nat)
  /-- MARK_ARRIVE (R251): A copy of a MARK or ABORT reaches ODS, which ends it when all four copies have arrived. -/
  | markArrive (pl : Nat)
  /-- EPOCH_DRAINED (R251): The count of old-epoch tokens reaches 0 and ODS reports the drain to MGT. -/
  | epochDrained
  /-- ODS_FLUSH_CELL (R252): A FLUSH cell reaches ODS, which sets ODS_DRAIN once no token of the port remains. -/
  | odsFlushCell (pl : Nat)
  /-- DRAIN_TMO (R252): FLUSH_TMO passes before the port drains, so ODS sets the bit with DRAIN_TMO. -/
  | drainTmo (n : Nat)
  /-- PROBE_INJECT (R253): A write to MGT_PROBE injects one PROBE cell that each unit stamps on its way to the host. -/
  | probeInject (pipe flow : Nat)
  /-- ODS_STORE_PAIR (R211): A completed pair on ODS_STORE is accepted or refused with CFG_BAD. -/
  | odsStorePair (mid : Nat) (gen : BitVec 8) (value : W32)
  /-- ODS_FLOWMEM_PAIR (R211): A completed pair on ODS_FLOWMEM is accepted or refused with CFG_BAD. -/
  | odsFlowmemPair (mid : Nat) (gen : BitVec 8) (value : W32)
  /-- BUNDLE_ISSUE (R269): A core issues one bundle of the selected thread, whose moves read, write and trigger, followed by the loop check. -/
  | bundleIssue (c k idle : Nat) (ue : Bool)
  /-- SHORT_UNIT_RESULT (R300): A short unit writes its result into the thread's result ports after its fixed latency. -/
  | shortUnitResult (mid unit : Nat) (ue : Bool)
  /-- LONG_UNIT_RESULT (R341): A long unit delivers a result or a poisoned response into the thread's port, readying stalled bundles. -/
  | longUnitResult (mid n corr uncorr : Nat) (ue : Bool)
  /-- INTERRUPT_ENTRY (R349): A thread with an entry due is selected, saves EVEPC, clears IE and fetches from EVVEC. -/
  | interruptEntry (c k : Nat)
  /-- IRAM_WRITE_LAND (R354): An IWP write reaches the instruction RAM, and fetches return the new contents. -/
  | iramWriteLand (c : Nat)
  /-- WINDOW_LINE_FETCH (R318): A packet-window line arrives in the window cache, writing back the replaced line's written bytes. -/
  | windowLineFetch (mid slot line : Nat)
  /-- RESERVATION_EXPIRE (R327): 1,024 cycles after its t_lr, a thread's reservation ends. -/
  | reservationExpire (mid : Nat)
  /-- THREAD_HALT (R360): CLU_THR_CTRL HALT stops a running thread in HALT_KEEPER. -/
  | threadHalt (mid : Nat) (gen : BitVec 8) (c k t : Nat)
  /-- THREAD_RESUME (R360): CLU_THR_CTRL RESUME continues a halted thread, or starts an OFF one at NEW_PC. -/
  | threadResume (mid : Nat) (gen : BitVec 8) (c k t pc : Nat)
  /-- THREAD_RESUME_AT (R360): CLU_THR_CTRL RESUME_AT restarts a thread at NEW_PC with no pending transfers. -/
  | threadResumeAt (mid : Nat) (gen : BitVec 8) (c k t pc : Nat)
  /-- THREAD_RESET (R361): CLU_THR_CTRL RESET takes a thread into RESETTING and takes back its tokens, semaphores and locks. -/
  | threadReset (mid : Nat) (gen : BitVec 8) (c k t : Nat)
  /-- THREAD_RESET_DONE (R360): Once LONG is 0, the thread's state is reset, its fault bit cleared and STATE set to OFF. -/
  | threadResetDone (mid : Nat)
  /-- THREAD_STEP (R360): CLU_THR_CTRL STEP issues exactly one bundle and halts in HALT_DEBUG. -/
  | threadStep (mid : Nat) (gen : BitVec 8) (c k t : Nat)
  /-- ACC_ACQUIRE (R376): ACQUIRE grants an accelerator's lock or waits for it. -/
  | accAcquire (mid : Nat) (gen : BitVec 8) (a : Nat)
  /-- ACQUIRE_TIMEOUT (R376): ACQ_TMO passes without a grant, so the ACQUIRE completes with TIMEOUT. -/
  | acquireTimeout (mid a : Nat)
  /-- ACC_RELEASE (R377): RELEASE reaches the head of the queue and passes the lock to the first waiter. -/
  | accRelease (c a : Nat)
  /-- CTX_SAVE (R383): CTX_SAVE writes the issuer's live context to its slot. -/
  | ctxSave (c a : Nat) (ue : UeAt)
  /-- CTX_CLEAR (R383): CTX_CLEAR empties the issuer's context and invalidates its slot. -/
  | ctxClear (c a : Nat) (ue : UeAt)
  /-- ACC_FENCE (R369): FENCE completes once the issuer's earlier commands have completed. -/
  | accFence (c a : Nat)
  /-- ACC_COMMAND_DONE (R373): An accelerator command completes, writing its completion record and posting event 4, or delivering the fused result. -/
  | accCommandDone (c a : Nat)
  /-- ACC_FORCE (R379): A write of FORCE to CLU_CPQ_OWN frees an accelerator's lock as abandoned. -/
  | accForce (c a : Nat)
  /-- SMX_FIR (R384): FIR filters a sample array. -/
  | smxFir (c : Nat) (ue : UeAt)
  /-- SMX_FIR_STREAM (R387): FIR_STREAM filters with the live history and updates it. -/
  | smxFirStream (c : Nat) (ue : UeAt)
  /-- SMX_RMS (R384): RMS computes the root mean square of an array. -/
  | smxRms (c : Nat) (ue : UeAt)
  /-- SMX_MINMAX (R384): MINMAX finds the least and greatest samples. -/
  | smxMinmax (c : Nat) (ue : UeAt)
  /-- SMX_SUM (R384): SUM sums the samples exactly. -/
  | smxSum (c : Nat) (ue : UeAt)
  /-- SMX_LIMIT (R384): LIMIT counts samples outside their limits. -/
  | smxLimit (c : Nat) (ue : UeAt)
  /-- HASHX_EM (R389): EM looks up an exact-match entry. -/
  | hashxEm (c : Nat) (ue : UeAt)
  /-- HASHX_L2 (R389): L2 looks up an L2 entry. -/
  | hashxL2 (c : Nat) (ue : UeAt)
  /-- HASHX_LPM4 (R389): LPM4 finds the longest IPv4 route. -/
  | hashxLpm4 (c : Nat) (ue : UeAt)
  /-- HASHX_LPM6 (R389): LPM6 finds the longest IPv6 route. -/
  | hashxLpm6 (c : Nat) (ue : UeAt)
  /-- HASHX_READ (R389): READ copies an FTE direct-table entry into the scratchpad. -/
  | hashxRead (c : Nat) (ue : UeAt)
  /-- VERIFY (R404): VERIFY checks a safety PDU against its descriptor and writes state, verdict and failure actions. -/
  | verify (c a : Nat) (ue : UeAt)
  /-- CALC (R411): CALC computes a check value over bytes. -/
  | calc (c a : Nat) (ue : UeAt)
  /-- S_START (R411): S_START loads a streaming CRC context. -/
  | sStart (c a : Nat) (ue : UeAt)
  /-- S_DATA (R411): S_DATA absorbs bytes into the streaming context. -/
  | sData (c a : Nat) (ue : UeAt)
  /-- S_END (R411): S_END finishes a streaming CRC and optionally compares it. -/
  | sEnd (c a : Nat) (ue : UeAt)
  /-- CVU_DESC_READ (R413): CVU_TCMD READ copies a descriptor into CVU_TBUF. -/
  | cvuDescRead (mid : Nat) (gen : BitVec 8) (ue : Bool)
  /-- CVU_DESC_WRITE (R413): CVU_TCMD WRITE writes a descriptor and drops it from every cache. -/
  | cvuDescWrite (mid : Nat) (gen : BitVec 8)
  /-- RESET_STATE (R413): CVU_TCMD RESET_STATE zeroes a descriptor's state. -/
  | resetState (mid : Nat) (gen : BitVec 8)
  /-- INVALIDATE (R413): CVU_TCMD INVALIDATE drops every cached parameter. -/
  | invalidate (mid : Nat) (gen : BitVec 8)
  /-- CVU_COMMAND_DONE (R413): A CVU descriptor command finishes and BUSY clears. -/
  | cvuCommandDone
  /-- CVU_TABLE_PAIR (R414): A completed pair on CVU_TABLE is accepted, dropping the caches, or refused with TABLE_BAD. -/
  | cvuTablePair (mid : Nat) (gen : BitVec 8) (value : W32)
  /-- DMA_STARVED (R424): A DMA request has waited past DMA_WARN, so the scratchpad counts and records it. -/
  | dmaStarved (c bank : Nat)
  /-- MAILBOX (R427): A write by another master to a thread's mailbox raises event 8. -/
  | mailbox (mid c addr : Nat) (bytes : List Byte)
  /-- SPM_CLEAR (R429): A write to CLU_SPM_CLEAR rewrites a poisoned word as zeros with valid ECC. -/
  | spmClear (mid : Nat) (gen : BitVec 8) (c addr : Nat)
  /-- VAULT_ACCESS (R432): A vault access is served, or refused with VAULT_DENIED or VAULT_LOCKED. -/
  | vaultAccess (mid : Nat) (gen : BitVec 8) (addr n : Nat) (data : Option (List Byte)) (ue : Bool)
  /-- VAULT_LOCK_SET (R433): A write of 1 to a bit of MGT_VAULT_LOCK makes a page read-only. -/
  | vaultLockSet (mid : Nat) (gen : BitVec 8) (j : Nat) (pages : W32)
  /-- VAULT_HIDE_SET (R433): A write of 1 to a bit of MGT_VAULT_HIDE hides a page. -/
  | vaultHideSet (mid : Nat) (gen : BitVec 8) (j : Nat) (pages : W32)
  /-- VAULT_WIPE_CMD (R434): A guarded pair writing GO to MGT_VAULT_WIPE starts a wipe with cause 0x5. -/
  | vaultWipeCmd (mid : Nat) (gen : BitVec 8) (value : W32)
  /-- VAULT_WIPE (R434): MGT starts a vault wipe on one of its causes and refuses every vault access meanwhile. -/
  | vaultWipe
  /-- VAULT_WIPE_DONE (R434): The wipe ends, WIPING clears and a VAULT_WIPE record is written. -/
  | vaultWipeDone
  /-- SEM_ACQUIRE (R437): A read of SEM_ACQ grants a semaphore or waits for it. -/
  | semAcquire (mid : Nat) (gen : BitVec 8) (n : Nat)
  /-- SEM_TRY (R437): A read of SEM_TRY grants a semaphore or returns at once. -/
  | semTry (mid : Nat) (gen : BitVec 8) (n : Nat)
  /-- SEM_WAIT_TIMEOUT (R437): TMO passes for a waiting acquire, which leaves the list with TIMEOUT. -/
  | semWaitTimeout (n mid : Nat)
  /-- SEM_RELEASE (R439): A write to SEM_REL frees a semaphore or grants it to the first waiter. -/
  | semRelease (mid : Nat) (gen : BitVec 8) (n : Nat)
  /-- SEM_FORCE (R441): A write to SEM_FORCE frees a semaphore as abandoned. -/
  | semForce (mid : Nat) (gen : BitVec 8) (n : Nat)
  /-- SEM_ABANDON (R440): On a master's reset or revocation, SEM frees and marks its semaphores and removes its waiters. -/
  | semAbandon
  /-- LEASE_RENEW (R443): A read of SEM_RENEW by the owner restarts the lease. -/
  | leaseRenew (mid : Nat) (gen : BitVec 8) (j : Nat)
  /-- LEASE_EXPIRE (R443): A lease runs out, so SEM frees the semaphore as abandoned and writes LEASE_EXPIRED. -/
  | leaseExpire (j : Nat)
  /-- DRAM_READ (R456): A DMC channel takes a read, serving it from the write queue on a match. -/
  | dramRead (mid : Nat) (gen : BitVec 8) (addr : Nat)
  /-- DRAM_WRITE (R455): A DMC channel takes a write or read-modify-write, merging into a queued line on a match. -/
  | dramWrite (mid : Nat) (gen : BitVec 8) (addr : Nat) (mask : W64) (data : List Byte) (corr uncorr : Nat)
  /-- DRAM_READ_COMPLETE (R459): A DRAM read returns, correcting, answering a poisoned line, or freezing the channel on an uncorrectable error. -/
  | dramReadComplete (ch i corr uncorr : Nat)
  /-- CA_PARITY_ERROR (R464): A DIMM's registering clock driver reports a parity error and the channel freezes. -/
  | caParityError (ch dimm : Nat)
  /-- FREEZE_TIMEOUT (R465): FREEZE_TMO passes in FROZEN, so DMC answers every held request with an error. -/
  | freezeTimeout (ch : Nat)
  /-- THAW (R466): A pair on DMC_CH_CTRL with THAW poisons the line or replays commands and resumes the channel. -/
  | thaw (mid : Nat) (gen : BitVec 8) (ch : Nat)
  /-- RETIRE (R466): A pair on DMC_CH_CTRL with RETIRE retires the channel and sets its pools FAILED. -/
  | retire (mid : Nat) (gen : BitVec 8) (ch : Nat) (thaw : Bool)
  /-- DMC_MAP_PAIR (R452): A completed pair on DMC_MAP is accepted or refused with MAP_BAD. -/
  | dmcMapPair (mid : Nat) (gen : BitVec 8) (value : W32)
  /-- DRAM_REFRESH (R451): The channel refreshes its DIMMs when due. -/
  | dramRefresh (ch : Nat)
  /-- SCRUB_READ (R469): The scrubber reads the next line or word, correcting or freezing as a read would. -/
  | scrubRead (ch mem off lag corr uncorr : Nat)
  /-- RETIRE_SET (R472): A pair on ECS_RT_ENT writes a page into the retire table. -/
  | retireSet (mid : Nat) (gen : BitVec 8) (value : W32)
  /-- SPARE_SET (R473): A pair on ECS_SP_ENT starts the copy of an SRAM row into a spare. -/
  | spareSet (mid : Nat) (gen : BitVec 8) (value : W32)
  /-- SPARE_COPY_DONE (R473): The row copy ends and accesses are redirected to the spare. -/
  | spareCopyDone (i : Nat)
  /-- ECS_CLEAR (R474): A write to ECS_CLEAR w = 1 clears a poisoned DRAM line or SRAM word. -/
  | ecsClear (mid : Nat) (gen : BitVec 8) (value : W32)
  /-- RECORD_COMPRESS (R485): The compressor takes a record, decides store or suppress against the deadband, and appends it to the open log. -/
  | recordCompress (miss ue : Bool)
  /-- LOG_SEAL (R488): REC seals the open log for FULL, TIME, TRIGGER or STOP and gives it the next LSN. -/
  | logSeal (cause : Nat)
  /-- LOG_WRITE (R492): REC picks the next member and slot for a sealed log and starts its index and data writes. -/
  | logWrite (ue : Bool)
  /-- NVME_COMPLETION (R492): An NVMe command of the recorder completes, advancing the log write or retrying it once. -/
  | nvmeCompletion (i status : Nat)
  /-- RAFT_FLUSH (R493): Every FLUSH_MS, REC issues an NVMe Flush to each member with completed writes. -/
  | raftFlush
  /-- RAFT_RESUME (R495): RUN rises, so REC reads the labels and index areas and enters READY, UNFORMATTED or EMPTY. -/
  | raftResume (drives : List DriveInfo)
  /-- REC_TRIGGER (R498): A trigger reaches REC and creates a region, retriggers one, or is ignored. -/
  | recTrigger
  /-- SWTRIG (R498): A write to REC_SWTRIG raises a trigger source. -/
  | swtrig (src : Nat)
  /-- FREEZE_CELL_RETURN (R499): ODS hands the FREEZE cell back and REC seals with TRIGGER and enters OPEN. -/
  | freezeCellReturn
  /-- FREEZE_CELL_TIMEOUT (R499): The FREEZE cell has not returned 1 ms after TTRIG, so REC enters OPEN with CELL_TMO. -/
  | freezeCellTimeout (r : Nat)
  /-- REGION_CLOSE (R501): The post window ends, so REC seals, sets LAST and freezes the region. -/
  | regionClose (r : Nat)
  /-- RAFT_FORMAT (R506): REC_RCTL FORMAT deallocates the members, writes new labels and restarts the LSN. -/
  | raftFormat (mid : Nat) (gen : BitVec 8) (caps : List (Nat × Nat))
  /-- RAFT_JOIN (R506): REC_RCTL JOIN adds a namespace to the Raft at the next log boundary. -/
  | raftJoin (mid : Nat) (gen : BitVec 8) (n cap : Nat)
  /-- RAFT_LEAVE (R506): REC_RCTL LEAVE removes a member as under R505. -/
  | raftLeave (mid : Nat) (gen : BitVec 8) (n : Nat)
  /-- REGION_RELEASE (R503): REC_RCTL RELEASE frees a FROZEN region. -/
  | regionRelease (mid : Nat) (gen : BitVec 8) (r : Nat)
  /-- RCTL_DONE (R506): A REC_RCTL operation ends and RCTL_BUSY clears. -/
  | rctlDone
  /-- MEMBER_LOST (R505): REC declares a member lost, invalidates its entries, marks regions DAMAGED and rewrites the labels. -/
  | memberLost (n cause : Nat)
  /-- NVME_IO_TIMEOUT (R505): A recorder command stays without completion for IO_TMO, so the member is lost. -/
  | nvmeIoTimeout (n : Nat)
  /-- SIG_READ (R508): REC_CMD SIG_READ returns a signal entry. -/
  | sigRead (mid : Nat) (gen : BitVec 8) (ue : Bool)
  /-- SIG_WRITE (R508): REC_CMD SIG_WRITE writes a signal entry between two records. -/
  | sigWrite (mid : Nat) (gen : BitVec 8)
  /-- CURVE_READ (R508): REC_CMD CURVE_READ returns a curve point. -/
  | curveRead (mid : Nat) (gen : BitVec 8)
  /-- CURVE_WRITE (R484): REC_CMD CURVE_WRITE writes a curve point that keeps X rising. -/
  | curveWrite (mid : Nat) (gen : BitVec 8)
  /-- FIND_TIME (R508): REC_CMD FIND_TIME finds the first log whose TMAX reaches a time. -/
  | findTime (mid : Nat) (gen : BitVec 8)
  /-- FIND_LSN (R508): REC_CMD FIND_LSN finds a log's index entry. -/
  | findLsn (mid : Nat) (gen : BitVec 8)
  /-- READ_LOG (R509): REC_CMD READ_LOG reads a log's blocks, checks them and delivers them. -/
  | readLog (mid : Nat) (gen : BitVec 8)
  /-- REC_COMMAND_DONE (R508): A REC command ends and BUSY clears with its result. -/
  | recCommandDone (blocks : List (List Byte)) (ioErr : Bool)
  /-- REC_CFG_PAIR (R512): A completed pair on REC_STAGE, REC_SIG or REC_IDX is accepted or refused with CFG_BAD. -/
  | recCfgPair (mid : Nat) (gen : BitVec 8) (reg : Nat) (value : W32)
  /-- TIME_SET (R519): A write of SET to BCN_TIME_CTRL schedules loading BCN_TIME_SET. -/
  | timeSet (mid : Nat) (gen : BitVec 8) (value : W32)
  /-- TIME_STEP (R519): A write to BCN_TIME_STEP[1] schedules adding a signed offset to time. -/
  | timeStep (mid : Nat) (gen : BitVec 8) (value : W32)
  /-- TIME_CHANGE_APPLY (R520): At the scheduled instant every island copy applies the SET or STEP and delay lists expire passed entries. -/
  | timeChangeApply
  /-- HOLD_CLR (R521): A write of HOLD_CLR clears HOLDOVER. -/
  | holdClr (mid : Nat) (gen : BitVec 8) (value : W32)
  /-- TIME_READ_LATCH (R519): A read of BCN_TIME_NS latches the seconds into BCN_TIME_S. -/
  | timeReadLatch (mid : Nat)
  /-- BCNT_READ_LATCH (R525): A read of BCN_BCNT[0] latches the high half. -/
  | bcntReadLatch (mid : Nat)
  /-- PPS_CAPTURE (R522): A rising edge of PPS_IN is timestamped and captured with SEQ. -/
  | ppsCapture (off : Nat)
  /-- PPS_MISS (R522): 1.5 s pass without a capture, setting PPS_MISS. -/
  | ppsMiss
  /-- PPS_OUT_EDGE (R523): Time passes a whole second and PPS_OUT rises for WIDTH ms. -/
  | ppsOutEdge
  /-- REF10M_SECOND (R524): At each PTP second BCN records the REF10M edge count and phase. -/
  | ref10mSecond (count phase : Nat)
  /-- ALARM_FIRE (R526): The Beacon counter reaches an armed alarm, which fires and disarms. -/
  | alarmFire (a : Nat)
  /-- VSENSE_EVENT (R527): The VSENSE comparator crosses its threshold and sets cause VSENSE. -/
  | vsenseEvent (mv : Nat)
  /-- TEMP_EVENT (R528): The highest temperature reaches HI or falls to LO, warning or setting cause TEMP. -/
  | tempEvent (island reading : Nat)
  /-- THERMAL_SHUTDOWN (R529): A sensor reads 125 °C, so BCN asserts FAULT_N and holds every island in reset. -/
  | thermalShutdown (island reading : Nat)
  /-- THERMAL_POINT_BAR (R733): An island passes the barred temperature of its point and MGT moves it to a lower point. -/
  | thermalPointBar (island : Nat)
  /-- TAMPER (R531): An enabled tamper detector fires, latching its bit, setting cause TAMPER and wiping the vault. -/
  | tamper (d : Nat)
  /-- CROSSING_HOLD (R534): A crossing leaves its limits and holds with an XING_FAULT record. -/
  | crossingHold (island other limit : Nat)
  /-- CROSSING_RESUME (R534): A held crossing has stayed within limits for 10 µs and resumes. -/
  | crossingResume (island other : Nat)
  /-- DVFS_CHANGE (R535): MGT moves an island between operating points in voltage-frequency order. -/
  | dvfsChange (island point : Nat)
  /-- POWER_REQUEST (R537): A pair on BCN_PWR_REQ starts an entry to a step, wakes from L1 or L2, or is refused. -/
  | powerRequest (mid : Nat) (gen : BitVec 8) (value : W32)
  /-- POWER_ENTRY_STAGE (R538): BCN carries out the next entry stage E1 to E5 once the previous has ended. -/
  | powerEntryStage
  /-- ENTRY_DRAIN_TIMEOUT (R538): DRAIN_TMO passes in stage E2, so the entry is refused with DRAIN. -/
  | entryDrainTimeout
  /-- WAKE_CAUSE (R540): An allowed wake cause is latched and starts the exit. -/
  | wakeCause (cause : Nat)
  /-- POWER_EXIT (R541): The device leaves its step, restoring time, state image and clusters. -/
  | powerExit (image : Nat) (hostBegins : Bool)
  /-- WAKE_TIMEOUT (R542): WAKE_TMO passes and HIF releases WAKE_N with a record. -/
  | wakeTimeout
  /-- WAKE_WITHDRAWN (R543): The host begins retraining while WAKE_N is low, so the device releases it and sets WITHDRAWN. -/
  | wakeWithdrawn
  /-- MLK_LANE_TRAINED (R570): A Molma lane reaches block lock and its side deskews. -/
  | mlkLaneTrained (lane : Nat)
  /-- MLK_TRAIN_RETRY (R570): Every 10 ms MLK retries training of its lanes. -/
  | mlkTrainRetry
  /-- LANE_DOWN (R571): A Molma lane loses block lock, and the side goes down with its last lane. -/
  | laneDown (lane : Nat)
  /-- REPLAY_TIMEOUT (R574): ACK has not advanced for 20 µs, so the sender resends, or declares the side down after 8 tries. -/
  | replayTimeout (side : Nat)
  /-- DATA_FRAME_RECEIVE (R578): A good DATA frame goes to PRS pipeline 3 as a frame from MLK. -/
  | dataFrameReceive (side h0 h1 : Nat) (payload : List Byte)
  /-- DATA_FRAME_SEND (R578): MLK sends a released token as a DATA frame under credits and releases its claim. -/
  | dataFrameSend
  /-- LEARN_FRAME_RECEIVE (R579): A LEARN frame hands its messages to FTE and is forwarded or dropped. -/
  | learnFrameReceive (side h0 h1 : Nat) (payload : List Byte)
  /-- LEARN_PACK_TIMEOUT (R579): 10 µs after the first waiting message, MLK sends the LEARN frame. -/
  | learnPackTimeout
  /-- BUOY_SEND (R577): Every BUOY interval MLK sends a buoy on each side that is up. -/
  | buoySend
  /-- BUOY_RECEIVE (R577): A good buoy from a neighbour arrives and is recorded. -/
  | buoyReceive (side h0 h1 : Nat) (payload : List Byte)
  /-- BUOY_LOST (R577): MISS intervals pass without a buoy, so the neighbour is lost. -/
  | buoyLost (side : Nat)
  /-- FRAME_BAD (R573): A Molma frame with a reserved type, length or bit is discarded and counted. -/
  | frameBad (side h0 h1 : Nat) (crcOk : Bool)
  /-- HELLO_SEND (R580): MLK sends a HELLO on a side each BUOY interval until the neighbour's arrives. -/
  | helloSend (side : Nat)
  /-- HELLO_RECEIVE (R580): A neighbour's HELLO arrives and election begins. -/
  | helloReceive (side h0 h1 : Nat) (payload : List Byte)
  /-- HELLO_TMO (R580): No HELLO arrives within HELLO_TMO, and the side stays in HELLO. -/
  | helloTmo (side : Nat)
  /-- ELECT_RECEIVE (R581): An ELECT frame is merged into the member list, which is flooded again when it grows. -/
  | electReceive (side h0 h1 : Nat) (payload : List Byte)
  /-- ELECTION_END (R581): No list has grown for 20 ms, so the coordinator and chip indices are fixed. -/
  | electionEnd
  /-- PREPARE_RECEIVE (R583): A member receives PREPARE and answers with a VOTE. -/
  | prepareReceive (side h0 h1 : Nat) (payload : List Byte)
  /-- VOTE_RECEIVE (R584): The coordinator collects a VOTE and floods COMMIT once every member is READY. -/
  | voteReceive (side h0 h1 : Nat) (payload : List Byte)
  /-- VOTE_TIMEOUT (R584): The vote deadline passes without every READY, so the coordinator floods ABORT. -/
  | voteTimeout
  /-- COMMIT_RECEIVE (R584): A member receives COMMIT and schedules its MARK at the instant. -/
  | commitReceive (side h0 h1 : Nat) (payload : List Byte)
  /-- COMMIT_INSTANT (R584): The commit instant arrives and the member injects its MARK. -/
  | commitInstant
  /-- ABORT_RECEIVE (R584): A member receives ABORT and discards its staged transaction. -/
  | abortReceive (side h0 h1 : Nat) (payload : List Byte)
  /-- TXN_DOUBT (R585): No decision arrives within TXN_TMO, so the member keeps its transaction staged and votes again. -/
  | txnDoubt
  /-- EPOCH_SPLIT (R586): Neighbours' epochs differ for longer than TXN_TMO, raising EPOCH_SPLIT. -/
  | epochSplit (side : Nat)
  /-- PAIR_FRAME_RECEIVE (R588): The standby receives a RELINQUISHED PAIR frame and takes the active role. -/
  | pairFrameReceive (side h0 h1 : Nat) (payload : List Byte)
  /-- PAIR_SWAP (R588): A pair on MLK_PAIR_CTRL with SWAP makes the active member relinquish its role. -/
  | pairSwap (mid : Nat) (gen : BitVec 8) (value : W32)
  /-- HOLDOFF_EXPIRE (R589): HOLDOFF passes after the partner's loss under TAKE_ON_LOSS, and the standby takes over. -/
  | holdoffExpire
  /-- TIME_REQUEST_SEND (R591): Every 1 ms MLK sends a TIME request on each side that is up. -/
  | timeRequestSend
  /-- TIME_FRAME_RECEIVE (R591): A TIME frame is answered, or yields delay and offset that adjust the rate. -/
  | timeFrameReceive (side h0 h1 : Nat) (payload : List Byte)
  /-- SYNC_TIMEOUT (R592): Learning synchronisation does not finish in 500 ms, so the coordinator proceeds. -/
  | syncTimeout
  /-- MODE_PAIR (R599): A pair on GLB_MODE changes the mode bits at once, with SPARE deferred to a commit point. -/
  | modePair (mid : Nat) (gen : BitVec 8) (value : W32)
  /-- TXN_OPEN (R614): MGT_TXN_CTRL OPEN starts staging under MGT_TXN_NUM. -/
  | txnOpen (mid : Nat) (gen : BitVec 8)
  /-- TXN_STAGE_ENTRY (R609): A write to MGT_TXN_ENT[2] appends an entry or refuses it with TXN_ENTRY_BAD. -/
  | txnStageEntry (mid : Nat) (gen : BitVec 8) (value : W32)
  /-- TXN_COMMIT (R614): MGT_TXN_CTRL COMMIT starts CHECKING toward a local or chained commit. -/
  | txnCommit (mid : Nat) (gen : BitVec 8) (chain : Bool)
  /-- TXN_LOAD (R620): MGT_TXN_CTRL LOAD checks and loads the transaction and waits in LOADED. -/
  | txnLoad (mid : Nat) (gen : BitVec 8)
  /-- TXN_ABORT (R617): MGT_TXN_CTRL ABORT ends a transaction before MARKING. -/
  | txnAbort (mid : Nat) (gen : BitVec 8)
  /-- TXN_CHECK (R614): Once the previous epoch has drained, MGT presents each entry to its unit as a check. -/
  | txnCheck
  /-- CHECK_TIMEOUT (R614): CHECK_TMO passes without the drain, and the transaction ends with DRAINING. -/
  | checkTimeout
  /-- TXN_LOADING_DONE (R614): LOADING ends, entering LOADED or signalling the pipelines to inject the MARK. -/
  | txnLoadingDone (ue : Option Nat)
  /-- MARK_INJECT (R615): Each PRS pipeline injects the MARK of epoch E + 1. -/
  | markInject (pl : Nat)
  /-- RECORD_DELIVERY (R62): MGT takes one queued error record from a unit round robin, logs it and routes it. -/
  | recordDelivery
  /-- RECOVERY_TIMEOUT (R632): A recovery stays open for RCV_TMO and is escalated one rung. -/
  | recoveryTimeout (r : Nat)
  /-- REVOKE (R634): MGT_RCV_CMD REVOKE sets a master's generation to 0 and takes back its tokens, timers, semaphores and locks. -/
  | revoke (mid : Nat) (gen : BitVec 8)
  /-- READMIT (R635): MGT_RCV_CMD READMIT readmits a revoked master whose buffers have been reclaimed. -/
  | readmit (mid : Nat) (gen : BitVec 8)
  /-- READMISSION (R52): The delay and crossing drain pass, and MGT gives the master its next generation. -/
  | readmission
  /-- CORE_RESET (R637): MGT_RCV_CMD CORE_RESET resets every thread of a fenced core. -/
  | coreReset (mid : Nat) (gen : BitVec 8)
  /-- CORE_SUBST (R638): MGT_RCV_CMD CORE_SUBST puts the spare core in place of a fenced core. -/
  | coreSubst (mid : Nat) (gen : BitVec 8)
  /-- CLU_OUT (R640): MGT_RCV_CMD CLU_OUT removes a cluster from service and revokes its masters. -/
  | cluOut (mid : Nat) (gen : BitVec 8)
  /-- CLU_RESET (R641): MGT_RCV_CMD CLU_RESET resets an out cluster and rewrites its instruction RAM when needed. -/
  | cluReset (mid : Nat) (gen : BitVec 8)
  /-- CLU_IN (R641): MGT_RCV_CMD CLU_IN starts the cluster's entry threads and returns it to service. -/
  | cluIn (mid : Nat) (gen : BitVec 8)
  /-- FLOW_REBUILD (R649): MGT_RCV_CMD FLOW_REBUILD rebuilds a flow lock's state or drops a lost slot. -/
  | flowRebuild (mid : Nat) (gen : BitVec 8) (ue : Bool)
  /-- RECOVERY_DONE (R633): MGT_RCV_CMD DONE ends the writer's recovery and opens the head of its queue. -/
  | recoveryDone (mid : Nat) (gen : BitVec 8)
  /-- RECOVERY_ESCALATE (R632): MGT_RCV_CMD ESCALATE raises the writer's open recovery one rung. -/
  | recoveryEscalate (mid : Nat) (gen : BitVec 8)
  /-- RCV_COMMAND_DONE (R651): A recovery command ends and BUSY clears with its result. -/
  | rcvCommandDone
  /-- SPARE_RETURN (R639): Every thread of a substituted core has been reset and readmitted, so it becomes the cluster's spare. -/
  | spareReturn (c : Nat)
  /-- MGT_LOCKSTEP (R642): The management pair cores disagree, so BCN resets MGT and the device goes headless. -/
  | mgtLockstep
  /-- MGT_WDOG (R642): The management watchdog period passes without a KICK and BCN takes MGT down. -/
  | mgtWdog
  /-- WATCHDOG_KICK (R642): A write of KICK to BCN_MGT_WD restarts the watchdog period. -/
  | watchdogKick (mid : Nat) (gen : BitVec 8) (value : W32)
  /-- MGT_RESTART (R644): 1 ms after a takedown or a failed restart, BCN releases MGT to restart. -/
  | mgtRestart
  /-- HEADLESS_END (R644): MGT's restart completes, so it delivers held records and clears HEADLESS. -/
  | headlessEnd
  /-- MGT_NORETURN (R645): MGT has not returned within 500 ms, so BCN asserts FAULT_N and relinquishes the active role. -/
  | mgtNoreturn
  /-- CHIP_FAULT (R646): Rung 3 idles the transmitters, relinquishes the role, asserts FAULT_N and saves CHIP_FAULT. -/
  | chipFault
  /-- AUTO_RESTART (R646): 10 ms after a chip fault with AUTO_RESTART, the device starts cold. -/
  | autoRestart
  /-- ELOG_POP (R653): A write of POP to MGT_ELOG_CTRL removes the oldest error record. -/
  | elogPop (mid : Nat) (gen : BitVec 8)
  /-- HOST_READ (R660): A host read of BAR0, BAR2 or BAR4 is routed in order and completed or refused. -/
  | hostRead (bar off len be : Nat)
  /-- HOST_WRITE (R661): A posted host write is routed in order and takes effect. -/
  | hostWrite (bar off be : Nat) (data : List Byte) (ue : Bool)
  /-- HOST_RD_TMO (R660): A host read stays unanswered past RD_TMO and completes with Completer Abort. -/
  | hostRdTmo (spi : Bool)
  /-- BAR4_ACCESS (R663): A host access through the open BAR4 window reaches DRAM or a scratchpad by 64-byte lines. -/
  | bar4Access (off len be : Nat) (data : Option (List Byte)) (corr uncorr : Nat) (ue : Bool)
  /-- HOST_RESET (R662): A host-path reset discards reads, stops the queues and resets master 0xA60. -/
  | hostReset (cause : Nat)
  /-- MSIX_SEND (R664): HIF sends an MSI-X message for an event or a rising level, or sets its pending bit under a mask. -/
  | msixSend (v : Nat)
  /-- KEEPER_BELL (R665): A write to HIF_KEEPER_BELL from a Keeper raises its cluster's vector. -/
  | keeperBell (mid : Nat) (gen : BitVec 8)
  /-- QUEUE_ENABLE (R666): A write setting EN in Q_CFG enables a driver queue or sets ERR. -/
  | queueEnable (q : Nat) (value : W32)
  /-- QUEUE_DOORBELL (R666): A host write to Q_TAIL or Q_HEAD posts or consumes queue entries. -/
  | queueDoorbell (q : Nat) (head : Bool) (value : W32)
  /-- RX_DELIVER (R667): HIF copies a token handed to the host receive path into a posted RX entry, or drops it. -/
  | rxDeliver (buf size : Nat)
  /-- H2D_COPY (R668): HIF copies posted host entries into a thread's device ring and raises event 12. -/
  | h2dCopy (q : Nat) (data : List Byte)
  /-- D2H_BELL (R669): A write to HIF_D2H_BELL makes HIF copy device entries to the host ring. -/
  | d2hBell (mid : Nat) (gen : BitVec 8) (q : Nat)
  /-- QUEUE_DMA_ERROR (R670): A queue's host or scratchpad access fails, so HIF stops the queue with ERR. -/
  | queueDmaError (q reason : Nat)
  /-- RC_CFG_PAIR (R671): A pair on HIF_RC_CFG sets the root complex bifurcation. -/
  | rcCfgPair (mid : Nat) (gen : BitVec 8) (value : W32)
  /-- ROOT_PORT_BRINGUP (R672): EN[p] rises, so HIF trains, enumerates and initialises the NVMe controller of the port. -/
  | rootPortBringup (mid : Nat) (gen : BitVec 8) (p : Nat)
  /-- RC_INBOUND (R674): An inbound request from a controller outside the allowed kinds is refused. -/
  | rcInbound (p addr : Nat) (bell : Bool) (write : Option (List Byte))
  /-- ROOT_PORT_DOWN (R675): A READY port's link drops or a command times out, aborting its commands and reporting the drive removed. -/
  | rootPortDown (p : Nat) (timeout : Bool)
  /-- SPIF_READ (R677): HIF_SPIF_CMD READ reads flash bytes into HIF_SPIF_BUF. -/
  | spifRead (mid : Nat) (gen : BitVec 8) (len : Nat)
  /-- SPIF_PROGRAM (R677): HIF_SPIF_CMD PROGRAM programs flash bytes within one page. -/
  | spifProgram (mid : Nat) (gen : BitVec 8) (len : Nat)
  /-- SPIF_ERASE_4K (R677): HIF_SPIF_CMD ERASE_4K erases a 4 KiB sector. -/
  | spifErase4k (mid : Nat) (gen : BitVec 8)
  /-- SPIF_ERASE_64K (R677): HIF_SPIF_CMD ERASE_64K erases a 64 KiB block. -/
  | spifErase64k (mid : Nat) (gen : BitVec 8)
  /-- SPIF_READ_SR (R677): HIF_SPIF_CMD READ_SR reads the flash status register. -/
  | spifReadSr (mid : Nat) (gen : BitVec 8)
  /-- SPIF_DONE (R677): A flash operation ends, or times out, and BUSY clears. -/
  | spifDone (timeout : Bool)
  /-- SPIT_READ (R680): A complete SPI target READ frame reads a register under MID 0xA90. -/
  | spitRead (off seq : Nat)
  /-- SPIT_WRITE (R680): A complete SPI target WRITE frame writes a register, holding a guarded first write. -/
  | spitWrite (off : Nat) (value : W32) (seq : Nat) (ue : Bool)
  /-- SPIT_NOP (R680): A NOP frame collects the result of the previous frame. -/
  | spitNop (seq : Nat)
  /-- SPIT_FRAME_FAULT (R681): A short, partial, bad-CRC, bad-OP or busy frame is discarded or refused. -/
  | spitFrameFault (kind edges : Nat)
  /-- I2C_TRANSFER (R683): A write to HIF_I2C_CMD starts an I2C transfer. -/
  | i2cTransfer (mid : Nat) (gen : BitVec 8) (i : Nat) (value : W32)
  /-- I2C_TRANSFER_DONE (R683): An I2C transfer ends with OK or a NACK. -/
  | i2cTransferDone (i nack index lines : Nat) (data : List Byte)
  /-- I2C_STRETCH_TIMEOUT (R683): A target stretches SCL past STRETCH_TMO and the controller resets. -/
  | i2cStretchTimeout (i : Nat) (pulses : Option Nat)
  /-- I2C_RESET (R684): A write of RESET resets the I2C controller and runs the clock-out sequence. -/
  | i2cReset (mid : Nat) (gen : BitVec 8) (i : Nat) (value : W32) (pulses : Option Nat)
  /-- I2C_RECOVER (R684): A write of RECOVER runs the clock-out sequence on a stuck bus. -/
  | i2cRecover (mid : Nat) (gen : BitVec 8) (i : Nat) (value : W32) (pulses : Option Nat)
  /-- MDIO_C22_WRITE (R685): HIF_MDIO_CMD C22_WRITE sends a Clause 22 write. -/
  | mdioC22Write (mid : Nat) (gen : BitVec 8) (m phy reg data : Nat)
  /-- MDIO_C22_READ (R685): HIF_MDIO_CMD C22_READ sends a Clause 22 read. -/
  | mdioC22Read (mid : Nat) (gen : BitVec 8) (m phy reg : Nat)
  /-- MDIO_C45_ADDR (R685): HIF_MDIO_CMD C45_ADDR sends a Clause 45 address frame. -/
  | mdioC45Addr (mid : Nat) (gen : BitVec 8) (m phy reg data : Nat)
  /-- MDIO_C45_WRITE (R685): HIF_MDIO_CMD C45_WRITE sends a Clause 45 write. -/
  | mdioC45Write (mid : Nat) (gen : BitVec 8) (m phy reg data : Nat)
  /-- MDIO_C45_READ (R685): HIF_MDIO_CMD C45_READ sends a Clause 45 read. -/
  | mdioC45Read (mid : Nat) (gen : BitVec 8) (m phy reg : Nat)
  /-- MDIO_C45_READ_INC (R685): HIF_MDIO_CMD C45_READ_INC sends a Clause 45 read with increment. -/
  | mdioC45ReadInc (mid : Nat) (gen : BitVec 8) (m phy reg : Nat)
  /-- MDIO_DONE (R685): An MDIO frame ends and BUSY clears. -/
  | mdioDone (m data : Nat)
  /-- GPIO_EDGE (R686): A GPIO input changes level after debounce and latches its edge. -/
  | gpioEdge (p : Nat) (level : Bool)
  /-- JTAG_EXTEST (R687): The EXTEST instruction drives boundary-scan outputs. -/
  | jtagExtest
  /-- JTAG_SAMPLE_PRELOAD (R687): The SAMPLE/PRELOAD instruction samples and preloads the boundary register. -/
  | jtagSamplePreload (bits : List Bool)
  /-- JTAG_CLAMP (R687): The CLAMP instruction holds the boundary outputs. -/
  | jtagClamp
  /-- JTAG_HIGHZ (R687): The HIGHZ instruction floats the outputs. -/
  | jtagHighz
  /-- JTAG_DBG_REG (R687): The DBG_REG instruction reaches BAR0 while debug is open. -/
  | jtagDbgReg (off : Nat) (write : Option W32)
  /-- JTAG_DBG_MEM (R687): The DBG_MEM instruction reaches the BAR4 targets while debug is open. -/
  | jtagDbgMem (off : Nat) (write : Option W32) (corr uncorr : Nat) (ue : Bool)
  /-- JTAG_IDCODE (R687): The IDCODE instruction reads 0x1714_494B. -/
  | jtagIdcode
  /-- JTAG_BYPASS (R687): The BYPASS instruction selects the bypass register. -/
  | jtagBypass
  /-- AVS_ENABLE (R724): A write of EN to MGT_AVS_CFG reads VOUT_MODE and starts driving VDD_CORE over PMBus. -/
  | avsEnable (mid : Nat) (gen : BitVec 8) (value : W32) (vmode : BitVec 8)
  /-- AVS_STEP (R724): 50 µs after the last step, MGT writes the next VOUT_COMMAND step toward the target voltage. -/
  | avsStep (vmode : BitVec 8)
  /-- AVS_FAIL (R725): A PMBus transfer fails, so MGT sets FAIL and caps the island points. -/
  | avsFail (kind : Nat)
  /-- HOST_LINK_UP (R542): The PCIe endpoint link completes training and comes up, and HIF releases a driven WAKE_N and shows LINK_UP. -/
  | hostLinkUp (width speed : Nat)
  /-- ROOT_PORT_READY (R672): A root port's bring-up ends, with the port READY after link training, enumeration and NVMe initialisation, or in FAIL with RC_FAIL. -/
  | rootPortReady (p step width speed nscount : Nat)
  /-- EPOCH_COMMIT_RETRY (R592): After an aborted first common commit of a ring, the coordinator retries the empty transaction every 100 ms. -/
  | epochCommitRetry
  deriving DecidableEq, Repr

end Sys2Proof
end

