-- ==== Sys2Proof/Decode.lean ====
section
/-! DEFINITION. The decoding of a command from bits. The opcode table gives no command any bits: commands reach the block through
pins, registers and links, never as encoded words, so no word spells one. -/
namespace Sys2Proof

/-- The command that a word of `nbits` bits spells by the table's bits: none, for the table gives bits to no row. -/
def decodeTableWord (_nbits _w : Nat) : Option Instr := none

end Sys2Proof
end

