-- ==== Sys2Proof/Config.lean ====
section
/-! DEFINITION. What an implementation fixes and the spec leaves open: free values, constants with no body, so that no
proof can see what they are. -/
namespace Sys2Proof.Machine

/-- The n-th free value: a value that the spec leaves open while the device goes on (log entry 3). -/
opaque Config.freeValue : Nat → BitVec 64

/-- The messages that FTE's MLK receive queue holds; the spec gives it no size (log entry 4). -/
opaque Config.mlkQueue : Nat

end Sys2Proof.Machine
end

