-- ==== Sys2Proof/Machine/Cards.lean ====
section
/-! DEFINITION. The register cards of the spec: for every register its BAR0 offset (R710), its reset value, and the
bits each access code of R11 covers, with the marks G, T and L of R15; a named offset per register (namespace `R`) and
a named bit field per field of its card (namespace `F`). RS copies and live counters are in `State.tally` and
`State.live`, keyed by the same offsets. -/
namespace Sys2Proof.Machine

/-- A bit field of a 32-bit register: its lowest bit and its width (R7). -/
structure Fld where
  lo : Nat
  w : Nat
  deriving DecidableEq, Repr

/-- One register card (scope chapter, "Register cards"): `dims` lists (count, stride) of the register's indexes, widest
stride first; `rw`, `w1c`, `wo`, `rc`, `rs` are the bits of each access code of R11; `unit` reports its errors (R59). -/
structure Card where
  name : String
  unit : Nat
  base : Nat
  dims : List (Nat × Nat)
  reset : Nat
  rw : Nat
  w1c : Nat
  wo : Nat
  rc : Nat
  rs : Nat
  guard : Bool
  txn : Bool
  lock : Bool
  deriving DecidableEq, Repr

/-- 00, card GLB_ID. -/
def R.GLB_ID : Nat := 0x0
/-- 03, card PX_PORT_MODE. -/
def R.PX_PORT_MODE (port : Nat) : Nat := 0x800000 + 0x4000 * port
/-- 03, card PX_PORT_CTRL. -/
def R.PX_PORT_CTRL (port : Nat) : Nat := 0x800008 + 0x4000 * port
/-- 03, card PX_PORT_STATUS. -/
def R.PX_PORT_STATUS (port : Nat) : Nat := 0x80000c + 0x4000 * port
/-- 03, card PX_PORT_PAUSE. -/
def R.PX_PORT_PAUSE (port : Nat) : Nat := 0x800010 + 0x4000 * port
/-- 03, card PX_PORT_PTP. -/
def R.PX_PORT_PTP (port : Nat) : Nat := 0x800014 + 0x4000 * port
/-- 03, card PX_PORT_TS_ADJ. -/
def R.PX_PORT_TS_ADJ (port : Nat) : Nat := 0x800018 + 0x4000 * port
/-- 03, card PX_PORT_INT. -/
def R.PX_PORT_INT (port : Nat) : Nat := 0x80001c + 0x4000 * port
/-- 03, card PX_PORT_INT_EN. -/
def R.PX_PORT_INT_EN (port : Nat) : Nat := 0x800020 + 0x4000 * port
/-- 03, card PX_PORT_TSQ_TAG. -/
def R.PX_PORT_TSQ_TAG (port : Nat) : Nat := 0x800024 + 0x4000 * port
/-- 03, card PX_PORT_TSQ_TIME. -/
def R.PX_PORT_TSQ_TIME (port n : Nat) : Nat := 0x800028 + 0x4000 * port + 4 * n
/-- 03, card PX_PORT_SA. -/
def R.PX_PORT_SA (port n : Nat) : Nat := 0x800030 + 0x4000 * port + 4 * n
/-- 03, card PX_PORT_CNT. -/
def R.PX_PORT_CNT (port k : Nat) : Nat := 0x800100 + 0x4000 * port + 8 * k
/-- 03, card PX_GRP_QUAD. -/
def R.PX_GRP_QUAD (grp : Nat) : Nat := 0xa40000 + 0x1000 * grp
/-- 03, card PX_GRP_CTRL. -/
def R.PX_GRP_CTRL (grp : Nat) : Nat := 0xa40008 + 0x1000 * grp
/-- 04, card PRS_CFG. -/
def R.PRS_CFG : Nat := 0x100000
/-- 04, card PRS_STATUS. -/
def R.PRS_STATUS : Nat := 0x100010
/-- 04, card PRS_PORT_CFG. -/
def R.PRS_PORT_CFG (n : Nat) : Nat := 0x100100 + 4 * n
/-- 04, card PRS_PROF_CTRL. -/
def R.PRS_PROF_CTRL (p : Nat) : Nat := 0x100400 + 8 * p
/-- 04, card PRS_PROF_MISS. -/
def R.PRS_PROF_MISS (p : Nat) : Nat := 0x100480 + 4 * p
/-- 04, card PRS_PROF_SPREAD. -/
def R.PRS_PROF_SPREAD (p : Nat) : Nat := 0x1004c0 + 4 * p
/-- 04, card PRS_SPREAD_KEY. -/
def R.PRS_SPREAD_KEY (i : Nat) : Nat := 0x100500 + 4 * i
/-- 04, card PRS_EXC_ACT. -/
def R.PRS_EXC_ACT (x : Nat) : Nat := 0x100540 + 4 * x
/-- 04, card PRS_TCMD. -/
def R.PRS_TCMD : Nat := 0x100600
/-- 04, card PRS_TIDX. -/
def R.PRS_TIDX : Nat := 0x100604
/-- 04, card PRS_TSTAT. -/
def R.PRS_TSTAT : Nat := 0x100608
/-- 04, card PRS_TBUF. -/
def R.PRS_TBUF (i : Nat) : Nat := 0x100640 + 4 * i
/-- 04, card PRS_CNT. -/
def R.PRS_CNT (k : Nat) : Nat := 0x100800 + 8 * k
/-- 04, card PRS_EXC_CNT. -/
def R.PRS_EXC_CNT (x : Nat) : Nat := 0x100900 + 8 * x
/-- 05, card FTE_CFG. -/
def R.FTE_CFG : Nat := 0x200000
/-- 05, card FTE_LTYPE. -/
def R.FTE_LTYPE : Nat := 0x200004
/-- 05, card FTE_AGE_CFG. -/
def R.FTE_AGE_CFG : Nat := 0x200008
/-- 05, card FTE_STATUS. -/
def R.FTE_STATUS : Nat := 0x200010
/-- 05, card FTE_INT. -/
def R.FTE_INT : Nat := 0x200018
/-- 05, card FTE_INT_EN. -/
def R.FTE_INT_EN : Nat := 0x20001c
/-- 05, card FTE_LAYOUT. -/
def R.FTE_LAYOUT (k : Nat) : Nat := 0x200040 + 8 * k
/-- 05, card FTE_RMAC. -/
def R.FTE_RMAC (i : Nat) : Nat := 0x200100 + 8 * i
/-- 05, card FTE_MLK_MAP. -/
def R.FTE_MLK_MAP (c : Nat) : Nat := 0x200180 + 4 * c
/-- 05, card FTE_LPM4_SHORT. -/
def R.FTE_LPM4_SHORT : Nat := 0x2001a0
/-- 05, card FTE_LPM6_SHORT. -/
def R.FTE_LPM6_SHORT (j : Nat) : Nat := 0x2001a4 + 4 * j
/-- 05, card FTE_PORT_CFG. -/
def R.FTE_PORT_CFG (i : Nat) : Nat := 0x200200 + 4 * i
/-- 05, card FTE_PORT_LEARN. -/
def R.FTE_PORT_LEARN (n : Nat) : Nat := 0x200500 + 4 * n
/-- 05, card FTE_TCMD. -/
def R.FTE_TCMD : Nat := 0x200800
/-- 05, card FTE_TIDX. -/
def R.FTE_TIDX : Nat := 0x200804
/-- 05, card FTE_TSTAT. -/
def R.FTE_TSTAT : Nat := 0x200808
/-- 05, card FTE_TBUF. -/
def R.FTE_TBUF (i : Nat) : Nat := 0x200840 + 4 * i
/-- 05, card FTE_LNQ. -/
def R.FTE_LNQ (w : Nat) : Nat := 0x200900 + 4 * w
/-- 05, card FTE_LNQ_CTRL. -/
def R.FTE_LNQ_CTRL : Nat := 0x200910
/-- 05, card FTE_CNT. -/
def R.FTE_CNT (k : Nat) : Nat := 0x200a00 + 8 * k
/-- 06, card BPM_STATUS. -/
def R.BPM_STATUS : Nat := 0x300010
/-- 06, card BPM_INT. -/
def R.BPM_INT (p : Nat) : Nat := 0x300040 + 4 * p
/-- 06, card BPM_INT_EN. -/
def R.BPM_INT_EN (p : Nat) : Nat := 0x300060 + 4 * p
/-- 06, card BPM_POOL_SIZE. -/
def R.BPM_POOL_SIZE (p : Nat) : Nat := 0x300100 + 64 * p
/-- 06, card BPM_POOL_BASE. -/
def R.BPM_POOL_BASE (p : Nat) : Nat := 0x300108 + 64 * p
/-- 06, card BPM_POOL_COUNT. -/
def R.BPM_POOL_COUNT (p : Nat) : Nat := 0x300110 + 64 * p
/-- 06, card BPM_POOL_RING. -/
def R.BPM_POOL_RING (p : Nat) : Nat := 0x300118 + 64 * p
/-- 06, card BPM_POOL_META. -/
def R.BPM_POOL_META (p : Nat) : Nat := 0x300120 + 64 * p
/-- 06, card BPM_POOL_LEVEL. -/
def R.BPM_POOL_LEVEL (p : Nat) : Nat := 0x300128 + 64 * p
/-- 06, card BPM_POOL_ACT. -/
def R.BPM_POOL_ACT (p : Nat) : Nat := 0x30012c + 64 * p
/-- 06, card BPM_POOL_RESV. -/
def R.BPM_POOL_RESV (p : Nat) : Nat := 0x300130 + 64 * p
/-- 06, card BPM_POOL_FREE. -/
def R.BPM_POOL_FREE (p : Nat) : Nat := 0x300134 + 64 * p
/-- 06, card BPM_POOL_RUSED. -/
def R.BPM_POOL_RUSED (p : Nat) : Nat := 0x300138 + 64 * p
/-- 06, card BPM_POOL_PMASK. -/
def R.BPM_POOL_PMASK (p w : Nat) : Nat := 0x300400 + 32 * p + 4 * w
/-- 06, card BPM_QSEL. -/
def R.BPM_QSEL : Nat := 0x300600
/-- 06, card BPM_QUOTA. -/
def R.BPM_QUOTA : Nat := 0x300604
/-- 06, card BPM_QUSE. -/
def R.BPM_QUSE : Nat := 0x300608
/-- 06, card BPM_CMD. -/
def R.BPM_CMD : Nat := 0x300700
/-- 06, card BPM_CARG. -/
def R.BPM_CARG (i : Nat) : Nat := 0x300704 + 4 * i
/-- 06, card BPM_POOL_CNT. -/
def R.BPM_POOL_CNT (p k : Nat) : Nat := 0x300800 + 64 * p + 8 * k
/-- 06, card BPM_CNT. -/
def R.BPM_CNT (k : Nat) : Nat := 0x300a00 + 8 * k
/-- 07, card ODS_CFG. -/
def R.ODS_CFG : Nat := 0x80000
/-- 07, card ODS_STORE. -/
def R.ODS_STORE : Nat := 0x80004
/-- 07, card ODS_FLOWMEM. -/
def R.ODS_FLOWMEM : Nat := 0x8000c
/-- 07, card ODS_SPILL. -/
def R.ODS_SPILL : Nat := 0x80014
/-- 07, card ODS_STATUS. -/
def R.ODS_STATUS : Nat := 0x80018
/-- 07, card ODS_OLD_LIVE. -/
def R.ODS_OLD_LIVE : Nat := 0x8001c
/-- 07, card ODS_INT. -/
def R.ODS_INT : Nat := 0x80020
/-- 07, card ODS_INT_EN. -/
def R.ODS_INT_EN : Nat := 0x80024
/-- 07, card ODS_DRAIN. -/
def R.ODS_DRAIN (w : Nat) : Nat := 0x80030 + 4 * w
/-- 07, card ODS_GROUP. -/
def R.ODS_GROUP (g : Nat) : Nat := 0x80100 + 4 * g
/-- 07, card ODS_DLIST. -/
def R.ODS_DLIST (l : Nat) : Nat := 0x80200 + 4 * l
/-- 07, card ODS_NODE_A. -/
def R.ODS_NODE_A (n : Nat) : Nat := 0x80400 + 4 * n
/-- 07, card ODS_NODE_B. -/
def R.ODS_NODE_B (n : Nat) : Nat := 0x80500 + 4 * n
/-- 07, card ODS_NODE_C. -/
def R.ODS_NODE_C (n : Nat) : Nat := 0x80600 + 4 * n
/-- 07, card ODS_TSEL. -/
def R.ODS_TSEL : Nat := 0x80800
/-- 07, card ODS_TCFG. -/
def R.ODS_TCFG : Nat := 0x80804
/-- 07, card ODS_TGMASK. -/
def R.ODS_TGMASK (j : Nat) : Nat := 0x80808 + 4 * j
/-- 07, card ODS_TUSE. -/
def R.ODS_TUSE : Nat := 0x80810
/-- 07, card ODS_CLU_HOLD. -/
def R.ODS_CLU_HOLD (c : Nat) : Nat := 0x80900 + 4 * c
/-- 07, card ODS_QCFG. -/
def R.ODS_QCFG (q : Nat) : Nat := 0x81000 + 4 * q
/-- 07, card ODS_QDEPTH. -/
def R.ODS_QDEPTH (q : Nat) : Nat := 0x82000 + 4 * q
/-- 07, card ODS_CNT. -/
def R.ODS_CNT (k : Nat) : Nat := 0x83000 + 8 * k
/-- 10, card CLU_KEEPER. -/
def R.CLU_KEEPER (c : Nat) : Nat := 0xc00100 + 0x40000 * c
/-- 10, card CLU_FAULT_AREA. -/
def R.CLU_FAULT_AREA (c : Nat) : Nat := 0xc00104 + 0x40000 * c
/-- 10, card CLU_DBG. -/
def R.CLU_DBG (c : Nat) : Nat := 0xc00108 + 0x40000 * c
/-- 10, card CLU_FAULT_PEND. -/
def R.CLU_FAULT_PEND (c w : Nat) : Nat := 0xc00110 + 0x40000 * c + 4 * w
/-- 10, card CLU_CORE_SLOT. -/
def R.CLU_CORE_SLOT (c k w : Nat) : Nat := 0xc01000 + 0x40000 * c + 0x100 * k + 4 * w
/-- 10, card CLU_THR_CTRL. -/
def R.CLU_THR_CTRL (c k t : Nat) : Nat := 0xc01020 + 0x40000 * c + 0x100 * k + 4 * t
/-- 10, card CLU_THR_STATUS. -/
def R.CLU_THR_STATUS (c k t : Nat) : Nat := 0xc01040 + 0x40000 * c + 0x100 * k + 4 * t
/-- 10, card CLU_CORE_CNT. -/
def R.CLU_CORE_CNT (c k j : Nat) : Nat := 0xc01080 + 0x40000 * c + 0x100 * k + 8 * j
/-- 11, card CLU_CPQ_CFG. -/
def R.CLU_CPQ_CFG (c : Nat) : Nat := 0xc00200 + 0x40000 * c
/-- 11, card CLU_CPQ_CTX. -/
def R.CLU_CPQ_CTX (c : Nat) : Nat := 0xc00204 + 0x40000 * c
/-- 11, card CLU_CPQ_OWN. -/
def R.CLU_CPQ_OWN (c a : Nat) : Nat := 0xc00210 + 0x40000 * c + 4 * a
/-- 11, card CLU_CPQ_LIVE. -/
def R.CLU_CPQ_LIVE (c a : Nat) : Nat := 0xc00220 + 0x40000 * c + 4 * a
/-- 11, card CLU_CPQ_CNT. -/
def R.CLU_CPQ_CNT (c a j : Nat) : Nat := 0xc00240 + 0x40000 * c + 64 * a + 8 * j
/-- 12, card CVU_STATUS. -/
def R.CVU_STATUS (n : Nat) : Nat := 0x400000 + 0x8000 * n
/-- 12, card CVU_INT. -/
def R.CVU_INT (n : Nat) : Nat := 0x400010 + 0x8000 * n
/-- 12, card CVU_INT_EN. -/
def R.CVU_INT_EN (n : Nat) : Nat := 0x400014 + 0x8000 * n
/-- 12, card CVU_LAST_FAIL. -/
def R.CVU_LAST_FAIL (n j : Nat) : Nat := 0x400020 + 0x8000 * n + 4 * j
/-- 12, card CVU_CNT. -/
def R.CVU_CNT (n k : Nat) : Nat := 0x400100 + 0x8000 * n + 8 * k
/-- 12, card CVU_GCFG. -/
def R.CVU_GCFG : Nat := 0x404000
/-- 12, card CVU_TABLE. -/
def R.CVU_TABLE : Nat := 0x404008
/-- 12, card CVU_TCMD. -/
def R.CVU_TCMD : Nat := 0x404020
/-- 12, card CVU_TIDX. -/
def R.CVU_TIDX : Nat := 0x404024
/-- 12, card CVU_TSTAT. -/
def R.CVU_TSTAT : Nat := 0x404028
/-- 12, card CVU_TBUF. -/
def R.CVU_TBUF (i : Nat) : Nat := 0x404040 + 4 * i
/-- 13, card CLU_SPM_CFG. -/
def R.CLU_SPM_CFG (c : Nat) : Nat := 0xc00400 + 0x40000 * c
/-- 13, card CLU_SPM_CLEAR. -/
def R.CLU_SPM_CLEAR (c : Nat) : Nat := 0xc00404 + 0x40000 * c
/-- 13, card CLU_SPM_CNT. -/
def R.CLU_SPM_CNT (c j : Nat) : Nat := 0xc00440 + 0x40000 * c + 8 * j
/-- 13, card MGT_VAULT_STATUS. -/
def R.MGT_VAULT_STATUS : Nat := 0x20800
/-- 13, card MGT_VAULT_LOCK. -/
def R.MGT_VAULT_LOCK (j : Nat) : Nat := 0x20808 + 4 * j
/-- 13, card MGT_VAULT_HIDE. -/
def R.MGT_VAULT_HIDE (j : Nat) : Nat := 0x20810 + 4 * j
/-- 13, card MGT_VAULT_WIPE. -/
def R.MGT_VAULT_WIPE : Nat := 0x20818
/-- 13, card SEM_CFG. -/
def R.SEM_CFG : Nat := 0x50000
/-- 13, card SEM_STATUS. -/
def R.SEM_STATUS : Nat := 0x50004
/-- 13, card SEM_FORCE. -/
def R.SEM_FORCE : Nat := 0x50008
/-- 13, card SEM_ACQ. -/
def R.SEM_ACQ (n : Nat) : Nat := 0x58000 + 4 * n
/-- 13, card SEM_TRY. -/
def R.SEM_TRY (n : Nat) : Nat := 0x60000 + 4 * n
/-- 13, card SEM_REL. -/
def R.SEM_REL (n : Nat) : Nat := 0x68000 + 4 * n
/-- 13, card SEM_STATE. -/
def R.SEM_STATE (n : Nat) : Nat := 0x70000 + 4 * n
/-- 13, card SEM_RENEW. -/
def R.SEM_RENEW (j : Nat) : Nat := 0x78000 + 4 * j
/-- 13, card SEM_LEASE_CFG. -/
def R.SEM_LEASE_CFG (j : Nat) : Nat := 0x78100 + 4 * j
/-- 13, card SEM_CNT. -/
def R.SEM_CNT (k : Nat) : Nat := 0x79000 + 8 * k
/-- 14, card DMC_CH_CFG. -/
def R.DMC_CH_CFG (n : Nat) : Nat := 0x600000 + 0x20000 * n
/-- 14, card DMC_CH_STATUS. -/
def R.DMC_CH_STATUS (n : Nat) : Nat := 0x600004 + 0x20000 * n
/-- 14, card DMC_CH_CTRL. -/
def R.DMC_CH_CTRL (n : Nat) : Nat := 0x600008 + 0x20000 * n
/-- 14, card DMC_CH_INT. -/
def R.DMC_CH_INT (n : Nat) : Nat := 0x600010 + 0x20000 * n
/-- 14, card DMC_CH_INT_EN. -/
def R.DMC_CH_INT_EN (n : Nat) : Nat := 0x600014 + 0x20000 * n
/-- 14, card DMC_DIAG. -/
def R.DMC_DIAG (n j : Nat) : Nat := 0x600020 + 0x20000 * n + 4 * j
/-- 14, card DMC_CH_CNT. -/
def R.DMC_CH_CNT (n k : Nat) : Nat := 0x600100 + 0x20000 * n + 8 * k
/-- 14, card DMC_MAP. -/
def R.DMC_MAP : Nat := 0x610000
/-- 14, card DMC_GSTATUS. -/
def R.DMC_GSTATUS : Nat := 0x610008
/-- 14, card ECS_STATUS. -/
def R.ECS_STATUS : Nat := 0x700000
/-- 14, card ECS_SCRUB_CFG. -/
def R.ECS_SCRUB_CFG : Nat := 0x700004
/-- 14, card ECS_CFG. -/
def R.ECS_CFG : Nat := 0x700008
/-- 14, card ECS_INT. -/
def R.ECS_INT : Nat := 0x700010
/-- 14, card ECS_INT_EN. -/
def R.ECS_INT_EN : Nat := 0x700014
/-- 14, card ECS_CLEAR. -/
def R.ECS_CLEAR (w : Nat) : Nat := 0x700020 + 4 * w
/-- 14, card ECS_RT_IDX. -/
def R.ECS_RT_IDX : Nat := 0x700040
/-- 14, card ECS_RT_ENT. -/
def R.ECS_RT_ENT : Nat := 0x700044
/-- 14, card ECS_SP_IDX. -/
def R.ECS_SP_IDX : Nat := 0x700050
/-- 14, card ECS_SP_ENT. -/
def R.ECS_SP_ENT : Nat := 0x700054
/-- 14, card ECS_SUS_IDX. -/
def R.ECS_SUS_IDX : Nat := 0x700060
/-- 14, card ECS_SUS. -/
def R.ECS_SUS (w : Nat) : Nat := 0x700064 + 4 * w
/-- 14, card ECS_CNT. -/
def R.ECS_CNT (k : Nat) : Nat := 0x700100 + 8 * k
/-- 15, card REC_CTRL. -/
def R.REC_CTRL : Nat := 0x500000
/-- 15, card REC_CFG. -/
def R.REC_CFG : Nat := 0x500004
/-- 15, card REC_STATUS. -/
def R.REC_STATUS : Nat := 0x500008
/-- 15, card REC_STAGE. -/
def R.REC_STAGE : Nat := 0x500010
/-- 15, card REC_SIG. -/
def R.REC_SIG : Nat := 0x500018
/-- 15, card REC_IDX. -/
def R.REC_IDX : Nat := 0x500020
/-- 15, card REC_RCTL. -/
def R.REC_RCTL : Nat := 0x500028
/-- 15, card REC_SWTRIG. -/
def R.REC_SWTRIG : Nat := 0x500030
/-- 15, card REC_HEAD. -/
def R.REC_HEAD (w : Nat) : Nat := 0x500040 + 4 * w
/-- 15, card REC_TAIL. -/
def R.REC_TAIL (w : Nat) : Nat := 0x500048 + 4 * w
/-- 15, card REC_DURABLE. -/
def R.REC_DURABLE (w : Nat) : Nat := 0x500050 + 4 * w
/-- 15, card REC_SLOTS. -/
def R.REC_SLOTS : Nat := 0x500058
/-- 15, card REC_RGN_INT. -/
def R.REC_RGN_INT : Nat := 0x500060
/-- 15, card REC_RGN_INT_EN. -/
def R.REC_RGN_INT_EN : Nat := 0x500064
/-- 15, card REC_NS. -/
def R.REC_NS (n : Nat) : Nat := 0x500100 + 4 * n
/-- 15, card REC_NS_STATUS. -/
def R.REC_NS_STATUS (n : Nat) : Nat := 0x500200 + 4 * n
/-- 15, card REC_TRIG_CFG. -/
def R.REC_TRIG_CFG (s : Nat) : Nat := 0x500400 + 4 * s
/-- 15, card REC_RGN. -/
def R.REC_RGN (r w : Nat) : Nat := 0x500800 + 64 * r + 4 * w
/-- 15, card REC_CMD. -/
def R.REC_CMD : Nat := 0x500c00
/-- 15, card REC_ARG. -/
def R.REC_ARG (i : Nat) : Nat := 0x500c40 + 4 * i
/-- 15, card REC_CNT. -/
def R.REC_CNT (k : Nat) : Nat := 0x500d00 + 8 * k
/-- 16, card BCN_TIME_CTRL. -/
def R.BCN_TIME_CTRL : Nat := 0x10000
/-- 16, card BCN_TIME_NS. -/
def R.BCN_TIME_NS : Nat := 0x10004
/-- 16, card BCN_TIME_S. -/
def R.BCN_TIME_S (w : Nat) : Nat := 0x10008 + 4 * w
/-- 16, card BCN_TIME_SET. -/
def R.BCN_TIME_SET (w : Nat) : Nat := 0x10010 + 4 * w
/-- 16, card BCN_TIME_STEP. -/
def R.BCN_TIME_STEP (w : Nat) : Nat := 0x1001c + 4 * w
/-- 16, card BCN_TIME_RATE. -/
def R.BCN_TIME_RATE : Nat := 0x10024
/-- 16, card BCN_TIME_STATUS. -/
def R.BCN_TIME_STATUS : Nat := 0x10028
/-- 16, card BCN_BCNT. -/
def R.BCN_BCNT (w : Nat) : Nat := 0x10030 + 4 * w
/-- 16, card BCN_SLEEP_REF. -/
def R.BCN_SLEEP_REF (w : Nat) : Nat := 0x10038 + 4 * w
/-- 16, card BCN_PPS_CFG. -/
def R.BCN_PPS_CFG : Nat := 0x10050
/-- 16, card BCN_PPS_ADJ. -/
def R.BCN_PPS_ADJ : Nat := 0x10054
/-- 16, card BCN_PPS_IN. -/
def R.BCN_PPS_IN (w : Nat) : Nat := 0x10058 + 4 * w
/-- 16, card BCN_REF_CFG. -/
def R.BCN_REF_CFG : Nat := 0x10064
/-- 16, card BCN_REF_STATUS. -/
def R.BCN_REF_STATUS : Nat := 0x10068
/-- 16, card BCN_ALARM. -/
def R.BCN_ALARM (a w : Nat) : Nat := 0x10080 + 8 * a + 4 * w
/-- 16, card BCN_ALARM_CTRL. -/
def R.BCN_ALARM_CTRL : Nat := 0x10090
/-- 16, card BCN_VSENSE_CFG. -/
def R.BCN_VSENSE_CFG : Nat := 0x10094
/-- 16, card BCN_TEMP_CFG. -/
def R.BCN_TEMP_CFG : Nat := 0x10098
/-- 16, card BCN_SENSE. -/
def R.BCN_SENSE : Nat := 0x1009c
/-- 16, card BCN_TAMPER_CFG. -/
def R.BCN_TAMPER_CFG : Nat := 0x100a0
/-- 16, card BCN_TAMPER. -/
def R.BCN_TAMPER : Nat := 0x100a4
/-- 16, card BCN_WAKE_CFG. -/
def R.BCN_WAKE_CFG : Nat := 0x100b0
/-- 16, card BCN_WAKE_CAUSE. -/
def R.BCN_WAKE_CAUSE : Nat := 0x100b4
/-- 16, card BCN_PWR_REQ. -/
def R.BCN_PWR_REQ : Nat := 0x100c0
/-- 16, card BCN_PWR_CFG. -/
def R.BCN_PWR_CFG : Nat := 0x100c8
/-- 16, card BCN_PWR_STATUS. -/
def R.BCN_PWR_STATUS : Nat := 0x100cc
/-- 16, card BCN_INT. -/
def R.BCN_INT : Nat := 0x100d0
/-- 16, card BCN_INT_EN. -/
def R.BCN_INT_EN : Nat := 0x100d4
/-- 16, card BCN_XING_HELD. -/
def R.BCN_XING_HELD (w : Nat) : Nat := 0x100e0 + 4 * w
/-- 16, card BCN_CNT. -/
def R.BCN_CNT (k : Nat) : Nat := 0x10100 + 8 * k
/-- 17, card MGT_BOOT_STATUS. -/
def R.MGT_BOOT_STATUS : Nat := 0x20100
/-- 17, card MGT_BOOT_CTRL. -/
def R.MGT_BOOT_CTRL : Nat := 0x20104
/-- 17, card MGT_BOOT_MS. -/
def R.MGT_BOOT_MS : Nat := 0x2010c
/-- 17, card MGT_IMG_INFO. -/
def R.MGT_IMG_INFO (j : Nat) : Nat := 0x20110 + 4 * j
/-- 17, card MGT_SERIAL. -/
def R.MGT_SERIAL (w : Nat) : Nat := 0x20120 + 4 * w
/-- 17, card MGT_FUSE_SVN. -/
def R.MGT_FUSE_SVN : Nat := 0x20128
/-- 17, card MGT_LC_REQ. -/
def R.MGT_LC_REQ : Nat := 0x20130
/-- 17, card MGT_KEY_PROG. -/
def R.MGT_KEY_PROG (w : Nat) : Nat := 0x20140 + 4 * w
/-- 17, card MGT_KEY_STATE. -/
def R.MGT_KEY_STATE : Nat := 0x20170
/-- 18, card MLK_CFG. -/
def R.MLK_CFG : Nat := 0x40000
/-- 18, card MLK_TIMING. -/
def R.MLK_TIMING : Nat := 0x40004
/-- 18, card MLK_PAIR_CFG. -/
def R.MLK_PAIR_CFG : Nat := 0x40008
/-- 18, card MLK_STATUS. -/
def R.MLK_STATUS : Nat := 0x40010
/-- 18, card MLK_SIDE. -/
def R.MLK_SIDE (s : Nat) : Nat := 0x40020 + 4 * s
/-- 18, card MLK_PEER. -/
def R.MLK_PEER (s w : Nat) : Nat := 0x40030 + 8 * s + 4 * w
/-- 18, card MLK_COORD. -/
def R.MLK_COORD (w : Nat) : Nat := 0x40040 + 4 * w
/-- 18, card MLK_TIME. -/
def R.MLK_TIME (s w : Nat) : Nat := 0x40050 + 8 * s + 4 * w
/-- 18, card MLK_PAIR_STATUS. -/
def R.MLK_PAIR_STATUS : Nat := 0x40060
/-- 18, card MLK_PAIR_CTRL. -/
def R.MLK_PAIR_CTRL : Nat := 0x40068
/-- 18, card MLK_INT. -/
def R.MLK_INT : Nat := 0x40070
/-- 18, card MLK_INT_EN. -/
def R.MLK_INT_EN : Nat := 0x40074
/-- 18, card MLK_CNT. -/
def R.MLK_CNT (k : Nat) : Nat := 0x40100 + 8 * k
/-- 19, card MGT_TXN_CTRL. -/
def R.MGT_TXN_CTRL : Nat := 0x20200
/-- 19, card MGT_TXN_NUM. -/
def R.MGT_TXN_NUM : Nat := 0x20204
/-- 19, card MGT_TXN_ENT. -/
def R.MGT_TXN_ENT (w : Nat) : Nat := 0x20210 + 4 * w
/-- 19, card MGT_TXN_STATUS. -/
def R.MGT_TXN_STATUS : Nat := 0x20220
/-- 19, card MGT_TXN_COUNT. -/
def R.MGT_TXN_COUNT : Nat := 0x20228
/-- 19, card MGT_TXN_CFG. -/
def R.MGT_TXN_CFG : Nat := 0x20224
/-- 19, card MGT_MODE_MIRROR. -/
def R.MGT_MODE_MIRROR : Nat := 0x20280
/-- 19, card MGT_PROBE. -/
def R.MGT_PROBE : Nat := 0x20284
/-- 19, card MGT_MTX_CNT. -/
def R.MGT_MTX_CNT (k : Nat) : Nat := 0x20300 + 8 * k
/-- 20, card MGT_FAULT_CFG. -/
def R.MGT_FAULT_CFG : Nat := 0x20400
/-- 20, card MGT_RCV_CMD. -/
def R.MGT_RCV_CMD : Nat := 0x20408
/-- 20, card MGT_RCV_ARG. -/
def R.MGT_RCV_ARG : Nat := 0x2040c
/-- 20, card MGT_GEN_SEL. -/
def R.MGT_GEN_SEL : Nat := 0x20410
/-- 20, card MGT_GEN. -/
def R.MGT_GEN : Nat := 0x20414
/-- 20, card MGT_CLU_OUT. -/
def R.MGT_CLU_OUT : Nat := 0x20418
/-- 20, card MGT_RCV_STATUS. -/
def R.MGT_RCV_STATUS (r : Nat) : Nat := 0x20440 + 4 * r
/-- 20, card MGT_CORE_STATE. -/
def R.MGT_CORE_STATE (c : Nat) : Nat := 0x20490 + 4 * c
/-- 20, card MGT_ELOG_CTRL. -/
def R.MGT_ELOG_CTRL : Nat := 0x21000
/-- 20, card MGT_ELOG_REC. -/
def R.MGT_ELOG_REC (i : Nat) : Nat := 0x21020 + 4 * i
/-- 20, card MGT_FLT_CNT. -/
def R.MGT_FLT_CNT (k : Nat) : Nat := 0x20500 + 8 * k
/-- 20, card BCN_MGT_WD. -/
def R.BCN_MGT_WD : Nat := 0x10200
/-- 20, card BCN_MGT_STATUS. -/
def R.BCN_MGT_STATUS : Nat := 0x10204
/-- 21, card HIF_HOST_CFG. -/
def R.HIF_HOST_CFG : Nat := 0x30000
/-- 21, card HIF_PCIE_STATUS. -/
def R.HIF_PCIE_STATUS : Nat := 0x30004
/-- 21, card HIF_RX_MAP. -/
def R.HIF_RX_MAP : Nat := 0x30008
/-- 21, card HIF_BAR4_WIN. -/
def R.HIF_BAR4_WIN : Nat := 0x3000c
/-- 21, card HIF_KEEPER_BELL. -/
def R.HIF_KEEPER_BELL : Nat := 0x30010
/-- 21, card HIF_D2H_BELL. -/
def R.HIF_D2H_BELL : Nat := 0x30014
/-- 21, card HIF_INT. -/
def R.HIF_INT : Nat := 0x30020
/-- 21, card HIF_INT_EN. -/
def R.HIF_INT_EN : Nat := 0x30024
/-- 21, card HIF_RC_CFG. -/
def R.HIF_RC_CFG : Nat := 0x30100
/-- 21, card HIF_RC_CTRL. -/
def R.HIF_RC_CTRL : Nat := 0x30108
/-- 21, card HIF_RC_MEM. -/
def R.HIF_RC_MEM : Nat := 0x3010c
/-- 21, card HIF_RC_STATUS. -/
def R.HIF_RC_STATUS (p : Nat) : Nat := 0x30110 + 4 * p
/-- 21, card HIF_SPIF_CMD. -/
def R.HIF_SPIF_CMD : Nat := 0x30200
/-- 21, card HIF_SPIF_ADDR. -/
def R.HIF_SPIF_ADDR : Nat := 0x30204
/-- 21, card HIF_SPIF_BUF. -/
def R.HIF_SPIF_BUF (i : Nat) : Nat := 0x30300 + 4 * i
/-- 21, card HIF_SPIT_ERR. -/
def R.HIF_SPIT_ERR : Nat := 0x30400
/-- 21, card HIF_I2C_CFG. -/
def R.HIF_I2C_CFG (i : Nat) : Nat := 0x30500 + 32 * i
/-- 21, card HIF_I2C_CMD. -/
def R.HIF_I2C_CMD (i : Nat) : Nat := 0x30504 + 32 * i
/-- 21, card HIF_I2C_DATA. -/
def R.HIF_I2C_DATA (i : Nat) : Nat := 0x30508 + 32 * i
/-- 21, card HIF_I2C_STATUS. -/
def R.HIF_I2C_STATUS (i : Nat) : Nat := 0x3050c + 32 * i
/-- 21, card HIF_MDIO_CFG. -/
def R.HIF_MDIO_CFG (m : Nat) : Nat := 0x30600 + 16 * m
/-- 21, card HIF_MDIO_CMD. -/
def R.HIF_MDIO_CMD (m : Nat) : Nat := 0x30604 + 16 * m
/-- 21, card HIF_GPIO_CFG. -/
def R.HIF_GPIO_CFG (p : Nat) : Nat := 0x30700 + 4 * p
/-- 21, card HIF_GPIO_IN. -/
def R.HIF_GPIO_IN : Nat := 0x30780
/-- 21, card HIF_GPIO_OUT. -/
def R.HIF_GPIO_OUT : Nat := 0x30784
/-- 21, card HIF_GPIO_INT. -/
def R.HIF_GPIO_INT : Nat := 0x30788
/-- 21, card HIF_GPIO_INT_EN. -/
def R.HIF_GPIO_INT_EN : Nat := 0x3078c
/-- 21, card HIF_CNT. -/
def R.HIF_CNT (k : Nat) : Nat := 0x30800 + 8 * k
/-- 22, card GLB_DEV_FEAT. -/
def R.GLB_DEV_FEAT (w : Nat) : Nat := 0x10 + 4 * w
/-- 22, card GLB_DRV_FEAT. -/
def R.GLB_DRV_FEAT (w : Nat) : Nat := 0x18 + 4 * w
/-- 22, card GLB_FEAT_ACK. -/
def R.GLB_FEAT_ACK (w : Nat) : Nat := 0x20 + 4 * w
/-- 22, card GLB_MODE. -/
def R.GLB_MODE : Nat := 0x40
/-- 22, card GLB_MODE_NOTE. -/
def R.GLB_MODE_NOTE : Nat := 0x48
/-- 22, card GLB_TALLY_SNAP. -/
def R.GLB_TALLY_SNAP : Nat := 0x80
/-- 22, card GLB_TALLY_STATUS. -/
def R.GLB_TALLY_STATUS : Nat := 0x84
/-- 22, card GLB_TALLY_TIME. -/
def R.GLB_TALLY_TIME (w : Nat) : Nat := 0x88 + 4 * w
/-- 22, card GLB_REG_CNT. -/
def R.GLB_REG_CNT (k : Nat) : Nat := 0x100 + 8 * k
/-- 23, card MGT_AVS_CFG. -/
def R.MGT_AVS_CFG : Nat := 0x20600
/-- 23, card MGT_AVS_STATUS. -/
def R.MGT_AVS_STATUS : Nat := 0x20604

/-! Field constants: one per row of the field tables. -/
def F.GLB_ID_DEVICE : Fld := ⟨16, 16⟩
def F.GLB_ID_GRADE : Fld := ⟨12, 4⟩
def F.GLB_ID_STEPPING : Fld := ⟨0, 12⟩
def F.PX_PORT_MODE_FEC : Fld := ⟨4, 2⟩
def F.PX_PORT_MODE_MODE : Fld := ⟨0, 4⟩
def F.PX_PORT_CTRL_RX_PAUSE_EN : Fld := ⟨28, 1⟩
def F.PX_PORT_CTRL_DOWN_HOLD : Fld := ⟨20, 8⟩
def F.PX_PORT_CTRL_LOOPBACK : Fld := ⟨18, 2⟩
def F.PX_PORT_CTRL_ADV_PAUSE : Fld := ⟨16, 2⟩
def F.PX_PORT_CTRL_AN_RESTART : Fld := ⟨15, 1⟩
def F.PX_PORT_CTRL_AN_EN : Fld := ⟨14, 1⟩
def F.PX_PORT_CTRL_MTU : Fld := ⟨0, 14⟩
def F.PX_PORT_STATUS_RX_XOFF : Fld := ⟨24, 1⟩
def F.PX_PORT_STATUS_TX_PAUSED : Fld := ⟨16, 8⟩
def F.PX_PORT_STATUS_QUAD_MEMBER : Fld := ⟨15, 1⟩
def F.PX_PORT_STATUS_CFG_BAD : Fld := ⟨14, 1⟩
def F.PX_PORT_STATUS_RF : Fld := ⟨13, 1⟩
def F.PX_PORT_STATUS_LF : Fld := ⟨12, 1⟩
def F.PX_PORT_STATUS_HI_BER : Fld := ⟨11, 1⟩
def F.PX_PORT_STATUS_ALIGN : Fld := ⟨10, 1⟩
def F.PX_PORT_STATUS_BLOCK_LOCK : Fld := ⟨9, 1⟩
def F.PX_PORT_STATUS_LP_HDX : Fld := ⟨8, 1⟩
def F.PX_PORT_STATUS_LP_PAUSE : Fld := ⟨6, 2⟩
def F.PX_PORT_STATUS_AN_DONE : Fld := ⟨5, 1⟩
def F.PX_PORT_STATUS_SPEED : Fld := ⟨3, 2⟩
def F.PX_PORT_STATUS_STATE : Fld := ⟨1, 2⟩
def F.PX_PORT_STATUS_LINK : Fld := ⟨0, 1⟩
def F.PX_PORT_PAUSE_XON_TH : Fld := ⟨14, 11⟩
def F.PX_PORT_PAUSE_XOFF_TH : Fld := ⟨3, 11⟩
def F.PX_PORT_PAUSE_XON_EN : Fld := ⟨2, 1⟩
def F.PX_PORT_PAUSE_GEN : Fld := ⟨0, 2⟩
def F.PX_PORT_PTP_L2 : Fld := ⟨5, 1⟩
def F.PX_PORT_PTP_UDP6 : Fld := ⟨4, 1⟩
def F.PX_PORT_PTP_UDP4 : Fld := ⟨3, 1⟩
def F.PX_PORT_PTP_TC : Fld := ⟨2, 1⟩
def F.PX_PORT_PTP_TWO_STEP : Fld := ⟨1, 1⟩
def F.PX_PORT_PTP_ONE_STEP : Fld := ⟨0, 1⟩
def F.PX_PORT_TS_ADJ_TX_ADJ : Fld := ⟨16, 16⟩
def F.PX_PORT_TS_ADJ_RX_ADJ : Fld := ⟨0, 16⟩
def F.PX_PORT_INT_CFG_BAD : Fld := ⟨6, 1⟩
def F.PX_PORT_INT_OVERRUN : Fld := ⟨5, 1⟩
def F.PX_PORT_INT_FEC_UNCORR : Fld := ⟨4, 1⟩
def F.PX_PORT_INT_TSQ_LOST : Fld := ⟨3, 1⟩
def F.PX_PORT_INT_TSQ_NE : Fld := ⟨2, 1⟩
def F.PX_PORT_INT_AN_DONE : Fld := ⟨1, 1⟩
def F.PX_PORT_INT_LINK_CHG : Fld := ⟨0, 1⟩
def F.PX_PORT_INT_EN_EN : Fld := ⟨0, 7⟩
def F.PX_PORT_TSQ_TAG_VALID : Fld := ⟨31, 1⟩
def F.PX_PORT_TSQ_TAG_POP : Fld := ⟨30, 1⟩
def F.PX_PORT_TSQ_TAG_DOMAIN : Fld := ⟨20, 8⟩
def F.PX_PORT_TSQ_TAG_MSG_TYPE : Fld := ⟨16, 4⟩
def F.PX_PORT_TSQ_TAG_SEQ_ID : Fld := ⟨0, 16⟩
def F.PX_PORT_TSQ_TIME_TIME : Fld := ⟨0, 32⟩
def F.PX_PORT_SA_ADDR : Fld := ⟨0, 32⟩
def F.PX_PORT_CNT_VALUE : Fld := ⟨0, 32⟩
def F.PX_GRP_QUAD_QUAD_EN : Fld := ⟨0, 3⟩
def F.PX_GRP_CTRL_TX_RELEASE : Fld := ⟨31, 1⟩
def F.PX_GRP_CTRL_RX_INV : Fld := ⟨12, 12⟩
def F.PX_GRP_CTRL_TX_INV : Fld := ⟨0, 12⟩
def F.PRS_CFG_MLK_PROFILE : Fld := ⟨12, 3⟩
def F.PRS_CFG_MLK_CLASS : Fld := ⟨8, 3⟩
def F.PRS_CFG_MLK_START : Fld := ⟨0, 8⟩
def F.PRS_STATUS_CLEARING : Fld := ⟨0, 8⟩
def F.PRS_PORT_CFG_DEF_PROFILE : Fld := ⟨12, 3⟩
def F.PRS_PORT_CFG_DEF_CLASS : Fld := ⟨8, 3⟩
def F.PRS_PORT_CFG_START_STATE : Fld := ⟨0, 8⟩
def F.PRS_PROF_CTRL_BASE : Fld := ⟨21, 11⟩
def F.PRS_PROF_CTRL_WAYSZ : Fld := ⟨16, 5⟩
def F.PRS_PROF_CTRL_KEYW : Fld := ⟨0, 3⟩
def F.PRS_PROF_MISS_ACT : Fld := ⟨30, 2⟩
def F.PRS_PROF_MISS_NODE : Fld := ⟨22, 6⟩
def F.PRS_PROF_MISS_FLOW : Fld := ⟨0, 22⟩
def F.PRS_PROF_SPREAD_USE : Fld := ⟨16, 2⟩
def F.PRS_PROF_SPREAD_IND_LOG : Fld := ⟨12, 4⟩
def F.PRS_PROF_SPREAD_IND_BASE : Fld := ⟨0, 12⟩
def F.PRS_SPREAD_KEY_KEY : Fld := ⟨0, 32⟩
def F.PRS_EXC_ACT_ACT : Fld := ⟨30, 2⟩
def F.PRS_EXC_ACT_NODE : Fld := ⟨22, 6⟩
def F.PRS_EXC_ACT_FLOW : Fld := ⟨0, 22⟩
def F.PRS_TCMD_BUSY : Fld := ⟨31, 1⟩
def F.PRS_TCMD_TABLE : Fld := ⟨8, 5⟩
def F.PRS_TCMD_OP : Fld := ⟨0, 4⟩
def F.PRS_TIDX_WAY : Fld := ⟨20, 2⟩
def F.PRS_TIDX_INDEX : Fld := ⟨0, 19⟩
def F.PRS_TSTAT_RESULT : Fld := ⟨28, 4⟩
def F.PRS_TSTAT_MOVES : Fld := ⟨24, 4⟩
def F.PRS_TSTAT_WAY : Fld := ⟨20, 2⟩
def F.PRS_TSTAT_INDEX : Fld := ⟨0, 19⟩
def F.PRS_TBUF_DATA : Fld := ⟨0, 32⟩
def F.PRS_CNT_VALUE : Fld := ⟨0, 32⟩
def F.PRS_EXC_CNT_VALUE : Fld := ⟨0, 32⟩
def F.FTE_CFG_MLK_TX : Fld := ⟨31, 1⟩
def F.FTE_CFG_MLK_RX : Fld := ⟨30, 1⟩
def F.FTE_CFG_NOTIFY_LEARN : Fld := ⟨29, 1⟩
def F.FTE_CFG_NOTIFY_MOVE : Fld := ⟨28, 1⟩
def F.FTE_CFG_NOTIFY_AGE : Fld := ⟨27, 1⟩
def F.FTE_CFG_NOTIFY_MISS : Fld := ⟨26, 1⟩
def F.FTE_CFG_TTL_ACT : Fld := ⟨24, 2⟩
def F.FTE_CFG_RMISS_ACT : Fld := ⟨22, 2⟩
def F.FTE_CFG_CHIP : Fld := ⟨16, 3⟩
def F.FTE_LTYPE_IPV6 : Fld := ⟨24, 5⟩
def F.FTE_LTYPE_IPV4 : Fld := ⟨16, 5⟩
def F.FTE_LTYPE_VLAN : Fld := ⟨8, 5⟩
def F.FTE_LTYPE_ETH : Fld := ⟨0, 5⟩
def F.FTE_AGE_CFG_AUTO : Fld := ⟨31, 1⟩
def F.FTE_AGE_CFG_AGE_TIME : Fld := ⟨16, 15⟩
def F.FTE_AGE_CFG_MOVE_LIMIT : Fld := ⟨8, 5⟩
def F.FTE_AGE_CFG_MOVE_HOLD : Fld := ⟨0, 8⟩
def F.FTE_STATUS_AGE_NOW : Fld := ⟨16, 16⟩
def F.FTE_STATUS_FLUSH_BUSY : Fld := ⟨10, 1⟩
def F.FTE_STATUS_CLEARING : Fld := ⟨0, 10⟩
def F.FTE_INT_LOOKUP_UE : Fld := ⟨7, 1⟩
def F.FTE_INT_CMD_DONE : Fld := ⟨6, 1⟩
def F.FTE_INT_FLUSH_DONE : Fld := ⟨5, 1⟩
def F.FTE_INT_ROUTE_FULL : Fld := ⟨4, 1⟩
def F.FTE_INT_LEARN_FULL : Fld := ⟨3, 1⟩
def F.FTE_INT_MOVE_STORM : Fld := ⟨2, 1⟩
def F.FTE_INT_LNQ_LOST : Fld := ⟨1, 1⟩
def F.FTE_INT_LNQ_NE : Fld := ⟨0, 1⟩
def F.FTE_INT_EN_EN : Fld := ⟨0, 8⟩
def F.FTE_LAYOUT_BASE : Fld := ⟨21, 11⟩
def F.FTE_LAYOUT_SIZE : Fld := ⟨16, 5⟩
def F.FTE_RMAC_ADDR : Fld := ⟨0, 32⟩
def F.FTE_MLK_MAP_MODE : Fld := ⟨16, 2⟩
def F.FTE_MLK_MAP_PSET : Fld := ⟨0, 9⟩
def F.FTE_LPM4_SHORT_LENS : Fld := ⟨0, 17⟩
def F.FTE_LPM6_SHORT_LENS : Fld := ⟨0, 32⟩
def F.FTE_PORT_CFG_LEARN_EN : Fld := ⟨31, 1⟩
def F.FTE_PORT_CFG_FLUSH_DOWN : Fld := ⟨30, 1⟩
def F.FTE_PORT_CFG_STATIC_DROP : Fld := ⟨29, 1⟩
def F.FTE_PORT_CFG_FIXED : Fld := ⟨28, 1⟩
def F.FTE_PORT_CFG_PVID : Fld := ⟨16, 12⟩
def F.FTE_PORT_CFG_FIX_EGRESS : Fld := ⟨0, 10⟩
def F.FTE_PORT_LEARN_COUNT : Fld := ⟨16, 16⟩
def F.FTE_PORT_LEARN_MAX : Fld := ⟨0, 16⟩
def F.FTE_TCMD_BUSY : Fld := ⟨31, 1⟩
def F.FTE_TCMD_TABLE : Fld := ⟨8, 5⟩
def F.FTE_TCMD_OP : Fld := ⟨0, 4⟩
def F.FTE_TIDX_WAY : Fld := ⟨20, 2⟩
def F.FTE_TIDX_INDEX : Fld := ⟨0, 19⟩
def F.FTE_TSTAT_RESULT : Fld := ⟨28, 4⟩
def F.FTE_TSTAT_MOVES : Fld := ⟨24, 4⟩
def F.FTE_TSTAT_WAY : Fld := ⟨20, 2⟩
def F.FTE_TSTAT_INDEX : Fld := ⟨0, 19⟩
def F.FTE_TBUF_DATA : Fld := ⟨0, 32⟩
def F.FTE_LNQ_DATA : Fld := ⟨0, 32⟩
def F.FTE_LNQ_CTRL_VALID : Fld := ⟨31, 1⟩
def F.FTE_LNQ_CTRL_POP : Fld := ⟨30, 1⟩
def F.FTE_LNQ_CTRL_COUNT : Fld := ⟨0, 11⟩
def F.FTE_CNT_VALUE : Fld := ⟨0, 32⟩
def F.BPM_STATUS_FAILED : Fld := ⟨16, 8⟩
def F.BPM_STATUS_FROZEN : Fld := ⟨8, 8⟩
def F.BPM_STATUS_INIT : Fld := ⟨0, 8⟩
def F.BPM_INT_FAILED : Fld := ⟨5, 1⟩
def F.BPM_INT_EMPTY : Fld := ⟨4, 1⟩
def F.BPM_INT_SHED : Fld := ⟨3, 1⟩
def F.BPM_INT_HOLD : Fld := ⟨2, 1⟩
def F.BPM_INT_WARN : Fld := ⟨1, 1⟩
def F.BPM_INT_CLEAR : Fld := ⟨0, 1⟩
def F.BPM_INT_EN_EN : Fld := ⟨0, 6⟩
def F.BPM_POOL_SIZE_EN : Fld := ⟨31, 1⟩
def F.BPM_POOL_SIZE_LOC : Fld := ⟨30, 1⟩
def F.BPM_POOL_SIZE_UPSIZE : Fld := ⟨29, 1⟩
def F.BPM_POOL_SIZE_HEAD : Fld := ⟨16, 3⟩
def F.BPM_POOL_SIZE_BUFSZ : Fld := ⟨0, 11⟩
def F.BPM_POOL_BASE_BASE : Fld := ⟨0, 28⟩
def F.BPM_POOL_COUNT_COUNT : Fld := ⟨0, 29⟩
def F.BPM_POOL_RING_RING_LOG : Fld := ⟨24, 5⟩
def F.BPM_POOL_RING_RING_BASE : Fld := ⟨0, 24⟩
def F.BPM_POOL_META_CHMASK : Fld := ⟨24, 8⟩
def F.BPM_POOL_META_META_BASE : Fld := ⟨0, 24⟩
def F.BPM_POOL_LEVEL_WARN : Fld := ⟨24, 8⟩
def F.BPM_POOL_LEVEL_HOLD : Fld := ⟨16, 8⟩
def F.BPM_POOL_LEVEL_SHED : Fld := ⟨8, 8⟩
def F.BPM_POOL_LEVEL_HYST : Fld := ⟨0, 8⟩
def F.BPM_POOL_ACT_THROTTLE : Fld := ⟨31, 1⟩
def F.BPM_POOL_ACT_EVT_EN : Fld := ⟨30, 1⟩
def F.BPM_POOL_ACT_SHED_CLASSES : Fld := ⟨8, 8⟩
def F.BPM_POOL_ACT_PAUSE_CLASSES : Fld := ⟨0, 8⟩
def F.BPM_POOL_RESV_RESV : Fld := ⟨0, 29⟩
def F.BPM_POOL_FREE_LEVEL : Fld := ⟨30, 2⟩
def F.BPM_POOL_FREE_FREE : Fld := ⟨0, 29⟩
def F.BPM_POOL_RUSED_RESV_USED : Fld := ⟨0, 29⟩
def F.BPM_POOL_PMASK_PORTS : Fld := ⟨0, 32⟩
def F.BPM_QSEL_POOL : Fld := ⟨16, 3⟩
def F.BPM_QSEL_MID : Fld := ⟨0, 12⟩
def F.BPM_QUOTA_BORROW_MAX : Fld := ⟨16, 16⟩
def F.BPM_QUOTA_QUOTA : Fld := ⟨0, 16⟩
def F.BPM_QUSE_BORROWED : Fld := ⟨16, 16⟩
def F.BPM_QUSE_HELD : Fld := ⟨0, 16⟩
def F.BPM_CMD_BUSY : Fld := ⟨31, 1⟩
def F.BPM_CMD_RESULT : Fld := ⟨28, 3⟩
def F.BPM_CMD_OP : Fld := ⟨0, 4⟩
def F.BPM_CARG_DATA : Fld := ⟨0, 32⟩
def F.BPM_POOL_CNT_VALUE : Fld := ⟨0, 32⟩
def F.BPM_CNT_VALUE : Fld := ⟨0, 32⟩
def F.ODS_CFG_RUN : Fld := ⟨31, 1⟩
def F.ODS_CFG_LATE_ACT : Fld := ⟨30, 1⟩
def F.ODS_CFG_FLUSH_TMO : Fld := ⟨16, 8⟩
def F.ODS_CFG_ORDER_TMO : Fld := ⟨0, 16⟩
def F.ODS_STORE_BASE : Fld := ⟨20, 7⟩
def F.ODS_STORE_RESERVE : Fld := ⟨8, 12⟩
def F.ODS_STORE_LOG : Fld := ⟨0, 5⟩
def F.ODS_FLOWMEM_BASE : Fld := ⟨0, 11⟩
def F.ODS_SPILL_EN : Fld := ⟨31, 1⟩
def F.ODS_SPILL_BASE : Fld := ⟨0, 24⟩
def F.ODS_STATUS_EPOCH : Fld := ⟨24, 8⟩
def F.ODS_STATUS_THROTTLED : Fld := ⟨20, 4⟩
def F.ODS_STATUS_FREE : Fld := ⟨0, 20⟩
def F.ODS_OLD_LIVE_COUNT : Fld := ⟨0, 20⟩
def F.ODS_INT_NODE_BAD : Fld := ⟨7, 1⟩
def F.ODS_INT_FLOW_UE : Fld := ⟨6, 1⟩
def F.ODS_INT_STORE_UE : Fld := ⟨5, 1⟩
def F.ODS_INT_DRAINED : Fld := ⟨4, 1⟩
def F.ODS_INT_DLIST_FULL : Fld := ⟨3, 1⟩
def F.ODS_INT_ORDER_SKIP : Fld := ⟨2, 1⟩
def F.ODS_INT_PUT_STALL : Fld := ⟨1, 1⟩
def F.ODS_INT_THROTTLE : Fld := ⟨0, 1⟩
def F.ODS_INT_EN_EN : Fld := ⟨0, 8⟩
def F.ODS_DRAIN_PORTS : Fld := ⟨0, 32⟩
def F.ODS_GROUP_QUANTUM : Fld := ⟨0, 8⟩
def F.ODS_DLIST_EN : Fld := ⟨31, 1⟩
def F.ODS_DLIST_OCC : Fld := ⟨12, 17⟩
def F.ODS_DLIST_K : Fld := ⟨0, 4⟩
def F.ODS_NODE_A_KIND : Fld := ⟨30, 2⟩
def F.ODS_NODE_A_ATOMIC : Fld := ⟨29, 1⟩
def F.ODS_NODE_A_CARRY : Fld := ⟨28, 1⟩
def F.ODS_NODE_A_WHOLE : Fld := ⟨27, 1⟩
def F.ODS_NODE_A_GROUP : Fld := ⟨21, 6⟩
def F.ODS_NODE_A_PRIO : Fld := ⟨18, 3⟩
def F.ODS_NODE_A_COST : Fld := ⟨14, 4⟩
def F.ODS_NODE_A_HANDLER : Fld := ⟨0, 14⟩
def F.ODS_NODE_B_CSET : Fld := ⟨16, 16⟩
def F.ODS_NODE_B_DLIST : Fld := ⟨12, 4⟩
def F.ODS_NODE_B_TMODE : Fld := ⟨10, 2⟩
def F.ODS_NODE_C_OFFSET : Fld := ⟨0, 32⟩
def F.ODS_TSEL_MID : Fld := ⟨0, 12⟩
def F.ODS_TCFG_MODE : Fld := ⟨31, 1⟩
def F.ODS_TCFG_HOLD_MAX : Fld := ⟨0, 4⟩
def F.ODS_TGMASK_GROUPS : Fld := ⟨0, 32⟩
def F.ODS_TUSE_WAITING : Fld := ⟨8, 8⟩
def F.ODS_TUSE_HELD : Fld := ⟨0, 4⟩
def F.ODS_CLU_HOLD_LIMIT : Fld := ⟨0, 10⟩
def F.ODS_QCFG_PMASK : Fld := ⟨28, 4⟩
def F.ODS_QCFG_XOFF : Fld := ⟨14, 14⟩
def F.ODS_QCFG_LIMIT : Fld := ⟨0, 14⟩
def F.ODS_QDEPTH_DEPTH : Fld := ⟨0, 20⟩
def F.ODS_CNT_VALUE : Fld := ⟨0, 32⟩
def F.CLU_KEEPER_CORE : Fld := ⟨0, 4⟩
def F.CLU_FAULT_AREA_BASE : Fld := ⟨5, 14⟩
def F.CLU_DBG_EN : Fld := ⟨0, 1⟩
def F.CLU_FAULT_PEND_THREADS : Fld := ⟨0, 32⟩
def F.CLU_CORE_SLOT_ENTRIES : Fld := ⟨0, 32⟩
def F.CLU_THR_CTRL_CMD : Fld := ⟨29, 3⟩
def F.CLU_THR_CTRL_NEW_PC : Fld := ⟨0, 14⟩
def F.CLU_THR_STATUS_STATE : Fld := ⟨29, 3⟩
def F.CLU_THR_STATUS_STALL : Fld := ⟨28, 1⟩
def F.CLU_THR_STATUS_CMD_ERR : Fld := ⟨27, 1⟩
def F.CLU_THR_STATUS_PEND : Fld := ⟨24, 2⟩
def F.CLU_THR_STATUS_LONG : Fld := ⟨16, 4⟩
def F.CLU_THR_STATUS_PC : Fld := ⟨0, 14⟩
def F.CLU_CORE_CNT_VALUE : Fld := ⟨0, 32⟩
def F.CLU_CPQ_CFG_ACQ_TMO : Fld := ⟨0, 16⟩
def F.CLU_CPQ_CTX_BASE : Fld := ⟨8, 11⟩
def F.CLU_CPQ_OWN_HELD : Fld := ⟨31, 1⟩
def F.CLU_CPQ_OWN_ABANDONED : Fld := ⟨30, 1⟩
def F.CLU_CPQ_OWN_FORCE : Fld := ⟨29, 1⟩
def F.CLU_CPQ_OWN_GEN : Fld := ⟨20, 8⟩
def F.CLU_CPQ_OWN_MID : Fld := ⟨8, 12⟩
def F.CLU_CPQ_OWN_DEPTH : Fld := ⟨0, 7⟩
def F.CLU_CPQ_LIVE_VALID : Fld := ⟨31, 1⟩
def F.CLU_CPQ_LIVE_MID : Fld := ⟨0, 12⟩
def F.CLU_CPQ_CNT_VALUE : Fld := ⟨0, 32⟩
def F.CVU_STATUS_BUSY : Fld := ⟨31, 1⟩
def F.CVU_STATUS_LAST_VERDICT : Fld := ⟨0, 4⟩
def F.CVU_INT_DESC_UE : Fld := ⟨2, 1⟩
def F.CVU_INT_INTERNAL : Fld := ⟨1, 1⟩
def F.CVU_INT_FAIL : Fld := ⟨0, 1⟩
def F.CVU_INT_EN_EN : Fld := ⟨0, 3⟩
def F.CVU_LAST_FAIL_DATA : Fld := ⟨0, 32⟩
def F.CVU_CNT_VALUE : Fld := ⟨0, 32⟩
def F.CVU_GCFG_RUN : Fld := ⟨31, 1⟩
def F.CVU_GCFG_DROP_SET : Fld := ⟨0, 16⟩
def F.CVU_TABLE_LOG : Fld := ⟨24, 5⟩
def F.CVU_TABLE_BASE : Fld := ⟨0, 24⟩
def F.CVU_TCMD_BUSY : Fld := ⟨31, 1⟩
def F.CVU_TCMD_OP : Fld := ⟨0, 4⟩
def F.CVU_TIDX_INDEX : Fld := ⟨0, 18⟩
def F.CVU_TSTAT_RESULT : Fld := ⟨28, 4⟩
def F.CVU_TBUF_DATA : Fld := ⟨0, 32⟩
def F.CLU_SPM_CFG_MBOX_EN : Fld := ⟨31, 1⟩
def F.CLU_SPM_CFG_DMA_WARN : Fld := ⟨16, 8⟩
def F.CLU_SPM_CFG_MBOX_BASE : Fld := ⟨0, 9⟩
def F.CLU_SPM_CLEAR_ADDR : Fld := ⟨3, 16⟩
def F.CLU_SPM_CNT_VALUE : Fld := ⟨0, 32⟩
def F.MGT_VAULT_STATUS_WIPING : Fld := ⟨31, 1⟩
def F.MGT_VAULT_STATUS_RETIRED : Fld := ⟨30, 1⟩
def F.MGT_VAULT_STATUS_CAUSE : Fld := ⟨8, 4⟩
def F.MGT_VAULT_STATUS_WIPES : Fld := ⟨0, 8⟩
def F.MGT_VAULT_LOCK_PAGES : Fld := ⟨0, 32⟩
def F.MGT_VAULT_HIDE_PAGES : Fld := ⟨0, 32⟩
def F.MGT_VAULT_WIPE_GO : Fld := ⟨0, 1⟩
def F.SEM_CFG_TMO : Fld := ⟨0, 16⟩
def F.SEM_STATUS_WAITERS : Fld := ⟨0, 9⟩
def F.SEM_FORCE_INDEX : Fld := ⟨0, 13⟩
def F.SEM_ACQ_RESPONSE : Fld := ⟨0, 32⟩
def F.SEM_TRY_RESPONSE : Fld := ⟨0, 32⟩
def F.SEM_REL_ANY : Fld := ⟨0, 32⟩
def F.SEM_STATE_HELD : Fld := ⟨31, 1⟩
def F.SEM_STATE_ABANDONED : Fld := ⟨30, 1⟩
def F.SEM_STATE_EXPIRED : Fld := ⟨29, 1⟩
def F.SEM_STATE_WAITERS_8 : Fld := ⟨28, 1⟩
def F.SEM_STATE_GEN : Fld := ⟨20, 8⟩
def F.SEM_STATE_MID : Fld := ⟨8, 12⟩
def F.SEM_STATE_WAITERS : Fld := ⟨0, 8⟩
def F.SEM_RENEW_RESPONSE : Fld := ⟨0, 32⟩
def F.SEM_LEASE_CFG_TIME : Fld := ⟨0, 20⟩
def F.SEM_CNT_VALUE : Fld := ⟨0, 32⟩
def F.DMC_CH_CFG_FREEZE_TMO : Fld := ⟨0, 6⟩
def F.DMC_CH_STATUS_STATE : Fld := ⟨29, 3⟩
def F.DMC_CH_STATUS_CTRL_ERR : Fld := ⟨28, 1⟩
def F.DMC_CH_STATUS_SPEED : Fld := ⟨24, 2⟩
def F.DMC_CH_STATUS_DIMMS : Fld := ⟨20, 2⟩
def F.DMC_CH_STATUS_RANKS : Fld := ⟨16, 2⟩
def F.DMC_CH_STATUS_DENSITY : Fld := ⟨12, 1⟩
def F.DMC_CH_STATUS_CAP : Fld := ⟨0, 8⟩
def F.DMC_CH_CTRL_RETIRE : Fld := ⟨1, 1⟩
def F.DMC_CH_CTRL_THAW : Fld := ⟨0, 1⟩
def F.DMC_CH_INT_TRAIN_FAIL : Fld := ⟨4, 1⟩
def F.DMC_CH_INT_RETIRED : Fld := ⟨3, 1⟩
def F.DMC_CH_INT_TMO : Fld := ⟨2, 1⟩
def F.DMC_CH_INT_FROZEN : Fld := ⟨1, 1⟩
def F.DMC_CH_INT_CE : Fld := ⟨0, 1⟩
def F.DMC_CH_INT_EN_EN : Fld := ⟨0, 5⟩
def F.DMC_DIAG_DATA : Fld := ⟨0, 32⟩
def F.DMC_CH_CNT_VALUE : Fld := ⟨0, 32⟩
def F.DMC_MAP_CHEN : Fld := ⟨8, 8⟩
def F.DMC_MAP_MAP : Fld := ⟨0, 2⟩
def F.DMC_GSTATUS_LIVE : Fld := ⟨31, 1⟩
def F.DMC_GSTATUS_MAP_BAD : Fld := ⟨30, 1⟩
def F.DMC_GSTATUS_INSTALLED : Fld := ⟨0, 11⟩
def F.ECS_STATUS_SRAM_DONE : Fld := ⟨16, 1⟩
def F.ECS_STATUS_DRAM_DONE : Fld := ⟨8, 8⟩
def F.ECS_STATUS_BACKLOG : Fld := ⟨0, 8⟩
def F.ECS_SCRUB_CFG_MODE : Fld := ⟨30, 2⟩
def F.ECS_SCRUB_CFG_PERIOD : Fld := ⟨16, 10⟩
def F.ECS_SCRUB_CFG_RATE : Fld := ⟨0, 16⟩
def F.ECS_CFG_SUSPECT_TH : Fld := ⟨0, 8⟩
def F.ECS_INT_LAG : Fld := ⟨3, 1⟩
def F.ECS_INT_RT_FULL : Fld := ⟨2, 1⟩
def F.ECS_INT_SUSPECT : Fld := ⟨1, 1⟩
def F.ECS_INT_PASS : Fld := ⟨0, 1⟩
def F.ECS_INT_EN_EN : Fld := ⟨0, 4⟩
def F.ECS_CLEAR_ARG : Fld := ⟨0, 32⟩
def F.ECS_RT_IDX_INDEX : Fld := ⟨0, 12⟩
def F.ECS_RT_ENT_VALID : Fld := ⟨31, 1⟩
def F.ECS_RT_ENT_PAGE : Fld := ⟨0, 28⟩
def F.ECS_SP_IDX_INDEX : Fld := ⟨0, 6⟩
def F.ECS_SP_ENT_VALID : Fld := ⟨31, 1⟩
def F.ECS_SP_ENT_MEM : Fld := ⟨24, 6⟩
def F.ECS_SP_ENT_ROW : Fld := ⟨0, 17⟩
def F.ECS_SUS_IDX_INDEX : Fld := ⟨0, 6⟩
def F.ECS_SUS_DATA : Fld := ⟨0, 32⟩
def F.ECS_CNT_VALUE : Fld := ⟨0, 32⟩
def F.REC_CTRL_RUN : Fld := ⟨31, 1⟩
def F.REC_CTRL_RAFT_ID : Fld := ⟨0, 16⟩
def F.REC_CFG_FRZ_MAX : Fld := ⟨24, 8⟩
def F.REC_CFG_IO_TMO : Fld := ⟨16, 8⟩
def F.REC_CFG_FLUSH_MS : Fld := ⟨8, 8⟩
def F.REC_CFG_SEAL_MS : Fld := ⟨0, 8⟩
def F.REC_STATUS_STATE : Fld := ⟨29, 3⟩
def F.REC_STATUS_CTRL_ERR : Fld := ⟨28, 1⟩
def F.REC_STATUS_RCTL_BUSY : Fld := ⟨27, 1⟩
def F.REC_STATUS_STAGE_USED : Fld := ⟨16, 8⟩
def F.REC_STATUS_IN_FLIGHT : Fld := ⟨8, 5⟩
def F.REC_STATUS_MEMBERS : Fld := ⟨0, 7⟩
def F.REC_STAGE_COUNT : Fld := ⟨24, 8⟩
def F.REC_STAGE_BASE : Fld := ⟨0, 24⟩
def F.REC_SIG_LOG : Fld := ⟨24, 5⟩
def F.REC_SIG_BASE : Fld := ⟨0, 24⟩
def F.REC_IDX_BASE : Fld := ⟨0, 24⟩
def F.REC_RCTL_ARG : Fld := ⟨8, 6⟩
def F.REC_RCTL_OP : Fld := ⟨0, 4⟩
def F.REC_SWTRIG_SRC : Fld := ⟨0, 6⟩
def F.REC_HEAD_LSN : Fld := ⟨0, 32⟩
def F.REC_TAIL_LSN : Fld := ⟨0, 32⟩
def F.REC_DURABLE_LSN : Fld := ⟨0, 32⟩
def F.REC_SLOTS_P : Fld := ⟨0, 31⟩
def F.REC_RGN_INT_DAMAGED : Fld := ⟨16, 16⟩
def F.REC_RGN_INT_FROZEN : Fld := ⟨0, 16⟩
def F.REC_RGN_INT_EN_EN : Fld := ⟨0, 32⟩
def F.REC_NS_EN : Fld := ⟨31, 1⟩
def F.REC_NS_PORT : Fld := ⟨28, 2⟩
def F.REC_NS_NSID : Fld := ⟨0, 16⟩
def F.REC_NS_STATUS_STATE : Fld := ⟨29, 3⟩
def F.REC_NS_STATUS_ERRORS : Fld := ⟨0, 16⟩
def F.REC_TRIG_CFG_EN : Fld := ⟨31, 1⟩
def F.REC_TRIG_CFG_POST : Fld := ⟨16, 12⟩
def F.REC_TRIG_CFG_PRE : Fld := ⟨0, 16⟩
def F.REC_RGN_DATA : Fld := ⟨0, 32⟩
def F.REC_CMD_BUSY : Fld := ⟨31, 1⟩
def F.REC_CMD_RESULT : Fld := ⟨24, 4⟩
def F.REC_CMD_OP : Fld := ⟨0, 4⟩
def F.REC_ARG_DATA : Fld := ⟨0, 32⟩
def F.REC_CNT_VALUE : Fld := ⟨0, 32⟩
def F.BCN_TIME_CTRL_RUN : Fld := ⟨31, 1⟩
def F.BCN_TIME_CTRL_SET : Fld := ⟨30, 1⟩
def F.BCN_TIME_CTRL_HOLD_CLR : Fld := ⟨29, 1⟩
def F.BCN_TIME_NS_VALUE : Fld := ⟨0, 32⟩
def F.BCN_TIME_S_VALUE : Fld := ⟨0, 32⟩
def F.BCN_TIME_SET_VALUE : Fld := ⟨0, 32⟩
def F.BCN_TIME_STEP_VALUE : Fld := ⟨0, 32⟩
def F.BCN_TIME_RATE_RATE : Fld := ⟨0, 32⟩
def F.BCN_TIME_STATUS_RUNNING : Fld := ⟨31, 1⟩
def F.BCN_TIME_STATUS_HOLDOVER : Fld := ⟨30, 1⟩
def F.BCN_BCNT_VALUE : Fld := ⟨0, 32⟩
def F.BCN_SLEEP_REF_VALUE : Fld := ⟨0, 32⟩
def F.BCN_PPS_CFG_IN_EN : Fld := ⟨31, 1⟩
def F.BCN_PPS_CFG_OUT_EN : Fld := ⟨30, 1⟩
def F.BCN_PPS_CFG_OUT_QUAL : Fld := ⟨29, 1⟩
def F.BCN_PPS_CFG_WIDTH : Fld := ⟨16, 8⟩
def F.BCN_PPS_ADJ_OUT_ADJ : Fld := ⟨16, 16⟩
def F.BCN_PPS_ADJ_IN_ADJ : Fld := ⟨0, 16⟩
def F.BCN_PPS_IN_VALUE : Fld := ⟨0, 32⟩
def F.BCN_REF_CFG_MODE : Fld := ⟨0, 2⟩
def F.BCN_REF_STATUS_VALID : Fld := ⟨31, 1⟩
def F.BCN_REF_STATUS_PHASE : Fld := ⟨24, 7⟩
def F.BCN_REF_STATUS_COUNT : Fld := ⟨0, 24⟩
def F.BCN_ALARM_VALUE : Fld := ⟨0, 32⟩
def F.BCN_ALARM_CTRL_ARM : Fld := ⟨0, 2⟩
def F.BCN_VSENSE_CFG_EN : Fld := ⟨31, 1⟩
def F.BCN_VSENSE_CFG_POL : Fld := ⟨30, 1⟩
def F.BCN_VSENSE_CFG_HYST : Fld := ⟨12, 8⟩
def F.BCN_VSENSE_CFG_VTH : Fld := ⟨0, 8⟩
def F.BCN_TEMP_CFG_EN_HI : Fld := ⟨31, 1⟩
def F.BCN_TEMP_CFG_EN_LO : Fld := ⟨30, 1⟩
def F.BCN_TEMP_CFG_HI : Fld := ⟨8, 8⟩
def F.BCN_TEMP_CFG_LO : Fld := ⟨0, 8⟩
def F.BCN_SENSE_VSENSE : Fld := ⟨31, 1⟩
def F.BCN_SENSE_ISLAND : Fld := ⟨8, 8⟩
def F.BCN_SENSE_TEMP : Fld := ⟨0, 8⟩
def F.BCN_TAMPER_CFG_EN : Fld := ⟨0, 4⟩
def F.BCN_TAMPER_FIRED : Fld := ⟨0, 4⟩
def F.BCN_WAKE_CFG_HOST : Fld := ⟨16, 16⟩
def F.BCN_WAKE_CFG_EN : Fld := ⟨0, 16⟩
def F.BCN_WAKE_CAUSE_FROM : Fld := ⟨24, 3⟩
def F.BCN_WAKE_CAUSE_WITHDRAWN : Fld := ⟨17, 1⟩
def F.BCN_WAKE_CAUSE_WAKE_ASSERTED : Fld := ⟨16, 1⟩
def F.BCN_WAKE_CAUSE_CAUSES : Fld := ⟨0, 11⟩
def F.BCN_PWR_REQ_TARGET : Fld := ⟨0, 3⟩
def F.BCN_PWR_CFG_WAKE_TMO : Fld := ⟨28, 4⟩
def F.BCN_PWR_CFG_DRAIN_TMO : Fld := ⟨24, 4⟩
def F.BCN_PWR_CFG_IMG_BASE : Fld := ⟨0, 24⟩
def F.BCN_PWR_STATUS_STEP : Fld := ⟨29, 3⟩
def F.BCN_PWR_STATUS_TARGET : Fld := ⟨26, 3⟩
def F.BCN_PWR_STATUS_STAGE : Fld := ⟨23, 3⟩
def F.BCN_PWR_STATUS_FAIL : Fld := ⟨16, 4⟩
def F.BCN_INT_BITS : Fld := ⟨0, 6⟩
def F.BCN_INT_EN_BITS : Fld := ⟨0, 6⟩
def F.BCN_XING_HELD_ISLANDS : Fld := ⟨0, 32⟩
def F.BCN_CNT_VALUE : Fld := ⟨0, 32⟩
def F.MGT_BOOT_STATUS_STEP : Fld := ⟨28, 4⟩
def F.MGT_BOOT_STATUS_STATE : Fld := ⟨24, 4⟩
def F.MGT_BOOT_STATUS_SLOT : Fld := ⟨20, 2⟩
def F.MGT_BOOT_STATUS_FALLBACK : Fld := ⟨19, 1⟩
def F.MGT_BOOT_STATUS_LC : Fld := ⟨16, 3⟩
def F.MGT_BOOT_STATUS_REASON : Fld := ⟨0, 16⟩
def F.MGT_BOOT_CTRL_ERR : Fld := ⟨31, 1⟩
def F.MGT_BOOT_CTRL_RETRY : Fld := ⟨0, 1⟩
def F.MGT_BOOT_MS_MS : Fld := ⟨0, 16⟩
def F.MGT_IMG_INFO_DATA : Fld := ⟨0, 32⟩
def F.MGT_SERIAL_VALUE : Fld := ⟨0, 32⟩
def F.MGT_FUSE_SVN_VALUE : Fld := ⟨0, 32⟩
def F.MGT_LC_REQ_ERR : Fld := ⟨31, 1⟩
def F.MGT_LC_REQ_KEY : Fld := ⟨12, 1⟩
def F.MGT_LC_REQ_SLOT : Fld := ⟨8, 2⟩
def F.MGT_LC_REQ_TARGET : Fld := ⟨0, 3⟩
def F.MGT_KEY_PROG_HASH : Fld := ⟨0, 32⟩
def F.MGT_KEY_STATE_RETURN_KEY : Fld := ⟨8, 1⟩
def F.MGT_KEY_STATE_REVOKED : Fld := ⟨4, 4⟩
def F.MGT_KEY_STATE_PROGRAMMED : Fld := ⟨0, 4⟩
def F.MLK_CFG_EN : Fld := ⟨31, 1⟩
def F.MLK_CFG_TOPO : Fld := ⟨28, 2⟩
def F.MLK_CFG_DATA_SIDE : Fld := ⟨27, 1⟩
def F.MLK_CFG_TFOLLOW : Fld := ⟨26, 1⟩
def F.MLK_TIMING_BUOY : Fld := ⟨24, 8⟩
def F.MLK_TIMING_MISS : Fld := ⟨20, 4⟩
def F.MLK_TIMING_VOTE_TMO : Fld := ⟨12, 8⟩
def F.MLK_TIMING_TXN_TMO : Fld := ⟨4, 8⟩
def F.MLK_TIMING_LEAD : Fld := ⟨0, 4⟩
def F.MLK_PAIR_CFG_TAKE_ON_LOSS : Fld := ⟨31, 1⟩
def F.MLK_PAIR_CFG_PEER_EN : Fld := ⟨30, 1⟩
def F.MLK_PAIR_CFG_PEER_GPIO : Fld := ⟨24, 5⟩
def F.MLK_PAIR_CFG_HOLDOFF : Fld := ⟨8, 8⟩
def F.MLK_PAIR_CFG_HELLO_TMO : Fld := ⟨0, 8⟩
def F.MLK_STATUS_STATE : Fld := ⟨29, 3⟩
def F.MLK_STATUS_RING : Fld := ⟨28, 1⟩
def F.MLK_STATUS_COORD : Fld := ⟨27, 1⟩
def F.MLK_STATUS_CHIP : Fld := ⟨24, 3⟩
def F.MLK_STATUS_MEMBERS : Fld := ⟨16, 8⟩
def F.MLK_STATUS_LANES : Fld := ⟨0, 4⟩
def F.MLK_SIDE_STATE : Fld := ⟨29, 3⟩
def F.MLK_SIDE_PCHIP : Fld := ⟨24, 3⟩
def F.MLK_SIDE_MISSES : Fld := ⟨0, 16⟩
def F.MLK_PEER_SERIAL : Fld := ⟨0, 32⟩
def F.MLK_COORD_SERIAL : Fld := ⟨0, 32⟩
def F.MLK_TIME_VALUE : Fld := ⟨0, 32⟩
def F.MLK_PAIR_STATUS_STATE : Fld := ⟨29, 3⟩
def F.MLK_PAIR_STATUS_ROLE_PIN : Fld := ⟨28, 1⟩
def F.MLK_PAIR_STATUS_CAUSE : Fld := ⟨24, 4⟩
def F.MLK_PAIR_STATUS_PEER_FAULT : Fld := ⟨23, 1⟩
def F.MLK_PAIR_CTRL_SWAP : Fld := ⟨0, 1⟩
def F.MLK_INT_BITS : Fld := ⟨0, 7⟩
def F.MLK_INT_EN_BITS : Fld := ⟨0, 7⟩
def F.MLK_CNT_VALUE : Fld := ⟨0, 32⟩
def F.MGT_TXN_CTRL_ERR : Fld := ⟨31, 1⟩
def F.MGT_TXN_CTRL_CHAIN : Fld := ⟨8, 1⟩
def F.MGT_TXN_CTRL_OP : Fld := ⟨0, 4⟩
def F.MGT_TXN_NUM_NUM : Fld := ⟨0, 32⟩
def F.MGT_TXN_ENT_WORD : Fld := ⟨0, 32⟩
def F.MGT_TXN_STATUS_STATE : Fld := ⟨29, 3⟩
def F.MGT_TXN_STATUS_STAGE_ERR : Fld := ⟨28, 1⟩
def F.MGT_TXN_STATUS_RESULT : Fld := ⟨24, 4⟩
def F.MGT_TXN_STATUS_FAIL_INDEX : Fld := ⟨12, 12⟩
def F.MGT_TXN_COUNT_COUNT : Fld := ⟨0, 13⟩
def F.MGT_TXN_CFG_AUTO_EMPTY : Fld := ⟨31, 1⟩
def F.MGT_TXN_CFG_CHECK_TMO : Fld := ⟨0, 16⟩
def F.MGT_MODE_MIRROR_DEPTH : Fld := ⟨8, 8⟩
def F.MGT_MODE_MIRROR_PORT : Fld := ⟨0, 8⟩
def F.MGT_PROBE_PIPE : Fld := ⟨30, 2⟩
def F.MGT_PROBE_FLOW : Fld := ⟨0, 22⟩
def F.MGT_MTX_CNT_VALUE : Fld := ⟨0, 32⟩
def F.MGT_FAULT_CFG_AUTO_RESTART : Fld := ⟨31, 1⟩
def F.MGT_FAULT_CFG_TOKENS : Fld := ⟨16, 1⟩
def F.MGT_FAULT_CFG_RCV_TMO : Fld := ⟨0, 16⟩
def F.MGT_RCV_CMD_BUSY : Fld := ⟨31, 1⟩
def F.MGT_RCV_CMD_RESULT : Fld := ⟨24, 4⟩
def F.MGT_RCV_CMD_OP : Fld := ⟨0, 4⟩
def F.MGT_RCV_ARG_ARG : Fld := ⟨0, 32⟩
def F.MGT_GEN_SEL_MID : Fld := ⟨0, 12⟩
def F.MGT_GEN_LAST : Fld := ⟨8, 8⟩
def F.MGT_GEN_GEN : Fld := ⟨0, 8⟩
def F.MGT_CLU_OUT_OUT : Fld := ⟨0, 16⟩
def F.MGT_RCV_STATUS_OPEN : Fld := ⟨31, 1⟩
def F.MGT_RCV_STATUS_RUNG : Fld := ⟨28, 3⟩
def F.MGT_RCV_STATUS_PEND : Fld := ⟨23, 5⟩
def F.MGT_RCV_STATUS_SRC_UNIT : Fld := ⟨18, 5⟩
def F.MGT_RCV_STATUS_SUBJECT : Fld := ⟨0, 12⟩
def F.MGT_CORE_STATE_SPARE_USED : Fld := ⟨31, 1⟩
def F.MGT_CORE_STATE_SUBST : Fld := ⟨24, 4⟩
def F.MGT_CORE_STATE_SPARE : Fld := ⟨16, 4⟩
def F.MGT_CORE_STATE_FENCED : Fld := ⟨0, 9⟩
def F.MGT_ELOG_CTRL_VALID : Fld := ⟨31, 1⟩
def F.MGT_ELOG_CTRL_POP : Fld := ⟨30, 1⟩
def F.MGT_ELOG_CTRL_COUNT : Fld := ⟨0, 13⟩
def F.MGT_ELOG_REC_DW : Fld := ⟨0, 32⟩
def F.MGT_FLT_CNT_VALUE : Fld := ⟨0, 32⟩
def F.BCN_MGT_WD_EN : Fld := ⟨31, 1⟩
def F.BCN_MGT_WD_KICK : Fld := ⟨30, 1⟩
def F.BCN_MGT_WD_RETRIES : Fld := ⟨24, 4⟩
def F.BCN_MGT_WD_PERIOD : Fld := ⟨0, 16⟩
def F.BCN_MGT_STATUS_HEADLESS : Fld := ⟨31, 1⟩
def F.BCN_MGT_STATUS_CAUSE : Fld := ⟨28, 3⟩
def F.BCN_MGT_STATUS_ATTEMPTS : Fld := ⟨24, 4⟩
def F.BCN_MGT_STATUS_FAULT_LINES : Fld := ⟨16, 8⟩
def F.BCN_MGT_STATUS_MS : Fld := ⟨0, 16⟩
def F.HIF_HOST_CFG_RD_TMO : Fld := ⟨0, 16⟩
def F.HIF_PCIE_STATUS_LINK_UP : Fld := ⟨31, 1⟩
def F.HIF_PCIE_STATUS_WIDTH : Fld := ⟨24, 4⟩
def F.HIF_PCIE_STATUS_SPEED : Fld := ⟨20, 3⟩
def F.HIF_PCIE_STATUS_RESETS : Fld := ⟨0, 16⟩
def F.HIF_RX_MAP_LOG : Fld := ⟨16, 4⟩
def F.HIF_RX_MAP_BASE : Fld := ⟨0, 11⟩
def F.HIF_BAR4_WIN_TARGET : Fld := ⟨24, 8⟩
def F.HIF_BAR4_WIN_BASE : Fld := ⟨0, 16⟩
def F.HIF_KEEPER_BELL_ANY : Fld := ⟨0, 32⟩
def F.HIF_D2H_BELL_QUEUE : Fld := ⟨0, 11⟩
def F.HIF_INT_BITS : Fld := ⟨0, 8⟩
def F.HIF_INT_EN_BITS : Fld := ⟨0, 8⟩
def F.HIF_RC_CFG_BIFUR : Fld := ⟨0, 2⟩
def F.HIF_RC_CTRL_EN : Fld := ⟨0, 4⟩
def F.HIF_RC_MEM_BASE : Fld := ⟨0, 24⟩
def F.HIF_RC_STATUS_STATE : Fld := ⟨29, 3⟩
def F.HIF_RC_STATUS_WIDTH : Fld := ⟨24, 4⟩
def F.HIF_RC_STATUS_SPEED : Fld := ⟨20, 3⟩
def F.HIF_RC_STATUS_NSCOUNT : Fld := ⟨0, 16⟩
def F.HIF_SPIF_CMD_BUSY : Fld := ⟨31, 1⟩
def F.HIF_SPIF_CMD_RESULT : Fld := ⟨24, 4⟩
def F.HIF_SPIF_CMD_LEN : Fld := ⟨8, 9⟩
def F.HIF_SPIF_CMD_OP : Fld := ⟨0, 4⟩
def F.HIF_SPIF_ADDR_ADDR : Fld := ⟨0, 28⟩
def F.HIF_SPIF_BUF_DATA : Fld := ⟨0, 32⟩
def F.HIF_SPIT_ERR_BUSY_DROP : Fld := ⟨4, 1⟩
def F.HIF_SPIT_ERR_BAD_OP : Fld := ⟨3, 1⟩
def F.HIF_SPIT_ERR_CRC : Fld := ⟨2, 1⟩
def F.HIF_SPIT_ERR_SHORT : Fld := ⟨1, 1⟩
def F.HIF_SPIT_ERR_PARTIAL : Fld := ⟨0, 1⟩
def F.HIF_I2C_CFG_RESET : Fld := ⟨31, 1⟩
def F.HIF_I2C_CFG_RECOVER : Fld := ⟨30, 1⟩
def F.HIF_I2C_CFG_STRETCH_TMO : Fld := ⟨8, 8⟩
def F.HIF_I2C_CFG_RATE : Fld := ⟨0, 2⟩
def F.HIF_I2C_CMD_BUSY : Fld := ⟨31, 1⟩
def F.HIF_I2C_CMD_START : Fld := ⟨23, 1⟩
def F.HIF_I2C_CMD_STOP : Fld := ⟨22, 1⟩
def F.HIF_I2C_CMD_RD : Fld := ⟨21, 1⟩
def F.HIF_I2C_CMD_NBYTES : Fld := ⟨8, 6⟩
def F.HIF_I2C_CMD_ADDR : Fld := ⟨0, 7⟩
def F.HIF_I2C_DATA_LEVEL : Fld := ⟨24, 6⟩
def F.HIF_I2C_DATA_DATA : Fld := ⟨0, 8⟩
def F.HIF_I2C_STATUS_RESULT : Fld := ⟨28, 4⟩
def F.HIF_I2C_STATUS_INDEX : Fld := ⟨8, 6⟩
def F.HIF_I2C_STATUS_SDA : Fld := ⟨1, 1⟩
def F.HIF_I2C_STATUS_SCL : Fld := ⟨0, 1⟩
def F.HIF_MDIO_CFG_NOPRE : Fld := ⟨31, 1⟩
def F.HIF_MDIO_CFG_DIV : Fld := ⟨0, 8⟩
def F.HIF_MDIO_CMD_BUSY : Fld := ⟨31, 1⟩
def F.HIF_MDIO_CMD_OP : Fld := ⟨28, 3⟩
def F.HIF_MDIO_CMD_PHYAD : Fld := ⟨21, 5⟩
def F.HIF_MDIO_CMD_REG : Fld := ⟨16, 5⟩
def F.HIF_MDIO_CMD_DATA : Fld := ⟨0, 16⟩
def F.HIF_GPIO_CFG_DEB : Fld := ⟨4, 1⟩
def F.HIF_GPIO_CFG_INT : Fld := ⟨2, 2⟩
def F.HIF_GPIO_CFG_MODE : Fld := ⟨0, 2⟩
def F.HIF_GPIO_IN_PINS : Fld := ⟨0, 32⟩
def F.HIF_GPIO_OUT_PINS : Fld := ⟨0, 32⟩
def F.HIF_GPIO_INT_PINS : Fld := ⟨0, 32⟩
def F.HIF_GPIO_INT_EN_PINS : Fld := ⟨0, 32⟩
def F.HIF_CNT_VALUE : Fld := ⟨0, 32⟩
def F.GLB_DEV_FEAT_FEAT : Fld := ⟨0, 32⟩
def F.GLB_DRV_FEAT_FEAT : Fld := ⟨0, 32⟩
def F.GLB_FEAT_ACK_FEAT : Fld := ⟨0, 32⟩
def F.GLB_MODE_LOCK : Fld := ⟨11, 1⟩
def F.GLB_MODE_SPARE : Fld := ⟨10, 1⟩
def F.GLB_MODE_MIRROR : Fld := ⟨9, 1⟩
def F.GLB_MODE_LEARN : Fld := ⟨8, 1⟩
def F.GLB_MODE_STANDBY : Fld := ⟨7, 1⟩
def F.GLB_MODE_PAIR : Fld := ⟨6, 1⟩
def F.GLB_MODE_FREEZE : Fld := ⟨5, 1⟩
def F.GLB_MODE_RECORD : Fld := ⟨4, 1⟩
def F.GLB_MODE_SAFE : Fld := ⟨3, 1⟩
def F.GLB_MODE_TIMED : Fld := ⟨2, 1⟩
def F.GLB_MODE_TOTAL : Fld := ⟨1, 1⟩
def F.GLB_MODE_CUT : Fld := ⟨0, 1⟩
def F.GLB_MODE_NOTE_SPARE_PEND : Fld := ⟨4, 1⟩
def F.GLB_MODE_NOTE_MIRROR_BAD : Fld := ⟨3, 1⟩
def F.GLB_MODE_NOTE_PAIR_NOLINK : Fld := ⟨2, 1⟩
def F.GLB_MODE_NOTE_PAIR_CONFLICT : Fld := ⟨1, 1⟩
def F.GLB_MODE_NOTE_STANDBY_INERT : Fld := ⟨0, 1⟩
def F.GLB_TALLY_SNAP_GO : Fld := ⟨0, 1⟩
def F.GLB_TALLY_STATUS_BUSY : Fld := ⟨31, 1⟩
def F.GLB_TALLY_STATUS_TSKIND : Fld := ⟨30, 1⟩
def F.GLB_TALLY_STATUS_SEQ : Fld := ⟨0, 16⟩
def F.GLB_TALLY_TIME_TIME : Fld := ⟨0, 32⟩
def F.GLB_REG_CNT_VALUE : Fld := ⟨0, 32⟩
def F.MGT_AVS_CFG_EN : Fld := ⟨31, 1⟩
def F.MGT_AVS_CFG_MARGIN : Fld := ⟨16, 8⟩
def F.MGT_AVS_CFG_PAGE : Fld := ⟨8, 8⟩
def F.MGT_AVS_CFG_ADDR : Fld := ⟨0, 7⟩
def F.MGT_AVS_STATUS_OK : Fld := ⟨31, 1⟩
def F.MGT_AVS_STATUS_FAIL : Fld := ⟨30, 1⟩
def F.MGT_AVS_STATUS_SET_MV : Fld := ⟨16, 10⟩

/-- The register cards of the GLB block. -/
def cardsGLB : List Card := [
  ⟨"GLB_ID", 14, 0x0, [], 0x714410a1, 0x0, 0x0, 0x0, 0x0, 0x0, false, false, false⟩,
  ⟨"GLB_DEV_FEAT", 14, 0x10, [(2, 0x4)], 0x0, 0x0, 0x0, 0x0, 0x0, 0x0, false, false, false⟩,
  ⟨"GLB_DRV_FEAT", 14, 0x18, [(2, 0x4)], 0x0, 0xffffffff, 0x0, 0x0, 0x0, 0x0, false, false, false⟩,
  ⟨"GLB_FEAT_ACK", 14, 0x20, [(2, 0x4)], 0x0, 0x0, 0x0, 0x0, 0x0, 0x0, false, false, false⟩,
  ⟨"GLB_MODE", 14, 0x40, [], 0x0, 0xfff, 0x0, 0x0, 0x0, 0x0, true, true, true⟩,
  ⟨"GLB_MODE_NOTE", 14, 0x48, [], 0x0, 0x0, 0x0, 0x0, 0x0, 0x0, false, false, false⟩,
  ⟨"GLB_TALLY_SNAP", 14, 0x80, [], 0x0, 0x0, 0x0, 0x1, 0x0, 0x0, false, false, false⟩,
  ⟨"GLB_TALLY_STATUS", 14, 0x84, [], 0x0, 0x0, 0x0, 0x0, 0x0, 0x0, false, false, false⟩,
  ⟨"GLB_TALLY_TIME", 14, 0x88, [(2, 0x4)], 0x0, 0x0, 0x0, 0x0, 0x0, 0x0, false, false, false⟩,
  ⟨"GLB_REG_CNT", 14, 0x100, [(4, 0x8), (2, 0x4)], 0x0, 0x0, 0x0, 0x0, 0x0, 0xffffffff, false, false, false⟩]

/-- The register cards of the BCN block. -/
def cardsBCN : List Card := [
  ⟨"BCN_TIME_CTRL", 13, 0x10000, [], 0x0, 0x80000000, 0x0, 0x60000000, 0x0, 0x0, false, false, true⟩,
  ⟨"BCN_TIME_NS", 13, 0x10004, [], 0x0, 0x0, 0x0, 0x0, 0x0, 0x0, false, false, false⟩,
  ⟨"BCN_TIME_S", 13, 0x10008, [(2, 0x4)], 0x0, 0x0, 0x0, 0x0, 0x0, 0x0, false, false, false⟩,
  ⟨"BCN_TIME_SET", 13, 0x10010, [(3, 0x4)], 0x0, 0xffffffff, 0x0, 0x0, 0x0, 0x0, false, false, false⟩,
  ⟨"BCN_TIME_STEP", 13, 0x1001c, [(2, 0x4)], 0x0, 0x0, 0x0, 0xffffffff, 0x0, 0x0, false, false, false⟩,
  ⟨"BCN_TIME_RATE", 13, 0x10024, [], 0x0, 0xffffffff, 0x0, 0x0, 0x0, 0x0, false, false, false⟩,
  ⟨"BCN_TIME_STATUS", 13, 0x10028, [], 0x0, 0x0, 0x0, 0x0, 0x0, 0x0, false, false, false⟩,
  ⟨"BCN_BCNT", 13, 0x10030, [(2, 0x4)], 0x0, 0x0, 0x0, 0x0, 0x0, 0x0, false, false, false⟩,
  ⟨"BCN_SLEEP_REF", 13, 0x10038, [(4, 0x4)], 0x0, 0x0, 0x0, 0x0, 0x0, 0x0, false, false, false⟩,
  ⟨"BCN_PPS_CFG", 13, 0x10050, [], 0x20640000, 0xe0ff0000, 0x0, 0x0, 0x0, 0x0, false, false, true⟩,
  ⟨"BCN_PPS_ADJ", 13, 0x10054, [], 0x0, 0xffffffff, 0x0, 0x0, 0x0, 0x0, false, false, true⟩,
  ⟨"BCN_PPS_IN", 13, 0x10058, [(3, 0x4)], 0x0, 0x0, 0x0, 0x0, 0x0, 0x0, false, false, false⟩,
  ⟨"BCN_REF_CFG", 13, 0x10064, [], 0x0, 0x3, 0x0, 0x0, 0x0, 0x0, false, false, true⟩,
  ⟨"BCN_REF_STATUS", 13, 0x10068, [], 0x0, 0x0, 0x0, 0x0, 0x0, 0x0, false, false, false⟩,
  ⟨"BCN_ALARM", 13, 0x10080, [(2, 0x8), (2, 0x4)], 0x0, 0xffffffff, 0x0, 0x0, 0x0, 0x0, false, false, false⟩,
  ⟨"BCN_ALARM_CTRL", 13, 0x10090, [], 0x0, 0x3, 0x0, 0x0, 0x0, 0x0, false, false, false⟩,
  ⟨"BCN_VSENSE_CFG", 13, 0x10094, [], 0x0, 0xc00ff0ff, 0x0, 0x0, 0x0, 0x0, false, false, false⟩,
  ⟨"BCN_TEMP_CFG", 13, 0x10098, [], 0x800069d8, 0xc000ffff, 0x0, 0x0, 0x0, 0x0, false, false, false⟩,
  ⟨"BCN_SENSE", 13, 0x1009c, [], 0x0, 0x0, 0x0, 0x0, 0x0, 0x0, false, false, false⟩,
  ⟨"BCN_TAMPER_CFG", 13, 0x100a0, [], 0x0, 0xf, 0x0, 0x0, 0x0, 0x0, false, false, false⟩,
  ⟨"BCN_TAMPER", 13, 0x100a4, [], 0x0, 0x0, 0xf, 0x0, 0x0, 0x0, false, false, false⟩,
  ⟨"BCN_WAKE_CFG", 13, 0x100b0, [], 0x7ff, 0xffffffff, 0x0, 0x0, 0x0, 0x0, false, false, false⟩,
  ⟨"BCN_WAKE_CAUSE", 13, 0x100b4, [], 0x0, 0x0, 0x307ff, 0x0, 0x0, 0x0, false, false, false⟩,
  ⟨"BCN_PWR_REQ", 13, 0x100c0, [], 0x0, 0x7, 0x0, 0x0, 0x0, 0x0, true, false, false⟩,
  ⟨"BCN_PWR_CFG", 13, 0x100c8, [], 0xa5000000, 0xffffffff, 0x0, 0x0, 0x0, 0x0, false, false, true⟩,
  ⟨"BCN_PWR_STATUS", 13, 0x100cc, [], 0x0, 0x0, 0x0, 0x0, 0x0, 0x0, false, false, false⟩,
  ⟨"BCN_INT", 13, 0x100d0, [], 0x0, 0x0, 0x3f, 0x0, 0x0, 0x0, false, false, false⟩,
  ⟨"BCN_INT_EN", 13, 0x100d4, [], 0x0, 0x3f, 0x0, 0x0, 0x0, 0x0, false, false, false⟩,
  ⟨"BCN_XING_HELD", 13, 0x100e0, [(2, 0x4)], 0x0, 0x0, 0x0, 0x0, 0x0, 0x0, false, false, false⟩,
  ⟨"BCN_CNT", 13, 0x10100, [(9, 0x8), (2, 0x4)], 0x0, 0x0, 0x0, 0x0, 0x0, 0xffffffff, false, false, false⟩,
  ⟨"BCN_MGT_WD", 13, 0x10200, [], 0x3000032, 0x8f00ffff, 0x0, 0x40000000, 0x0, 0x0, false, false, true⟩,
  ⟨"BCN_MGT_STATUS", 13, 0x10204, [], 0x0, 0x0, 0x0, 0x0, 0x0, 0x0, false, false, false⟩]

/-- The register cards of the MGT block. -/
def cardsMGT : List Card := [
  ⟨"MGT_VAULT_STATUS", 14, 0x20800, [], 0x100, 0x0, 0x0, 0x0, 0x0, 0x0, false, false, false⟩,
  ⟨"MGT_VAULT_LOCK", 14, 0x20808, [(2, 0x4)], 0x0, 0xffffffff, 0x0, 0x0, 0x0, 0x0, false, false, false⟩,
  ⟨"MGT_VAULT_HIDE", 14, 0x20810, [(2, 0x4)], 0x0, 0xffffffff, 0x0, 0x0, 0x0, 0x0, false, false, false⟩,
  ⟨"MGT_VAULT_WIPE", 14, 0x20818, [], 0x0, 0x1, 0x0, 0x0, 0x0, 0x0, true, false, false⟩,
  ⟨"MGT_BOOT_STATUS", 14, 0x20100, [], 0x0, 0x0, 0x0, 0x0, 0x0, 0x0, false, false, false⟩,
  ⟨"MGT_BOOT_CTRL", 14, 0x20104, [], 0x0, 0x1, 0x0, 0x0, 0x0, 0x0, true, false, false⟩,
  ⟨"MGT_BOOT_MS", 14, 0x2010c, [], 0x0, 0x0, 0x0, 0x0, 0x0, 0x0, false, false, false⟩,
  ⟨"MGT_IMG_INFO", 14, 0x20110, [(2, 0x4)], 0x0, 0x0, 0x0, 0x0, 0x0, 0x0, false, false, false⟩,
  ⟨"MGT_SERIAL", 14, 0x20120, [(2, 0x4)], 0x0, 0x0, 0x0, 0x0, 0x0, 0x0, false, false, false⟩,
  ⟨"MGT_FUSE_SVN", 14, 0x20128, [], 0x0, 0x0, 0x0, 0x0, 0x0, 0x0, false, false, false⟩,
  ⟨"MGT_LC_REQ", 14, 0x20130, [], 0x0, 0x1307, 0x0, 0x0, 0x0, 0x0, true, false, false⟩,
  ⟨"MGT_KEY_PROG", 14, 0x20140, [(12, 0x4)], 0x0, 0xffffffff, 0x0, 0x0, 0x0, 0x0, false, false, false⟩,
  ⟨"MGT_KEY_STATE", 14, 0x20170, [], 0x0, 0x0, 0x0, 0x0, 0x0, 0x0, false, false, false⟩,
  ⟨"MGT_TXN_CTRL", 14, 0x20200, [], 0x0, 0x100, 0x0, 0xf, 0x0, 0x0, false, false, false⟩,
  ⟨"MGT_TXN_NUM", 14, 0x20204, [], 0x0, 0xffffffff, 0x0, 0x0, 0x0, 0x0, false, false, false⟩,
  ⟨"MGT_TXN_ENT", 14, 0x20210, [(3, 0x4)], 0x0, 0xffffffff, 0x0, 0x0, 0x0, 0x0, false, false, false⟩,
  ⟨"MGT_TXN_STATUS", 14, 0x20220, [], 0x0, 0x0, 0x0, 0x0, 0x0, 0x0, false, false, false⟩,
  ⟨"MGT_TXN_COUNT", 14, 0x20228, [], 0x0, 0x0, 0x0, 0x0, 0x0, 0x0, false, false, false⟩,
  ⟨"MGT_TXN_CFG", 14, 0x20224, [], 0x80000064, 0x8000ffff, 0x0, 0x0, 0x0, 0x0, false, false, true⟩,
  ⟨"MGT_MODE_MIRROR", 14, 0x20280, [], 0x1000, 0xffff, 0x0, 0x0, 0x0, 0x0, false, true, true⟩,
  ⟨"MGT_PROBE", 14, 0x20284, [], 0x0, 0x0, 0x0, 0xc03fffff, 0x0, 0x0, false, false, false⟩,
  ⟨"MGT_MTX_CNT", 14, 0x20300, [(9, 0x8), (2, 0x4)], 0x0, 0x0, 0x0, 0x0, 0x0, 0xffffffff, false, false, false⟩,
  ⟨"MGT_FAULT_CFG", 14, 0x20400, [], 0x80000064, 0x8001ffff, 0x0, 0x0, 0x0, 0x0, false, false, true⟩,
  ⟨"MGT_RCV_CMD", 14, 0x20408, [], 0x0, 0xf, 0x0, 0x0, 0x0, 0x0, false, false, false⟩,
  ⟨"MGT_RCV_ARG", 14, 0x2040c, [], 0x0, 0xffffffff, 0x0, 0x0, 0x0, 0x0, false, false, false⟩,
  ⟨"MGT_GEN_SEL", 14, 0x20410, [], 0x0, 0xfff, 0x0, 0x0, 0x0, 0x0, false, false, false⟩,
  ⟨"MGT_GEN", 14, 0x20414, [], 0x0, 0x0, 0x0, 0x0, 0x0, 0x0, false, false, false⟩,
  ⟨"MGT_CLU_OUT", 14, 0x20418, [], 0x0, 0x0, 0x0, 0x0, 0x0, 0x0, false, false, false⟩,
  ⟨"MGT_RCV_STATUS", 14, 0x20440, [(17, 0x4)], 0x0, 0x0, 0x0, 0x0, 0x0, 0x0, false, false, false⟩,
  ⟨"MGT_CORE_STATE", 14, 0x20490, [(16, 0x4)], 0x80000, 0x0, 0x0, 0x0, 0x0, 0x0, false, false, false⟩,
  ⟨"MGT_ELOG_CTRL", 14, 0x21000, [], 0x0, 0x0, 0x0, 0x40000000, 0x0, 0x0, false, false, false⟩,
  ⟨"MGT_ELOG_REC", 14, 0x21020, [(8, 0x4)], 0x0, 0x0, 0x0, 0x0, 0x0, 0x0, false, false, false⟩,
  ⟨"MGT_FLT_CNT", 14, 0x20500, [(10, 0x8), (2, 0x4)], 0x0, 0x0, 0x0, 0x0, 0x0, 0xffffffff, false, false, false⟩,
  ⟨"MGT_AVS_CFG", 14, 0x20600, [], 0x190000, 0x80ffff7f, 0x0, 0x0, 0x0, 0x0, false, false, true⟩,
  ⟨"MGT_AVS_STATUS", 14, 0x20604, [], 0x2ee0000, 0x0, 0x0, 0x0, 0x0, 0x0, false, false, false⟩]

/-- The register cards of the HIF block. -/
def cardsHIF : List Card := [
  ⟨"HIF_HOST_CFG", 15, 0x30000, [], 0x3e8, 0xffff, 0x0, 0x0, 0x0, 0x0, false, false, true⟩,
  ⟨"HIF_PCIE_STATUS", 15, 0x30004, [], 0x0, 0x0, 0x0, 0x0, 0x0, 0x0, false, false, false⟩,
  ⟨"HIF_RX_MAP", 15, 0x30008, [], 0x0, 0xf07ff, 0x0, 0x0, 0x0, 0x0, false, false, true⟩,
  ⟨"HIF_BAR4_WIN", 15, 0x3000c, [], 0x0, 0xff00ffff, 0x0, 0x0, 0x0, 0x0, false, false, true⟩,
  ⟨"HIF_KEEPER_BELL", 15, 0x30010, [], 0x0, 0x0, 0x0, 0xffffffff, 0x0, 0x0, false, false, false⟩,
  ⟨"HIF_D2H_BELL", 15, 0x30014, [], 0x0, 0x0, 0x0, 0x7ff, 0x0, 0x0, false, false, false⟩,
  ⟨"HIF_INT", 15, 0x30020, [], 0x0, 0x0, 0xff, 0x0, 0x0, 0x0, false, false, false⟩,
  ⟨"HIF_INT_EN", 15, 0x30024, [], 0x0, 0xff, 0x0, 0x0, 0x0, 0x0, false, false, false⟩,
  ⟨"HIF_RC_CFG", 15, 0x30100, [], 0x0, 0x3, 0x0, 0x0, 0x0, 0x0, true, false, true⟩,
  ⟨"HIF_RC_CTRL", 15, 0x30108, [], 0x0, 0xf, 0x0, 0x0, 0x0, 0x0, false, false, true⟩,
  ⟨"HIF_RC_MEM", 15, 0x3010c, [], 0x0, 0xffffff, 0x0, 0x0, 0x0, 0x0, false, false, true⟩,
  ⟨"HIF_RC_STATUS", 15, 0x30110, [(4, 0x4)], 0x0, 0x0, 0x0, 0x0, 0x0, 0x0, false, false, false⟩,
  ⟨"HIF_SPIF_CMD", 15, 0x30200, [], 0x0, 0x1ff0f, 0x0, 0x0, 0x0, 0x0, false, false, false⟩,
  ⟨"HIF_SPIF_ADDR", 15, 0x30204, [], 0x0, 0xfffffff, 0x0, 0x0, 0x0, 0x0, false, false, false⟩,
  ⟨"HIF_SPIF_BUF", 15, 0x30300, [(64, 0x4)], 0x0, 0xffffffff, 0x0, 0x0, 0x0, 0x0, false, false, false⟩,
  ⟨"HIF_SPIT_ERR", 15, 0x30400, [], 0x0, 0x0, 0x1f, 0x0, 0x0, 0x0, false, false, false⟩,
  ⟨"HIF_I2C_CFG", 15, 0x30500, [(4, 0x20)], 0x1900, 0xff03, 0x0, 0xc0000000, 0x0, 0x0, false, false, true⟩,
  ⟨"HIF_I2C_CMD", 15, 0x30504, [(4, 0x20)], 0x0, 0xe03f7f, 0x0, 0x0, 0x0, 0x0, false, false, false⟩,
  ⟨"HIF_I2C_DATA", 15, 0x30508, [(4, 0x20)], 0x0, 0xff, 0x0, 0x0, 0x0, 0x0, false, false, false⟩,
  ⟨"HIF_I2C_STATUS", 15, 0x3050c, [(4, 0x20)], 0x0, 0x0, 0x0, 0x0, 0x0, 0x0, false, false, false⟩,
  ⟨"HIF_MDIO_CFG", 15, 0x30600, [(2, 0x10)], 0xc7, 0x800000ff, 0x0, 0x0, 0x0, 0x0, false, false, true⟩,
  ⟨"HIF_MDIO_CMD", 15, 0x30604, [(2, 0x10)], 0x0, 0x73ffffff, 0x0, 0x0, 0x0, 0x0, false, false, false⟩,
  ⟨"HIF_GPIO_CFG", 15, 0x30700, [(32, 0x4)], 0x0, 0x1f, 0x0, 0x0, 0x0, 0x0, false, false, true⟩,
  ⟨"HIF_GPIO_IN", 15, 0x30780, [], 0x0, 0x0, 0x0, 0x0, 0x0, 0x0, false, false, false⟩,
  ⟨"HIF_GPIO_OUT", 15, 0x30784, [], 0x0, 0xffffffff, 0x0, 0x0, 0x0, 0x0, false, false, true⟩,
  ⟨"HIF_GPIO_INT", 15, 0x30788, [], 0x0, 0x0, 0xffffffff, 0x0, 0x0, 0x0, false, false, false⟩,
  ⟨"HIF_GPIO_INT_EN", 15, 0x3078c, [], 0x0, 0xffffffff, 0x0, 0x0, 0x0, 0x0, false, false, false⟩,
  ⟨"HIF_CNT", 15, 0x30800, [(9, 0x8), (2, 0x4)], 0x0, 0x0, 0x0, 0x0, 0x0, 0xffffffff, false, false, false⟩]

/-- The register cards of the MLK block. -/
def cardsMLK : List Card := [
  ⟨"MLK_CFG", 16, 0x40000, [], 0x0, 0xbc000000, 0x0, 0x0, 0x0, 0x0, false, false, true⟩,
  ⟨"MLK_TIMING", 16, 0x40004, [], 0xa50a144, 0xffffffff, 0x0, 0x0, 0x0, 0x0, false, true, true⟩,
  ⟨"MLK_PAIR_CFG", 16, 0x40008, [], 0x214, 0xdf00ffff, 0x0, 0x0, 0x0, 0x0, false, true, true⟩,
  ⟨"MLK_STATUS", 16, 0x40010, [], 0x0, 0x0, 0x0, 0x0, 0x0, 0x0, false, false, false⟩,
  ⟨"MLK_SIDE", 16, 0x40020, [(2, 0x4)], 0x0, 0x0, 0x0, 0x0, 0x0, 0x0, false, false, false⟩,
  ⟨"MLK_PEER", 16, 0x40030, [(2, 0x8), (2, 0x4)], 0x0, 0x0, 0x0, 0x0, 0x0, 0x0, false, false, false⟩,
  ⟨"MLK_COORD", 16, 0x40040, [(2, 0x4)], 0x0, 0x0, 0x0, 0x0, 0x0, 0x0, false, false, false⟩,
  ⟨"MLK_TIME", 16, 0x40050, [(2, 0x8), (2, 0x4)], 0x0, 0x0, 0x0, 0x0, 0x0, 0x0, false, false, false⟩,
  ⟨"MLK_PAIR_STATUS", 16, 0x40060, [], 0x0, 0x0, 0x0, 0x0, 0x0, 0x0, false, false, false⟩,
  ⟨"MLK_PAIR_CTRL", 16, 0x40068, [], 0x0, 0x1, 0x0, 0x0, 0x0, 0x0, true, false, false⟩,
  ⟨"MLK_INT", 16, 0x40070, [], 0x0, 0x0, 0x7f, 0x0, 0x0, 0x0, false, false, false⟩,
  ⟨"MLK_INT_EN", 16, 0x40074, [], 0x0, 0x7f, 0x0, 0x0, 0x0, 0x0, false, false, false⟩,
  ⟨"MLK_CNT", 16, 0x40100, [(16, 0x8), (2, 0x4)], 0x0, 0x0, 0x0, 0x0, 0x0, 0xffffffff, false, false, false⟩]

/-- The register cards of the SEM block. -/
def cardsSEM : List Card := [
  ⟨"SEM_CFG", 9, 0x50000, [], 0x1f4, 0xffff, 0x0, 0x0, 0x0, 0x0, false, false, true⟩,
  ⟨"SEM_STATUS", 9, 0x50004, [], 0x0, 0x0, 0x0, 0x0, 0x0, 0x0, false, false, false⟩,
  ⟨"SEM_FORCE", 9, 0x50008, [], 0x0, 0x0, 0x0, 0x1fff, 0x0, 0x0, false, false, false⟩,
  ⟨"SEM_ACQ", 9, 0x58000, [(4160, 0x4)], 0x0, 0x0, 0x0, 0x0, 0x0, 0x0, false, false, false⟩,
  ⟨"SEM_TRY", 9, 0x60000, [(4160, 0x4)], 0x0, 0x0, 0x0, 0x0, 0x0, 0x0, false, false, false⟩,
  ⟨"SEM_REL", 9, 0x68000, [(4160, 0x4)], 0x0, 0x0, 0x0, 0xffffffff, 0x0, 0x0, false, false, false⟩,
  ⟨"SEM_STATE", 9, 0x70000, [(4160, 0x4)], 0x0, 0x0, 0x0, 0x0, 0x0, 0x0, false, false, false⟩,
  ⟨"SEM_RENEW", 9, 0x78000, [(64, 0x4)], 0x0, 0x0, 0x0, 0x0, 0x0, 0x0, false, false, false⟩,
  ⟨"SEM_LEASE_CFG", 9, 0x78100, [(64, 0x4)], 0x2710, 0xfffff, 0x0, 0x0, 0x0, 0x0, false, true, true⟩,
  ⟨"SEM_CNT", 9, 0x79000, [(7, 0x8), (2, 0x4)], 0x0, 0x0, 0x0, 0x0, 0x0, 0xffffffff, false, false, false⟩]

/-- The register cards of the ODS block. -/
def cardsODS : List Card := [
  ⟨"ODS_CFG", 5, 0x80000, [], 0xa01f4, 0xc0ffffff, 0x0, 0x0, 0x0, 0x0, false, true, true⟩,
  ⟨"ODS_STORE", 5, 0x80004, [], 0x4013, 0x7ffff1f, 0x0, 0x0, 0x0, 0x0, true, false, true⟩,
  ⟨"ODS_FLOWMEM", 5, 0x8000c, [], 0x0, 0x7ff, 0x0, 0x0, 0x0, 0x0, true, false, true⟩,
  ⟨"ODS_SPILL", 5, 0x80014, [], 0x0, 0x80ffffff, 0x0, 0x0, 0x0, 0x0, false, false, true⟩,
  ⟨"ODS_STATUS", 5, 0x80018, [], 0x0, 0x0, 0x0, 0x0, 0x0, 0x0, false, false, false⟩,
  ⟨"ODS_OLD_LIVE", 5, 0x8001c, [], 0x0, 0x0, 0x0, 0x0, 0x0, 0x0, false, false, false⟩,
  ⟨"ODS_INT", 5, 0x80020, [], 0x0, 0x0, 0xff, 0x0, 0x0, 0x0, false, false, false⟩,
  ⟨"ODS_INT_EN", 5, 0x80024, [], 0x0, 0xff, 0x0, 0x0, 0x0, 0x0, false, false, false⟩,
  ⟨"ODS_DRAIN", 5, 0x80030, [(5, 0x4)], 0x0, 0x0, 0xffffffff, 0x0, 0x0, 0x0, false, false, false⟩,
  ⟨"ODS_GROUP", 5, 0x80100, [(64, 0x4)], 0x1, 0xff, 0x0, 0x0, 0x0, 0x0, false, true, true⟩,
  ⟨"ODS_DLIST", 5, 0x80200, [(16, 0x4)], 0x80000000, 0x8000000f, 0x0, 0x0, 0x0, 0x0, false, true, true⟩,
  ⟨"ODS_NODE_A", 5, 0x80400, [(64, 0x4)], 0x0, 0xffffffff, 0x0, 0x0, 0x0, 0x0, false, true, true⟩,
  ⟨"ODS_NODE_B", 5, 0x80500, [(64, 0x4)], 0x0, 0xfffffc00, 0x0, 0x0, 0x0, 0x0, false, true, true⟩,
  ⟨"ODS_NODE_C", 5, 0x80600, [(64, 0x4)], 0x0, 0xffffffff, 0x0, 0x0, 0x0, 0x0, false, true, true⟩,
  ⟨"ODS_TSEL", 5, 0x80800, [], 0x0, 0xfff, 0x0, 0x0, 0x0, 0x0, false, false, false⟩,
  ⟨"ODS_TCFG", 5, 0x80804, [], 0x80000004, 0x8000000f, 0x0, 0x0, 0x0, 0x0, false, true, true⟩,
  ⟨"ODS_TGMASK", 5, 0x80808, [(2, 0x4)], 0xffffffff, 0xffffffff, 0x0, 0x0, 0x0, 0x0, false, true, true⟩,
  ⟨"ODS_TUSE", 5, 0x80810, [], 0x0, 0x0, 0x0, 0x0, 0x0, 0x0, false, false, false⟩,
  ⟨"ODS_CLU_HOLD", 5, 0x80900, [(16, 0x4)], 0x240, 0x3ff, 0x0, 0x0, 0x0, 0x0, false, true, true⟩,
  ⟨"ODS_QCFG", 5, 0x81000, [(1024, 0x4)], 0xf0000000, 0xffffffff, 0x0, 0x0, 0x0, 0x0, false, true, true⟩,
  ⟨"ODS_QDEPTH", 5, 0x82000, [(1024, 0x4)], 0x0, 0x0, 0x0, 0x0, 0x0, 0x0, false, false, false⟩,
  ⟨"ODS_CNT", 5, 0x83000, [(20, 0x8), (2, 0x4)], 0x0, 0x0, 0x0, 0x0, 0x0, 0xffffffff, false, false, false⟩]

/-- The register cards of the PRS block. -/
def cardsPRS : List Card := [
  ⟨"PRS_CFG", 2, 0x100000, [], 0x0, 0x77ff, 0x0, 0x0, 0x0, 0x0, false, true, true⟩,
  ⟨"PRS_STATUS", 2, 0x100010, [], 0x0, 0x0, 0x0, 0x0, 0x0, 0x0, false, false, false⟩,
  ⟨"PRS_PORT_CFG", 2, 0x100100, [(144, 0x4)], 0x0, 0x77ff, 0x0, 0x0, 0x0, 0x0, false, true, true⟩,
  ⟨"PRS_PROF_CTRL", 2, 0x100400, [(8, 0x8)], 0x0, 0xffff0007, 0x0, 0x0, 0x0, 0x0, true, true, true⟩,
  ⟨"PRS_PROF_MISS", 2, 0x100480, [(8, 0x4)], 0x0, 0xcfffffff, 0x0, 0x0, 0x0, 0x0, false, true, true⟩,
  ⟨"PRS_PROF_SPREAD", 2, 0x1004c0, [(8, 0x4)], 0x0, 0x3ffff, 0x0, 0x0, 0x0, 0x0, false, true, true⟩,
  ⟨"PRS_SPREAD_KEY", 2, 0x100500, [(11, 0x4)], 0x0, 0xffffffff, 0x0, 0x0, 0x0, 0x0, false, true, true⟩,
  ⟨"PRS_EXC_ACT", 2, 0x100544, [(15, 0x4)], 0x0, 0xcfffffff, 0x0, 0x0, 0x0, 0x0, false, true, true⟩,
  ⟨"PRS_TCMD", 2, 0x100600, [], 0x0, 0x1f0f, 0x0, 0x0, 0x0, 0x0, false, true, true⟩,
  ⟨"PRS_TIDX", 2, 0x100604, [], 0x0, 0x37ffff, 0x0, 0x0, 0x0, 0x0, false, false, false⟩,
  ⟨"PRS_TSTAT", 2, 0x100608, [], 0x0, 0x0, 0x0, 0x0, 0x0, 0x0, false, false, false⟩,
  ⟨"PRS_TBUF", 2, 0x100640, [(16, 0x4)], 0x0, 0xffffffff, 0x0, 0x0, 0x0, 0x0, false, false, false⟩,
  ⟨"PRS_CNT", 2, 0x100800, [(11, 0x8), (2, 0x4)], 0x0, 0x0, 0x0, 0x0, 0x0, 0xffffffff, false, false, false⟩,
  ⟨"PRS_EXC_CNT", 2, 0x100908, [(15, 0x8), (2, 0x4)], 0x0, 0x0, 0x0, 0x0, 0x0, 0xffffffff, false, false, false⟩]

/-- The register cards of the FTE block. -/
def cardsFTE : List Card := [
  ⟨"FTE_CFG", 3, 0x200000, [], 0x0, 0xffc00000, 0x0, 0x0, 0x0, 0x0, false, true, true⟩,
  ⟨"FTE_LTYPE", 3, 0x200004, [], 0x0, 0x1f1f1f1f, 0x0, 0x0, 0x0, 0x0, false, true, true⟩,
  ⟨"FTE_AGE_CFG", 3, 0x200008, [], 0x812c103c, 0xffff1fff, 0x0, 0x0, 0x0, 0x0, false, true, true⟩,
  ⟨"FTE_STATUS", 3, 0x200010, [], 0x0, 0x0, 0x0, 0x0, 0x0, 0x0, false, false, false⟩,
  ⟨"FTE_INT", 3, 0x200018, [], 0x0, 0x0, 0xff, 0x0, 0x0, 0x0, false, false, false⟩,
  ⟨"FTE_INT_EN", 3, 0x20001c, [], 0x0, 0xff, 0x0, 0x0, 0x0, 0x0, false, false, false⟩,
  ⟨"FTE_LAYOUT", 3, 0x200040, [(10, 0x8)], 0x0, 0xffff0000, 0x0, 0x0, 0x0, 0x0, true, true, true⟩,
  ⟨"FTE_RMAC", 3, 0x200100, [(16, 0x8), (2, 0x4)], 0x0, 0xffffffff, 0x0, 0x0, 0x0, 0x0, false, true, true⟩,
  ⟨"FTE_MLK_MAP", 3, 0x200180, [(8, 0x4)], 0x20000, 0x301ff, 0x0, 0x0, 0x0, 0x0, false, true, true⟩,
  ⟨"FTE_LPM4_SHORT", 3, 0x2001a0, [], 0x0, 0x0, 0x0, 0x0, 0x0, 0x0, false, false, false⟩,
  ⟨"FTE_LPM6_SHORT", 3, 0x2001a4, [(2, 0x4)], 0x0, 0x0, 0x0, 0x0, 0x0, 0x0, false, false, false⟩,
  ⟨"FTE_PORT_CFG", 3, 0x200200, [(145, 0x4)], 0xc00101fe, 0xffff03ff, 0x0, 0x0, 0x0, 0x0, false, true, true⟩,
  ⟨"FTE_PORT_LEARN", 3, 0x200500, [(144, 0x4)], 0x0, 0xffff, 0x0, 0x0, 0x0, 0x0, false, true, true⟩,
  ⟨"FTE_TCMD", 3, 0x200800, [], 0x0, 0x1f0f, 0x0, 0x0, 0x0, 0x0, false, true, true⟩,
  ⟨"FTE_TIDX", 3, 0x200804, [], 0x0, 0x37ffff, 0x0, 0x0, 0x0, 0x0, false, false, false⟩,
  ⟨"FTE_TSTAT", 3, 0x200808, [], 0x0, 0x0, 0x0, 0x0, 0x0, 0x0, false, false, false⟩,
  ⟨"FTE_TBUF", 3, 0x200840, [(32, 0x4)], 0x0, 0xffffffff, 0x0, 0x0, 0x0, 0x0, false, false, false⟩,
  ⟨"FTE_LNQ", 3, 0x200900, [(4, 0x4)], 0x0, 0x0, 0x0, 0x0, 0x0, 0x0, false, false, false⟩,
  ⟨"FTE_LNQ_CTRL", 3, 0x200910, [], 0x0, 0x0, 0x0, 0x40000000, 0x0, 0x0, false, false, false⟩,
  ⟨"FTE_CNT", 3, 0x200a00, [(26, 0x8), (2, 0x4)], 0x0, 0x0, 0x0, 0x0, 0x0, 0xffffffff, false, false, false⟩]

/-- The register cards of the BPM block. -/
def cardsBPM : List Card := [
  ⟨"BPM_STATUS", 4, 0x300010, [], 0x0, 0x0, 0x0, 0x0, 0x0, 0x0, false, false, false⟩,
  ⟨"BPM_INT", 4, 0x300040, [(8, 0x4)], 0x0, 0x0, 0x3f, 0x0, 0x0, 0x0, false, false, false⟩,
  ⟨"BPM_INT_EN", 4, 0x300060, [(8, 0x4)], 0x0, 0x3f, 0x0, 0x0, 0x0, 0x0, false, false, false⟩,
  ⟨"BPM_POOL_SIZE", 4, 0x300100, [(8, 0x40)], 0x0, 0xe00707ff, 0x0, 0x0, 0x0, 0x0, true, true, true⟩,
  ⟨"BPM_POOL_BASE", 4, 0x300108, [(8, 0x40)], 0x0, 0xfffffff, 0x0, 0x0, 0x0, 0x0, true, false, true⟩,
  ⟨"BPM_POOL_COUNT", 4, 0x300110, [(8, 0x40)], 0x0, 0x1fffffff, 0x0, 0x0, 0x0, 0x0, true, false, true⟩,
  ⟨"BPM_POOL_RING", 4, 0x300118, [(8, 0x40)], 0x0, 0x1fffffff, 0x0, 0x0, 0x0, 0x0, true, false, true⟩,
  ⟨"BPM_POOL_META", 4, 0x300120, [(8, 0x40)], 0x0, 0xffffffff, 0x0, 0x0, 0x0, 0x0, true, false, true⟩,
  ⟨"BPM_POOL_LEVEL", 4, 0x300128, [(8, 0x40)], 0x40200808, 0xffffffff, 0x0, 0x0, 0x0, 0x0, false, true, true⟩,
  ⟨"BPM_POOL_ACT", 4, 0x30012c, [(8, 0x40)], 0x40000000, 0xc000ffff, 0x0, 0x0, 0x0, 0x0, false, true, true⟩,
  ⟨"BPM_POOL_RESV", 4, 0x300130, [(8, 0x40)], 0x0, 0x1fffffff, 0x0, 0x0, 0x0, 0x0, false, true, true⟩,
  ⟨"BPM_POOL_FREE", 4, 0x300134, [(8, 0x40)], 0x0, 0x0, 0x0, 0x0, 0x0, 0x0, false, false, false⟩,
  ⟨"BPM_POOL_RUSED", 4, 0x300138, [(8, 0x40)], 0x0, 0x0, 0x0, 0x0, 0x0, 0x0, false, false, false⟩,
  ⟨"BPM_POOL_PMASK", 4, 0x300400, [(8, 0x20), (5, 0x4)], 0x0, 0xffffffff, 0x0, 0x0, 0x0, 0x0, false, true, true⟩,
  ⟨"BPM_QSEL", 4, 0x300600, [], 0x0, 0x70fff, 0x0, 0x0, 0x0, 0x0, false, false, false⟩,
  ⟨"BPM_QUOTA", 4, 0x300604, [], 0x0, 0xffffffff, 0x0, 0x0, 0x0, 0x0, false, true, true⟩,
  ⟨"BPM_QUSE", 4, 0x300608, [], 0x0, 0x0, 0x0, 0x0, 0x0, 0x0, false, false, false⟩,
  ⟨"BPM_CMD", 4, 0x300700, [], 0x0, 0xf, 0x0, 0x0, 0x0, 0x0, false, false, false⟩,
  ⟨"BPM_CARG", 4, 0x300704, [(4, 0x4)], 0x0, 0xffffffff, 0x0, 0x0, 0x0, 0x0, false, false, false⟩,
  ⟨"BPM_POOL_CNT", 4, 0x300800, [(8, 0x40), (8, 0x8), (2, 0x4)], 0x0, 0x0, 0x0, 0x0, 0x0, 0xffffffff, false, false, false⟩,
  ⟨"BPM_CNT", 4, 0x300a00, [(11, 0x8), (2, 0x4)], 0x0, 0x0, 0x0, 0x0, 0x0, 0xffffffff, false, false, false⟩]

/-- The register cards of the CVU block. -/
def cardsCVU : List Card := [
  ⟨"CVU_STATUS", 7, 0x400000, [(32, 0x8000)], 0x0, 0x0, 0x0, 0x0, 0x0, 0x0, false, false, false⟩,
  ⟨"CVU_INT", 7, 0x400010, [(32, 0x8000)], 0x0, 0x0, 0x7, 0x0, 0x0, 0x0, false, false, false⟩,
  ⟨"CVU_INT_EN", 7, 0x400014, [(32, 0x8000)], 0x0, 0x7, 0x0, 0x0, 0x0, 0x0, false, false, false⟩,
  ⟨"CVU_LAST_FAIL", 7, 0x400020, [(32, 0x8000), (2, 0x4)], 0x0, 0x0, 0x0, 0x0, 0x0, 0x0, false, false, false⟩,
  ⟨"CVU_CNT", 7, 0x400100, [(32, 0x8000), (13, 0x8), (2, 0x4)], 0x0, 0x0, 0x0, 0x0, 0x0, 0xffffffff, false, false, false⟩,
  ⟨"CVU_GCFG", 7, 0x404000, [], 0x80fc, 0x8000ffff, 0x0, 0x0, 0x0, 0x0, false, true, true⟩,
  ⟨"CVU_TABLE", 7, 0x404008, [], 0x0, 0x1fffffff, 0x0, 0x0, 0x0, 0x0, true, true, true⟩,
  ⟨"CVU_TCMD", 7, 0x404020, [], 0x0, 0xf, 0x0, 0x0, 0x0, 0x0, false, true, true⟩,
  ⟨"CVU_TIDX", 7, 0x404024, [], 0x0, 0x3ffff, 0x0, 0x0, 0x0, 0x0, false, false, false⟩,
  ⟨"CVU_TSTAT", 7, 0x404028, [], 0x0, 0x0, 0x0, 0x0, 0x0, 0x0, false, false, false⟩,
  ⟨"CVU_TBUF", 7, 0x404040, [(8, 0x4)], 0x0, 0xffffffff, 0x0, 0x0, 0x0, 0x0, false, false, false⟩]

/-- The register cards of the REC block. -/
def cardsREC : List Card := [
  ⟨"REC_CTRL", 12, 0x500000, [], 0x0, 0x8000ffff, 0x0, 0x0, 0x0, 0x0, false, false, true⟩,
  ⟨"REC_CFG", 12, 0x500004, [], 0x400a0a64, 0xffffffff, 0x0, 0x0, 0x0, 0x0, false, false, true⟩,
  ⟨"REC_STATUS", 12, 0x500008, [], 0x0, 0x0, 0x0, 0x0, 0x0, 0x0, false, false, false⟩,
  ⟨"REC_STAGE", 12, 0x500010, [], 0x0, 0xffffffff, 0x0, 0x0, 0x0, 0x0, true, false, true⟩,
  ⟨"REC_SIG", 12, 0x500018, [], 0x0, 0x1fffffff, 0x0, 0x0, 0x0, 0x0, true, false, true⟩,
  ⟨"REC_IDX", 12, 0x500020, [], 0x0, 0xffffff, 0x0, 0x0, 0x0, 0x0, true, false, true⟩,
  ⟨"REC_RCTL", 12, 0x500028, [], 0x0, 0x3f0f, 0x0, 0x0, 0x0, 0x0, true, false, true⟩,
  ⟨"REC_SWTRIG", 12, 0x500030, [], 0x0, 0x0, 0x0, 0x3f, 0x0, 0x0, false, false, false⟩,
  ⟨"REC_HEAD", 12, 0x500040, [(2, 0x4)], 0x0, 0x0, 0x0, 0x0, 0x0, 0x0, false, false, false⟩,
  ⟨"REC_TAIL", 12, 0x500048, [(2, 0x4)], 0x0, 0x0, 0x0, 0x0, 0x0, 0x0, false, false, false⟩,
  ⟨"REC_DURABLE", 12, 0x500050, [(2, 0x4)], 0x0, 0x0, 0x0, 0x0, 0x0, 0x0, false, false, false⟩,
  ⟨"REC_SLOTS", 12, 0x500058, [], 0x0, 0x0, 0x0, 0x0, 0x0, 0x0, false, false, false⟩,
  ⟨"REC_RGN_INT", 12, 0x500060, [], 0x0, 0x0, 0xffffffff, 0x0, 0x0, 0x0, false, false, false⟩,
  ⟨"REC_RGN_INT_EN", 12, 0x500064, [], 0x0, 0xffffffff, 0x0, 0x0, 0x0, 0x0, false, false, false⟩,
  ⟨"REC_NS", 12, 0x500100, [(64, 0x4)], 0x0, 0xb000ffff, 0x0, 0x0, 0x0, 0x0, false, false, true⟩,
  ⟨"REC_NS_STATUS", 12, 0x500200, [(64, 0x4)], 0x0, 0x0, 0x0, 0x0, 0x0, 0x0, false, false, false⟩,
  ⟨"REC_TRIG_CFG", 12, 0x500400, [(64, 0x4)], 0x80640258, 0x8fffffff, 0x0, 0x0, 0x0, 0x0, false, false, true⟩,
  ⟨"REC_RGN", 12, 0x500800, [(16, 0x40), (16, 0x4)], 0x0, 0x0, 0x0, 0x0, 0x0, 0x0, false, false, false⟩,
  ⟨"REC_CMD", 12, 0x500c00, [], 0x0, 0xf, 0x0, 0x0, 0x0, 0x0, false, false, true⟩,
  ⟨"REC_ARG", 12, 0x500c40, [(16, 0x4)], 0x0, 0xffffffff, 0x0, 0x0, 0x0, 0x0, false, false, false⟩,
  ⟨"REC_CNT", 12, 0x500d00, [(17, 0x8), (2, 0x4)], 0x0, 0x0, 0x0, 0x0, 0x0, 0xffffffff, false, false, false⟩]

/-- The register cards of the DMC block. -/
def cardsDMC : List Card := [
  ⟨"DMC_CH_CFG", 10, 0x600000, [(8, 0x20000)], 0x32, 0x3f, 0x0, 0x0, 0x0, 0x0, false, true, true⟩,
  ⟨"DMC_CH_STATUS", 10, 0x600004, [(8, 0x20000)], 0x0, 0x0, 0x0, 0x0, 0x0, 0x0, false, false, false⟩,
  ⟨"DMC_CH_CTRL", 10, 0x600008, [(8, 0x20000)], 0x0, 0x3, 0x0, 0x0, 0x0, 0x0, true, false, false⟩,
  ⟨"DMC_CH_INT", 10, 0x600010, [(8, 0x20000)], 0x0, 0x0, 0x1f, 0x0, 0x0, 0x0, false, false, false⟩,
  ⟨"DMC_CH_INT_EN", 10, 0x600014, [(8, 0x20000)], 0x0, 0x1f, 0x0, 0x0, 0x0, 0x0, false, false, false⟩,
  ⟨"DMC_DIAG", 10, 0x600020, [(8, 0x20000), (7, 0x4)], 0x0, 0x0, 0x0, 0x0, 0x0, 0x0, false, false, false⟩,
  ⟨"DMC_CH_CNT", 10, 0x600100, [(8, 0x20000), (10, 0x8), (2, 0x4)], 0x0, 0x0, 0x0, 0x0, 0x0, 0xffffffff, false, false, false⟩,
  ⟨"DMC_MAP", 10, 0x610000, [], 0x0, 0xff03, 0x0, 0x0, 0x0, 0x0, true, false, true⟩,
  ⟨"DMC_GSTATUS", 10, 0x610008, [], 0x0, 0x0, 0x0, 0x0, 0x0, 0x0, false, false, false⟩]

/-- The register cards of the ECS block. -/
def cardsECS : List Card := [
  ⟨"ECS_STATUS", 11, 0x700000, [], 0x0, 0x0, 0x0, 0x0, 0x0, 0x0, false, false, false⟩,
  ⟨"ECS_SCRUB_CFG", 11, 0x700004, [], 0x40180000, 0xc3ffffff, 0x0, 0x0, 0x0, 0x0, false, true, true⟩,
  ⟨"ECS_CFG", 11, 0x700008, [], 0x10, 0xff, 0x0, 0x0, 0x0, 0x0, false, false, true⟩,
  ⟨"ECS_INT", 11, 0x700010, [], 0x0, 0x0, 0xf, 0x0, 0x0, 0x0, false, false, false⟩,
  ⟨"ECS_INT_EN", 11, 0x700014, [], 0x0, 0xf, 0x0, 0x0, 0x0, 0x0, false, false, false⟩,
  ⟨"ECS_CLEAR", 11, 0x700020, [(2, 0x4)], 0x0, 0x0, 0x0, 0xffffffff, 0x0, 0x0, false, false, false⟩,
  ⟨"ECS_RT_IDX", 11, 0x700040, [], 0x0, 0xfff, 0x0, 0x0, 0x0, 0x0, false, false, false⟩,
  ⟨"ECS_RT_ENT", 11, 0x700044, [], 0x0, 0x8fffffff, 0x0, 0x0, 0x0, 0x0, true, true, true⟩,
  ⟨"ECS_SP_IDX", 11, 0x700050, [], 0x0, 0x3f, 0x0, 0x0, 0x0, 0x0, false, false, false⟩,
  ⟨"ECS_SP_ENT", 11, 0x700054, [], 0x0, 0xbf01ffff, 0x0, 0x0, 0x0, 0x0, true, true, true⟩,
  ⟨"ECS_SUS_IDX", 11, 0x700060, [], 0x0, 0x3f, 0x0, 0x0, 0x0, 0x0, false, false, false⟩,
  ⟨"ECS_SUS", 11, 0x700064, [(2, 0x4)], 0x0, 0x0, 0x0, 0x0, 0x0, 0x0, false, false, false⟩,
  ⟨"ECS_CNT", 11, 0x700100, [(7, 0x8), (2, 0x4)], 0x0, 0x0, 0x0, 0x0, 0x0, 0xffffffff, false, false, false⟩]

/-- The register cards of the PX block. -/
def cardsPX : List Card := [
  ⟨"PX_PORT_MODE", 1, 0x800000, [(144, 0x4000)], 0x0, 0x3f, 0x0, 0x0, 0x0, 0x0, true, true, true⟩,
  ⟨"PX_PORT_CTRL", 1, 0x800008, [(144, 0x4000)], 0x100145f2, 0x1fff7fff, 0x0, 0x8000, 0x0, 0x0, false, true, true⟩,
  ⟨"PX_PORT_STATUS", 1, 0x80000c, [(144, 0x4000)], 0x0, 0x0, 0x0, 0x0, 0x0, 0x0, false, false, false⟩,
  ⟨"PX_PORT_PAUSE", 1, 0x800010, [(144, 0x4000)], 0x200b64, 0x1ffffff, 0x0, 0x0, 0x0, 0x0, false, true, true⟩,
  ⟨"PX_PORT_PTP", 1, 0x800014, [(144, 0x4000)], 0x38, 0x3f, 0x0, 0x0, 0x0, 0x0, false, false, true⟩,
  ⟨"PX_PORT_TS_ADJ", 1, 0x800018, [(144, 0x4000)], 0x0, 0xffffffff, 0x0, 0x0, 0x0, 0x0, false, false, true⟩,
  ⟨"PX_PORT_INT", 1, 0x80001c, [(144, 0x4000)], 0x0, 0x0, 0x7f, 0x0, 0x0, 0x0, false, false, false⟩,
  ⟨"PX_PORT_INT_EN", 1, 0x800020, [(144, 0x4000)], 0x0, 0x7f, 0x0, 0x0, 0x0, 0x0, false, false, false⟩,
  ⟨"PX_PORT_TSQ_TAG", 1, 0x800024, [(144, 0x4000)], 0x0, 0x0, 0x0, 0x40000000, 0x0, 0x0, false, false, false⟩,
  ⟨"PX_PORT_TSQ_TIME", 1, 0x800028, [(144, 0x4000), (2, 0x4)], 0x0, 0x0, 0x0, 0x0, 0x0, 0x0, false, false, false⟩,
  ⟨"PX_PORT_SA", 1, 0x800030, [(144, 0x4000), (2, 0x4)], 0x0, 0xffffffff, 0x0, 0x0, 0x0, 0x0, false, false, true⟩,
  ⟨"PX_PORT_CNT", 1, 0x800100, [(144, 0x4000), (17, 0x8), (2, 0x4)], 0x0, 0x0, 0x0, 0x0, 0x0, 0xffffffff, false, false, false⟩,
  ⟨"PX_GRP_QUAD", 1, 0xa40000, [(12, 0x1000)], 0x0, 0x7, 0x0, 0x0, 0x0, 0x0, true, true, true⟩,
  ⟨"PX_GRP_CTRL", 1, 0xa40008, [(12, 0x1000)], 0x0, 0x80ffffff, 0x0, 0x0, 0x0, 0x0, false, false, true⟩]

/-- The register cards of the CLU block. -/
def cardsCLU : List Card := [
  ⟨"CLU_KEEPER", 6, 0xc00100, [(16, 0x40000)], 0x0, 0xf, 0x0, 0x0, 0x0, 0x0, false, true, true⟩,
  ⟨"CLU_FAULT_AREA", 6, 0xc00104, [(16, 0x40000)], 0x7f000, 0x7ffe0, 0x0, 0x0, 0x0, 0x0, false, false, true⟩,
  ⟨"CLU_DBG", 6, 0xc00108, [(16, 0x40000)], 0x0, 0x1, 0x0, 0x0, 0x0, 0x0, false, false, true⟩,
  ⟨"CLU_FAULT_PEND", 6, 0xc00110, [(16, 0x40000), (3, 0x4)], 0x0, 0x0, 0xffffffff, 0x0, 0x0, 0x0, false, false, false⟩,
  ⟨"CLU_CORE_SLOT", 6, 0xc01000, [(16, 0x40000), (9, 0x100), (4, 0x4)], 0xfedcba98, 0xffffffff, 0x0, 0x0, 0x0, 0x0, false, true, true⟩,
  ⟨"CLU_THR_CTRL", 6, 0xc01020, [(16, 0x40000), (9, 0x100), (8, 0x4)], 0x0, 0x3fff, 0x0, 0xe0000000, 0x0, 0x0, false, false, false⟩,
  ⟨"CLU_THR_STATUS", 6, 0xc01040, [(16, 0x40000), (9, 0x100), (8, 0x4)], 0x0, 0x0, 0x0, 0x0, 0x0, 0x0, false, false, false⟩,
  ⟨"CLU_CORE_CNT", 6, 0xc01080, [(16, 0x40000), (9, 0x100), (5, 0x8), (2, 0x4)], 0x0, 0x0, 0x0, 0x0, 0x0, 0xffffffff, false, false, false⟩,
  ⟨"CLU_CPQ_CFG", 6, 0xc00200, [(16, 0x40000)], 0x1f4, 0xffff, 0x0, 0x0, 0x0, 0x0, false, true, true⟩,
  ⟨"CLU_CPQ_CTX", 6, 0xc00204, [(16, 0x40000)], 0x6c000, 0x7ff00, 0x0, 0x0, 0x0, 0x0, false, false, true⟩,
  ⟨"CLU_CPQ_OWN", 6, 0xc00210, [(16, 0x40000), (4, 0x4)], 0x0, 0x0, 0x0, 0x20000000, 0x0, 0x0, false, false, false⟩,
  ⟨"CLU_CPQ_LIVE", 6, 0xc00220, [(16, 0x40000), (4, 0x4)], 0x0, 0x0, 0x0, 0x0, 0x0, 0x0, false, false, false⟩,
  ⟨"CLU_CPQ_CNT", 6, 0xc00240, [(16, 0x40000), (4, 0x40), (6, 0x8), (2, 0x4)], 0x0, 0x0, 0x0, 0x0, 0x0, 0xffffffff, false, false, false⟩,
  ⟨"CLU_SPM_CFG", 6, 0xc00400, [(16, 0x40000)], 0x80100000, 0x80ff01ff, 0x0, 0x0, 0x0, 0x0, false, false, true⟩,
  ⟨"CLU_SPM_CLEAR", 6, 0xc00404, [(16, 0x40000)], 0x0, 0x0, 0x0, 0x7fff8, 0x0, 0x0, false, false, false⟩,
  ⟨"CLU_SPM_CNT", 6, 0xc00440, [(16, 0x40000), (6, 0x8), (2, 0x4)], 0x0, 0x0, 0x0, 0x0, 0x0, 0xffffffff, false, false, false⟩]

/-- Whether `rel` is the offset of some instance under the given (count, stride) list. -/
def dimsHit : List (Nat × Nat) → Nat → Bool
  | [], rel => rel == 0
  | (n, st) :: ds, rel => decide (rel / st < n) && dimsHit ds (rel % st)

/-- Whether the card defines the BAR0 offset `off` (its address A, not A + 4). -/
def Card.hit (c : Card) (off : Nat) : Bool := decide (c.base ≤ off) && dimsHit c.dims (off - c.base)

/-- The cards of the block that owns a BAR0 offset (R710). -/
def cardsFor (off : Nat) : List Card :=

  if off < 0x10000 then cardsGLB else
  if off < 0x20000 then cardsBCN else
  if off < 0x30000 then cardsMGT else
  if off < 0x40000 then cardsHIF else
  if off < 0x50000 then cardsMLK else
  if off < 0x80000 then cardsSEM else
  if off < 0x100000 then cardsODS else
  if off < 0x200000 then cardsPRS else
  if off < 0x300000 then cardsFTE else
  if off < 0x400000 then cardsBPM else
  if off < 0x500000 then cardsCVU else
  if off < 0x600000 then cardsREC else
  if off < 0x700000 then cardsDMC else
  if off < 0x800000 then cardsECS else
  if off < 0xc00000 then cardsPX else
  if off < 0x1000000 then cardsCLU else
  []

/-- The card that defines an offset; none for a reserved offset (R10). -/
def cardAt (off : Nat) : Option Card := (cardsFor off).find? (·.hit off)

/-- The guarded card whose complement address A + 4 is `off` (R700). -/
def complementCard (off : Nat) : Option Card := (cardsFor off).find? (fun c => c.guard && (decide (4 ≤ off)) && c.hit (off - 4))

/-- The reset value of the register at an offset (R8); 0 for a reserved offset. -/
def cardReset (off : Nat) : BitVec 32 :=
  match cardAt off with
  | some c => BitVec.ofNat 32 c.reset
  | none => 0

end Sys2Proof.Machine
end

