-- ==== Sys2Proof/Machine/State.lean ====
section
/-! DEFINITION. The state of the device as plain data: one structure per block, the register values, the memories, the
error queues, the generations, and the queue of waiting commands; the state after reset; faults and refusals. -/
namespace Sys2Proof.Machine
open Sys2Proof

/-- Sparse data by key: keys strictly rising, and no entry equal to what an unlisted key reads as (`SMap.wf`). -/
abbrev SMap (α : Type) := List (Nat × α)

/-- A token (R33): the 512-bit record, field by field; reserved bits are 0 (R34). -/
structure Token where
  id : BitVec 19 := 0
  epoch : BitVec 8 := 0
  ctype : BitVec 4 := 0
  flow : BitVec 22 := 0
  node : BitVec 6 := 0
  cls : BitVec 3 := 0
  its : W64 := 0
  handle : W32 := 0
  cresult : W32 := 0
  length : BitVec 16 := 0
  inport : BitVec 8 := 0
  egress : BitVec 10 := 0
  seq : BitVec 24 := 0
  verdict : BitVec 4 := 0
  tapf : BitVec 2 := 0
  owner : BitVec 12 := 0
  gen : BitVec 8 := 0
  scratch : BitVec 224 := 0
  deriving DecidableEq, Repr

/-- An error record (R57) as a unit queues it; OVF is set when MGT takes it (R62). -/
structure ErrRec where
  code : BitVec 16 := 0
  sev : BitVec 3 := 0
  akind : BitVec 3 := 0
  ovf : Bool := false
  tskind : Bool := false
  gen : BitVec 8 := 0
  unit : BitVec 5 := 0
  inst : BitVec 8 := 0
  mid : BitVec 12 := 0
  ts : W64 := 0
  addr : W64 := 0
  d0 : W32 := 0
  d1 : W32 := 0
  deriving DecidableEq, Repr

/-- One unit's error queue (R62, R63): its 16 slots, oldest first, its lost-record counter, whether OVF is due, its
direct fault line to MGT, the signals of severity 2 and above so far, and the code of a record of severity 4 that MGT has yet to
take (R643). -/
structure ErrUnit where
  q : List ErrRec := []
  lost : W64 := 0
  ovf : Bool := false
  line : Bool := false
  signals : Nat := 0
  chip : Option Nat := none
  deriving DecidableEq, Repr

/-- The rate limit of one code and scope (R736): the clock at the last record, and the events since it. -/
structure RateCell where
  last : Option Nat := none
  since : Nat := 0
  deriving DecidableEq, Repr

/-- A pending first write of a guarded pair (R700, R701), with the clock at which it came. -/
structure GuardPend where
  off : Nat := 0
  value : W32 := 0
  mid : Nat := 0
  gen : BitVec 8 := 0
  since : Nat := 0
  deriving DecidableEq, Repr

/-- PTP-domain time (R518), the Beacon counter (R525) and the islands' elapsed clock in BCN cycles of 4 ns. -/
structure TimeSt where
  secs : BitVec 48 := 0
  ns : Nat := 0
  frac : Nat := 0
  bcnt : W64 := 0
  phase : Nat := 0
  clock : Nat := 0
  deriving DecidableEq, Repr

/-- The snapshot in progress (R706): its instant and the counts as they stood then. -/
structure SnapSt where
  instant : W64 := 0
  beacon : Bool := false
  counts : SMap W64 := []
  deriving DecidableEq, Repr

/-- A field-signal sample that PRS takes from a frame (R113, R114): identifier, sample, quality. -/
structure Tap where
  sig : BitVec 24 := 0
  sample : BitVec 20 := 0
  qual : BitVec 4 := 0
  deriving DecidableEq, Repr

/-- A token on its way between the front-end units: its frame bytes until BPM has placed them, its admission count
(R213), the ingress port whose frame's end PX has yet to receive (R78), whether that end proved bad, the sideband queue
and member (R130), the taps not yet offered (R116), and the outer layer stack
(R103): types and offsets. -/
structure Flight where
  tok : Token := {}
  frame : List Byte := []
  adm : BitVec 12 := 0
  cut : Option Nat := none
  bad : Bool := false
  queue : Option Nat := none
  member : Option Nat := none
  taps : List Tap := []
  layers : List (Nat × Nat) := []
  deriving DecidableEq, Repr

/-- One front-end pipeline (R25): the admissions granted to PRS; the cells injected on it; the tokens standing before
BPM, FTE and ODS, oldest first; the epoch of the last MARK that passed PRS and FTE (R131, R174); the last admission
count (R213); and the source after the one served last (R98). -/
structure PipeSt where
  grants : List (Nat × BitVec 12) := []
  cells : List Flight := []
  toTap : List Flight := []
  toBpm : List Flight := []
  toFte : List Flight := []
  toOds : List Flight := []
  prsEpoch : BitVec 8 := 0
  fteEpoch : BitVec 8 := 0
  adm : BitVec 12 := 0
  rr : Nat := 0
  deriving DecidableEq, Repr

/-- What stands in a port's receive FIFO: a frame without its FCS, with its timestamp, still to end or not; or a FLUSH
cell, with its slot and admission count once ODS has admitted it (R75, R80); and the side of the Molma link from which
MLK took it (R575). -/
structure RxItem where
  flush : Bool := false
  cell : Option (Nat × BitVec 12) := none
  bytes : List Byte := []
  its : W64 := 0
  cut : Bool := false
  side : Nat := 0
  deriving DecidableEq, Repr

/-- A token that ODS has handed to a port (R81), with the ingress port whose frame's end is still to come, and whether
that frame proved bad (R78). -/
structure EgTok where
  tok : Token := {}
  cut : Option Nat := none
  bad : Bool := false
  deriving DecidableEq, Repr

/-- An entry of a port's timestamp queue (R88). -/
structure TsEnt where
  domain : BitVec 8 := 0
  msg : BitVec 4 := 0
  seqId : BitVec 16 := 0
  time : W64 := 0
  deriving DecidableEq, Repr

/-- One port (R68 to R92): its receive FIFO; its egress queue, oldest first; the frame in transmission and the bytes
launched last; the timestamp queue; the FIFO's pause request; the classes of the last pause frame sent and the classes
the partner has paused are in registers; whether a cut frame is still being received, the
bytes passed on, and its slot, taps and timestamp with its good end (R78, R116); whether DOWN_HOLD runs; and what
pause auto-negotiation allows (bit 0 to send, bit 1 to honour). -/
structure PortSt where
  rxq : List RxItem := []
  epq : List EgTok := []
  sending : Option EgTok := none
  wire : List Byte := []
  tsq : List TsEnt := []
  fifoPause : Bool := false
  sentPause : Nat := 0
  cutting : Bool := false
  cutLen : Nat := 0
  cutId : Option Nat := none
  cutTaps : List Tap := []
  cutIts : W64 := 0
  cutOk : Bool := false
  hold : Bool := false
  anPause : Nat := 3
  deriving DecidableEq, Repr

/-- An item of a pipeline's learning queue (R153): a flush request for a port (R157), or a learning message with the
second at which it was raised (R152). -/
structure LearnMsg where
  flush : Bool := false
  port : Nat := 0
  mac : Nat := 0
  vid : Nat := 0
  now : Nat := 0
  deriving DecidableEq, Repr

/-- FTE (R150 to R160): the learning queues by pipeline; the MLK receive queue; the recent filters by pipeline, each key
with the clock at which it entered; the keys the scanner asks to delete and the second of its last pass; the engine's next
source in turn (0 to 3 the pipelines, 4 MLK, 5 the scanner); the ports under flush; the notifications; the messages that
wait for MLK to pack them, with the clock of the first (R579). -/
structure FteSt where
  q : SMap (List LearnMsg) := []
  mlkRx : List (W64 × W64) := []
  recent : SMap (List (Nat × Nat)) := []
  aging : List Nat := []
  passed : Nat := 0
  turn : Nat := 0
  flushing : List Nat := []
  lnq : List (W64 × W64) := []
  tx : List (W64 × W64) := []
  txSince : Nat := 0
  deriving DecidableEq, Repr

/-- An operation held while its pool is frozen (R200): the code of R189, the requester, and its arguments. -/
structure BpmHeld where
  op : Nat := 0
  mid : Nat := 0
  gen : BitVec 8 := 0
  handle : W32 := 0
  arg : Nat := 0
  deriving DecidableEq, Repr

/-- One pool's store (R184, R202): ring head and fill in handles, the cache with the next handle first, the levels held
(bit 0 WARN, 1 HOLD, 2 SHED), and the operations held while frozen. -/
structure PoolSt where
  head : Nat := 0
  fill : Nat := 0
  cache : List W32 := []
  levels : Nat := 0
  held : List BpmHeld := []
  deriving DecidableEq, Repr

/-- A thread's quota in one pool (R197). -/
structure QuotaSt where
  quota : Nat := 0
  borrowMax : Nat := 0
  held : Nat := 0
  borrowed : Nat := 0
  deriving DecidableEq, Repr

/-- BPM: pools, quotas by MID × 8 + pool. -/
structure BpmSt where
  pools : SMap PoolSt := []
  quotas : SMap QuotaSt := []
  deriving DecidableEq, Repr

/-- Where a token rests in ODS (R214 to R243): with its forming unit; on a ready queue; on a lock's wait list; waiting
for the frame's end before a WHOLE node; in a thread's window slot; waiting for its predecessors; on a delay list; on
release lists; waiting for the frame's end before a CUT release (R605); or as a TIMER cell for its thread. -/
inductive Place where
  | forming
  | queue (q : Nat)
  | lockWait (f : Nat)
  | wholeWait (q : Nat)
  | window (mid slot : Nat)
  | ordered
  | listed (l i : Nat)
  | release
  | endWait
  | timerFor (mid : Nat)
  deriving DecidableEq, Repr

/-- A slot of the token store with the private state beside it (R210): the token as ODS holds it; where it rests; its
order domain, 2^20 + INPORT under TOTAL, else the lock index; the queue it came from; whether it holds its flow lock;
whether it has visited a WHOLE node; the ingress port whose frame's end is still to come, and whether that frame proved
bad; the clock at which it was done; the delay-list entry reserved for it; whether it is discarded when its turn comes;
the destinations still to be handed a copy; whether claims were shared (R196, R603); whether it is a mirror copy; and
whether its body is spilled (R215). -/
structure Slot where
  used : Bool := false
  tok : Token := {}
  place : Place := .forming
  pipe : Nat := 4
  adm : BitVec 12 := 0
  dom : Option Nat := none
  fromQ : Nat := 0
  lock : Bool := false
  whole : Bool := false
  cut : Option Nat := none
  bad : Bool := false
  doneAt : Nat := 0
  timed : Option (Nat × Nat) := none
  disc : Bool := false
  refs : Nat := 0
  shared : Bool := false
  copy : Bool := false
  spilled : Bool := false
  deriving DecidableEq, Repr

/-- A control cell that found the store full (R212): its kind in the order of admission (0 MARK and ABORT, 1 FLUSH,
2 FREEZE, 3 PROBE, 4 TIMER, 5 SOFT), the token, its pipeline or port or list, and its entry. -/
structure HeldCell where
  kind : Nat := 0
  tok : Token := {}
  at_ : Nat := 0
  ent : Nat := 0
  deriving DecidableEq, Repr

/-- A flow lock (R229 to R231): its holder's slot, and its waiters, first to come first. -/
structure LockSt where
  holder : Option Nat := none
  waiters : List Nat := []
  deriving DecidableEq, Repr

/-- An order domain (R234, R235): the next SEQ to give, the next-out, the done tokens that wait, and the SEQs whose
tokens ended without waiting here. -/
structure DomSt where
  next : BitVec 24 := 0
  out : BitVec 24 := 0
  wait : List Nat := []
  gone : List (BitVec 24) := []
  deriving DecidableEq, Repr

/-- A copy on a port's release list (R237, R239): the slot, the token as that member sends it, and its place in the order
in which copies entered release (R253). -/
structure RelEnt where
  id : Nat := 0
  ord : Nat := 0
  tok : Token := {}
  deriving DecidableEq, Repr

/-- What a delay-list entry holds (R242 to R246): nothing; a reservation of a token not yet out of order restoration; a
token; or a timer. -/
inductive DlKind where
  | none | reserved | token | timer
  deriving DecidableEq, Repr

/-- A delay-list entry: its absolute tick, its place among entries of one tick, its tag, the MID that armed it, the
token's slot, or the timer's node, flow, cookie and target, and whether it counted late already. -/
structure DlEnt where
  kind : DlKind := .none
  tick : Nat := 0
  order : Nat := 0
  tag : BitVec 4 := 0
  mid : Nat := 0
  id : Nat := 0
  node : BitVec 6 := 0
  flow : BitVec 22 := 0
  cookie : W32 := 0
  target : Bool := false
  late : Bool := false
  deriving DecidableEq, Repr

/-- A cluster's dispatcher (R222): the group it visits, whether the visit has started, and the lane served last of each
level, as bits by group and level. -/
structure DispSt where
  group : Nat := 0
  started : Bool := false
  lanes : SMap Bool := []
  deriving DecidableEq, Repr

/-- A put, SOFT or TIMER that ODS stalls (R249): the operation, the requester and its operands. -/
structure StalledOp where
  op : Nat := 0
  mid : Nat := 0
  gen : BitVec 8 := 0
  slot : Nat := 0
  a : Nat := 0
  b : Nat := 0
  c : Nat := 0
  deriving DecidableEq, Repr

/-- A drain wanted for a port (R252): the clock at which the FLUSH cell came. -/
structure DrainWait where
  port : Nat := 0
  since : Nat := 0
  deriving DecidableEq, Repr

/-- ODS: the token store, the five allocation pointers, the held cells, the 1,024 ready queues and the queues held over
XOFF, the deficits by cluster × 64 + group, the dispatchers, the flow locks, the order domains, the release lists by
port (144 the MLK member, 145 the host path, 146 FREEZE cells for REC), the 16 delay lists by list × 65,536 + entry with
the placing count, the count of copies that entered release, the waiting GETs in order, the stalled operations, the copies of a MARK or ABORT seen, the epoch live
beside the current one, the drains wanted, and the threads' settings by MID. -/
structure OdsSt where
  slots : SMap Slot := []
  ptrs : SMap Nat := []
  held : List HeldCell := []
  queues : SMap (List Nat) := []
  past : SMap Bool := []
  deficit : SMap Nat := []
  disp : SMap DispSt := []
  locks : SMap LockSt := []
  doms : SMap DomSt := []
  rel : SMap (List RelEnt) := []
  dl : SMap DlEnt := []
  dlTags : SMap (BitVec 4 × Nat) := []
  placed : Nat := 0
  relSeq : Nat := 0
  gets : List (Nat × BitVec 8) := []
  stalls : List StalledOp := []
  marks : List Flight := []
  liveNew : Option (BitVec 8) := none
  drains : List DrainWait := []
  tcfg : SMap W32 := []
  tgmask : SMap W64 := []
  throttled : Nat := 0
  deriving DecidableEq, Repr

/-- What a short unit still does for a thread (R300): the values it writes into result ports, by socket; an LSU0 access in
a form at a local address, or the bytes it stores; a MAC overflow of an accumulator, with its bundle
and whether it raises event 2 (R312). -/
inductive ShortEff where
  | ports (outs : List (Nat × W40))
  | load (form addr : Nat)
  | store (addr : Nat) (bytes : List Byte)
  | ovf (n pc : Nat) (ev : Bool)
  deriving DecidableEq, Repr

/-- An operation in progress on a short unit: the unit's socket base, the core cycle from which its result is visible, and
its effect. -/
structure ShortOp where
  unit : Nat := 0
  due : Nat := 0
  eff : ShortEff := .ports []
  deriving DecidableEq, Repr

/-- An operation in progress on a long unit (R301): the unit's socket base, its opcode, its operands, the sockets of the
ports its result goes to, the results once the unit that serves it has answered, and whether it was answered with an
error response (R325). -/
structure LongOp where
  unit : Nat := 0
  op : Nat := 0
  o0 : W40 := 0
  o1 : W40 := 0
  o2 : W40 := 0
  o3 : W40 := 0
  t : W40 := 0
  ports : List Nat := []
  res : Option (List W40) := none
  err : Bool := false
  deriving DecidableEq, Repr

/-- A control transfer that is pending (R287): the delay bundles still to issue, its target, and what acts on the return
stack or on IE when it takes effect. -/
inductive XferKind where
  | jump | call (ret : Nat) | ret | rfi
  deriving DecidableEq, Repr

/-- A pending control transfer. -/
structure Xfer where
  left : Nat := 2
  target : Nat := 0
  kind : XferKind := .jump
  deriving DecidableEq, Repr

/-- A bundle fetched ahead (R338): its index, its 128 bits once IF2 has read it (R355), and the core cycle in which it can
issue at the earliest. -/
structure Fetch where
  idx : Nat := 0
  bits : Option Nat := none
  due : Nat := 0
  deriving DecidableEq, Repr

/-- A line of a window cache (R318): its number in the buffer, its bytes, and which of them are written, as bits. -/
structure WinLine where
  line : Nat := 0
  data : List Byte := []
  dirty : Nat := 0
  deriving DecidableEq, Repr

/-- A write of a loop register that takes no part yet in loop checks (R293): the checks it still waits for, the socket, the
value. -/
structure LoopWr where
  left : Nat := 2
  sock : Nat := 0
  val : Nat := 0
  deriving DecidableEq, Repr

/-- A thread (R259, R359): its STATE as CLU_THR_STATUS codes it; CMD_ERR; whether a STEP is due; whether the next bundle
skips the BRK test (R362); the bundles fetched ahead; general registers, operand, result and unit state ports by socket;
the predicates P1 to P7 as bits; the loop registers as loop checks see them, and the writes that take no part yet; the
pending transfers; the return stack, top first; whether the next bundle sets IE (R351); the accumulators; the operations
in progress; the poisoned ports (R325); the address of a store that failed, with whether it is physical; the tokens in
its window by slot, as slot of the store + 1, and the window cache of each slot; the reservation, as its block and the
core cycle at which it expires (R327); and the tags of the completions of event 4, oldest first. -/
structure ThreadSt where
  st : Nat := 0
  cmdErr : Bool := false
  step : Bool := false
  skipBrk : Bool := false
  fq : List Fetch := []
  sock : SMap W40 := []
  preds : Nat := 0
  loops : SMap Nat := []
  loopWr : List LoopWr := []
  xfers : List Xfer := []
  rstack : List Nat := []
  rfi : Bool := false
  acc0 : BitVec 48 := 0
  acc1 : BitVec 48 := 0
  shorts : List ShortOp := []
  longs : List LongOp := []
  poison : List Nat := []
  storeErr : Option (Nat × Bool) := none
  slots : SMap Nat := []
  wins : SMap (List WinLine) := []
  resv : Option (Nat × Nat) := none
  tags : List (BitVec 8) := []
  deriving DecidableEq, Repr

/-- A write that IWP has started (R354): cluster (16 for the management pair), the MID that started it, the byte address,
its bytes, and the core cycle in which it reaches the RAM. -/
structure IramWr where
  c : Nat := 0
  mid : Nat := 0
  addr : Nat := 0
  bytes : List Byte := []
  due : Nat := 0
  deriving DecidableEq, Repr

/-- A waiting acquire (R437): its requester, its index in no other list, and the clock at which it came. -/
structure SemWait where
  mid : Nat := 0
  gen : BitVec 8 := 0
  since : Nat := 0
  deriving DecidableEq, Repr

/-- A semaphore (R436): its owner and generation while it is held, its abandoned and expired marks, its waiters in the order
of grant, and the clock at which its lease started (R443). -/
structure SemSt where
  owner : Option (Nat × BitVec 8) := none
  abandoned : Bool := false
  expired : Bool := false
  waiters : List SemWait := []
  since : Nat := 0
  deriving DecidableEq, Repr

/-- An entry of ECS's suspect list (R471): a DRAM page, or a row of an SRAM array, with its corrected-error count. -/
structure SusEnt where
  sram : Bool := false
  mem : Nat := 0
  loc : Nat := 0
  count : Nat := 0
  deriving DecidableEq, Repr

/-- ECS (R462 to R473): the retire table and the spares by index; the suspect list; the poisoned words of packet memory, table
memory, instruction RAMs and management memories, as array code × 2^32 + word; what a row held when its spare took over, with
its poisoned words; the spares being copied; the channels that have completed the current scrub pass, and their backlogs. -/
structure EcsSt where
  retire : SMap W32 := []
  spares : SMap W32 := []
  suspects : List SusEnt := []
  bad : List Nat := []
  spareOld : SMap (List Byte) := []
  copying : List Nat := []
  passDone : List Nat := []
  backlog : SMap Nat := []
  deriving DecidableEq, Repr

/-- A write queued in a channel (R455, R456): the line, its master, the bytes written as bits, the line as it stood before, and
whether a later write merged into it. -/
structure DmcWr where
  line : Nat := 0
  mid : Nat := 0
  mask : Nat := 0
  old : List Byte := []
  merged : Bool := false
  deriving DecidableEq, Repr

/-- A read queued in a channel (R451): the line, its master and generation, and the line's bytes in the order of arrival (R455).
-/
structure DmcRd where
  line : Nat := 0
  mid : Nat := 0
  gen : BitVec 8 := 0
  data : List Byte := []
  deriving DecidableEq, Repr

/-- A DMC channel (R451, R464, R465, R469): its write and read queues, oldest first; the clock at which it froze; whether
FREEZE_TMO has passed since; the next local line of the scrubber. -/
structure DmcSt where
  wq : List DmcWr := []
  rq : List DmcRd := []
  since : Nat := 0
  tmo : Bool := false
  scrub : Nat := 0
  deriving DecidableEq, Repr

/-- What follows the completion of a failed VERIFY, or of a stream whose comparison failed (R409, R411): which it is (0
CHECK_FAIL, 1 DESC_BAD, 2 DESC_UE, 3 a PDU that could not be read, 4 STREAM_FAIL), the verdict, the connection, its
descriptor's address, the counter's low bits, the value computed, the value expected, D0 bits 63:32, and what D0 asks for. -/
structure CvuFail where
  kind : Nat := 0
  v : Nat := 0
  conn : Nat := 0
  at_ : Nat := 0
  ctr : Nat := 0
  comp : Nat := 0
  want : Nat := 0
  d0hi : Nat := 0
  msi : Bool := false
  trig : Option Nat := none
  deriving DecidableEq, Repr

/-- What a command has come to (R373, R374): r, AUX, the status, and the failure that its completion reports. -/
structure AccRes where
  r : W40 := 0
  aux : W32 := 0
  st : Nat := 0
  fail : Option CvuFail := none
  deriving DecidableEq, Repr

/-- An entry of an accelerator's queue (R370): the issuer, the form, T and o0 to o3, the token its slot held at acceptance
(R408), the result once the command has run, and whether its completion is discarded (R379). -/
structure AccCmd where
  mid : Nat := 0
  gen : BitVec 8 := 0
  fused : Bool := false
  t : W40 := 0
  o0 : W40 := 0
  o1 : W40 := 0
  o2 : W40 := 0
  o3 : W40 := 0
  tok : Option Nat := none
  res : Option AccRes := none
  drop : Bool := false
  deriving DecidableEq, Repr

/-- A CVU's live context (R411, R412): the preset, the register, the seed, the bytes absorbed. -/
structure CvuCtx where
  preset : Nat := 0
  reg : Nat := 0
  seed : Nat := 0
  count : Nat := 0
  deriving DecidableEq, Repr

/-- An accelerator (R366 to R382): its lock's owner, whether the owner has issued RELEASE, the abandoned mark, the waiting
ACQUIREs, the queue, the generation of the live context's thread, and the live context: SMX's history, or a CVU's stream. The thread it belongs to stands in
CLU_CPQ_LIVE. -/
structure AccSt where
  owner : Option (Nat × BitVec 8) := none
  releasing : Bool := false
  abandoned : Bool := false
  waiters : List SemWait := []
  q : List AccCmd := []
  liveGen : BitVec 8 := 0
  hist : List W40 := []
  ctx : Option CvuCtx := none
  deriving DecidableEq, Repr

/-- A signal record (R481): identifier, sample, quality, time. -/
structure SigRec where
  sig : BitVec 24 := 0
  sample : BitVec 20 := 0
  qual : BitVec 4 := 0
  time : W64 := 0
  deriving DecidableEq, Repr

/-- A log of the recorder, open or sealed (R486 to R489): its staging buffer, LSN and cause (once sealed), the least and
greatest record time, the time of the seal, its records; while it is open the block it fills, the bytes used and the
records there, the block's base time, the time of the last record, and the clock at the log's first record. -/
structure RecLog where
  buf : Nat := 0
  lsn : Nat := 0
  cause : Nat := 0
  tmin : Nat := 0
  tmax : Nat := 0
  tseal : Nat := 0
  records : Nat := 0
  block : Nat := 0
  used : Nat := 16
  inBlock : Nat := 0
  base : Nat := 0
  prev : Nat := 0
  opened : Nat := 0
  deriving DecidableEq, Repr

/-- A log being written (R492): its member, its slot, and the data commands still to complete. -/
structure RecFly where
  log : RecLog := {}
  n : Nat := 0
  j : Nat := 0
  left : Nat := 0
  deriving DecidableEq, Repr

/-- What a command of the recorder to a drive is for: the index block that shows a slot VALID 0; a log's data; its final
index block; a label; a Flush; a deallocation; an index area's invalidation. -/
inductive NvKind where
  | inval | data | final | label | flush | dealloc | wipe
  deriving DecidableEq, Repr

/-- An NVMe command of the recorder without completion: its member, its first byte on the namespace and its length, the
DRAM address it writes from, or the bytes it writes, the LSN it serves, and whether it has been retried (R492). -/
structure NvIo where
  n : Nat := 0
  kind : NvKind := .flush
  at_ : Nat := 0
  len : Nat := 0
  src : Nat := 0
  data : List Byte := []
  lsn : Nat := 0
  tried : Bool := false
  deriving DecidableEq, Repr

/-- REC: the ingest FIFOs by port (R479) and the port served last; the deadband curves by curve × 8 + point (R484); the
open log; the sealed logs that wait, in LSN order; the logs being written; the drive commands without completion; the
write pointers (R492) and the member served last; the slots that hold a log, as n × 2^31 + j with the LSN and the time of
its seal; the logs written but not flushed, by member and LSN, and the members with completed writes since their last
Flush (R493); the time map by unit of 100 ms (R500); the label's sequence number; the seals that wait, by region and
whether it closes (R488); the regions' FREEZE cells, as slot + 1; the members that join or leave at the next log
boundary; the operation of REC_RCTL that runs; whether a power step holds the recorder (R507); and the triggers on their way to REC (R498). -/
structure RecSt where
  fifos : SMap (List SigRec) := []
  rr : Nat := 0
  curves : SMap W64 := []
  log : Option RecLog := none
  sealed : List RecLog := []
  fly : List RecFly := []
  ios : List NvIo := []
  wp : SMap Nat := []
  last : Option Nat := none
  valid : SMap (Nat × Nat) := []
  unflushed : List (Nat × Nat) := []
  dirty : List Nat := []
  tmap : SMap (Option Nat) := []
  labelSeq : Nat := 0
  wants : List (Nat × Bool) := []
  cells : SMap Nat := []
  joining : List Nat := []
  leaving : List Nat := []
  rctl : Option (Nat × Nat) := none
  hold : Bool := false
  trigs : List Nat := []
  deriving DecidableEq, Repr

/-- A scheduled change of PTP-domain time (R519, R520): a SET to seconds and nanoseconds, or a STEP by nanoseconds. -/
inductive TimeChange where
  | set (secs : BitVec 48) (ns : Nat) | step (d : Int)
  deriving DecidableEq, Repr

/-- BCN (R515 to R547, R722 to R735): the scheduled time changes, oldest first; the clock from which a missing PPS edge is
timed, and whether PPS_MISS was recorded since; the clock until which PPS_OUT is high; whether THERM_WARN is armed; the
islands' sensor readings, signed °C in 8 bits; the shutdown of R529 and whether RESET_N has been pulsed since; what holds
FAULT_N asserted (bit 0 R548 step 1, 1 R566, 2 R645, 3 R646, 4 R723); WAKE_N driven low, and since which clock; the records
in the save area; the clock at which the current entry stage began, and whether stage E2 waits for its drain; whether the
device leaves its step; the held crossings; the
operating points from CURVE sections by island × 8 + point (MHz, mV, °C above which it is barred, signed in 8 bits), the
point each island runs at + 1, and the point + 1 that MGT wants for it; whether MGT still has to read VOUT_MODE, and whether
a failed transfer stopped its regulator writes. -/
structure BcnSt where
  changes : List TimeChange := []
  ppsFrom : Nat := 0
  ppsMissed : Bool := false
  ppsHigh : Nat := 0
  hotOff : Bool := false
  temps : SMap (Option Nat) := []
  shutdown : Bool := false
  pulsed : Bool := false
  faults : Nat := 0
  wakeN : Bool := false
  wakeSince : Nat := 0
  kept : List ErrRec := []
  stageAt : Nat := 0
  draining : Bool := false
  exiting : Bool := false
  xings : List (Nat × Nat) := []
  curve : SMap (Option (Nat × Nat × Nat)) := []
  point : SMap Nat := []
  want : SMap Nat := []
  vmodeDue : Bool := false
  avsStop : Bool := false
  deriving DecidableEq, Repr

/-- The fuses (R548, R559 to R563): the life-cycle state, the serial, the key hashes by owner slot (4 the return key), the
revoked owner slots as bits, the SVN count, and what the boot ROM writes into vault page 0. -/
structure FuseSt where
  lc : Nat := 0
  serial : W64 := 0
  keys : SMap (List Byte) := []
  revoked : Nat := 0
  svn : Nat := 0
  page0 : List Byte := []
  deriving DecidableEq, Repr

/-- An entry of the section table (R553). -/
structure Section where
  typ : Nat := 0
  off : Nat := 0
  len : Nat := 0
  dest : Nat := 0
  crc : Nat := 0
  param : Nat := 0
  deriving DecidableEq, Repr

/-- Start-up (R548 to R569): RESET_N low; the rails found low; PERST_N high; the level of PAIR_ROLE; the clocks at t0 and at the start of the
current step; the slots that failed; the image in staging: its first byte in the flash, its length, its sections, the next to apply; the features it asks
for; its SVN, whether it commits it, its key slot; the packet and table memory regions that applied sections wrote or named,
as first staging byte and length; the ENTRY half-words; the groups whose preset set TX_RELEASE; the clusters that a CODE
section names; whether GLB_DRV_FEAT was written before step 8; whether this start has failed in its current slot; whether the
clusters have been released; whether a RETRY waits for the flash controller (R567). -/
structure BootSt where
  resetLow : Bool := true
  low : Nat := 0
  perst : Bool := false
  role : Bool := false
  t0 : Nat := 0
  stepAt : Nat := 0
  tried : List Nat := []
  base : Nat := 0
  imgLen : Nat := 0
  sections : List Section := []
  next : Nat := 0
  featReq : W64 := 0
  imgSvn : Nat := 0
  svnCommit : Bool := false
  keySlot : Nat := 0
  serialBind : W64 := 0
  regions : List (Nat × Nat) := []
  entries : SMap Nat := []
  txRel : List Nat := []
  coded : Nat := 0
  drvFeat : Bool := false
  failed : Bool := false
  released : Bool := false
  retry : Bool := false
  deriving DecidableEq, Repr

/-- A Molma frame (R573): TYPE, SRC and SRC_V, DST, BCAST, HOPS, SEQ, CLASS, payload. -/
structure MlkFrame where
  typ : Nat := 0
  src : Nat := 0
  srcV : Bool := false
  dst : Nat := 0
  bcast : Bool := false
  hops : Nat := 0
  seq : Nat := 0
  cls : Nat := 0
  payload : List Byte := []
  deriving DecidableEq, Repr

/-- What a HELLO or BUOY tells (R576). -/
structure Buoy where
  serial : W64 := 0
  coord : W64 := 0
  chip : Nat := 0xFF
  members : Nat := 0
  epoch : BitVec 8 := 0
  pair : Nat := 0
  role : Bool := false
  side : Nat := 0
  mode : Nat := 0
  num : Nat := 0
  deriving DecidableEq, Repr

/-- A side of the link (R571 to R577): the frames sent without acknowledgement, oldest first; the SEQ of the next frame; the
SEQ last received in order; the resends without progress, and the clock from which ACK stands; the DATA credits held, and
those to return; whether the neighbour's HELLO has come, the clock at which HELLO began, whether HELLO_TMO was recorded; what
the neighbour told last, and the clock of its last buoy; the clock since which the epochs differ, and whether EPOCH_SPLIT was
recorded; the bytes of the frame sent last; t1 of the TIME request sent last. -/
structure MlkSide where
  unacked : List MlkFrame := []
  txSeq : Nat := 0
  rxSeq : Nat := 4095
  resends : Nat := 0
  ackFrom : Nat := 0
  credits : Nat := 512
  owed : Nat := 0
  hello : Bool := false
  helloFrom : Nat := 0
  helloTmo : Bool := false
  peer : Buoy := {}
  lastBuoy : Nat := 0
  splitFrom : Option Nat := none
  split : Bool := false
  wire : List Byte := []
  t1 : W64 := 0
  deriving DecidableEq, Repr

/-- A member in an ELECT list (R581): serial, chip index or 0xFF, sides seen as bits. -/
structure Member where
  serial : W64 := 0
  chip : Nat := 0xFF
  sides : Nat := 0
  deriving DecidableEq, Repr

/-- MLK (R570 to R593): its sides; the member list with the clock at which it last grew, and whether an election runs; the
votes READY by chip index; the number, epoch and deadline of a PREPARE that the coordinator sent; a PREPARE received and not
yet answered; the number voted READY, with the clock of the vote; the COMMIT instant that waits; the last decision, its
number and epoch; the clock of the partner's loss under TAKE_ON_LOSS; the clock at which SYNC began; the clock of the last
aborted first commit; the cause of a hand-over in progress; whether the standby looks for a hand-over missed while asleep; and the side
toward the coordinator (R591). -/
structure MlkSt where
  sides : SMap MlkSide := []
  members : List Member := []
  grewAt : Nat := 0
  electing : Bool := false
  ready : List Nat := []
  prepared : Option (W32 × BitVec 8 × Nat) := none
  asked : Option (W32 × BitVec 8) := none
  voted : Option (W32 × Nat) := none
  doubt : Bool := false
  instant : Option Nat := none
  decided : Option (W32 × BitVec 8 × Bool) := none
  holdFrom : Option Nat := none
  syncFrom : Nat := 0
  synced : Bool := false
  retryFrom : Option Nat := none
  taking : Option Nat := none
  woke : Bool := false
  coordSide : Nat := 0
  deriving DecidableEq, Repr

/-- An entry of a transaction (R608): word 0, the value, the verify mask. -/
structure TxnEnt where
  word0 : W32 := 0
  value : W32 := 0
  mask : W32 := 0
  deriving DecidableEq, Repr

/-- The transaction engine (R608 to R623): the staged entries; the commit entries held pending; the old-view stores of
registers and of memory bytes, with the epoch whose tokens read the live state; whether the transaction loads without a local
commit, and whether it is chained; the number decided last; the clock at which CHECKING began; the pipelines that have yet to
inject the MARK or ABORT cell; the RESULT that an ABORT cell's end gives; the SPARE bit that acts; whether
this transaction takes every earlier epoch as the old one (R622). -/
structure TxnSt where
  entries : List TxnEnt := []
  pend : List TxnEnt := []
  oldRegs : SMap (Option W32) := []
  oldMem : SMap (Option Byte) := []
  viewNew : Option (BitVec 8) := none
  load : Bool := false
  chain : Bool := false
  lastNum : Option W32 := none
  checkSince : Nat := 0
  inject : List Nat := []
  ender : Nat := 0
  spare : Bool := false
  anyOld : Bool := false
  deriving DecidableEq, Repr

/-- A recovery (R630 to R633): its rung, whether it is on the unit path, the fault's unit, its subject, severity and code, and
the clock at which it opened. -/
structure RcvJob where
  rung : Nat := 0
  unitPath : Bool := false
  unit : Nat := 0
  subject : Nat := 0
  sev : Nat := 0
  code : Nat := 0
  since : Nat := 0
  deriving DecidableEq, Repr

/-- MGT's fault handling (R62, R630 to R653): the error log, oldest first, and whether OVF is due in it; the unit served last;
the open recovery and the queue of each recoverer; the clock of the last KICK; the clock of the first loss of the management
pair, the clock of its last takedown, and whether its restart runs; the clock of a chip fault; the clock at which a READMIT
was accepted; the clusters whose last record named their instruction RAM; the masters whose reset or abandonment the running command
awaits; the code of a fault that has reached rung 3; the fault-line signals before the device went headless. -/
structure RcvSt where
  elog : List ErrRec := []
  elogOvf : Bool := false
  rr : Nat := 0
  open_ : SMap (Option RcvJob) := []
  queues : SMap (List RcvJob) := []
  kick : Nat := 0
  lostAt : Nat := 0
  downAt : Nat := 0
  restarting : Bool := false
  noReturn : Bool := false
  chipAt : Option Nat := none
  readmit : Option (Nat × Nat) := none
  iramBad : List Nat := []
  waits : List Nat := []
  chipDue : Option Nat := none
  lineBase : Nat := 0
  deriving DecidableEq, Repr

/-- A completion of a host read (R660): data, Completer Abort, or Unsupported Request. -/
inductive Completion where
  | data (bytes : List Byte) | abort | unsupported
  deriving DecidableEq, Repr

/-- A host read without completion (R660): its BAR, its offset there, and the clock at which it came. -/
structure HostRd where
  bar : Nat := 0
  off : Nat := 0
  since : Nat := 0
  deriving DecidableEq, Repr

/-- A host memory write that a posted entry or a copied frame makes is a write to the memory `host`. HIF (R658 to R675): the
MSI-X table by word of the vector's 4, the function's enable and mask, the pending bits, the messages sent by vector; the host
reads without completion, the last completion; the queue blocks by queue × 8 + word. -/
structure HifSt where
  table : SMap W32 := []
  msixEn : Bool := false
  msixMask : Bool := false
  pba : SMap Bool := []
  sent : SMap Nat := []
  reads : List HostRd := []
  last : Option Completion := none
  queues : SMap W32 := []
  deriving DecidableEq, Repr

/-- The SPI target's held result (R680): STATUS, SEQ, data. -/
structure SpitRes where
  status : Nat := 6
  seq : Nat := 0
  data : W32 := 0
  deriving DecidableEq, Repr

/-- An I2C controller (R682 to R684): its FIFO, whether its bus is stuck, the bytes of a read that wait for the transfer's
end. -/
structure I2cSt where
  fifo : List Byte := []
  stuck : Bool := false
  deriving DecidableEq, Repr

/-- The low-speed interfaces (R676 to R687): the flash's size in bytes (0 where SFDP finds none), its status register and the erase
types it offers (bit 0 4 KiB, bit 1 64 KiB); the operation that runs: op, address, length; the SPI
target's result, what the MISO of its last complete frame carried, the read that is still running (offset, clock), the WRITE frame that waits for its complement (offset, data, SEQ), and the
frames faulted since the last SPIT_FRAME record; the I2C controllers; the MDIO frames that run; the levels on the GPIO pins;
the JTAG instruction and the boundary outputs. -/
structure LowSt where
  flashSize : Nat := 0
  flashSr : BitVec 8 := 0
  flashErase : Nat := 3
  spifOp : Option (Nat × Nat × Nat) := none
  spit : SpitRes := {}
  spitMiso : SpitRes := {}
  spitBusy : Option (Nat × Nat) := none
  spitHeld : Option (Nat × W32 × Nat) := none
  i2c : SMap I2cSt := []
  pins : W32 := 0
  ir : Nat := 0xFE
  bsr : List Bool := []
  pinsHeld : Bool := false
  pinsOff : Bool := false
  tdo : W32 := 0
  deriving DecidableEq, Repr

/-- The whole device (one State per chip). `regs` holds every register of the cards that differs from its reset value;
`live` and `tally` the 64-bit counters and their RS copies (R705), keyed by the counter's offset; `cmdRes` what a running
command will show; `evpend` the events pending by MID (R329); `cycles` the core cycles by core; `spmBad` the poisoned words
of the scratchpads and the vault (R428); `resps` the last response word sent to each master; `abandons` the masters whose
semaphores SEM has yet to free, with 0 for a reset and 1 for a revocation (R440); `wipes` the causes of vault wipes yet to
start (R434); `dramBad` the poisoned DRAM lines (R463); `lines` the DRAM line last delivered to each master; `accs` the
accelerators by cluster × 4 + a, and `cvuCache` the descriptors that each CVU holds; `lockSeen` the last write that LOCK
discarded at a guarded pair's first address, with its clock (R704). -/
structure State where
  pending : List Instr := []
  free : Nat := 0
  time : TimeSt := {}
  regs : SMap W32 := []
  live : SMap W64 := []
  tally : SMap W64 := []
  mem : List Host.Cell := []
  guards : SMap GuardPend := []
  lockSeen : Option (GuardPend × Nat) := none
  err : SMap ErrUnit := []
  rate : SMap RateCell := []
  gens : SMap (BitVec 8) := []
  lastGens : SMap (BitVec 8) := []
  epoch : BitVec 8 := 0
  msix : SMap Bool := []
  snap : SnapSt := {}
  cmdRes : SMap W32 := []
  pipes : SMap PipeSt := []
  ports : SMap PortSt := []
  fte : FteSt := {}
  bpm : BpmSt := {}
  ods : OdsSt := {}
  evpend : SMap W32 := []
  threads : SMap ThreadSt := []
  cycles : SMap Nat := []
  iramq : List IramWr := []
  sems : SMap SemSt := []
  spmBad : List Nat := []
  resps : SMap W40 := []
  abandons : List (Nat × Nat) := []
  wipes : List Nat := []
  ecs : EcsSt := {}
  dmcs : SMap DmcSt := []
  dramBad : List Nat := []
  lines : SMap (List Byte) := []
  accs : SMap AccSt := []
  cvuCache : SMap (List (Nat × Nat × Nat)) := []
  rcd : RecSt := {}
  bcn : BcnSt := {}
  fuse : FuseSt := {}
  boot : BootSt := {}
  mlk : MlkSt := {}
  txn : TxnSt := {}
  rcv : RcvSt := {}
  hif : HifSt := {}
  low : LowSt := {}
  deriving DecidableEq, Repr

/-- Why a step stops for good. -/
inductive Fault where
  /-- Raised by no meaning today: an access to an address the spec says does not exist. Safe: the machine stops. -/
  | noSuchAddress (addr : Nat)
  deriving DecidableEq, Repr

/-- Why a command has no meaning. -/
inductive Refusal where
  /-- The command has no meaning in this model yet. Safe: the machine stops. -/
  | notModelled (mnemonic : String)
  deriving DecidableEq, Repr

/-- The state after reset (R709, R713): every register at its card's reset value, every queue empty, every memory at
the power-on fill's zeros, every defined MID at generation 0x01 (R49), epoch 0x00 (R54), the vault's wipe due (R434). RESET_N
is low, as the board holds it until its release (R721, R726). -/
def State.reset : State := { wipes := [1] }

end Sys2Proof.Machine
end

