-- ==== Sys2Proof/Machine/Ops.lean ====
section
/-! DEFINITION. The named operations the meanings share: sparse maps, registers, counters, time, memories, error
records, events, vectors, identities and generations. -/
namespace Sys2Proof.Machine
open Sys2Proof

/-- A meaning's answer. -/
abbrev Out := Host.Outcome State Fault Refusal

/-! ## Sparse maps -/

/-- The value at key `k`; an unlisted key reads as `d k`. -/
def SMap.get {α : Type} (d : Nat → α) : SMap α → Nat → α
  | [], k => d k
  | (j, v) :: m, k => if j = k then v else SMap.get d m k

/-- The map without key `k`. -/
def SMap.erase {α : Type} : SMap α → Nat → SMap α
  | [], _ => []
  | (j, v) :: m, k => if j = k then SMap.erase m k else (j, v) :: SMap.erase m k

/-- The map with an entry put before the first larger key. -/
def SMap.insert {α : Type} : SMap α → Nat → α → SMap α
  | [], k, v => [(k, v)]
  | (j, w) :: m, k, v => if k < j then (k, v) :: (j, w) :: m else (j, w) :: SMap.insert m k v

/-- Write `v` at key `k`, keeping the canonical form: a value equal to what an unlisted key reads as is not listed. -/
def SMap.set {α : Type} [DecidableEq α] (d : Nat → α) (m : SMap α) (k : Nat) (v : α) : SMap α :=
  if v = d k then m.erase k else (m.erase k).insert k v

/-- The canonical form: keys strictly rising, no entry equal to what an unlisted key reads as. -/
def SMap.wf {α : Type} [DecidableEq α] (d : Nat → α) : SMap α → Bool
  | [] => true
  | (k, v) :: m => decide (v ≠ d k) && m.all (fun p => decide (k < p.1)) && SMap.wf d m

/-! ## Bits -/

/-- `v`'s low `w` bits as a number. -/
def lowBits (v w : Nat) : Nat := v % 2 ^ w

/-- Bits `lo` to `lo + w - 1` of a number. -/
def bitsOf (v lo w : Nat) : Nat := v / 2 ^ lo % 2 ^ w

/-- Bit `i` of a number. -/
def bitAt (v i : Nat) : Bool := v / 2 ^ i % 2 == 1

/-- A number with its bits `lo` to `lo + w - 1` replaced. -/
def putBits (v lo w x : Nat) : Nat := v - bitsOf v lo w * 2 ^ lo + lowBits x w * 2 ^ lo

/-- The two's complement value of a `w`-bit number. -/
def signed (w v : Nat) : Int := if v % 2 ^ w < 2 ^ (w - 1) then (v % 2 ^ w : Int) else (v % 2 ^ w : Int) - 2 ^ w

/-- The low `w` bits of an integer, as a number. -/
def wrapInt (w : Nat) (x : Int) : Nat := (x % (2 ^ w : Int)).toNat

/-- A Bool as 0 or 1. -/
def b2n (b : Bool) : Nat := if b then 1 else 0

/-! ## Registers (R8 to R11) -/

/-- The value a register holds. -/
def State.rd (s : State) (off : Nat) : W32 := s.regs.get cardReset off

/-- Set the value a register holds, as the hardware does, whatever its access code. -/
def State.wr (s : State) (off : Nat) (v : W32) : State := { s with regs := s.regs.set cardReset off v }

/-- A field of a register, as a number. -/
def State.fd (s : State) (off : Nat) (f : Fld) : Nat := bitsOf (s.rd off).toNat f.lo f.w

/-- A one-bit field of a register. -/
def State.flag (s : State) (off : Nat) (f : Fld) : Bool := s.fd off f == 1

/-- Set a field of a register, as the hardware does. -/
def State.wf (s : State) (off : Nat) (f : Fld) (x : Nat) : State :=
  s.wr off (BitVec.ofNat 32 (putBits (s.rd off).toNat f.lo f.w x))

/-- Set bits of a register, as the hardware sets W1C status. -/
def State.orBits (s : State) (off : Nat) (x : Nat) : State := s.wr off (s.rd off ||| BitVec.ofNat 32 x)

/-- A 64-bit value over two registers, low half first. -/
def State.rd64 (s : State) (off : Nat) : W64 := (s.rd (off + 4)) ++ (s.rd off)

/-- Set a 64-bit value over two registers, low half first. -/
def State.wr64 (s : State) (off : Nat) (v : W64) : State :=
  (s.wr off (v.setWidth 32)).wr (off + 4) ((v >>> 32).setWidth 32)

/-- A mode bit of GLB_MODE (R713). -/
def State.mode (s : State) (f : Fld) : Bool := s.flag R.GLB_MODE f

/-! ## Counters (R14, R705) -/

/-- The live count of the counter whose RS copy lies at `off`. -/
def State.liveAt (s : State) (off : Nat) : W64 := s.live.get (fun _ => 0) off

/-- Count `n` events; a counter wraps modulo 2^64. -/
def State.countN (s : State) (off n : Nat) : State :=
  { s with live := s.live.set (fun _ => 0) off (s.liveAt off + BitVec.ofNat 64 n) }

/-- Count one event. -/
def State.count (s : State) (off : Nat) : State := s.countN off 1

/-- Count one event where a condition holds. -/
def State.countIf (s : State) (c : Bool) (off : Nat) : State := s.countN off (b2n c)

/-! ## Time (R518, R520, R525) -/

/-- PTP-domain time in nanoseconds, modulo 2^64 (R35, R518). -/
def TimeSt.ptp (t : TimeSt) : W64 := BitVec.ofNat 64 (t.secs.toNat * 1000000000 + t.ns)

/-- Whether PTP-domain time runs (R518, R536). -/
def State.timeRuns (s : State) : Bool := s.flag R.BCN_TIME_STATUS F.BCN_TIME_STATUS_RUNNING

/-- BCN_TIME_RATE as it acts, saturated at its limits (R519). -/
def State.rateNow (s : State) : Int :=
  let r := signed 32 (s.rd R.BCN_TIME_RATE).toNat
  if r > 0x04000000 then 0x04000000 else if r < -0x04000000 then -0x04000000 else r

/-- PTP-domain time from a total of 2^-32 ns units. -/
def TimeSt.setTotal (t : TimeSt) (x : Nat) : TimeSt :=
  { t with frac := x % 2 ^ 32, ns := x / 2 ^ 32 % 1000000000,
           secs := BitVec.ofNat 48 (x / 2 ^ 32 / 1000000000) }

/-- PTP-domain time as a total of 2^-32 ns units. -/
def TimeSt.total (t : TimeSt) : Nat := (t.secs.toNat * 1000000000 + t.ns) * 2 ^ 32 + t.frac

/-- What an unlisted command result reads as. -/
def resDefault (_ : Nat) : W32 := 0

/-- A command register's command has run; the value that its completion shows in a register waits (R132, R170, R206). -/
def State.setRes (s : State) (off : Nat) (v : W32) : State := { s with cmdRes := s.cmdRes.set resDefault off v }

/-- The value that waits for a command's completion. -/
def State.resOf (s : State) (off : Nat) : W32 := s.cmdRes.get resDefault off

/-- `n` BCN cycles pass: each adds 4 ns and the rate while time runs (R518), the crystal's edges count (R525; one tick
is 1,953,125 / 64 ns), and the islands' clocks advance. -/
def State.pass (s : State) (n : Nat) : State :=
  let t := s.time
  let t1 := if s.timeRuns then t.setTotal ((t.total : Int) + n * (4 * 2 ^ 32 + s.rateNow)).toNat else t
  let ph := t.phase + n * 256
  { s with time := { t1 with clock := t.clock + n, phase := ph % 1953125,
                             bcnt := t.bcnt + BitVec.ofNat 64 (ph / 1953125) } }

/-- Time passes until PTP-domain time reaches the instant `i`; nothing where it has passed it or stands. -/
def State.until (s : State) (i : Nat) : State :=
  if s.timeRuns && decide (s.time.ptp.toNat < i) then s.pass ((i - s.time.ptp.toNat + 3) / 4) else s

/-- The islands' clocks reach the cycle `c`, where they have not passed it: a timeout's event comes at its time. -/
def State.passTo (s : State) (c : Nat) : State := s.pass (c - s.time.clock)

/-- The time stamp of an error record (R57): seconds in bits 63:30, nanoseconds below; the Beacon counter while
PTP-domain time stands (R58). -/
def State.stamp (s : State) : W64 :=
  if s.timeRuns then BitVec.ofNat 64 (s.time.secs.toNat * 2 ^ 30 + s.time.ns) else s.time.bcnt

/-! ## Free values -/

/-- The next free value. -/
def State.freeWord (s : State) : W64 := Config.freeValue s.free

/-- The state after a free value is taken. -/
def State.tookFree (s : State) : State := { s with free := s.free + 1 }

/-! ## Memories -/

/-- The memories: each a byte space of its own in the one byte list. `twin m` holds the token windows of thread `m`, and
`host` the bytes that the device has written to host memory. -/
inductive Space where
  | dram | packet | table | vault | save | mgmtSpad | mgmtIram | flash | spad (c : Nat) | iram (c : Nat)
  | twin (mid : Nat) | host
  deriving DecidableEq, Repr

/-- The key of a memory's byte 0. -/
def Space.base : Space → Nat
  | .dram => 0 | .packet => 2 ^ 44 | .table => 2 * 2 ^ 44 | .vault => 3 * 2 ^ 44 | .save => 4 * 2 ^ 44
  | .mgmtSpad => 5 * 2 ^ 44 | .mgmtIram => 6 * 2 ^ 44 | .flash => 7 * 2 ^ 44
  | .spad c => (16 + c) * 2 ^ 44 | .iram c => (32 + c) * 2 ^ 44 | .twin m => (64 + m) * 2 ^ 44 | .host => 2 ^ 72

/-- What a byte that nothing has written reads as: the power-on fill's zero (R467, R468). -/
def memDefault (_ : Nat) : Byte := 0

/-- The memory's canonical form. -/
def Memory.wf (m : List Host.Cell) : Bool := SMap.wf memDefault m

/-- One byte of a memory. -/
def State.byte (s : State) (sp : Space) (a : Nat) : Byte := SMap.get memDefault s.mem (sp.base + a)

/-- Write one byte of a memory. -/
def State.setByte (s : State) (sp : Space) (a : Nat) (v : Byte) : State :=
  { s with mem := SMap.set memDefault s.mem (sp.base + a) v }

/-- `n` bytes from address `a` on. -/
def State.bytes (s : State) (sp : Space) (a : Nat) : Nat → List Byte
  | 0 => []
  | n + 1 => s.byte sp a :: State.bytes s sp (a + 1) n

/-- Write bytes from address `a` on. -/
def State.setBytes (s : State) (sp : Space) (a : Nat) : List Byte → State
  | [] => s
  | b :: bs => State.setBytes (s.setByte sp a b) sp (a + 1) bs

/-- Write zeros over the `n` bytes from address `a` on. -/
def State.zero (s : State) (sp : Space) (a n : Nat) : State :=
  { s with mem := s.mem.filter (fun c => !(decide (sp.base + a ≤ c.1 ∧ c.1 < sp.base + a + n))) }

/-- The little-endian number of a list of bytes (R7). -/
def leNat : List Byte → Nat
  | [] => 0
  | b :: bs => b.toNat + 256 * leNat bs

/-- The big-endian number of a list of bytes. -/
def beNat (bs : List Byte) : Nat := bs.foldl (fun a b => a * 256 + b.toNat) 0

/-- The low `n` bytes of a number, least significant first (R7). -/
def toLe : Nat → Nat → List Byte
  | 0, _ => []
  | n + 1, v => BitVec.ofNat 8 v :: toLe n (v / 256)

/-- The low `n` bytes of a number, most significant first. -/
def toBe (n v : Nat) : List Byte := (toLe n v).reverse

/-- A little-endian number of `n` bytes in memory. -/
def State.ldN (s : State) (sp : Space) (a n : Nat) : Nat := leNat (s.bytes sp a n)

/-- Store a little-endian number of `n` bytes. -/
def State.stN (s : State) (sp : Space) (a n v : Nat) : State := s.setBytes sp a (toLe n v)

/-! ## Views (R610) -/

/-- A map with the values an old-view store holds laid over it. -/
def overlay {α : Type} [DecidableEq α] (d : Nat → α) (m : SMap α) (old : SMap (Option α)) : SMap α :=
  old.foldl (fun m p => match p.2 with | some v => m.set d p.1 v | none => m) m

/-- The device as a token of the old epoch reads it. -/
def State.oldView (s : State) : State :=
  { s with regs := overlay cardReset s.regs s.txn.oldRegs, mem := overlay memDefault s.mem s.txn.oldMem }

/-- The device as a token of epoch `e` reads it: the old-view stores stand before the live state for every epoch but the
new one. -/
def State.view (s : State) (e : BitVec 8) : State :=
  match s.txn.viewNew with
  | none => s
  | some n => if e = n then s else s.oldView

/-- The transaction engine's phase (R614). -/
def State.txnState (s : State) : Nat := s.fd R.MGT_TXN_STATUS F.MGT_TXN_STATUS_STATE

/-- The device as settings that act on no token read it: their new value takes effect at the commit point (R611). -/
def State.settled (s : State) : State := if s.txnState = 6 then s else s.oldView

/-- After the commit point a write `s` to `t` that reaches what an old-view store holds takes effect there too (R613). -/
def State.storeToo (s t : State) : State :=
  if t.txnState < 6 then t
  else
    let mem := t.txn.oldMem.map (fun p =>
      if SMap.get memDefault t.mem p.1 = SMap.get memDefault s.mem p.1 then p else (p.1, some (SMap.get memDefault t.mem p.1)))
    let regs := t.txn.oldRegs.map (fun p => if t.rd p.1 = s.rd p.1 then p else (p.1, some (t.rd p.1)))
    { t with txn := { t.txn with oldMem := mem, oldRegs := regs } }

/-! ## Identities and generations (R46 to R52) -/

/-- Whether a MID is defined (R46). -/
def midDefined (m : Nat) : Bool :=
  decide ((m < 0x800 ∧ m / 8 % 16 < 9) ∨ (0x800 ≤ m ∧ m ≤ 0x809) ∨ (0x900 ≤ m ∧ m ≤ 0x98F) ∨
    (m / 0x100 = 0xA ∧ m % 16 = 0 ∧ m ≤ 0xA90) ∨ (0xB00 ≤ m ∧ m ≤ 0xB2F))

/-- Whether a MID names a thread of a cluster (R46). -/
def midIsThread (m : Nat) : Bool := decide (m < 0x800 ∧ m / 8 % 16 < 9)

/-- The MID of thread `t` of core `k` of cluster `c` (R46). -/
def threadMid (c k t : Nat) : Nat := c * 128 + k * 8 + t

/-- The cluster of a thread's MID; 16 for the management pair. -/
def midCluster (m : Nat) : Nat := m / 128

/-- The core of a thread's MID. -/
def midCore (m : Nat) : Nat := m / 8 % 16

/-- The generation of a MID at reset (R49). -/
def genReset (m : Nat) : BitVec 8 := if midDefined m then 1 else 0

/-- The current generation of a MID; 0x00 is revoked (R49). -/
def State.genOf (s : State) (m : Nat) : BitVec 8 := s.gens.get genReset m

/-- The last admitted generation of a MID. -/
def State.lastGenOf (s : State) (m : Nat) : BitVec 8 := s.lastGens.get genReset m

/-- Set a MID's current generation. -/
def State.setGen (s : State) (m : Nat) (g : BitVec 8) : State := { s with gens := s.gens.set genReset m g }

/-- The MID of the Keeper of cluster `c`: thread 7 of the core CLU_KEEPER names (R694). -/
def State.keeperMid (s : State) (c : Nat) : Nat := threadMid c (s.fd (R.CLU_KEEPER c) F.CLU_KEEPER_CORE) 7

/-! ## Error records (R57 to R64, R736) -/

/-- An error record as a unit writes it, from numbers; the unit stamps it when it queues it. -/
def mkErr (unit inst code sev : Nat) (akind addr : Nat := 0) (mid gen : Nat := 0) (d0 d1 : Nat := 0) : ErrRec :=
  { code := BitVec.ofNat 16 code, sev := BitVec.ofNat 3 sev, akind := BitVec.ofNat 3 akind,
    gen := BitVec.ofNat 8 gen, unit := BitVec.ofNat 5 unit, inst := BitVec.ofNat 8 inst, mid := BitVec.ofNat 12 mid,
    addr := BitVec.ofNat 64 addr, d0 := BitVec.ofNat 32 d0, d1 := BitVec.ofNat 32 d1 }

/-- A unit's error queue. -/
def State.errOf (s : State) (u : Nat) : ErrUnit := s.err.get (fun _ => {}) u

/-- Queue a record: a slot while fewer than 16 (severity 2 and above) or 12 (severity 0 and 1) are occupied; otherwise
it is lost, counted, OVF falls due, and the direct fault line signals a lost severity of 2 or above (R62, R63). -/
def ErrUnit.push (u : ErrUnit) (r : ErrRec) : ErrUnit :=
  let v := if u.q.length < (if 2 ≤ r.sev.toNat then 16 else 12) then { u with q := u.q ++ [r] }
    else { u with lost := u.lost + 1, ovf := true, line := u.line || decide (2 ≤ r.sev.toNat) }
  { v with signals := u.signals + b2n (decide (2 ≤ r.sev.toNat)),
           chip := if r.sev = 4 then some r.code.toNat else u.chip }

/-- A unit writes an error record, stamped with the time of detection (R57, R58). -/
def State.raise (s : State) (r : ErrRec) : State :=
  { s with err := s.err.set (fun _ => {}) r.unit.toNat
                    ((s.errOf r.unit.toNat).push { r with ts := s.stamp, tskind := !s.timeRuns }) }

/-- A unit writes an error record where a condition holds. -/
def State.raiseIf (s : State) (c : Bool) (r : ErrRec) : State := if c then s.raise r else s

/-- Nanoseconds as BCN cycles of 4 ns. -/
def nsCyc (n : Nat) : Nat := n / 4

/-- The key of a rate limit's code and scope. -/
def rateKey (code scope : Nat) : Nat := code * 2 ^ 32 + scope

/-- Whether a limited record is written for this event (R736): the first one is, a later one when the interval has
passed since the previous record. -/
def State.rateDue (s : State) (code scope cyc : Nat) : Bool :=
  match (s.rate.get (fun _ => {}) (rateKey code scope)).last with
  | none => true
  | some t => decide (t + cyc ≤ s.time.clock)

/-- A record whose rule limits it to one per `cyc` BCN cycles of its code and scope (R736), for `k` events at once; `f`
makes the record from the count of events since the previous one. -/
def State.raiseLimN (s : State) (cyc scope k : Nat) (r : ErrRec) (f : Nat → ErrRec → ErrRec := fun _ e => e) : State :=
  let code := r.code.toNat
  let n := (s.rate.get (fun _ => {}) (rateKey code scope)).since + k
  let cell : RateCell :=
    { last := if s.rateDue code scope cyc then some s.time.clock
              else (s.rate.get (fun _ => {}) (rateKey code scope)).last,
      since := if s.rateDue code scope cyc then 0 else n }
  let s1 := s.raiseIf (s.rateDue code scope cyc) (f n r)
  { s1 with rate := s.rate.set (fun _ => {}) (rateKey code scope) cell }

/-- A limited record for one event. -/
def State.raiseLim (s : State) (cyc scope : Nat) (r : ErrRec) (f : Nat → ErrRec → ErrRec := fun _ e => e) : State :=
  s.raiseLimN cyc scope 1 r f

/-- One millisecond and one second in BCN cycles. -/
def msCyc : Nat := 250000
def secCyc : Nat := 250000000

/-- The common record for a request that carries another generation than the current one (R51, R60). -/
def State.raiseGenStale (s : State) (unit inst mid : Nat) (gen : BitVec 8) (akind addr cls : Nat) : State :=
  s.raise (mkErr unit inst 0x0001 2 akind addr mid gen.toNat (s.genOf mid).toNat cls)

/-- The common record for a request that carries an undefined MID (R48, R60). -/
def State.raiseMidUndef (s : State) (unit inst mid : Nat) (gen : BitVec 8) (akind addr cls : Nat) : State :=
  s.raise (mkErr unit inst 0x0002 2 akind addr mid gen.toNat 0 cls)

/-- Check a request's MID and generation at a unit (R48, R51): `some s'` where it is refused. -/
def State.refuseReq (s : State) (unit inst mid : Nat) (gen : BitVec 8) (akind addr cls : Nat) : Option State :=
  if ¬ midDefined mid then some (s.raiseMidUndef unit inst mid gen akind addr cls)
  else if gen ≠ s.genOf mid then some (s.raiseGenStale unit inst mid gen akind addr cls)
  else none

/-! ## Vectors (R67, R664) -/

/-- A source asks HIF for its MSI-X vector. -/
def State.irq (s : State) (v : Nat) : State := { s with msix := s.msix.set (fun _ => false) v true }

/-- A source asks for its vector where a condition holds. -/
def State.irqIf (s : State) (c : Bool) (v : Nat) : State :=
  { s with msix := if c then s.msix.set (fun _ => false) v true else s.msix }

/-- Set status bits of an interrupt register, and ask for the vector when an enabled bit rises: its level is the OR of
the status bits under their enables. -/
def State.intSet (s : State) (int en : Nat) (bits vec : Nat) : State :=
  let s1 := s.orBits int bits
  s1.irqIf (decide ((s1.rd int &&& s.rd en) ≠ 0 ∧ (s.rd int &&& s.rd en) = 0)) vec

/-! ## The register router (R694 to R704) -/

/-- The guarded instance of an offset (R701): a port, a port group, a CVU instance, a DMC channel, a cluster, or the
block's row of R710, as the base of its extent. -/
def guardInst (off : Nat) : Nat :=
  if off < 0x10000 then 0
  else if off < 0x50000 then off / 0x10000 * 0x10000
  else if off < 0x80000 then 0x50000
  else if off < 0x100000 then 0x80000
  else if off < 0x400000 then off / 0x100000 * 0x100000
  else if off < 0x500000 then off / 0x8000 * 0x8000
  else if off < 0x600000 then 0x500000
  else if off < 0x700000 then off / 0x20000 * 0x20000
  else if off < 0x800000 then 0x700000
  else if off < 0xA40000 then 0x800000 + (off - 0x800000) / 0x4000 * 0x4000
  else if off < 0xC00000 then 0xA40000 + (off - 0xA40000) / 0x1000 * 0x1000
  else off / 0x40000 * 0x40000

/-- The reporting unit of a block's offset (R59); GLB and MGT report as MGT. -/
def unitOf (off : Nat) : Nat :=
  if off < 0x10000 then 14 else if off < 0x20000 then 13 else if off < 0x30000 then 14
  else if off < 0x40000 then 15 else if off < 0x50000 then 16 else if off < 0x80000 then 9
  else if off < 0x100000 then 5 else if off < 0x200000 then 2 else if off < 0x300000 then 3
  else if off < 0x400000 then 4 else if off < 0x500000 then 7 else if off < 0x600000 then 12
  else if off < 0x700000 then 10 else if off < 0x800000 then 11 else if off < 0xC00000 then 1 else 6

/-- The SRC_INST of a block's offset (R59). -/
def instOf (off : Nat) : Nat :=
  match unitOf off with
  | 1 => if off < 0xA40000 then (off - 0x800000) / 0x4000 else 0xC0 + (off - 0xA40000) / 0x1000
  | 2 | 3 | 4 | 5 => 0xFF
  | 6 => (off - 0xC00000) / 0x40000 * 16 + 0xF
  | 7 => (off - 0x400000) / 0x8000
  | 10 => (off - 0x600000) / 0x20000
  | 16 => 0xF
  | _ => 0

/-- The pending first write of a guarded instance. -/
def State.pendOf (s : State) (inst : Nat) : Option GuardPend :=
  (s.guards.find? (fun p => p.1 == inst)).map (·.2)

/-- End a pending first write. -/
def State.endPend (s : State) (inst : Nat) : State := { s with guards := SMap.erase s.guards inst }

/-- A guarded pair fails (R701): one GUARD_FAIL record from the owning block, of the given kind, and the count of R714. -/
def State.guardFail (s : State) (off mid : Nat) (gen : BitVec 8) (v : W32) (kind : Nat) : State :=
  (s.raise (mkErr (unitOf off) (instOf off) 0x0007 2 3 off mid gen.toNat v.toNat kind)).count (R.GLB_REG_CNT 0)

/-- The time of R700 in BCN cycles: 64 MGT cycles of 1 ns. -/
def pairCyc : Nat := 16

/-- Whether a complement comes in time (R700). -/
def State.inTime (s : State) (p : GuardPend) : Bool := decide (s.time.clock ≤ p.since + pairCyc)

/-- Any other write reaches a guarded instance: a pending first write there ends, with kind 3, or kind 1 where its time has
passed (R701). -/
def State.endOther (s : State) (off : Nat) : State :=
  match s.pendOf (guardInst off) with
  | some p => (s.endPend (guardInst off)).guardFail p.off p.mid p.gen p.value (if s.inTime p then 3 else 1)
  | none => s

/-- A write reaches a guarded instance: it ends what is pending there, and what R704 would join. -/
def State.arrive (s : State) (off : Nat) : State :=
  { s.endOther off with lockSeen := s.lockSeen.filter (fun p => guardInst p.1.off != guardInst off) }

/-- The port group whose PX_PORT_MODE or PX_GRP_QUAD an offset is (R613). -/
def pxGroupOf (off : Nat) : Option Nat :=
  if 0x800000 ≤ off ∧ off < 0xA40000 ∧ (off - 0x800000) % 0x4000 = 0 then some ((off - 0x800000) / 0x4000 / 12)
  else if 0xA40000 ≤ off ∧ off < 0xA4C000 ∧ (off - 0xA40000) % 0x1000 = 0 then some ((off - 0xA40000) / 0x1000)
  else none

/-- The pool whose layout register an offset is (R180, R613). -/
def poolLayoutOf (off : Nat) : Option Nat :=
  (List.range 8).find? (fun p => off == R.BPM_POOL_SIZE p || off == R.BPM_POOL_BASE p || off == R.BPM_POOL_COUNT p
    || off == R.BPM_POOL_RING p || off == R.BPM_POOL_META p)

/-- The command interface an offset belongs to: 1 PRS, 2 FTE, 3 CVU, 4 REC; 0 none (R613). -/
def cmdIface (off : Nat) : Nat :=
  if off = R.PRS_TCMD ∨ off = R.PRS_TIDX ∨ (R.PRS_TBUF 0 ≤ off ∧ off < R.PRS_TBUF 16) then 1
  else if off = R.FTE_TCMD ∨ off = R.FTE_TIDX ∨ (R.FTE_TBUF 0 ≤ off ∧ off < R.FTE_TBUF 32) then 2
  else if off = R.CVU_TCMD ∨ off = R.CVU_TIDX ∨ (R.CVU_TBUF 0 ≤ off ∧ off < R.CVU_TBUF 8) then 3
  else if off = R.REC_CMD ∨ (R.REC_ARG 0 ≤ off ∧ off < R.REC_ARG 16) then 4 else 0

/-- Whether an entry at offset `e` holds plain writes to the offset `off` (R613). -/
def heldBy (e off : Nat) : Bool :=
  e == off || (decide (cmdIface e ≠ 0) && cmdIface e == cmdIface off)
    || (decide (pxGroupOf e ≠ none) && pxGroupOf e == pxGroupOf off)
    || (decide (poolLayoutOf e ≠ none) && poolLayoutOf e == poolLayoutOf off)

/-- The offset of the register that an access at A or A + 4 concerns. -/
def regOff (off : Nat) : Nat :=
  match cardAt off with
  | some _ => off
  | none => match complementCard off with
    | some _ => off - 4
    | none => off

/-- An open transaction holds plain writes to an offset (R613), from the start of CHECK to the commit point. -/
def State.heldWrite (s : State) (off : Nat) : Bool :=
  let st := s.txnState
  decide (2 ≤ st ∧ st ≤ 5) && s.txn.entries.any (fun e => heldBy (e.word0.toNat % 2 ^ 24) (regOff off))

/-- A plain write that a transaction holds is discarded, counted, and recorded at most once a millisecond (R613). -/
def State.holdDiscard (s : State) (off mid : Nat) (gen : BitVec 8) (v : W32) : State :=
  (s.count (R.MGT_MTX_CNT 4)).raiseLim msCyc 0
    (mkErr 14 0 0x7104 0 3 off mid gen.toNat v.toNat (s.rd R.MGT_TXN_NUM).toNat)

/-- The device is headless (R642): the register router and the management pair are down. -/
def State.headless (s : State) : Bool := s.flag R.BCN_MGT_STATUS F.BCN_MGT_STATUS_HEADLESS

/-- The rights of the register path (R694). -/
def State.pathRights (s : State) (mid off : Nat) (write : Bool) : Bool :=
  let clu := decide (0xC00000 ≤ off) && ((off - 0xC00000) / 0x40000 == midCluster mid)
  let sem := decide (0x50000 ≤ off ∧ off < 0x80000)
  if 0x800 ≤ mid ∧ mid ≤ 0x808 ∨ mid = 0xA60 ∨ mid = 0xA90 then true
  else if ¬ midIsThread mid then false
  else if mid = s.keeperMid (midCluster mid) then
    !write || clu || sem || off == R.MGT_RCV_CMD || off == R.MGT_RCV_ARG || off == R.MGT_GEN_SEL
      || off == R.HIF_KEEPER_BELL || off == R.HIF_D2H_BELL
      || (decide (0x600000 ≤ off ∧ off < 0x700000) && (off % 0x20000 == 8 || off % 0x20000 == 12))
      || off == R.ECS_CLEAR 0 || off == R.ECS_CLEAR 1 || off == R.GLB_TALLY_SNAP
  else if write then sem || off == R.HIF_D2H_BELL
  else clu || sem || decide (off < 0x10000)

/-- The island of a block's offset (R532, R710), as BCN numbers islands. -/
def islandOf (off : Nat) : Nat :=
  if off < 0x10000 then 41 else if off < 0x20000 then 44 else if off < 0x30000 then 41 else if off < 0x40000 then 42
  else if off < 0x50000 then 43 else if off < 0x80000 then 41 else if off < 0x100000 then 31 else if off < 0x200000 then 28
  else if off < 0x300000 then 29 else if off < 0x400000 then 30 else if off < 0x500000 then (off - 0x400000) / 0x10000
  else if off < 0x600000 then 40 else if off < 0x700000 then 32 + (off - 0x600000) / 0x20000 else if off < 0x800000 then 41
  else if off < 0xA40000 then 16 + (off - 0x800000) / 0x4000 / 12 else if off < 0xC00000 then min 27 (16 + (off - 0xA40000) / 0x1000)
  else (off - 0xC00000) / 0x40000

/-- A crossing between two islands is held (R534). -/
def State.xingHeld (s : State) (a b : Nat) : Bool := s.bcn.xings.contains (a, b) || s.bcn.xings.contains (b, a)

/-- Whether the device is held in reset: RESET_N low, a rail low, or the shutdown of R529. -/
def State.inReset (s : State) : Bool := s.boot.resetLow || decide (s.boot.low ≠ 0) || s.bcn.shutdown

/-- Whether a MID is that of the host path or of the SPI target (R692). -/
def isHostPath (mid : Nat) : Bool := mid == 0xA60 || mid == 0xA90

/-- The registers that the host and the SPI target may write before cluster release (R549). -/
def bootReg (off : Nat) : Bool :=
  decide (0x20100 ≤ off ∧ off < 0x20174) || off == R.GLB_DRV_FEAT 0 || off == R.GLB_DRV_FEAT 1

/-- The error record of a register access that the router refuses (R712). -/
def State.regDenied (s : State) (mid : Nat) (gen : BitVec 8) (off kind v : Nat) : State :=
  (s.raise (mkErr 14 0 0x7301 2 3 off mid gen.toNat kind v)).count (R.GLB_REG_CNT 2)

/-- A record of start-up (R568): DETAIL1 shows the slot, and MGT_BOOT_STATUS.REASON the code. -/
def State.bootErr (s : State) (r : ErrRec) : State :=
  (s.raise { r with d1 := BitVec.ofNat 32 (s.fd R.MGT_BOOT_STATUS F.MGT_BOOT_STATUS_SLOT) }).wf R.MGT_BOOT_STATUS
    F.MGT_BOOT_STATUS_REASON r.code.toNat

/-- A register access that does not reach its block: `some` state after it. Nothing is reached in reset (R711), past the host
path's power step (R538), while a crossing holds (R697), or headless (R643, R698); an undefined MID (R48), an access outside
R694 (R695) and a host write before cluster release (R549) end with a record. -/
def State.turnedAway (s : State) (mid : Nat) (gen : BitVec 8) (off : Nat) (write : Bool) (v : W32) : Option State :=
  if s.inReset then some s
  else if isHostPath mid ∧ 3 ≤ s.fd R.BCN_PWR_STATUS F.BCN_PWR_STATUS_STEP then some s
  else if s.xingHeld 41 (islandOf off) then some s
  else if s.headless ∧ ¬ (midIsThread mid ∧ 0xC00000 ≤ off ∧ (off - 0xC00000) / 0x40000 = midCluster mid)
      ∧ ¬ (isHostPath mid ∧ (unitOf off = 13 ∨ unitOf off = 15)) then some s
  else if ¬ midDefined mid then some (s.raiseMidUndef 14 0 mid gen 3 off (if write then 2 else 1))
  else if ¬ s.pathRights mid off write then some (s.regDenied mid gen off (if write then 2 else 1) v.toNat)
  else if write ∧ isHostPath mid ∧ ¬ s.boot.released ∧ ¬ bootReg off then
    some (s.bootErr (mkErr 14 0 0x700C 0 3 off mid gen.toNat v.toNat))
  else none

/-- A master's reset or revocation ends its pending first writes with kind 1 (R701). -/
def State.dropPends (s : State) (mid : Nat) : State :=
  s.guards.foldl (fun t p => if p.2.mid = mid then
    (t.endPend p.1).guardFail p.2.off p.2.mid p.2.gen p.2.value 1 else t) s

/-- The production lock (R704, R15). -/
def State.locked (s : State) : Bool := s.mode F.GLB_MODE_LOCK

/-- Whether the card at A or A + 4 of an offset carries the mark L. -/
def lockMarked (off : Nat) : Bool :=
  match cardAt off with
  | some c => c.lock
  | none => match complementCard off with
    | some c => c.lock
    | none => false

/-- The complement of the pending first write reaches A + 4 from the same master in time (R700): the state with the
pending write taken, ready for the owning block's decision; none where no such first write is pending. -/
def State.takePair (s : State) (off mid : Nat) (gen : BitVec 8) (v : W32) : Option State :=
  match s.pendOf (guardInst off) with
  | some p => if p.off = off ∧ p.value = v ∧ p.mid = mid ∧ p.gen = gen ∧ s.inTime p ∧ ¬ s.heldWrite off
      ∧ ¬ (s.locked ∧ lockMarked off) ∧ (s.turnedAway mid gen off true v).isNone
    then some (s.endPend (guardInst off)) else none
  | none => none

/-- A write to an L register under LOCK is discarded: one LOCK_WRITE record and the count (R15, R704, R714). A complement that
follows the first write of its pair in time shares that write's record (R704). -/
def State.lockDiscard (s : State) (off mid : Nat) (gen : BitVec 8) (v : W32) : State :=
  let joins := match s.lockSeen with
    | some (p, t) => p.off + 4 == off && p.value == ~~~v && p.mid == mid && p.gen == gen && decide (s.time.clock ≤ t + pairCyc)
    | none => false
  if joins then { s with lockSeen := none }
  else
    let first := match cardAt off with | some c => c.guard | none => false
    let t := (s.raise (mkErr (unitOf off) (instOf off) 0x0008 0 3 off mid gen.toNat v.toNat 0)).count (R.GLB_REG_CNT 1)
    { t with lockSeen := if first then some ({ off := off, value := v, mid := mid, gen := gen }, s.time.clock) else none }

/-- A plain write comes to the register router (R692 to R701, R613): turned away, held by a
transaction, discarded under LOCK (R15), or taken by `f`. -/
def State.reach (s : State) (off mid : Nat) (gen : BitVec 8) (v : W32) (f : State → State) : State :=
  match s.turnedAway mid gen off true v with
  | some t => t
  | none =>
    if s.heldWrite off then s.holdDiscard off mid gen v
    else if s.locked ∧ lockMarked off then (s.endOther off).lockDiscard off mid gen v
    else f (s.arrive off)

/-- The value a plain write of `v` leaves in a register (R11): RW bits take it, a 1 clears a W1C bit, every other bit
stays. -/
def Card.written (c : Card) (old v : W32) : W32 :=
  let rw := BitVec.ofNat 32 (if c.guard then 0 else c.rw)
  (old &&& ~~~rw &&& ~~~(v &&& BitVec.ofNat 32 c.w1c)) ||| (v &&& rw)

/-- A plain write takes effect as the register's access code says; a reserved address discards it (R10, R11). -/
def State.plainWrite (s : State) (off : Nat) (v : W32) : State :=
  match cardAt off with
  | some c => s.wr off (c.written (s.rd off) v)
  | none => s

/-- What a read of a register returns (R9 to R11, R14): RS bits from the tally, WO bits 0, a reserved address 0. -/
def State.readValue (s : State) (off : Nat) : W32 :=
  match cardAt off with
  | some c =>
    if c.rs ≠ 0 then
      (if off / 4 % 2 = 0 then (s.tally.get (fun _ => 0) off).setWidth 32
       else ((s.tally.get (fun _ => 0) (off - 4)) >>> 32).setWidth 32)
    else s.rd off &&& ~~~(BitVec.ofNat 32 c.wo)
  | none => 0

end Sys2Proof.Machine
end

