-- ==== Sys2Proof/Machine/Flags.lean ====
section
/-! DEFINITION. What the short units and DIV compute (09_function_units): the ALU with its rb flags (R303, R304), BFU
(R305 to R307), MAC arithmetic (R308 to R311) and division (R314). Words are 40 bits; `s40`, `s20` are signed values. -/
namespace Sys2Proof.Machine

/-- The signed value of a 40-bit word. -/
def s40 (x : W40) : Int := signed 40 x.toNat

/-- The signed value of a word's low sample. -/
def s20 (x : W40) : Int := signed 20 x.toNat

/-- The signed value of a word's high sample. -/
def hi20 (x : W40) : Int := signed 20 (x.toNat / 2 ^ 20)

/-- The word of an integer, modulo 2^40. -/
def w40 (x : Int) : W40 := BitVec.ofNat 40 (wrapInt 40 x)

/-- The word of a Bool. -/
def wBool (b : Bool) : W40 := if b then 1 else 0

/-- The word of two lanes, each modulo 2^20: low, high. -/
def pair20 (l h : Int) : W40 := BitVec.ofNat 40 (wrapInt 20 h * 2 ^ 20 + wrapInt 20 l)

/-- An integer clamped to a signed `w`-bit range. -/
def sat (w : Nat) (x : Int) : Int := max (-(2 ^ (w - 1) : Int)) (min x (2 ^ (w - 1) - 1))

/-- Whether an integer lies outside a signed `w`-bit range. -/
def satd (w : Nat) (x : Int) : Bool := decide (sat w x ≠ x)

/-- The absolute value of an integer. -/
def absInt (x : Int) : Int := if x < 0 then -x else x

/-- min(max(x, lo), hi): hi where lo exceeds it (R304). -/
def clampInt (x lo hi : Int) : Int := min (max x lo) hi

/-- rb of an addition: bit 0 carry out, bit 1 signed overflow (R303). -/
def addRb (a b : W40) (c : Nat) : W40 :=
  BitVec.ofNat 40 (b2n (decide (2 ^ 40 ≤ a.toNat + b.toNat + c)) + 2 * b2n (satd 40 (s40 a + s40 b + c)))

/-- rb of a subtraction: bit 0 borrow, bit 1 signed overflow (R303). -/
def subRb (a b : W40) (c : Nat) : W40 :=
  BitVec.ofNat 40 (b2n (decide (a.toNat < b.toNat + c)) + 2 * b2n (satd 40 (s40 a - s40 b - c)))

/-- The flags of two lanes: low in bit 0, high in bit 1. -/
def laneRb (l h : Bool) : W40 := BitVec.ofNat 40 (b2n l + 2 * b2n h)

/-- An ALU operation (R303): r and rb from o0, o1, T and rb[0] as it stands; none for an opcode the table does not list. -/
def aluOp (op : Nat) (a o1 t : W40) (c : Nat) : Option (W40 × W40) :=
  let sh := t.toNat % 64
  match op with
  | 0x00 => some (a + t, addRb a t 0)
  | 0x01 => some (a - t, subRb a t 0)
  | 0x02 => some (a + t + BitVec.ofNat 40 c, addRb a t c)
  | 0x03 => some (a - t - BitVec.ofNat 40 c, subRb a t c)
  | 0x04 => some (a &&& t, 0)
  | 0x05 => some (a ||| t, 0)
  | 0x06 => some (a ^^^ t, 0)
  | 0x07 => some (a &&& ~~~t, 0)
  | 0x08 => some (a <<< sh, 0)
  | 0x09 => some (a >>> sh, 0)
  | 0x0A => some (a.sshiftRight sh, 0)
  | 0x0B => some (wBool (a == t), 0)
  | 0x0C => some (wBool (a != t), 0)
  | 0x0D => some (wBool (decide (s40 a < s40 t)), 0)
  | 0x0E => some (wBool (decide (a.toNat < t.toNat)), 0)
  | 0x0F => some (wBool (decide (s40 a ≤ s40 t)), 0)
  | 0x10 => some (wBool (decide (a.toNat ≤ t.toNat)), 0)
  | 0x11 => some (if s40 a ≤ s40 t then a else t, 0)
  | 0x12 => some (if s40 a ≤ s40 t then t else a, 0)
  | 0x13 => some (if a.toNat ≤ t.toNat then a else t, 0)
  | 0x14 => some (if a.toNat ≤ t.toNat then t else a, 0)
  | 0x15 => some (w40 (sat 40 (s40 a + s40 t)), BitVec.ofNat 40 (2 * b2n (satd 40 (s40 a + s40 t))))
  | 0x16 => some (w40 (sat 40 (s40 a - s40 t)), BitVec.ofNat 40 (2 * b2n (satd 40 (s40 a - s40 t))))
  | 0x17 => some (w40 (sat 40 (absInt (s40 t))), BitVec.ofNat 40 (2 * b2n (satd 40 (absInt (s40 t)))))
  | 0x18 => some (-t, 0)
  | 0x19 => some (if a ≠ 0 then o1 else t, 0)
  | 0x1A => some (w40 (clampInt (s40 a) (s40 o1) (s40 t)),
      laneRb (decide (s40 a < s40 o1)) (decide (s40 t < s40 a)))
  | 0x1B => some (pair20 (s20 a + s20 t) (hi20 a + hi20 t), 0)
  | 0x1C => some (pair20 (sat 20 (s20 a + s20 t)) (sat 20 (hi20 a + hi20 t)),
      laneRb (satd 20 (s20 a + s20 t)) (satd 20 (hi20 a + hi20 t)))
  | 0x1D => some (pair20 (s20 a - s20 t) (hi20 a - hi20 t), 0)
  | 0x1E => some (pair20 (sat 20 (s20 a - s20 t)) (sat 20 (hi20 a - hi20 t)),
      laneRb (satd 20 (s20 a - s20 t)) (satd 20 (hi20 a - hi20 t)))
  | 0x1F => some (pair20 (min (s20 a) (s20 t)) (min (hi20 a) (hi20 t)), 0)
  | 0x20 => some (pair20 (max (s20 a) (s20 t)) (max (hi20 a) (hi20 t)), 0)
  | 0x21 => some (pair20 (clampInt (s20 a) (s20 o1) (s20 t)) (clampInt (hi20 a) (hi20 o1) (hi20 t)),
      BitVec.ofNat 40 (b2n (decide (s20 a < s20 o1)) + 2 * b2n (decide (s20 t < s20 a))
        + 4 * b2n (decide (hi20 a < hi20 o1)) + 8 * b2n (decide (hi20 t < hi20 a))))
  | _ => none

/-- Zeros above the highest 1 among the low `n` bits; `n` where there is none. -/
def clzN : Nat → Nat → Nat
  | 0, _ => 0
  | n + 1, x => if bitAt x n then 0 else 1 + clzN n x

/-- Zeros below the lowest 1 among the low `n` bits; `n` where there is none. -/
def ctzN : Nat → Nat → Nat
  | 0, _ => 0
  | n + 1, x => if bitAt x 0 then 0 else 1 + ctzN n (x / 2)

/-- The 1 bits among the low `n` bits. -/
def popN : Nat → Nat → Nat
  | 0, _ => 0
  | n + 1, x => x % 2 + popN n (x / 2)

/-- Byte `k` of a permute (R307). -/
def permByte (a b t k : Nat) : Nat :=
  let sel := bitsOf t (4 * k) 4
  if sel < 5 then bitsOf a (8 * sel) 8 else if sel < 10 then bitsOf b (8 * (sel - 5)) 8 else 0

/-- A BFU operation (R305 to R307): r from o0, o1 and T. -/
def bfuOp (op : Nat) (a o1 t : W40) : Option W40 :=
  let pos := t.toNat % 64
  let len := t.toNat / 64 % 64
  let dead := len = 0 ∨ 40 ≤ pos
  let top := min (pos + len) 40
  match op with
  | 0x00 => some (if dead then 0 else BitVec.ofNat 40 (bitsOf a.toNat pos (top - pos)))
  | 0x01 => some (if dead then 0 else w40 (signed (top - pos) (bitsOf a.toNat pos (top - pos))))
  | 0x02 => some (if dead then a else BitVec.ofNat 40 (putBits a.toNat pos (top - pos) o1.toNat))
  | 0x03 => some (BitVec.ofNat 40 (clzN 40 t.toNat))
  | 0x04 => some (BitVec.ofNat 40 (ctzN 40 t.toNat))
  | 0x05 => some (BitVec.ofNat 40 (clzN 39 (if bitAt t.toNat 39 then (~~~t).toNat else t.toNat)))
  | 0x06 => some (BitVec.ofNat 40 (popN 40 t.toNat))
  | 0x07 => some (BitVec.ofNat 40 (permByte a.toNat o1.toNat t.toNat 0 + permByte a.toNat o1.toNat t.toNat 1 * 2 ^ 8
      + permByte a.toNat o1.toNat t.toNat 2 * 2 ^ 16 + permByte a.toNat o1.toNat t.toNat 3 * 2 ^ 24
      + permByte a.toNat o1.toNat t.toNat 4 * 2 ^ 32))
  | 0x08 => some (w40 (s20 t))
  | 0x09 => some (BitVec.ofNat 40 (t.toNat % 2 ^ 20 * 2 ^ 20 + a.toNat % 2 ^ 20))
  | _ => none

/-- What a MAC operation does: the accumulator it names with its new value, r and rb where it writes them, and whether
it overflows (R308, R310, R311). -/
structure MacRes where
  acc : Option (Nat × BitVec 48) := none
  out : Option (W40 × W40) := none
  ovf : Option Nat := none
  deriving DecidableEq, Repr

/-- The signed value of an accumulator. -/
def s48 (x : BitVec 48) : Int := signed 48 x.toNat

/-- An accumulation: the exact sum, wrapped or saturated to 48 bits, and the overflow (R310). -/
def accumulate (n : Nat) (satur : Bool) (x : Int) : MacRes :=
  { acc := some (n, BitVec.ofNat 48 (wrapInt 48 (if satur then sat 48 x else x))),
    ovf := if satd 48 x then some n else none }

/-- The read of an accumulator, shifted, rounded and saturated (R311). -/
def macRead (x : BitVec 48) (t : W40) : W40 × W40 :=
  let sh := t.toNat % 32
  let v := (if bitAt t.toNat 5 ∧ 0 < sh then s48 x + 2 ^ (sh - 1) else s48 x) / 2 ^ sh
  (w40 (sat 40 v), wBool (satd 40 v))

/-- A MAC operation (R308). `accs` gives the accumulators, `cfg` MACCFG as it stands when the operation issues. -/
def macOp (op : Nat) (a t : W40) (acc0 acc1 : BitVec 48) (cfg : Nat) : Option MacRes :=
  let n := (op + 1) % 2
  let x := if n = 0 then acc0 else acc1
  let satur := bitAt cfg n
  match op with
  | 0x00 => some { out := some (w40 (s20 a * s20 t), 0) }
  | 0x01 => some { out := some (w40 (s40 a * s40 t), w40 (s40 a * s40 t / 2 ^ 40)) }
  | 0x02 => some { out := some (BitVec.ofNat 40 (a.toNat * t.toNat), BitVec.ofNat 40 (a.toNat * t.toNat / 2 ^ 40)) }
  | 0x03 | 0x04 => some (accumulate n satur (s48 x + s20 a * s20 t))
  | 0x05 | 0x06 => some (accumulate n satur (s48 x - s20 a * s20 t))
  | 0x07 | 0x08 => some (accumulate n satur (s48 x + s20 a * s20 t + hi20 a * hi20 t))
  | 0x09 | 0x0A => some (accumulate n satur (s48 x + s40 t))
  | 0x0B | 0x0C => some { acc := some (n, 0) }
  | 0x0D | 0x0E => some { acc := some (n, BitVec.ofNat 48 (a.toNat % 256 * 2 ^ 40 + t.toNat)) }
  | 0x0F | 0x10 => some { out := some (macRead x t) }
  | 0x11 | 0x12 => some { out := some (BitVec.ofNat 40 (x.toNat % 2 ^ 40), w40 (s48 x / 2 ^ 40)) }
  | _ => none

/-- A division (R314), for T other than 0: quotient toward zero, remainder with the sign of o0. -/
def divOp (op : Nat) (a t : W40) : Option (W40 × W40) :=
  match op with
  | 0x00 => some (w40 ((s40 a).tdiv (s40 t)), w40 ((s40 a).tmod (s40 t)))
  | 0x01 => some (BitVec.ofNat 40 (a.toNat / t.toNat), BitVec.ofNat 40 (a.toNat % t.toNat))
  | _ => none

/-- The width in bytes of a load or store form (R315): byte, half, quad, word, sample cell. -/
def formBytes (f : Nat) : Nat :=
  match f with
  | 0 | 1 => 1 | 2 | 3 | 8 | 9 => 2 | 4 | 5 | 0xA | 0xB => 4 | 6 => 5 | _ => 3

/-- The value a load delivers from the bytes read (R278, R315). -/
def formLoad (f : Nat) (bs : List Byte) : W40 :=
  match f with
  | 0 | 2 | 4 | 6 => BitVec.ofNat 40 (leNat bs)
  | 1 => w40 (signed 8 (leNat bs))
  | 3 => w40 (signed 16 (leNat bs))
  | 5 => w40 (signed 32 (leNat bs))
  | 7 => w40 (signed 20 (leNat bs))
  | 8 | 0xA => BitVec.ofNat 40 (beNat bs)
  | 9 => w40 (signed 16 (beNat bs))
  | _ => w40 (signed 32 (beNat bs))

/-- The bytes a store writes (R278, R315); the signed forms act as the unsigned ones. -/
def formStore (f : Nat) (v : W40) : List Byte :=
  match f with
  | 0 | 1 => toLe 1 v.toNat
  | 2 | 3 => toLe 2 v.toNat
  | 4 | 5 => toLe 4 v.toNat
  | 6 => toLe 5 v.toNat
  | 7 => toLe 3 (wrapInt 24 (s20 v))
  | 8 | 9 => toBe 2 v.toNat
  | _ => toBe 4 v.toNat

/-- The form of an LSU0 store opcode, counted from 0x10 (R315). -/
def lsu0StoreForm (op : Nat) : Option Nat :=
  match op with
  | 0x10 => some 0 | 0x11 => some 2 | 0x12 => some 4 | 0x13 => some 6 | 0x14 => some 7 | 0x15 => some 8
  | 0x16 => some 0xA | _ => none

end Sys2Proof.Machine
end

