-- ==== Sys2Proof/Machine/BpmOps.lean ====
section
/-! DEFINITION. Buffer pools: layout, metadata words, the free store, levels, quotas, and the operations of R189 that
every path shares (06_buffer_pools). -/
namespace Sys2Proof.Machine
open Sys2Proof

/-! ## Events to threads (R66) -/

/-- The MIDs of every thread of every cluster, rising. -/
def clusterMids : List Nat := (List.range 2048).filter midIsThread

/-- The events pending in a thread. -/
def State.pendEv (s : State) (mid : Nat) : W32 := s.evpend.get (fun _ => 0) mid

/-- Raise event `n` in a thread. -/
def State.event (s : State) (mid n : Nat) : State :=
  { s with evpend := s.evpend.set (fun _ => 0) mid (s.pendEv mid ||| BitVec.ofNat 32 (2 ^ n)) }

/-- Raise event `n` in every thread of every cluster (R66, events 9 and 11). -/
def State.eventAll (s : State) (n : Nat) : State :=
  { s with evpend := clusterMids.map (fun m => (m, s.pendEv m ||| BitVec.ofNat 32 (2 ^ n)))
                     ++ s.evpend.filter (fun p => decide (0x800 ≤ p.1)) }

/-- The DRAM bytes installed (R451, DMC_GSTATUS). -/
def State.dramSize (s : State) : Nat := s.fd R.DMC_GSTATUS F.DMC_GSTATUS_INSTALLED * 2 ^ 30

/-! ## Pool layout (R180, R181) -/

/-- Whether a pool is enabled. -/
def State.poolOn (s : State) (p : Nat) : Bool := decide (p < 8) && s.flag (R.BPM_POOL_SIZE p) F.BPM_POOL_SIZE_EN

/-- The memory of a pool: LOC. -/
def State.poolSpace (s : State) (p : Nat) : Space :=
  if s.flag (R.BPM_POOL_SIZE p) F.BPM_POOL_SIZE_LOC then .dram else .packet

/-- A pool's buffer size in bytes. -/
def State.poolBytes (s : State) (p : Nat) : Nat := s.fd (R.BPM_POOL_SIZE p) F.BPM_POOL_SIZE_BUFSZ * 64

/-- A pool's head room in bytes. -/
def State.poolHead (s : State) (p : Nat) : Nat := s.fd (R.BPM_POOL_SIZE p) F.BPM_POOL_SIZE_HEAD * 32

/-- A pool's buffers, index 0 included. -/
def State.poolCount (s : State) (p : Nat) : Nat := s.fd (R.BPM_POOL_COUNT p) F.BPM_POOL_COUNT_COUNT

/-- A pool's buffer region's first byte. -/
def State.poolBase (s : State) (p : Nat) : Nat := s.fd (R.BPM_POOL_BASE p) F.BPM_POOL_BASE_BASE * 4096

/-- The pool of a handle (R44). -/
def hPool (h : W32) : Nat := h.toNat / 2 ^ 29

/-- The index of a handle (R44). -/
def hIdx (h : W32) : Nat := h.toNat % 2 ^ 29

/-- The handle of a pool's buffer (R44). -/
def mkHandle (p i : Nat) : W32 := BitVec.ofNat 32 (p * 2 ^ 29 + i)

/-- The byte address of a handle's buffer in its pool's memory (R45). -/
def State.bufAddr (s : State) (h : W32) : Nat := s.poolBase (hPool h) + hIdx h * s.poolBytes (hPool h)

/-- The address of a buffer's metadata word (R183). -/
def State.metaAddr (s : State) (p i : Nat) : Nat := s.fd (R.BPM_POOL_META p) F.BPM_POOL_META_META_BASE * 65536 + i * 4

/-- A status bit of a pool in BPM_STATUS. -/
def State.poolStat (s : State) (f : Fld) (p : Nat) : Bool := bitAt (s.fd R.BPM_STATUS f) p

/-- Set or clear a pool's status bit. -/
def State.setPoolStat (s : State) (f : Fld) (p : Nat) (b : Bool) : State :=
  s.wf R.BPM_STATUS f (putBits (s.fd R.BPM_STATUS f) p 1 (b2n b))

/-! ## The metadata word (R183) -/

/-- A metadata word, field by field. -/
structure Meta where
  alloc : Bool := false
  pend : Bool := false
  retired : Bool := false
  holders : Nat := 0
  owner : Nat := 0
  gen : Nat := 0
  deriving DecidableEq, Repr

/-- The fields of a metadata word. -/
def Meta.ofNat (w : Nat) : Meta :=
  { alloc := bitAt w 31, pend := bitAt w 30, retired := bitAt w 29, holders := bitsOf w 21 8,
    owner := bitsOf w 9 12, gen := bitsOf w 1 8 }

/-- A metadata word from its fields. -/
def Meta.toNat (m : Meta) : Nat :=
  b2n m.alloc * 2 ^ 31 + b2n m.pend * 2 ^ 30 + b2n m.retired * 2 ^ 29 + lowBits m.holders 8 * 2 ^ 21
    + lowBits m.owner 12 * 2 ^ 9 + lowBits m.gen 8 * 2

/-- A buffer's metadata word. -/
def State.metaOf (s : State) (p i : Nat) : Meta := Meta.ofNat (s.ldN (s.poolSpace p) (s.metaAddr p i) 4)

/-- Write a buffer's metadata word. -/
def State.setMeta (s : State) (p i : Nat) (m : Meta) : State := s.stN (s.poolSpace p) (s.metaAddr p i) 4 m.toNat

/-! ## Levels (R202, R203) -/

/-- A pool's store. -/
def State.pool (s : State) (p : Nat) : PoolSt := s.bpm.pools.get (fun _ => {}) p

/-- Set a pool's store. -/
def State.setPool (s : State) (p : Nat) (x : PoolSt) : State :=
  { s with bpm := { s.bpm with pools := s.bpm.pools.set (fun _ => {}) p x } }

/-- A pool's free count (R185). -/
def State.poolFree (s : State) (p : Nat) : Nat := s.fd (R.BPM_POOL_FREE p) F.BPM_POOL_FREE_FREE

/-- Whether a level of threshold `th` is held at free count `n`, given whether it was held before (R202). -/
def levelHeld (count n th hyst : Nat) (was : Bool) : Bool :=
  decide (n ≤ count * th / 256) || (was && decide (n ≤ count * min (th + hyst) 255 / 256))

/-- The levels held at free count `n`: bit 0 WARN, bit 1 HOLD, bit 2 SHED. -/
def State.levelsAt (s : State) (p n : Nat) : Nat :=
  let r := R.BPM_POOL_LEVEL p
  let h := s.fd r F.BPM_POOL_LEVEL_HYST
  let was := (s.pool p).levels
  b2n (levelHeld (s.poolCount p) n (s.fd r F.BPM_POOL_LEVEL_WARN) h (bitAt was 0))
  + b2n (levelHeld (s.poolCount p) n (s.fd r F.BPM_POOL_LEVEL_HOLD) h (bitAt was 1)) * 2
  + b2n (levelHeld (s.poolCount p) n (s.fd r F.BPM_POOL_LEVEL_SHED) h (bitAt was 2)) * 4

/-- The deepest level of a set of levels: 3 SHED, 2 HOLD, 1 WARN, 0 none. -/
def deepest (l : Nat) : Nat := if bitAt l 2 then 3 else if bitAt l 1 then 2 else if bitAt l 0 then 1 else 0

/-- The LEVEL record (0x2009). -/
def levelRec (p lvl n : Nat) (empty : Bool) : ErrRec :=
  mkErr 4 0xFF 0x2009 0 0 0 0 0 (p + lvl * 16 + b2n empty * 256) n

/-- A pool's free count becomes `n`: the levels, the interrupts, events and records that follow (R185, R202, R203). -/
def State.setFree (s : State) (p n : Nat) : State :=
  let was := (s.pool p).levels
  let now := s.levelsAt p n
  let inn (i : Nat) : Bool := bitAt now i && !bitAt was i
  let empty := decide (n = 0 ∧ s.poolFree p ≠ 0)
  let s := (s.wf (R.BPM_POOL_FREE p) F.BPM_POOL_FREE_FREE n).wf (R.BPM_POOL_FREE p) F.BPM_POOL_FREE_LEVEL (deepest now)
  let s := s.setPool p { (s.pool p) with levels := now }
  let bits := b2n (decide (was ≠ 0 ∧ now = 0)) + b2n (inn 0) * 2 + b2n (inn 1) * 4 + b2n (inn 2) * 8 + b2n empty * 16
  let s := if bits = 0 then s else s.intSet (R.BPM_INT p) (R.BPM_INT_EN p) bits (216 + p)
  let s := if (inn 0 || inn 1) && s.flag (R.BPM_POOL_ACT p) F.BPM_POOL_ACT_EVT_EN then s.eventAll 9 else s
  let s := s.raiseIf (inn 1) (levelRec p 2 n false)
  let s := s.raiseIf (inn 2) (levelRec p 3 n false)
  if empty then s.raiseLim msCyc p (levelRec p (deepest now) n true) else s

/-- Whether a pool is at a level: 0 WARN, 1 HOLD, 2 SHED. -/
def State.poolAt (s : State) (p lvl : Nat) : Bool := s.poolOn p && bitAt (s.pool p).levels lvl

/-- The classes BPM asks PX to pause on a port (R202, HOLD), as bits. -/
def State.bpmPause (s : State) (port : Nat) : Nat :=
  (List.range 8).foldl (fun a p =>
    if s.poolAt p 1 && bitAt (s.rd (R.BPM_POOL_PMASK p (port / 32))).toNat (port % 32)
    then a ||| s.fd (R.BPM_POOL_ACT p) F.BPM_POOL_ACT_PAUSE_CLASSES else a) 0

/-- Whether BPM signals HOLD to ODS (R202). -/
def State.bpmThrottle (s : State) : Bool :=
  (List.range 8).any (fun p => s.poolAt p 1 && s.flag (R.BPM_POOL_ACT p) F.BPM_POOL_ACT_THROTTLE)

/-! ## The free store (R184) -/

/-- The address of a ring position. -/
def State.ringAddr (s : State) (p pos : Nat) : Nat :=
  let r := R.BPM_POOL_RING p
  s.fd r F.BPM_POOL_RING_RING_BASE * 65536 + pos % 2 ^ s.fd r F.BPM_POOL_RING_RING_LOG * 4

/-- `n` handles from a ring position on. -/
def State.ringRead (s : State) (p pos : Nat) : Nat → List W32
  | 0 => []
  | n + 1 => BitVec.ofNat 32 (s.ldN .dram (s.ringAddr p pos) 4) :: State.ringRead s p (pos + 1) n

/-- Write handles at the ring's tail. -/
def State.ringWrite (s : State) (p pos : Nat) : List W32 → State
  | [] => s
  | h :: hs => State.ringWrite (s.stN .dram (s.ringAddr p pos) 4 h.toNat) p (pos + 1) hs

/-- A read of up to 128 handles from the ring's head completes: they go beneath the cached ones, the head's uppermost. -/
def State.ringRefill (s : State) (p : Nat) : State :=
  let x := s.pool p
  let n := min 128 x.fill
  s.setPool p { x with cache := x.cache ++ s.ringRead p x.head n, head := x.head + n, fill := x.fill - n }

/-- The 128 handles cached longest go to the ring's tail, bottom-most first. -/
def State.ringSpill (s : State) (p : Nat) : State :=
  let x := s.pool p
  let keep := x.cache.length - 128
  let s1 := s.ringWrite p (x.head + x.fill) (x.cache.drop keep).reverse
  s1.setPool p { x with cache := x.cache.take keep, fill := x.fill + (x.cache.length - keep) }

/-- Take the next free handle; with the cache empty and the ring not, the allocation waits for the refill (R184). -/
def State.popHandle (s : State) (p : Nat) : State × Option W32 :=
  let s1 := if (s.pool p).cache = [] ∧ (s.pool p).fill ≠ 0 then (s.count (R.BPM_CNT 9)).ringRefill p else s
  match (s1.pool p).cache with
  | [] => (s1, none)
  | h :: t => (s1.setPool p { (s1.pool p) with cache := t }, some h)

/-- A read of an SRAM array meets an uncorrectable error (R462): the word is marked poisoned, with an SRAM_UE record. -/
def State.sramUe (s : State) (mem off : Nat) : State :=
  let k := mem * 2 ^ 32 + off / 8
  (({ s with ecs := { s.ecs with bad := if s.ecs.bad.contains k then s.ecs.bad else s.ecs.bad ++ [k] } } : State).count
    (R.ECS_CNT 1)).raise (mkErr 11 0 0x5802 2 0 0 0 0 mem off)

/-- The pages of the retire table that a DRAM range overlaps (R472): the first of them. -/
def State.retiredPage (s : State) (a n : Nat) : Option Nat :=
  ((s.ecs.retire.map (fun e => e.2.toNat)).filter (fun w => bitAt w 31)).map (fun w => w % 2 ^ 28)
    |>.find? (fun pg => decide (a / 4096 ≤ pg ∧ pg ≤ (a + n - 1) / 4096))

/-- The retired page a pool's buffer overlaps, for a pool in DRAM (R182, R199). -/
def State.bufRetired (s : State) (p i : Nat) : Option Nat :=
  if s.poolSpace p = .dram then s.retiredPage (s.bufAddr (mkHandle p i)) (s.poolBytes p) else none

/-- A freed buffer returns to the free store, or is withdrawn over a retired page (R192, R199). -/
def State.giveBack (s : State) (p i : Nat) : State :=
  match s.bufRetired p i with
  | some pg =>
    ((s.setMeta p i { retired := true }).count (R.BPM_POOL_CNT p 7)).raise
      (mkErr 4 0xFF 0x200C 1 2 (mkHandle p i).toNat 0 0 pg)
  | none =>
    let s1 := s.setMeta p i {}
    let x := s1.pool p
    ((s1.setPool p { x with cache := mkHandle p i :: x.cache }).count (R.BPM_POOL_CNT p 1)).setFree p (s.poolFree p + 1)

/-! ## Quotas (R197) -/

/-- Whether a MID carries quotas: every thread, the management pair's included. -/
def quotaMid (m : Nat) : Bool := midIsThread m || decide (0x800 ≤ m ∧ m ≤ 0x807)

/-- A thread's quota in a pool. -/
def State.quota (s : State) (m p : Nat) : QuotaSt := s.bpm.quotas.get (fun _ => {}) (m * 8 + p)

/-- Set a thread's quota in a pool. -/
def State.setQuota (s : State) (m p : Nat) (q : QuotaSt) : State :=
  { s with bpm := { s.bpm with quotas := s.bpm.quotas.set (fun _ => {}) (m * 8 + p) q } }

/-- The reserve buffers lent of a pool. -/
def State.resvUsed (s : State) (p : Nat) : Nat := s.fd (R.BPM_POOL_RUSED p) F.BPM_POOL_RUSED_RESV_USED

/-- The allocation test of R197 for a new owner: the state with the buffer counted, or none where it refuses. -/
def State.quotaTake (s : State) (m p : Nat) : Option State :=
  let q := s.quota m p
  if ¬ quotaMid m then some s
  else if q.held < q.quota then some (s.setQuota m p { q with held := q.held + 1 })
  else if q.borrowed < q.borrowMax ∧ s.resvUsed p < s.fd (R.BPM_POOL_RESV p) F.BPM_POOL_RESV_RESV ∧ ¬ s.poolAt p 2 then
    some (((s.setQuota m p { q with held := q.held + 1, borrowed := q.borrowed + 1 }).wf (R.BPM_POOL_RUSED p)
      F.BPM_POOL_RUSED_RESV_USED (s.resvUsed p + 1)).count (R.BPM_POOL_CNT p 5))
  else none

/-- The test refuses (R197): the count, the limited QUOTA_EXH record and event 10 for the thread. -/
def State.quotaRefuse (s : State) (m p : Nat) (gen : BitVec 8) (cls : Nat) : State :=
  ((s.count (R.BPM_POOL_CNT p 6)).raiseLim msCyc p (mkErr 4 0xFF 0x2008 0 0 0 m gen.toNat 0 (cls + p * 16))
    (fun n e => { e with d0 := BitVec.ofNat 32 n })).event m 10

/-- A buffer leaves its owner (R197): a loan is repaid first, then HELD falls. -/
def State.quotaLeave (s : State) (m p : Nat) : State :=
  if ¬ quotaMid m then s
  else
    let q := s.quota m p
    let s1 := if 0 < q.borrowed then s.wf (R.BPM_POOL_RUSED p) F.BPM_POOL_RUSED_RESV_USED (s.resvUsed p - 1) else s
    s1.setQuota m p { q with held := q.held - 1, borrowed := q.borrowed - 1 }

/-! ## Allocation (R186, R187) -/

/-- Why a pool refuses: 1 INIT, FROZEN or FAILED; 2 FREE is 0; 3 SHED of the class at ingress; 0 it does not. -/
def State.poolRefuses (s : State) (p : Nat) (ingress : Option Nat) : Nat :=
  if s.poolStat F.BPM_STATUS_INIT p || s.poolStat F.BPM_STATUS_FROZEN p || s.poolStat F.BPM_STATUS_FAILED p then 1
  else if s.poolFree p = 0 then 2
  else match ingress with
    | some cls => if s.poolAt p 2 && bitAt (s.fd (R.BPM_POOL_ACT p) F.BPM_POOL_ACT_SHED_CLASSES) cls then 3 else 0
    | none => 0

/-- How the search for a pool ends. -/
inductive PoolPick where
  | gives (p : Nat) (upsized : Bool)
  | refused (p why : Nat)
  | noFit
  deriving DecidableEq, Repr

/-- The search from the candidate on: a refusing pool with UPSIZE passes to the next larger one (R187). -/
def State.pickFrom (s : State) (ingress : Option Nat) : List Nat → Bool → PoolPick
  | [], _ => .noFit
  | p :: ps, up =>
    match s.poolRefuses p ingress with
    | 0 => .gives p up
    | why => if s.flag (R.BPM_POOL_SIZE p) F.BPM_POOL_SIZE_UPSIZE ∧ ps ≠ [] then State.pickFrom s ingress ps true
             else .refused p why

/-- The enabled pools that cover a length with their own head room, in rising order (R186). -/
def State.poolsFor (s : State) (n : Nat) : List Nat :=
  (List.range 8).filter (fun p => s.poolOn p && decide (n + s.poolHead p ≤ s.poolBytes p))

/-- Take a buffer of a pool for an owner (R188, R189): the metadata word, FREE and the count. -/
def State.takeBuffer (s : State) (p owner : Nat) (gen : BitVec 8) : State × W32 :=
  match s.popHandle p with
  | (s1, none) => (s1, 0)
  | (s1, some h) =>
    (((s1.setMeta p (hIdx h) { alloc := true, holders := 1, owner := owner, gen := gen.toNat }).count
      (R.BPM_POOL_CNT p 0)).setFree p (s.poolFree p - 1), h)

/-! ## Operations (R189 to R194) -/

/-- The request class of an operation code (R61). -/
def bpmClass (op : Nat) : Nat :=
  match op with
  | 1 | 2 => 4 | 3 => 0xB | 4 => 0xC | 5 => 0xD | 9 => 0xE | _ => 5

/-- A refusal of an operation that names a buffer: its record and count (R194, R205, R209). -/
def State.bpmRefuse (s : State) (pl op mid : Nat) (gen : BitVec 8) (akind addr res d0 : Nat) : State :=
  let r (code : Nat) := mkErr 4 pl code 2 akind addr mid gen.toNat d0 (bpmClass op)
  match res with
  | 0x4 => (s.raise (r 0x2001)).count (R.BPM_CNT 1)
  | 0x5 => (s.raise (r 0x2002)).count (R.BPM_CNT 2)
  | 0x6 => (s.raise (r 0x2003)).count (R.BPM_CNT 3)
  | 0x7 => (s.raise (r 0x2004)).count (R.BPM_CNT 4)
  | 0x8 => (s.raise (r 0x2005)).count (R.BPM_CNT 5)
  | 0x9 => (s.raise (r 0x2006)).count (R.BPM_CNT 6)
  | 0xA => (s.raise (r 0x2007)).count (R.BPM_CNT 7)
  | 0xB => (s.raiseGenStale 4 pl mid gen akind addr (bpmClass op)).count (R.BPM_CNT 8)
  | _ => s

/-- Whether an index of a pool names a buffer: enabled, 1 to COUNT - 1 (R191, check 2). -/
def State.handleOk (s : State) (h : W32) : Bool :=
  s.poolOn (hPool h) && decide (1 ≤ hIdx h ∧ hIdx h < s.poolCount (hPool h))

/-- Checks 3 to 5 of R191 on a buffer's metadata: the RESULT, 0 where every check passes. -/
def bpmChecks (op mid : Nat) (gen : BitVec 8) (k : Nat) (m : Meta) : Nat :=
  let owns := decide (m.owner = mid ∧ m.gen = gen.toNat)
  let needOwner := op = 3 ∨ op = 5 ∨ op = 6 ∨ op = 7 ∨ op = 8
  let asFree := op = 9 ∧ owns ∧ m.holders = 1
  if ¬ m.alloc then 6
  else if needOwner ∧ m.pend then 6
  else if needOwner ∧ ¬ owns then 7
  else if (op = 4 ∨ (op = 9 ∧ ¬ asFree)) ∧ owns then 9
  else if (op = 6 ∨ op = 8 ∨ op = 5) ∧ m.holders ≠ 1 then 8
  else if (op = 4 ∨ (op = 9 ∧ ¬ asFree)) ∧ m.holders < 2 then 9
  else if op = 3 ∧ 255 < m.holders + k then 0xA
  else 0

/-- One claim goes: the deferred free completes where one claim remains (R193). -/
def State.dropClaim (s : State) (p i : Nat) (m : Meta) : State :=
  if m.holders = 2 ∧ m.pend then (s.quotaLeave m.owner p).giveBack p i
  else s.setMeta p i { m with holders := m.holders - 1 }

/-- The effect of an operation whose checks passed: the state and its RESULT (R189, R192, R193, R197). -/
def State.bpmEffect (s : State) (op mid : Nat) (gen : BitVec 8) (p i arg : Nat) (m : Meta) : State × Nat :=
  match op with
  | 3 => (s.setMeta p i { m with holders := m.holders + arg }, 0)
  | 4 => (s.dropClaim p i m, 0)
  | 5 =>
    (match s.quotaTake arg p with
    | none => (s.quotaRefuse arg p (s.genOf arg) (bpmClass 5), 2)
    | some t => ((t.quotaLeave mid p).setMeta p i { m with owner := arg, gen := (s.genOf arg).toNat }, 0))
  | 7 => if m.holders = 1 then ((s.quotaLeave mid p).giveBack p i, 0) else (s.setMeta p i { m with pend := true }, 0xD)
  | 9 =>
    if m.owner = mid ∧ m.gen = gen.toNat ∧ m.holders = 1 then ((s.quotaLeave mid p).giveBack p i, 0)
    else (s.dropClaim p i m, 0)
  | _ => ((s.quotaLeave mid p).giveBack p i, 0)

/-- An operation that names a buffer by handle (R191): the state, and its RESULT; none while it is held on a frozen pool
(R200). The pool's INIT, FROZEN and FAILED are looked at once the handle is known to lie in it. -/
def State.bpmOp (s : State) (pl op mid : Nat) (gen : BitVec 8) (h : W32) (arg : Nat) : State × Option Nat :=
  let p := hPool h
  let i := hIdx h
  if ¬ midDefined mid then (s.raiseMidUndef 4 pl mid gen 2 h.toNat (bpmClass op), some 0xB)
  else if gen ≠ s.genOf mid then (s.bpmRefuse pl op mid gen 2 h.toNat 0xB 0, some 0xB)
  else if ¬ s.handleOk h then (s.bpmRefuse pl op mid gen 2 h.toNat 4 0, some 4)
  else if s.poolStat F.BPM_STATUS_FAILED p then
    (if op = 3 ∨ op = 5 then (s, some 0xC) else (s.count (R.BPM_CNT 10), some 0))
  else if s.poolStat F.BPM_STATUS_INIT p then (s, some 0xC)
  else if s.poolStat F.BPM_STATUS_FROZEN p then
    (if op = 3 ∨ op = 5 then (s, some 0xC)
     else (s.setPool p { (s.pool p) with held := (s.pool p).held ++ [{ op, mid, gen, handle := h, arg }] }, none))
  else
    let m := s.metaOf p i
    match bpmChecks op mid gen arg m with
    | 0 => let r := s.bpmEffect op mid gen p i arg m; (r.1, some r.2)
    | res => (s.bpmRefuse pl op mid gen 2 h.toNat res m.toNat, some res)

/-- ODS frees a discarded token's buffer (R196). -/
def State.odsFree (s : State) (h : W32) : State :=
  if h = 0 then s else (s.bpmOp 0xFF 6 0xA30 (s.genOf 0xA30) h 0).1

/-- The 40-bit response word of R189: a handle and a RESULT. -/
def bpmResp (h : W32) (res : Nat) : W40 := BitVec.ofNat 40 (res * 2 ^ 32 + h.toNat)

end Sys2Proof.Machine
end

