-- ==== Sys2Proof/Machine/Tables.lean ====
section
/-! DEFINITION. Cyclic redundancy checks, and the four-way hashed tables in table memory that PRS and FTE share (R121 to
R123, R133, R151, R171), with FTE's layout and its direct tables (R148, R169). -/
namespace Sys2Proof.Machine
open Sys2Proof

/-! ## Cyclic redundancy checks -/

/-- `n` reflected steps of a register: shift right, and XOR the polynomial where a 1 leaves. -/
def crcReflSteps (poly : Nat) : Nat → Nat → Nat
  | 0, c => c
  | n + 1, c => crcReflSteps poly n (if c % 2 = 1 then Nat.xor (c / 2) poly else c / 2)

/-- A reflected CRC register after a list of bytes. -/
def crcRefl (poly : Nat) (c : Nat) (bs : List Byte) : Nat :=
  bs.foldl (fun a b => crcReflSteps poly 8 (Nat.xor a b.toNat)) c

/-- CRC-32C (R123): polynomial 0x1EDC6F41, reflected, initial value and final XOR all ones. -/
def crc32c (bs : List Byte) : Nat := Nat.xor (crcRefl 0x82F63B78 0xFFFFFFFF bs) 0xFFFFFFFF

/-! ## Four-way tables -/

/-- A four-way hashed table: its first byte in table memory, the slots per way, the bytes of a key (at the entry's
start) and of an entry, and the entry byte whose bit 7 is VALID. -/
structure HTab where
  base : Nat
  slots : Nat
  keyB : Nat
  entB : Nat
  validB : Nat

/-- The slot of a key in a way (R123, R151). -/
def HTab.slotOf (t : HTab) (w : Nat) (key : List Byte) : Nat := crc32c (BitVec.ofNat 8 w :: key) % t.slots

/-- The address of a slot. -/
def HTab.addr (t : HTab) (w i : Nat) : Nat := t.base + (w * t.slots + i) * t.entB

/-- The entry in a slot. -/
def HTab.ent (t : HTab) (s : State) (w i : Nat) : List Byte := s.bytes .table (t.addr w i) t.entB

/-- Whether an entry is in use. -/
def HTab.valid (t : HTab) (e : List Byte) : Bool := bitAt ((e.getD t.validB 0).toNat) 7

/-- Whether an entry hits a key. -/
def HTab.hits (t : HTab) (key e : List Byte) : Bool := t.valid e && e.take t.keyB == key

/-- The four slots of a key, lowest way first. -/
def HTab.places (t : HTab) (key : List Byte) : List (Nat × Nat) := (List.range 4).map (fun w => (w, t.slotOf w key))

/-- The lowest way that hits (R123): way and slot. -/
def HTab.find (t : HTab) (s : State) (key : List Byte) : Option (Nat × Nat) :=
  if t.slots = 0 then none else (t.places key).find? (fun p => t.hits key (t.ent s p.1 p.2))

/-- Write a slot. -/
def HTab.put (t : HTab) (s : State) (w i : Nat) (e : List Byte) : State := s.setBytes .table (t.addr w i) e

/-- Clear VALID of a slot. -/
def HTab.clear (t : HTab) (s : State) (w i : Nat) : State :=
  s.setByte .table (t.addr w i + t.validB) ((s.byte .table (t.addr w i + t.validB)) &&& 0x7F)

/-- Where one resident entry may move: its own slots in the other three ways, rising. -/
def HTab.others (t : HTab) (s : State) (p : Nat × Nat) : List (Nat × Nat) :=
  (t.places ((t.ent s p.1 p.2).take t.keyB)).filter (fun q => q.1 != p.1)

/-- One breadth-first round of the search for a chain (R133): the first free slot found with the path that leads to it,
or the longer paths. A path lists slots, the latest first; `pin` bars a resident entry from moving (R612). -/
def HTab.chainRound (t : HTab) (s : State) (pin : Nat × Nat → Bool) (paths : List (List (Nat × Nat))) :
    Option (List (Nat × Nat)) × List (List (Nat × Nat)) :=
  let next := paths.flatMap (fun p => match p with
    | [] => []
    | h :: _ => if pin h then [] else (t.others s h).map (fun q => q :: p))
  (next.find? (fun p => match p with | [] => false | q :: _ => !t.valid (t.ent s q.1 q.2)), next)

/-- The search, up to `n` moves. -/
def HTab.chain (t : HTab) (s : State) (pin : Nat × Nat → Bool) : Nat → List (List (Nat × Nat)) → Option (List (Nat × Nat))
  | 0, _ => none
  | n + 1, paths =>
    match t.chainRound s pin paths with
    | (some p, _) => some p
    | (none, next) => HTab.chain t s pin n next

/-- Execute a chain from its far end: each resident entry is copied to the free slot before it. -/
def HTab.runChain (t : HTab) (s : State) : List (Nat × Nat) → State
  | free :: from_ :: rest => HTab.runChain t (t.put s free.1 free.2 (t.ent s from_.1 from_.2)) (from_ :: rest)
  | _ => s

/-- Place a new entry (R133, R171): the state, the way and slot written, and the moves made; none where no place is found.
-/
def HTab.place (t : HTab) (s : State) (pin : Nat × Nat → Bool) (e : List Byte) : Option (State × (Nat × Nat) × Nat) :=
  let ps := t.places (e.take t.keyB)
  if t.slots = 0 then none
  else match ps.find? (fun p => !t.valid (t.ent s p.1 p.2)) with
    | some p => some (t.put s p.1 p.2 e, p, 0)
    | none =>
      match t.chain s pin 8 (ps.map (fun p => [p])) with
      | some path =>
        let first := path.getLastD (0, 0)
        some (t.put (t.runChain s path) first.1 first.2 e, first, path.length - 1)
      | none => none

/-! ## FTE's tables (R169) -/

/-- The log2 of a table's size. -/
def State.fteLog (s : State) (k : Nat) : Nat := s.fd (R.FTE_LAYOUT k) F.FTE_LAYOUT_SIZE

/-- Whether a table is absent or being cleared (R173). -/
def State.fteGone (s : State) (k : Nat) : Bool :=
  decide (s.fteLog k = 0) || bitAt (s.fd R.FTE_STATUS F.FTE_STATUS_CLEARING) k

/-- A table's entries, or slots per way; 0 where it is absent. -/
def State.fteSize (s : State) (k : Nat) : Nat := if s.fteLog k = 0 then 0 else 2 ^ s.fteLog k

/-- A table's first byte. -/
def State.fteBase (s : State) (k : Nat) : Nat := s.fd (R.FTE_LAYOUT k) F.FTE_LAYOUT_BASE * 65536

/-- The bytes of an entry of a table. -/
def fteEntB (k : Nat) : Nat :=
  match k with
  | 2 | 8 => 32 | 3 => 64 | 4 => 128 | 6 => 8 | 7 => 4 | _ => 16

/-- The bytes of a key of a hashed table (R151). -/
def fteKeyB (k : Nat) : Nat := match k with | 2 => 24 | 4 => 4 | _ => 8

/-- A hashed table as FTE reads it: no slots while it is absent or being cleared. -/
def State.fteTab (s : State) (k : Nat) : HTab :=
  { base := s.fteBase k, slots := if s.fteGone k then 0 else s.fteSize k, keyB := fteKeyB k, entB := fteEntB k,
    validB := match k with | 2 => 31 | 4 => 4 | _ => 15 }

/-- An entry of a direct table as a number; none beyond its size, or while it is absent or being cleared. -/
def State.fteEnt (s : State) (k i : Nat) : Option Nat :=
  if s.fteGone k ∨ s.fteSize k ≤ i then none else some (s.ldN .table (s.fteBase k + i * fteEntB k) (fteEntB k))

/-- Whether a port set holds a member: a port 0 to 143, or 144 for MLK (R148). -/
def setHolds (q n : Nat) : Bool := bitAt q n

/-- The members of a port set entry for a token (R148): ports rising, MLK as 144; without KEEP_IN, INPORT is left out,
and MLK for a token that came over it. -/
def setMembers (q inport : Nat) : List Nat :=
  (List.range 145).filter (fun n => setHolds q n &&
    (bitAt q 145 || !(n == inport || (n == 144 && inport == 0xFE))))

end Sys2Proof.Machine
end

