-- ==== Sys2Proof/Machine/Token.lean ====
section
/-! DEFINITION. The token's layout (R33): a token as a number of 512 bits and as 64 bytes, and back; error records as
32 bytes (R57). -/
namespace Sys2Proof.Machine
open Sys2Proof

/-- The 512 bits of a token, as a number (R33); reserved bits are 0 (R34). -/
def Token.toNat (t : Token) : Nat :=
  t.id.toNat + t.epoch.toNat * 2 ^ 19 + t.ctype.toNat * 2 ^ 27 + t.flow.toNat * 2 ^ 32 + t.node.toNat * 2 ^ 54
  + t.cls.toNat * 2 ^ 60 + t.its.toNat * 2 ^ 64 + t.handle.toNat * 2 ^ 128 + t.cresult.toNat * 2 ^ 160
  + t.length.toNat * 2 ^ 192 + t.inport.toNat * 2 ^ 208 + t.egress.toNat * 2 ^ 216 + t.seq.toNat * 2 ^ 226
  + t.verdict.toNat * 2 ^ 250 + t.tapf.toNat * 2 ^ 254 + t.owner.toNat * 2 ^ 256 + t.gen.toNat * 2 ^ 268
  + t.scratch.toNat * 2 ^ 288

/-- The token of 512 bits (R33). -/
def Token.ofNat (n : Nat) : Token :=
  { id := BitVec.ofNat 19 n, epoch := BitVec.ofNat 8 (n / 2 ^ 19), ctype := BitVec.ofNat 4 (n / 2 ^ 27),
    flow := BitVec.ofNat 22 (n / 2 ^ 32), node := BitVec.ofNat 6 (n / 2 ^ 54), cls := BitVec.ofNat 3 (n / 2 ^ 60),
    its := BitVec.ofNat 64 (n / 2 ^ 64), handle := BitVec.ofNat 32 (n / 2 ^ 128),
    cresult := BitVec.ofNat 32 (n / 2 ^ 160), length := BitVec.ofNat 16 (n / 2 ^ 192),
    inport := BitVec.ofNat 8 (n / 2 ^ 208), egress := BitVec.ofNat 10 (n / 2 ^ 216),
    seq := BitVec.ofNat 24 (n / 2 ^ 226), verdict := BitVec.ofNat 4 (n / 2 ^ 250),
    tapf := BitVec.ofNat 2 (n / 2 ^ 254), owner := BitVec.ofNat 12 (n / 2 ^ 256),
    gen := BitVec.ofNat 8 (n / 2 ^ 268), scratch := BitVec.ofNat 224 (n / 2 ^ 288) }

/-- The 64 bytes of a token. -/
def Token.bytes (t : Token) : List Byte := toLe 64 t.toNat

/-- The token of 64 bytes. -/
def Token.ofBytes (bs : List Byte) : Token := Token.ofNat (leNat bs)

/-- What ODS takes from a thread's copy at a put (R34): the changeable fields; OWNER and GEN are cleared (R227). -/
def Token.taken (mine theirs : Token) : Token :=
  { mine with flow := theirs.flow, node := theirs.node, cls := theirs.cls, handle := theirs.handle,
              cresult := theirs.cresult, length := theirs.length, egress := theirs.egress,
              verdict := theirs.verdict, scratch := theirs.scratch, owner := 0, gen := 0 }

/-- Write a passage time into bytes `36 + 4k` to `39 + 4k` of a PROBE (R253). -/
def Token.stampProbe (t : Token) (k : Nat) (now : Nat) : Token :=
  { t with scratch := BitVec.ofNat 224 (putBits t.scratch.toNat (32 * k) 32 now) }

/-- Whether a token is a PROBE. -/
def Token.isProbe (t : Token) : Bool := t.ctype == 7

/-- A PROBE passes a unit, which stamps it (R253); other tokens are unchanged. -/
def State.probed (s : State) (t : Token) (k : Nat) : Token :=
  if t.isProbe then t.stampProbe k s.time.ptp.toNat else t

/-- A record's 256 bits as DW0 to DW7 (R57). -/
def ErrRec.words (e : ErrRec) : List W32 :=
  [BitVec.ofNat 32 (e.code.toNat + e.sev.toNat * 2 ^ 16 + e.akind.toNat * 2 ^ 19 + b2n e.ovf * 2 ^ 22
      + b2n e.tskind * 2 ^ 23 + e.gen.toNat * 2 ^ 24),
   BitVec.ofNat 32 (e.unit.toNat + e.inst.toNat * 2 ^ 8 + e.mid.toNat * 2 ^ 16),
   e.ts.setWidth 32, (e.ts >>> 32).setWidth 32, e.addr.setWidth 32, (e.addr >>> 32).setWidth 32, e.d0, e.d1]

end Sys2Proof.Machine
end

