-- ==== Sys2Proof/Machine/OdsOps.lean ====
section
/-! DEFINITION. The operations of ODS that several commands share (07_order_dispatch): slots and admission, control
cells, ready queues, flow locks, order restoration, delay lists, release, throttling. -/
namespace Sys2Proof.Machine
open Sys2Proof

/-! ## The token store (R210 to R214) -/

/-- A slot of the token store. -/
def State.slot (s : State) (id : Nat) : Slot := s.ods.slots.get (fun _ => {}) id

/-- Set a slot. -/
def State.setSlot (s : State) (id : Nat) (x : Slot) : State :=
  { s with ods := { s.ods with slots := s.ods.slots.set (fun _ => {}) id x } }

/-- The tokens in flight with an ingress port (R252). -/
def State.portTokens (s : State) (n : Nat) : Nat :=
  (s.ods.slots.filter (fun e => e.2.tok.inport.toNat == n && e.2.tok.ctype != 5)).length

/-- A port is drained (R252): its bit of ODS_DRAIN is set. -/
def State.setDrained (s : State) (n : Nat) : State :=
  (s.orBits (R.ODS_DRAIN (n / 32)) (2 ^ (n % 32))).intSet R.ODS_INT R.ODS_INT_EN 0x10 11

/-- The ports that wait for their drain and hold no token any more are drained. -/
def State.checkDrains (s : State) : State :=
  let done := s.ods.drains.filter (fun d => s.portTokens d.port == 0)
  let s1 : State := { s with ods := { s.ods with drains := s.ods.drains.filter (fun d => s.portTokens d.port != 0) } }
  done.foldl (fun t d => t.setDrained d.port) s1

/-- Free a slot (R214); a port's drain may end with it (R252). -/
def State.dropSlot (s : State) (id : Nat) : State :=
  ({ s with ods := { s.ods with slots := s.ods.slots.erase id } } : State).checkDrains

/-- The slots of the store (R210). -/
def State.storeSize (s : State) : Nat := 2 ^ s.fd R.ODS_STORE F.ODS_STORE_LOG

/-- The free slots. -/
def State.freeSlots (s : State) : Nat := s.storeSize - s.ods.slots.length

/-- Whether ODS keeps the last free slots from PRS (R212). -/
def State.storeLow (s : State) : Bool :=
  decide (s.freeSlots ≤ s.fd R.ODS_STORE F.ODS_STORE_RESERVE * 64)

/-- Whether ODS admits at all (R212). -/
def State.odsRuns (s : State) : Bool := s.flag R.ODS_CFG F.ODS_CFG_RUN

/-- The next slot not in use from a position on, in rising order modulo the store's size. -/
def nextFree (used : List Nat) (size : Nat) : Nat → Nat → Option Nat
  | 0, _ => none
  | n + 1, i => if used.contains (i % size) then nextFree used size n (i + 1) else some (i % size)

/-- Allocate a slot from an allocation pointer (R212): the slot holds the token, in the forming unit's hands. -/
def State.allocSlot (s : State) (ptr : Nat) (t : Token) : Option (State × Nat) :=
  if ¬ s.odsRuns ∨ s.freeSlots = 0 then none
  else match nextFree (s.ods.slots.map (·.1)) s.storeSize (s.ods.slots.length + 1) (s.ods.ptrs.get (fun _ => 0) ptr) with
    | none => none
    | some id =>
      let s1 : State := { s with ods := { s.ods with ptrs := s.ods.ptrs.set (fun _ => 0) ptr (id + 1) } }
      some ((s1.setSlot id { used := true, tok := { t with id := BitVec.ofNat 19 id }, pipe := ptr }).count
        (R.ODS_CNT 0), id)

/-- A front-end pipeline. -/
def State.pipe (s : State) (pl : Nat) : PipeSt := s.pipes.get (fun _ => {}) pl

/-- Set a front-end pipeline. -/
def State.setPipe (s : State) (pl : Nat) (x : PipeSt) : State := { s with pipes := s.pipes.set (fun _ => {}) pl x }

/-- The next admission count of a pipeline (R213). -/
def State.nextAdm (s : State) (pl : Nat) : State × BitVec 12 :=
  let p := s.pipe pl
  (s.setPipe pl { p with adm := p.adm + 1 }, p.adm + 1)

/-- Give back the slot of a token dropped before it reached ODS; it counts as discarded (R257). -/
def State.dropForming (s : State) (id : Nat) : State := (s.dropSlot id).count (R.ODS_CNT 5)

/-! ## Forming control cells (R41, R212) -/

/-- A port. -/
def State.port (s : State) (n : Nat) : PortSt := s.ports.get (fun _ => {}) n

/-- Set a port. -/
def State.setPort (s : State) (n : Nat) (x : PortSt) : State := { s with ports := s.ports.set (fun _ => {}) n x }

/-- Hold a cell that found the store full. -/
def State.holdCell (s : State) (c : HeldCell) : State := { s with ods := { s.ods with held := s.ods.held ++ [c] } }

/-- MGT injects a cell on a pipeline: MARK and ABORT (kind 0), or PROBE (kind 3). -/
def State.injectCell (s : State) (kind pl : Nat) (t : Token) : State :=
  match s.allocSlot 4 t with
  | none => s.holdCell { kind := kind, tok := t, at_ := pl }
  | some (s1, id) =>
    let r := s1.nextAdm pl
    let x := r.1.slot id
    let s2 := r.1.setSlot id { x with adm := r.2 }
    let p := s2.pipe pl
    s2.setPipe pl { p with cells := p.cells ++ [{ tok := x.tok, adm := r.2 }] }

/-- The pipeline of a port (R98). -/
def portPipe (n : Nat) : Nat := n / 36

/-- The token of a FLUSH cell for a port (R41). -/
def flushTok (n : Nat) (now : W64) : Token := { ctype := 5, inport := BitVec.ofNat 8 n, its := now }

/-- PX forms one FLUSH cell behind the frames in a port's receive FIFO (R75). -/
def State.formFlush (s : State) (n : Nat) : State :=
  match s.allocSlot 4 (flushTok n s.time.ptp) with
  | none =>
    let p := s.port n
    (s.setPort n { p with rxq := p.rxq ++ [{ flush := true, its := s.time.ptp }] }).holdCell
      { kind := 1, tok := flushTok n s.time.ptp, at_ := n }
  | some (s1, id) =>
    let r := s1.nextAdm (portPipe n)
    let p := r.1.port n
    (r.1.setSlot id { (r.1.slot id) with adm := r.2 }).setPort n
      { p with rxq := p.rxq ++ [{ flush := true, cell := some (id, r.2), its := s.time.ptp }] }

/-! ## Ready queues (R219, R220) and throttling (R247) -/

/-- A ready queue: slots, head first. -/
def State.queue (s : State) (q : Nat) : List Nat := s.ods.queues.get (fun _ => []) q

/-- Set a ready queue, its depth register, and whether it is held over XOFF. -/
def State.setQueue (s : State) (q : Nat) (l : List Nat) : State :=
  let xoff := s.fd (R.ODS_QCFG q) F.ODS_QCFG_XOFF
  let was := s.ods.past.get (fun _ => false) q
  let now := decide (xoff ≠ 0) && (decide (xoff * 32 < l.length) || (was && decide (xoff * 16 < l.length)))
  ({ s with ods := { s.ods with queues := s.ods.queues.set (fun _ => []) q l,
                                past := s.ods.past.set (fun _ => false) q now } }).wf
    (R.ODS_QDEPTH q) F.ODS_QDEPTH_DEPTH l.length

/-- The reasons to throttle a pipeline (R247). -/
def State.throttles (s : State) (pl : Nat) : Bool :=
  s.ods.past.any (fun e => bitAt (s.fd (R.ODS_QCFG e.1) F.ODS_QCFG_PMASK) pl) || s.bpmThrottle || s.storeLow

/-- ODS shows the throttled pipelines and raises THROTTLE when one becomes throttled (R247, R250). -/
def State.reThrottle (s : State) : State :=
  let now := (List.range 4).foldl (fun a p => a + b2n (s.throttles p) * 2 ^ p) 0
  let rises := (List.range 4).any (fun p => bitAt now p && !bitAt s.ods.throttled p)
  let s1 := (if rises then s.intSet R.ODS_INT R.ODS_INT_EN 1 11 else s).wf R.ODS_STATUS F.ODS_STATUS_THROTTLED now
  { s1 with ods := { s1.ods with throttled := now } }

/-- Append a token to a queue. -/
def State.enqueue (s : State) (id q : Nat) : State :=
  (s.setSlot id { (s.slot id) with place := .queue q, fromQ := q }).setQueue q (s.queue q ++ [id])

/-- Return a token to the head of the queue it came from. -/
def State.enqueueHead (s : State) (id : Nat) : State :=
  let q := (s.slot id).fromQ
  (s.setSlot id { (s.slot id) with place := .queue q }).setQueue q (id :: s.queue q)

/-! ## The graph (R217 to R219) -/

/-- A field of a node's word A in a view. -/
def nodeA (v : State) (n : Nat) (f : Fld) : Nat := v.fd (R.ODS_NODE_A n) f

/-- A node's kind: 1 operation, 2 release, otherwise undefined. -/
def nodeKind (v : State) (n : Nat) : Nat :=
  match nodeA v n F.ODS_NODE_A_KIND with | 1 => 1 | 2 => 2 | _ => 0

/-- A node's own queue for a token (R219). -/
def nodeQueue (v : State) (n : Nat) (flow : BitVec 22) : Nat :=
  nodeA v n F.ODS_NODE_A_GROUP * 16 + nodeA v n F.ODS_NODE_A_PRIO * 2 + flow.toNat % 2

/-- Whether a visit to a node needs the flow lock. -/
def nodeAtomic (v : State) (n : Nat) : Bool := nodeA v n F.ODS_NODE_A_ATOMIC == 1

/-- A token's view. -/
def State.tokView (s : State) (t : Token) : State := s.view t.epoch

/-! ## Flow locks (R229 to R233) -/

/-- The lock of a token (R40). -/
def Token.lockIdx (t : Token) : Nat := t.flow.toNat % 2 ^ 20

/-- A flow lock. -/
def State.lockOf (s : State) (f : Nat) : LockSt := s.ods.locks.get (fun _ => {}) f

/-- Set a flow lock. -/
def State.setLock (s : State) (f : Nat) (x : LockSt) : State :=
  { s with ods := { s.ods with locks := s.ods.locks.set (fun _ => {}) f x } }

/-- A token gives up the lock it holds: the first waiter takes it and returns to the head of its queue (R231). -/
def State.unlock (s : State) (id : Nat) : State :=
  let x := s.slot id
  if ¬ x.lock then s
  else
    let f := x.tok.lockIdx
    let s1 := s.setSlot id { x with lock := false }
    match (s.lockOf f).waiters with
    | [] => s1.setLock f {}
    | w :: ws => ((s1.setLock f { holder := some w, waiters := ws }).setSlot w
        { (s1.slot w) with lock := true }).enqueueHead w

/-! ## Delay lists (R242 to R246) -/

/-- The key of a delay-list entry. -/
def dlKey (l i : Nat) : Nat := l * 65536 + i

/-- A delay-list entry. -/
def State.dlEnt (s : State) (l i : Nat) : DlEnt := s.ods.dl.get (fun _ => {}) (dlKey l i)

/-- The entries of a list: entry number and contents. -/
def State.dlList (s : State) (l : Nat) : List (Nat × DlEnt) :=
  (s.ods.dl.filter (fun e => e.1 / 65536 == l)).map (fun e => (e.1 % 65536, e.2))

/-- Set a delay-list entry, with OCC. -/
def State.setDl (s : State) (l i : Nat) (e : DlEnt) : State :=
  let s1 : State := { s with ods := { s.ods with dl := s.ods.dl.set (fun _ => {}) (dlKey l i) e } }
  s1.wf (R.ODS_DLIST l) F.ODS_DLIST_OCC (s1.dlList l).length

/-- What stands beside an entry's number between its uses: the next tag, and the MID + 1 that armed it last. -/
def State.dlTag (s : State) (l i : Nat) : BitVec 4 × Nat := s.ods.dlTags.get (fun _ => (0, 0)) (dlKey l i)

/-- Free a delay-list entry; its tag rises for the next use. -/
def State.dlFree (s : State) (l i : Nat) : State :=
  let s1 := s.setDl l i {}
  let next := ((s.dlEnt l i).tag + 1, (s.dlEnt l i).mid + 1)
  { s1 with ods := { s1.ods with dlTags := s1.ods.dlTags.set (fun _ => (0, 0)) (dlKey l i) next } }

/-- A list's tick in nanoseconds (R242); K above 10 acts as 10. -/
def State.dlTick (s : State) (l : Nat) : Nat := 8 * 2 ^ min 10 (s.fd (R.ODS_DLIST l) F.ODS_DLIST_K)

/-- A list's current tick. -/
def State.dlNow (s : State) (l : Nat) : Nat := s.time.ptp.toNat / s.dlTick l

/-- Whether a list is in use. -/
def State.dlOn (s : State) (l : Nat) : Bool := s.flag (R.ODS_DLIST l) F.ODS_DLIST_EN

/-- Whether a list is full. -/
def State.dlFull (s : State) (l : Nat) : Bool := decide (65536 ≤ (s.dlList l).length)

/-- Reserve an entry of a list: the lowest one not in use. -/
def State.dlReserve (s : State) (l : Nat) (e : DlEnt) : Option (State × Nat) :=
  match nextFree ((s.dlList l).map (·.1)) 65536 ((s.dlList l).length + 1) 0 with
  | none => none
  | some i =>
    if s.dlFull l then none
    else
      let s1 : State := { s with ods := { s.ods with placed := s.ods.placed + 1 } }
      some (s1.setDl l i { e with order := s.ods.placed, tag := (s.dlTag l i).1 }, i)

/-- The handle of an entry: list, entry, tag (07, The token port). -/
def State.dlHandle (s : State) (l i : Nat) : Nat := l * 2 ^ 20 + i * 16 + (s.dlEnt l i).tag.toNat

/-- What ODS decides when a token reaches a timed release node (R243). -/
inductive TimedPick where
  | atOnce (late : Bool)
  | range
  | full
  | on (l tick : Nat)
  deriving DecidableEq, Repr

/-- The decision for an instant on a list. -/
def State.timedPick (s : State) (l instant : Nat) : TimedPick :=
  let tick := (instant + s.dlTick l - 1) / s.dlTick l
  if ¬ s.dlOn l then .range
  else if tick ≤ s.dlNow l then .atOnce true
  else if s.dlNow l + (2 ^ 24 - 1) < tick then .range
  else if s.dlFull l then .full
  else .on l tick

/-! ## Release (R37, R196, R237 to R241, R603) -/

/-- A release list. -/
def State.relList (s : State) (n : Nat) : List RelEnt := s.ods.rel.get (fun _ => []) n

/-- Append a copy to a release list. -/
def State.relPush (s : State) (n : Nat) (e : RelEnt) : State :=
  { s with ods := { s.ods with rel := s.ods.rel.set (fun _ => []) n (s.relList n ++ [{ e with ord := s.ods.relSeq }]),
                               relSeq := s.ods.relSeq + 1 } }

/-- Append a copy to each of several release lists. -/
def State.relPushAll (s : State) (e : RelEnt) : List Nat → State
  | [] => s
  | n :: ns => State.relPushAll (s.relPush n e) e ns

/-- ODS's own operation on a buffer. -/
def State.odsBpm (s : State) (op : Nat) (h : W32) (arg : Nat) : State :=
  (s.bpmOp 0xFF op 0xA30 (s.genOf 0xA30) h arg).1

/-- ODS gives a discarded token's buffer back (R196); through FREE_LATER while a mirror copy holds a claim (R603). -/
def State.freeBuf (s : State) (h : W32) (shared : Bool) : State :=
  if hIdx h = 0 then s else s.odsBpm (if shared then 7 else 6) h 0

/-- ODS discards a token whose order needs no more care. -/
def State.endDiscard (s : State) (id : Nat) : State :=
  ((s.freeBuf (s.slot id).tok.handle (s.slot id).shared).dropSlot id).count (R.ODS_CNT 5)

/-- A record of ODS about a token. -/
def odsRec (code sev id : Nat) (pipe : Nat := 4) (d0 d1 : Nat := 0) : ErrRec :=
  mkErr 5 (if pipe < 4 then pipe else 0xFF) code sev 4 id 0 0 d0 d1

/-- Whether the device acts as standby (R601). -/
def State.standby (s : State) : Bool := s.mode F.GLB_MODE_PAIR && s.mode F.GLB_MODE_STANDBY

/-- Whether a port exists (R68). -/
def State.portExists (s : State) (n : Nat) : Bool :=
  decide (n < 144) && (decide (n % 4 = 0) || !bitAt (s.fd (R.PX_GRP_QUAD (n / 12)) F.PX_GRP_QUAD_QUAD_EN) (n % 12 / 4))

/-- The mirror port, where it can send (R604). -/
def State.mirrorPort (s : State) : Option Nat :=
  let n := s.fd R.MGT_MODE_MIRROR F.MGT_MODE_MIRROR_PORT
  if s.portExists n ∧ s.fd (R.PX_PORT_MODE n) F.PX_PORT_MODE_MODE ≠ 0 then some n else none

/-- ODS copies a packet token to the mirror port (R603). -/
def State.mirrorCopy (s : State) (id : Nat) : State :=
  let x := s.slot id
  match s.mirrorPort with
  | none => s
  | some n =>
    if ¬ s.mode F.GLB_MODE_MIRROR ∨ s.standby ∨ x.tok.ctype ≠ 0 ∨ x.copy ∨ hIdx x.tok.handle = 0 then s
    else if max 1 (s.fd R.MGT_MODE_MIRROR F.MGT_MODE_MIRROR_DEPTH) ≤ (s.relList n).length then s.count (R.MGT_MTX_CNT 7)
    else match s.allocSlot 4 { x.tok with egress := BitVec.ofNat 10 n } with
      | none => s.count (R.MGT_MTX_CNT 7)
      | some (s1, k) =>
        let s2 := s1.odsBpm 3 x.tok.handle 1
        let y := { s2.slot k with place := .release, refs := 1, copy := true, cut := x.cut, bad := x.bad }
        (((s2.setSlot k y).setSlot id { (s2.slot id) with shared := true }).relPush n
          { id := k, tok := y.tok }).count (R.MGT_MTX_CNT 6)

/-- Append a token to release lists of `ms`, its claims shared (R196). -/
def State.releaseShared (s : State) (id : Nat) (ms : List Nat) : State :=
  let x := s.slot id
  let s1 := if hIdx x.tok.handle = 0 then s
            else (s.odsBpm 3 x.tok.handle ms.length).odsBpm 7 x.tok.handle 0
  (s1.setSlot id { (s1.slot id) with place := .release, refs := ms.length, shared := true }).relPushAll
    { id := id, tok := x.tok } ms

/-- Append a token to one release list, its buffer given to the new owner (R196); by a claim while a mirror copy holds
one (R603). -/
def State.releaseOne (s : State) (id n owner : Nat) : State :=
  let x := s.slot id
  if x.shared then s.releaseShared id [n]
  else
    let s1 := if hIdx x.tok.handle = 0 then s else s.odsBpm 5 x.tok.handle owner
    (s1.setSlot id { (s1.slot id) with place := .release, refs := 1 }).relPush n { id := id, tok := x.tok }

/-- The EGRESS_BAD record (R37, R237). -/
def egressBad (x : Slot) (id : Nat) : ErrRec := odsRec 0x0006 1 id x.pipe x.tok.egress.toNat

/-- ODS takes a token to the destinations that EGRESS names (R237, R238). -/
def State.toEgress (s : State) (id : Nat) : State :=
  let x := s.slot id
  let e := x.tok.egress.toNat
  let null := decide (hIdx x.tok.handle = 0)
  if null ∧ x.tok.ctype = 0 then (s.raise (odsRec 0x2807 2 id x.pipe e)).endDiscard id
  else if 512 ≤ e then
    (if null then s.endDiscard id
     else match (s.tokView x.tok).fteEnt 8 (e - 512) with
      | none => (s.raise (egressBad x id)).endDiscard id
      | some q =>
        if setMembers q x.tok.inport.toNat = [] then s.endDiscard id
        else s.releaseShared id (setMembers q x.tok.inport.toNat))
  else if e < 144 then (if null then s.endDiscard id else s.releaseOne id e (0x900 + e))
  else if e = 0x1F0 then s.releaseOne id 145 0xA60
  else if e = 0x1FE then s.endDiscard id
  else (s.raise (egressBad x id)).endDiscard id

/-- A token leaves for release: a bad frame is discarded (R240), a TIMER cell ends (R234), a FREEZE cell goes to REC, a
timed copy is mirrored (R603). -/
def State.releaseNow (s : State) (id : Nat) : State :=
  let x := s.slot id
  if x.bad then (s.endDiscard id).count (R.ODS_CNT 18)
  else if x.tok.ctype = 3 then s.dropSlot id
  else if s.mode F.GLB_MODE_TIMED then (s.mirrorCopy id).toEgress id
  else s.toEgress id

/-- A delay-list entry counts late, at most once (R244). -/
def State.countLate (s : State) (already : Bool) : State := s.countIf (!already) (R.ODS_CNT 11)

/-- A token leaves order restoration (R235, R241, R243, R246, R601, R605). -/
def State.leaveOrder (s : State) (id : Nat) : State :=
  let x := s.slot id
  if x.disc then s.endDiscard id
  else if s.standby ∧ x.tok.ctype = 0 ∧ x.tok.egress ≠ 0x1F0 then
    match x.timed with
    | some (l, i) => ((s.dlFree l i).endDiscard id).count (R.MGT_MTX_CNT 8)
    | none => (s.endDiscard id).count (R.MGT_MTX_CNT 8)
  else if x.cut.isSome ∧ (x.timed.isSome ∨ (s.mode F.GLB_MODE_SAFE ∧ (x.tok.verdict ≠ 0 ∨ x.whole))) then
    s.setSlot id { x with place := .endWait }
  else match x.timed with
    | none => s.releaseNow id
    | some (l, i) =>
      if x.bad then ((s.dlFree l i).endDiscard id).count (R.ODS_CNT 18)
      else if (s.dlEnt l i).tick ≤ s.dlNow l then
        (((s.countLate (s.dlEnt l i).late).dlFree l i).setSlot id { x with timed := none }).releaseNow id
      else ((s.setDl l i { (s.dlEnt l i) with kind := .token }).setSlot id { x with place := .listed l i }).count
        (R.ODS_CNT 10)

/-! ## Order restoration (R234 to R236, R39) -/

/-- An order domain. -/
def State.domOf (s : State) (d : Nat) : DomSt := s.ods.doms.get (fun _ => {}) d

/-- Set an order domain. -/
def State.setDom (s : State) (d : Nat) (x : DomSt) : State :=
  { s with ods := { s.ods with doms := s.ods.doms.set (fun _ => {}) d x } }

/-- Serial comparison of SEQ values (R39): `a` precedes `b`. -/
def seqBefore (a b : BitVec 24) : Bool := decide (1 ≤ (b - a).toNat ∧ (b - a).toNat ≤ 8388607)

/-- What follows in a domain once its next-out has moved: ended SEQs are passed over, and waiting tokens in turn leave. -/
def State.drainDom (s : State) (d : Nat) : Nat → State
  | 0 => s
  | n + 1 =>
    let x := s.domOf d
    if x.gone.contains x.out then
      State.drainDom (s.setDom d { x with out := x.out + 1, gone := x.gone.filter (· ≠ x.out) }) d n
    else match x.wait.find? (fun id => (s.slot id).tok.seq == x.out) with
      | some id =>
        State.drainDom ((s.setDom d { x with out := x.out + 1, wait := x.wait.filter (· ≠ id) }).leaveOrder id) d n
      | none => s

/-- Drain a domain as far as it goes. -/
def State.drain (s : State) (d : Nat) : State :=
  s.drainDom d ((s.domOf d).wait.length + (s.domOf d).gone.length + 1)

/-- The domain as an ORDER record shows it: bits 19:0, bit 20 for a port domain. -/
def domDetail (d : Nat) : Nat := d

/-- A token is done (R235, R236): it leaves at its turn, waits for its predecessors, or is late. -/
def State.tokenDone (s : State) (id : Nat) : State :=
  let x := s.slot id
  match x.dom with
  | none => s.leaveOrder id
  | some d =>
    let o := s.domOf d
    if x.tok.seq = o.out then ((s.setDom d { o with out := o.out + 1 }).leaveOrder id).drain d
    else if seqBefore x.tok.seq o.out then
      let s1 := (s.count (R.ODS_CNT 9)).raiseLim msCyc 0 (odsRec 0x2804 0 id x.pipe 0 (domDetail d))
        (fun n e => { e with d0 := BitVec.ofNat 32 n })
      if s.flag R.ODS_CFG F.ODS_CFG_LATE_ACT then
        (s1.setSlot id { x with disc := true }).leaveOrder id
      else s1.leaveOrder id
    else (s.setDom d { o with wait := o.wait ++ [id] }).setSlot id
      { x with place := .ordered, doneAt := s.time.clock }

/-- A SEQ ends without a release: the next-out passes it at its turn (R235). -/
def State.seqEnds (s : State) (d : Nat) (q : BitVec 24) : State :=
  let o := s.domOf d
  if q = o.out then (s.setDom d { o with out := o.out + 1 }).drain d
  else if seqBefore q o.out then s
  else s.setDom d { o with gone := o.gone ++ [q] }

/-- ODS or a thread discards a token (R235): the lock goes, the buffer and the slot are given back, the order moves on. -/
def State.discardToken (s : State) (id : Nat) : State :=
  let s1 := s.unlock id
  let x := s1.slot id
  let s2 := match x.timed with
    | some (l, i) => s1.dlFree l i
    | none => s1
  match x.dom with
  | none => if x.tok.ctype = 3 then s2.dropSlot id else s2.endDiscard id
  | some d => (s2.endDiscard id).seqEnds d x.tok.seq

/-- The NODE_BAD discard (R218). -/
def State.nodeBad (s : State) (id : Nat) : State :=
  let x := s.slot id
  (((s.raise (odsRec 0x2801 2 id x.pipe x.tok.node.toNat)).count (R.ODS_CNT 19)).intSet R.ODS_INT R.ODS_INT_EN 0x80 11).discardToken id

/-- A token becomes ready at an operation node: on a queue, or, for a WHOLE node, after the frame's end (R218, R240). -/
def State.makeReady (s : State) (id q : Nat) : State :=
  let x := s.slot id
  let whole := nodeA (s.tokView x.tok) x.tok.node.toNat F.ODS_NODE_A_WHOLE == 1
  let s1 := s.setSlot id { x with whole := x.whole || whole }
  if whole ∧ x.cut.isSome then s1.setSlot id { (s1.slot id) with place := .wholeWait q, fromQ := q }
  else s1.enqueue id q

/-! ## Delay list by entry from FTE or by put (R243) -/

/-- The instant of a release node for a token: ITS + OFFSET, or a PUT_AT instant. -/
def State.releaseInstant (s : State) (t : Token) (putAt : Option Nat) : Option Nat :=
  let v := s.tokView t
  if ¬ s.mode F.GLB_MODE_TIMED then none
  else match v.fd (R.ODS_NODE_B t.node.toNat) F.ODS_NODE_B_TMODE, putAt with
    | 1, _ => some (t.its.toNat + v.fd (R.ODS_NODE_C t.node.toNat) F.ODS_NODE_C_OFFSET)
    | 2, some i => some i
    | _, _ => none

/-- The delay list of a token's node. -/
def State.nodeList (s : State) (t : Token) : Nat := (s.tokView t).fd (R.ODS_NODE_B t.node.toNat) F.ODS_NODE_B_DLIST

/-- The MID of an entry that no thread armed. -/
def noMid : Nat := 0xFFF

/-- A token reserves its delay-list entry. -/
def State.reserveFor (s : State) (id l tick mid : Nat) : State :=
  match s.dlReserve l { kind := .reserved, tick := tick, mid := mid, id := id } with
  | some (s1, i) => s1.setSlot id { (s1.slot id) with timed := some (l, i) }
  | none => s

/-- A token reaches a release node at entry from FTE (R243). -/
def State.releaseEntry (s : State) (id : Nat) : State :=
  let x := s.slot id
  match s.releaseInstant x.tok none with
  | none => s.tokenDone id
  | some t =>
    let l := s.nodeList x.tok
    let cnt (n : Nat) (e : ErrRec) : ErrRec := { e with d0 := BitVec.ofNat 32 n }
    match s.timedPick l t with
    | .atOnce _ => (s.count (R.ODS_CNT 11)).tokenDone id
    | .range =>
      ((s.count (R.ODS_CNT 14)).raiseLim msCyc 0 (odsRec 0x2805 0 id x.pipe 0 l) cnt).discardToken id
    | .full =>
      (((s.count (R.ODS_CNT 15)).intSet R.ODS_INT R.ODS_INT_EN 8 11).raiseLim msCyc 0
        (odsRec 0x2806 0 id x.pipe 0 l) cnt).discardToken id
    | .on l tick => (s.reserveFor id l tick noMid).tokenDone id

/-- A token acts on its NODE (R218). -/
def State.actOnNode (s : State) (id : Nat) (side : Option Nat) : State :=
  let t := (s.slot id).tok
  let v := s.tokView t
  match nodeKind v t.node.toNat with
  | 1 => s.makeReady id (side.getD (nodeQueue v t.node.toNat t.flow))
  | 2 => if t.ctype = 3 then s.dropSlot id else s.releaseEntry id
  | _ => s.nodeBad id

/-- ODS fixes a token's order domain and gives it its SEQ (R234). -/
def State.assignDomain (s : State) (id : Nat) : State :=
  let x := s.slot id
  let d := if s.mode F.GLB_MODE_TOTAL then 2 ^ 20 + x.tok.inport.toNat else x.tok.lockIdx
  let o := s.domOf d
  (s.setDom d { o with next := o.next + 1 }).setSlot id { x with dom := some d, tok := { x.tok with seq := o.next } }

/-- The epoch ODS holds as current (R251). -/
def State.odsEpoch (s : State) : BitVec 8 := BitVec.ofNat 8 (s.fd R.ODS_STATUS F.ODS_STATUS_EPOCH)

/-- Whether an epoch is live at ODS (R55, R251): the current one, the one before it, or the one a MARK is bringing; every one
while a member that joins a ring drains for the first time (R622). -/
def State.epochLive (s : State) (e : BitVec 8) : Bool :=
  e == s.odsEpoch || e + 1 == s.odsEpoch || s.ods.liveNew == some e || (s.txn.anyOld && s.txnState == 6)

/-- The tokens of the old epoch that the device holds (R251). -/
def State.oldLive (s : State) : Nat :=
  (s.ods.slots.filter (fun e => e.2.used && decide (e.2.place ≠ .forming)
    && (if s.txn.anyOld then e.2.tok.epoch != s.odsEpoch else e.2.tok.epoch + 1 == s.odsEpoch))).length

/-! ## What bars a thread from service (R534, R600, R601, R636, R640) -/

/-- Whether a thread belongs to a spare core that is out of service (R600). -/
def State.isSpareThread (s : State) (mid : Nat) : Bool :=
  midIsThread mid && s.txn.spare && !s.flag (R.MGT_CORE_STATE (midCluster mid)) F.MGT_CORE_STATE_SPARE_USED
    && midCore mid == s.fd (R.MGT_CORE_STATE (midCluster mid)) F.MGT_CORE_STATE_SPARE

/-- Whether ODS dispatches to a thread of cluster `c`: the cluster is in service, its crossing to ODS carries, and the
thread is neither revoked nor on a spare core. -/
def State.serves (s : State) (c mid : Nat) : Bool :=
  !bitAt (s.fd R.MGT_CLU_OUT F.MGT_CLU_OUT_OUT) c && !s.xingHeld c 31 && decide (s.genOf mid ≠ 0) && !s.isSpareThread mid

/-! ## The conditions of GLB_MODE_NOTE (R607) -/

/-- The conditions that hold; PAIR_CONFLICT stands as it is. -/
def State.noteNow (s : State) : Nat :=
  b2n (s.mode F.GLB_MODE_STANDBY && !s.mode F.GLB_MODE_PAIR)
    + 2 * s.fd R.GLB_MODE_NOTE F.GLB_MODE_NOTE_PAIR_CONFLICT
    + 4 * b2n (s.mode F.GLB_MODE_PAIR && !s.flag R.MLK_CFG F.MLK_CFG_EN)
    + 8 * b2n (s.mode F.GLB_MODE_MIRROR && s.mirrorPort.isNone)
    + 16 * b2n (s.mode F.GLB_MODE_SPARE != s.txn.spare)

/-- GLB_MODE_NOTE follows its conditions; vector 2 for a bit that rises (R607). -/
def State.noteUpdate (s : State) : State :=
  let old := s.rd R.GLB_MODE_NOTE
  let new := BitVec.ofNat 32 s.noteNow
  (s.wr R.GLB_MODE_NOTE new).irqIf (decide (new &&& ~~~old ≠ 0)) 2

end Sys2Proof.Machine
end

