-- ==== Sys2Proof/Machine/Px.lean ====
section
/-! DEFINITION. The port complex (03_ports): the meanings of its commands and what they share. -/
namespace Sys2Proof.Machine
open Sys2Proof

/-! ## What the commands share -/

/-- Count one of a port's events (R97). -/
def State.pxCount (s : State) (n k : Nat) : State := s.count (R.PX_PORT_CNT n k)

/-- Set bits of PX_PORT_INT (R96). -/
def State.pxInt (s : State) (n bits : Nat) : State := s.intSet (R.PX_PORT_INT n) (R.PX_PORT_INT_EN n) bits (16 + n)

/-- A status field of a port. -/
def State.pxSt (s : State) (n : Nat) (f : Fld) (x : Nat) : State := s.wf (R.PX_PORT_STATUS n) f x

/-- A port's link state: 0 DOWN, 1 TRAIN, 2 UP, 3 FAULT. -/
def State.link (s : State) (n : Nat) : Nat := if n < 144 then s.fd (R.PX_PORT_STATUS n) F.PX_PORT_STATUS_STATE else 0

/-- Whether a port is UP. -/
def State.up (s : State) (n : Nat) : Bool := s.link n == 2

/-- Set a port's link state. -/
def State.setLink (s : State) (n x : Nat) : State :=
  (s.pxSt n F.PX_PORT_STATUS_STATE x).pxSt n F.PX_PORT_STATUS_LINK (b2n (x == 2))

/-- A port's MODE. -/
def State.pxMode (s : State) (n : Nat) : Nat := s.fd (R.PX_PORT_MODE n) F.PX_PORT_MODE_MODE

/-- Whether a port's group releases its transmitters (R92). -/
def State.released (s : State) (n : Nat) : Bool :=
  let pair := s.fd R.MLK_PAIR_STATUS F.MLK_PAIR_STATUS_STATE
  s.flag (R.PX_GRP_CTRL (n / 12)) F.PX_GRP_CTRL_TX_RELEASE && pair != 5 && pair != 6 && !bitAt s.bcn.faults 3

/-- The power step: 0 L0 to 5 (R536). -/
def State.powerStep (s : State) : Nat := s.fd R.BCN_PWR_STATUS F.BCN_PWR_STATUS_STEP

/-- Whether auto-negotiation is on for a port: 1000BASE-X or SGMII with AN_EN (R69, R73). -/
def State.anOn (s : State) (n : Nat) : Bool :=
  (s.pxMode n == 1 || s.pxMode n == 2) && s.flag (R.PX_PORT_CTRL n) F.PX_PORT_CTRL_AN_EN

/-- A port's MTU (PX_PORT_CTRL): 64 to 9,728. -/
def State.mtu (s : State) (n : Nat) : Nat := max 64 (min 9728 (s.fd (R.PX_PORT_CTRL n) F.PX_PORT_CTRL_MTU))

/-- A record of PX about a port. -/
def pxRec (code sev n : Nat) (d0 : Nat := 0) : ErrRec := mkErr 1 n code sev 0 0 0 0 d0

/-- The room of a port's receive FIFO in bytes (R80). -/
def State.fifoSize (s : State) (n : Nat) : Nat := if s.pxMode n = 6 then 131072 else 32768

/-- The bytes that stand in a port's receive FIFO, FCS included. -/
def State.fifoUsed (s : State) (n : Nat) : Nat :=
  ((s.port n).rxq.filter (fun i => !i.flush)).foldl (fun a i => a + i.bytes.length + 4) 0

/-- The FIFO's own pause request (R83). -/
def State.fifoPauseUpdate (s : State) (n : Nat) : State :=
  let r := R.PX_PORT_PAUSE n
  let p := s.port n
  if s.fd r F.PX_PORT_PAUSE_XOFF_TH * 64 < s.fifoUsed n then s.setPort n { p with fifoPause := true }
  else if s.fifoUsed n < s.fd r F.PX_PORT_PAUSE_XON_TH * 64 then s.setPort n { p with fifoPause := false }
  else s

/-- The classes a port is asked to pause (R83): BPM's and the FIFO's. -/
def State.pauseWanted (s : State) (n : Nat) : Nat :=
  if (s.port n).fifoPause then 0xFF else s.bpmPause n

/-- The signed nanoseconds of a port's timestamp adjustment. -/
def State.tsAdj (s : State) (n : Nat) (f : Fld) (t : W64) : W64 :=
  t + BitVec.ofInt 64 (signed 16 (s.fd (R.PX_PORT_TS_ADJ n) f))

/-- Complete a transmitted token's buffer under the port's egress MID (R82). -/
def State.pxComplete (s : State) (n : Nat) (t : Token) : State :=
  if hIdx t.handle = 0 then s
  else (s.bpmOp (portPipe n) 9 (0x900 + n) (s.genOf (0x900 + n)) t.handle 0).1

/-- PX discards released tokens of a port that is not UP: each counts and completes its buffer (R75). -/
def State.dropEgress (s : State) (n : Nat) (ts : List EgTok) : State :=
  ts.foldl (fun a e => (a.pxCount n 12).pxComplete n e.tok) s

/-- A frame that PX cut through proves bad at its end (R78): every place that holds it learns so. -/
def EgTok.ends (e : EgTok) (n len : Nat) (bad : Bool) : EgTok :=
  if e.cut = some n then { e with cut := none, bad := bad, tok := { e.tok with length := BitVec.ofNat 16 len } } else e

/-- A flight learns of its frame's end. -/
def Flight.ends (f : Flight) (n len : Nat) (bad : Bool) (rest : List Byte) : Flight :=
  if f.cut = some n then
    { f with cut := none, bad := bad, frame := f.frame ++ rest, tok := { f.tok with length := BitVec.ofNat 16 len } }
  else f

/-- A pipeline learns of a frame's end. -/
def PipeSt.ends (p : PipeSt) (n len : Nat) (bad : Bool) (rest : List Byte) : PipeSt :=
  { p with toTap := p.toTap.map (·.ends n len bad rest), toBpm := p.toBpm.map (·.ends n len bad rest),
           toFte := p.toFte.map (·.ends n len bad rest), toOds := p.toOds.map (·.ends n len bad rest) }

/-- A port learns of another port's frame's end. -/
def PortSt.ends (p : PortSt) (n len : Nat) (bad : Bool) : PortSt :=
  { p with epq := p.epq.map (·.ends n len bad), sending := p.sending.map (·.ends n len bad) }

/-- The first byte of a packet in its buffer: offset HEAD × 32 (R188). -/
def State.packetAddr (s : State) (h : W32) : Nat := s.bufAddr h + s.poolHead (hPool h)

/-- The slots that hold a frame whose end is to come from port `n`. -/
def State.cutSlots (s : State) (n : Nat) : List Nat :=
  (s.ods.slots.filter (fun e => e.2.cut == some n)).map (·.1)

/-- What a slot's frame's end starts: a WHOLE node's visit (R240), or a release that waited for it (R605). -/
def State.slotGoesOn (s : State) (id : Nat) : State :=
  match (s.slot id).place with
  | .wholeWait q => s.enqueue id q
  | .endWait => s.leaveOrder id
  | _ => s

/-- The tokens on release lists take the frame's length. -/
def State.relEnds (s : State) (ids : List Nat) (len : Nat) : State :=
  { s with ods := { s.ods with rel := s.ods.rel.map (fun e => (e.1, e.2.map (fun r =>
      if ids.contains r.id then { r with tok := { r.tok with length := BitVec.ofNat 16 len } } else r))) } }

/-- The handle of the buffer that a cut frame of port `n` is written to, where BPM has placed it. -/
def State.cutHandle (s : State) (n : Nat) : Option W32 :=
  let fl (l : List Flight) : List W32 := (l.filter (fun f => f.cut == some n)).map (·.tok.handle)
  let eg (l : List EgTok) : List W32 := (l.filter (fun e => e.cut == some n)).map (·.tok.handle)
  ((s.pipes.flatMap (fun p => fl p.2.toFte ++ fl p.2.toOds))
    ++ (s.cutSlots n).map (fun id => (s.slot id).tok.handle)
    ++ s.ports.flatMap (fun p => eg p.2.epq ++ eg p.2.sending.toList)).head?

/-- The frame's end reaches every place that holds it (R78, R240): `rest` are its last bytes without the FCS. -/
def State.cutEnds (s : State) (n len : Nat) (bad : Bool) (rest : List Byte) : State :=
  let ids := s.cutSlots n
  let p := s.port n
  let s1 := match s.cutHandle n with
    | some h => if hIdx h = 0 then s else s.setBytes (s.poolSpace (hPool h)) (s.packetAddr h + p.cutLen) rest
    | none => s
  let s2 : State := { s1 with pipes := s1.pipes.map (fun e => (e.1, e.2.ends n len bad rest)),
                              ports := s1.ports.map (fun e => (e.1, e.2.ends n len bad)) }
  let s3 := ids.foldl (fun a id => a.setSlot id { (a.slot id) with
    cut := none, bad := bad, tok := { (a.slot id).tok with length := BitVec.ofNat 16 len } }) (s2.relEnds ids len)
  ids.foldl State.slotGoesOn s3

/-- The counter of a frame that fails R77's checks, in their order; none for a good frame. -/
def rxFault (len mtu : Nat) (fcsOk : Bool) : Option Nat :=
  if len < 64 then some 3 else if mtu < len then some 4 else if ¬ fcsOk then some 2 else none

/-- The cut frame in progress on a port is over: its taps are dropped where it is bad (R117), or may be offered. -/
def State.cutClose (s : State) (n : Nat) (bad : Bool) : State :=
  let p := s.port n
  if bad then
    (s.countN (R.PRS_CNT 10) p.cutTaps.length).setPort n
      { p with cutting := false, cutId := none, cutTaps := [], cutOk := false }
  else s.setPort n { p with cutting := false, cutOk := p.cutId.isSome }

/-- A cut frame ends bad (R78) with the given counter. -/
def State.cutBad (s : State) (n k : Nat) : State :=
  let p := s.port n
  if ¬ p.cutting then s
  else if p.rxq.any (·.cut) then
    ((s.setPort n { p with rxq := p.rxq.filter (fun i => !i.cut) }).pxCount n k).cutClose n true
  else (((s.cutEnds n p.cutLen true []).pxCount n k).pxCount n 0).cutClose n true

/-- A port leaves UP (R73 to R75, R85): ingress ends, a partly received frame is discarded, the egress queue is dropped,
the pause state is cleared, a FLUSH cell is formed, and the departure is recorded. `to` is the next link state. -/
def State.portDown (s : State) (n reason tgt : Nat) : State :=
  let s := (s.cutBad n 2)
  let p := s.port n
  let gone := p.epq ++ p.sending.toList
  let s := s.setPort n { p with epq := [], sending := none, sentPause := 0, fifoPause := false }
  let s := (s.dropEgress n gone).formFlush n
  let s := ((s.setLink n tgt).pxSt n F.PX_PORT_STATUS_TX_PAUSED 0).pxSt n F.PX_PORT_STATUS_RX_XOFF 0
  ((s.pxInt n 1).pxCount n 15).raise (pxRec 0x0803 0 n reason)

/-- Where a port's link state goes when it may train: TRAIN, or DOWN while it is disabled or its group not released. -/
def State.trainOrDown (s : State) (n : Nat) : Nat := if s.pxMode n ≠ 0 ∧ s.released n ∧ s.portExists n then 1 else 0

/-! ## Receive (R77 to R80, R86, R91) -/

/-- Whether two bytes at an offset hold a value, most significant first. -/
def beAt (bs : List Byte) (o n : Nat) : Nat := beNat ((bs.drop o).take n)

/-- The address in PX_PORT_SA. -/
def State.portSa (s : State) (n : Nat) : Nat :=
  s.fd (R.PX_PORT_SA n 0) F.PX_PORT_SA_ADDR + s.fd (R.PX_PORT_SA n 1) F.PX_PORT_SA_ADDR % 65536 * 2 ^ 32

/-- Honour a received pause or PFC frame (R85): a class pauses for its quanta, or quanta 0 releases it. -/
def State.honourPause (s : State) (n : Nat) (bs : List Byte) : State :=
  let was := s.fd (R.PX_PORT_STATUS n) F.PX_PORT_STATUS_TX_PAUSED
  let classes : Nat :=
    if beAt bs 14 2 = 1 then (if beAt bs 16 2 = 0 then 0 else 0xFF)
    else (List.range 8).foldl (fun a c => putBits a c 1
      (if bitAt (beAt bs 16 2) c then b2n (decide (beAt bs (18 + 2 * c) 2 ≠ 0)) else b2n (bitAt was c))) 0
  s.pxSt n F.PX_PORT_STATUS_TX_PAUSED classes

/-- PX consumes a MAC control frame (R79, R85). -/
def State.macControl (s : State) (n : Nat) (bs : List Byte) : State :=
  let da := beAt bs 0 6
  let op := beAt bs 14 2
  if (op = 0x0001 ∨ op = 0x0101) ∧ (da = 0x0180C2000001 ∨ da = s.portSa n) then
    let s1 := s.pxCount n 6
    if s.flag (R.PX_PORT_CTRL n) F.PX_PORT_CTRL_RX_PAUSE_EN ∧ (op = 0x0101 ∨ bitAt (s.port n).anPause 1) then
      s1.honourPause n bs
    else s1
  else s.pxCount n 7

/-- FEC codewords corrected and uncorrectable on a port (R94, R97). -/
def State.fecSeen (s : State) (n corr uncorr : Nat) : State :=
  let s1 := s.countN (R.PX_PORT_CNT n 13) corr
  if uncorr = 0 then s1
  else ((s1.countN (R.PX_PORT_CNT n 14) uncorr).pxInt n 0x10).raiseLim msCyc n (pxRec 0x0807 0 n)
    (fun k e => { e with d0 := BitVec.ofNat 32 (k - 1 + uncorr) })

/-- Whether a port receives (R90): it is UP, in L0 or L1. -/
def State.receives (s : State) (n : Nat) : Bool := s.portExists n && s.up n && decide (s.powerStep ≤ 1)

/-- A frame that no check refused enters the receive FIFO, or finds no room (R80). -/
def State.rxPush (s : State) (n : Nat) (item : RxItem) : State :=
  if s.fifoSize n < s.fifoUsed n + item.bytes.length + 4 then
    ((s.pxCount n 5).pxInt n 0x20).raiseLim msCyc n (pxRec 0x0805 0 n) (fun k e => { e with d0 := BitVec.ofNat 32 k })
  else
    let p := s.port n
    let s1 := s.setPort n { p with rxq := p.rxq ++ [item], cutting := item.cut,
                                   cutLen := if item.cut then item.bytes.length else p.cutLen }
    let s2 := if item.cut then s1
              else (s1.pxCount n 0).countN (R.PX_PORT_CNT n 1) (item.bytes.length + 4)
    s2.fifoPauseUpdate n

/-- FRAME_RECEIVE (R77, R80, R86): `bytes` run from the destination address to the FCS inclusive, or, with `whole` false
under CUT, to the byte received so far. `sfd` is the PTP-domain time of the message timestamp point. -/
def execFrameReceive (port : Nat) (bytes : List Byte) (fcsOk whole : Bool) (sfd : W64) (fecCorr fecUncorr : Nat)
    (s : State) : Out :=
  .next (
    if ¬ s.receives port ∨ (s.port port).cutting then s
    else
      let s1 := s.fecSeen port fecCorr fecUncorr
      let its := s1.tsAdj port F.PX_PORT_TS_ADJ_RX_ADJ sfd
      if ¬ whole then
        if s1.mode F.GLB_MODE_CUT then s1.rxPush port { bytes := bytes, its := its, cut := true } else s
      else match rxFault bytes.length (s1.mtu port) fcsOk with
        | some k => s1.pxCount port k
        | none =>
          if beAt bytes 12 2 = 0x8808 then s1.macControl port bytes
          else s1.rxPush port { bytes := bytes.take (bytes.length - 4), its := its })

/-- CUT_FRAME_END (R78): the rest of a cut frame, FCS included, with the check of its FCS. -/
def execCutFrameEnd (port : Nat) (rest : List Byte) (fcsOk : Bool) (s : State) : Out :=
  .next (
    let p := s.port port
    if ¬ p.cutting ∨ rest.length < 4 then s
    else
      let len := p.cutLen + rest.length
      let body := rest.take (rest.length - 4)
      match rxFault len (s.mtu port) fcsOk with
      | some k => s.cutBad port k
      | none =>
        let s1 := (s.pxCount port 0).countN (R.PX_PORT_CNT port 1) len
        if p.rxq.any (·.cut) then
          ((s1.setPort port { p with rxq := p.rxq.map (fun i =>
            if i.cut then { i with cut := false, bytes := i.bytes ++ body } else i) }).cutClose port false).fifoPauseUpdate port
        else (s1.cutEnds port (len - 4) false body).cutClose port false)

/-- MAC_CONTROL_RECEIVE (R79, R85): a good MAC control frame, FCS included. -/
def execMacControlReceive (port : Nat) (bytes : List Byte) (s : State) : Out :=
  .next (if s.receives port ∧ beAt bytes 12 2 = 0x8808 ∧ 64 ≤ bytes.length then s.macControl port bytes else s)

/-- PAUSE_QUANTA_EXPIRE (R85): the quanta of the given classes run out. -/
def execPauseQuantaExpire (port classes : Nat) (s : State) : Out :=
  .next (if 144 ≤ port then s else s.pxSt port F.PX_PORT_STATUS_TX_PAUSED
    (s.fd (R.PX_PORT_STATUS port) F.PX_PORT_STATUS_TX_PAUSED - Nat.land
      (s.fd (R.PX_PORT_STATUS port) F.PX_PORT_STATUS_TX_PAUSED) classes))

/-! ## Pause frames sent (R83, R84) -/

/-- A pause or PFC frame without its FCS (R84): `classes` carry `quanta`. -/
def pauseFrame (sa : Nat) (pfc : Bool) (classes quanta : Nat) : List Byte :=
  let body : List Byte :=
    if pfc then toBe 2 0x0101 ++ toBe 2 classes
      ++ (List.range 8).flatMap (fun c => toBe 2 (if bitAt classes c then quanta else 0))
    else toBe 2 0x0001 ++ toBe 2 quanta
  let f := toBe 6 0x0180C2000001 ++ toBe 6 sa ++ toBe 2 0x8808 ++ body
  f ++ List.replicate (60 - f.length) 0

/-- PX sends a pause frame now. -/
def State.sendPause (s : State) (n classes quanta stands : Nat) : State :=
  let pfc := decide (s.fd (R.PX_PORT_PAUSE n) F.PX_PORT_PAUSE_GEN = 2)
  ((s.setPort n { (s.port n) with wire := pauseFrame (s.portSa n) pfc classes quanta, sentPause := stands }).pxCount
    n 10).pxSt n F.PX_PORT_STATUS_RX_XOFF (b2n (decide (stands ≠ 0)))

/-- Whether a port generates pause frames: 1 Annex 31B, 2 PFC, 0 none; negotiation masks Annex 31B (03, Link states). -/
def State.pauseGen (s : State) (n : Nat) : Nat :=
  match s.fd (R.PX_PORT_PAUSE n) F.PX_PORT_PAUSE_GEN with
  | 1 => if bitAt (s.port n).anPause 0 then 1 else 0
  | 2 => 2
  | _ => 0

/-- PAUSE_FRAME_SEND (R84, R93): at a frame boundary, after a request rose or fell. -/
def execPauseFrameSend (port : Nat) (s : State) : Out :=
  .next (
    let want := s.pauseWanted port
    let sent := (s.port port).sentPause
    let rose := Nat.land want (0xFF - sent)
    let fell := Nat.land sent (0xFF - want)
    if ¬ s.up port ∨ s.pauseGen port = 0 ∨ (s.port port).sending.isSome then s
    else if rose ≠ 0 then s.sendPause port want 0xFFFF (Nat.lor want sent)
    else if fell = 0 then s
    else if s.pauseGen port = 1 ∧ want ≠ 0 then s.setPort port { (s.port port) with sentPause := want }
    else if s.flag (R.PX_PORT_PAUSE port) F.PX_PORT_PAUSE_XON_EN then s.sendPause port fell 0 want
    else (s.setPort port { (s.port port) with sentPause := want }).pxSt port F.PX_PORT_STATUS_RX_XOFF
      (b2n (decide (want ≠ 0))))

/-- PAUSE_REPEAT (R84): every 32,768 quanta while the request stands. -/
def execPauseRepeat (port : Nat) (s : State) : Out :=
  .next (
    let stands := Nat.land (s.pauseWanted port) (s.port port).sentPause
    if ¬ s.up port ∨ s.pauseGen port = 0 ∨ stands = 0 ∨ (s.port port).sending.isSome then s
    else s.sendPause port stands 0xFFFF (s.port port).sentPause)

/-! ## Transmit (R81, R82, R86, R88, R89) -/

/-- Replace bytes of a frame from an offset on. -/
def patch (bs : List Byte) (o : Nat) (new : List Byte) : List Byte :=
  bs.take o ++ new ++ bs.drop (o + new.length)

/-- Where a frame's EtherType stands, behind up to two IEEE 802.1Q tags. -/
def etypeAt (bs : List Byte) : Nat :=
  let tag (o : Nat) : Bool := beAt bs o 2 == 0x8100 || beAt bs o 2 == 0x88A8
  if tag 12 then (if tag 16 then 20 else 16) else 12

/-- A PTP event message found in a frame (R88): the offset of its header, and the offset of its UDP header with whether a
checksum of zero stays zero. -/
structure PtpHit where
  at_ : Nat
  udp : Option (Nat × Bool) := none
  deriving DecidableEq, Repr

/-- Recognise a PTP event message, as far as each encapsulation is enabled. -/
def findPtp (bs : List Byte) (l2 udp4 udp6 : Bool) : Option PtpHit :=
  let e := etypeAt bs
  let ip := e + 2
  let hit : Option PtpHit :=
    if beAt bs e 2 = 0x88F7 ∧ l2 then some { at_ := ip }
    else if beAt bs e 2 = 0x0800 ∧ udp4 ∧ beAt bs (ip + 9) 1 = 17 then
      let u := ip + beAt bs ip 1 % 16 * 4
      if beAt bs (u + 2) 2 = 319 then some { at_ := u + 8, udp := some (u, true) } else none
    else if beAt bs e 2 = 0x86DD ∧ udp6 ∧ beAt bs (ip + 6) 1 = 17 then
      if beAt bs (ip + 42) 2 = 319 then some { at_ := ip + 48, udp := some (ip + 40, false) } else none
    else none
  match hit with
  | some h => if h.at_ + 34 ≤ bs.length ∧ beAt bs h.at_ 1 % 16 ≤ 3 then some h else none
  | none => none

/-- The end-around sum of two 16-bit words. -/
def onesAdd (a b : Nat) : Nat := if a + b < 65536 then a + b else a + b - 65535

/-- The incremental update of a checksum over the words that changed. -/
def ckUpdate (ck : Nat) (old new : List Byte) : Nat → Nat → Nat
  | 0, _ => ck
  | n + 1, o =>
    let a := beAt old o 2
    let b := beAt new o 2
    ckUpdate (if a = b then ck else 65535 - onesAdd (onesAdd (65535 - ck) (65535 - a)) b) old new n (o + 2)

/-- A changed UDP frame takes its checksum's incremental update; an IPv4 checksum of zero stays zero (R88). -/
def fixUdp (old new : List Byte) (udp : Option (Nat × Bool)) : List Byte :=
  match udp with
  | none => new
  | some (u, v4) =>
    let ck := beAt old (u + 6) 2
    if v4 ∧ ck = 0 then new
    else
      let c := ckUpdate ck old new ((old.length - u - 7) / 2) (u + 8)
      patch new (u + 6) (toBe 2 (if c = 0 then 65535 else c))

/-- What PX writes into a recognised message (R88): a one-step Sync's originTimestamp, then the residence time into
correctionField. -/
def ptpWrite (bs : List Byte) (h : PtpHit) (oneStep tc : Bool) (egress its : W64) : List Byte :=
  let sync := decide (beAt bs h.at_ 1 % 16 = 0 ∧ ¬ bitAt (beAt bs (h.at_ + 6) 1) 1)
  let b1 := if oneStep ∧ sync then
      patch bs (h.at_ + 34) (toBe 6 (egress.toNat / 1000000000) ++ toBe 4 (egress.toNat % 1000000000))
    else bs
  let b2 := if tc then
      patch b1 (h.at_ + 8) (toBe 8 (beAt b1 (h.at_ + 8) 8 + (egress - its).toNat * 65536))
    else b1
  if b2 = bs then bs else fixUdp bs b2 h.udp

/-- Show the head of a port's timestamp queue in its registers. -/
def State.showTsq (s : State) (n : Nat) : State :=
  match (s.port n).tsq with
  | [] => s.wr (R.PX_PORT_TSQ_TAG n) 0
  | e :: _ =>
    (((s.wr (R.PX_PORT_TSQ_TAG n) (BitVec.ofNat 32 (2 ^ 31 + e.domain.toNat * 2 ^ 20 + e.msg.toNat * 2 ^ 16
      + e.seqId.toNat))).wr (R.PX_PORT_TSQ_TIME n 0) (e.time.setWidth 32)).wr (R.PX_PORT_TSQ_TIME n 1)
      ((e.time >>> 32).setWidth 32))

/-- Queue an egress timestamp, or lose it (R88, R89). -/
def State.tsqPush (s : State) (n : Nat) (e : TsEnt) : State :=
  let p := s.port n
  if 16 ≤ p.tsq.length then
    ((s.pxCount n 16).pxInt n 8).raise (pxRec 0x0806 0 n e.seqId.toNat)
  else
    let s1 := (s.setPort n { p with tsq := p.tsq ++ [e] }).showTsq n
    if p.tsq = [] then s1.pxInt n 4 else s1

/-- The token PX starts next (R81): by class, then release order; under TOTAL in release order alone. -/
def State.nextEgress (s : State) (n : Nat) : Option EgTok :=
  let paused := s.fd (R.PX_PORT_STATUS n) F.PX_PORT_STATUS_TX_PAUSED
  let q := (s.port n).epq
  let free (e : EgTok) : Bool := !bitAt paused e.tok.cls.toNat
  if s.mode F.GLB_MODE_TOTAL then (q.head?).filter free
  else ((List.range 8).reverse.filterMap (fun c => q.find? (fun e => decide (e.tok.cls.toNat = c) && free e))).head?

/-- A packet's bytes in its buffer. -/
def State.packetBytes (s : State) (t : Token) (n : Nat) : List Byte :=
  s.bytes (s.poolSpace (hPool t.handle)) (s.packetAddr t.handle) n

/-- The bytes of a released frame that have arrived: all of them, or those passed on so far under CUT. -/
def State.egressBytes (s : State) (e : EgTok) : List Byte :=
  s.packetBytes e.tok (match e.cut with | some i => (s.port i).cutLen | none => e.tok.length.toNat)

/-- The event message's timestamp goes to the queue where one-step has not stamped it (R88). -/
def State.ptpQueue (s : State) (n : Nat) (bs : List Byte) (h : PtpHit) (egress : W64) : State :=
  let ptp := R.PX_PORT_PTP n
  let stamped := decide (beAt bs h.at_ 1 % 16 = 0 ∧ ¬ bitAt (beAt bs (h.at_ + 6) 1) 1) && s.flag ptp F.PX_PORT_PTP_ONE_STEP
  if s.flag ptp F.PX_PORT_PTP_TWO_STEP ∧ ¬ stamped then
    s.tsqPush n { domain := BitVec.ofNat 8 (beAt bs (h.at_ + 4) 1), msg := BitVec.ofNat 4 (beAt bs h.at_ 1),
                  seqId := BitVec.ofNat 16 (beAt bs (h.at_ + 30) 2), time := egress }
  else s

/-- A frame is launched: PTP fields on the way, padding to 60 bytes (R82, R86, R88). The FCS that follows is not part of
the bytes held. -/
def State.launch (s : State) (n : Nat) (e : EgTok) (sfd : W64) : State :=
  let ptp := R.PX_PORT_PTP n
  let bs := s.egressBytes e
  let egress := s.tsAdj n F.PX_PORT_TS_ADJ_TX_ADJ sfd
  let r := match findPtp bs (s.flag ptp F.PX_PORT_PTP_L2) (s.flag ptp F.PX_PORT_PTP_UDP4) (s.flag ptp F.PX_PORT_PTP_UDP6) with
    | some h => (ptpWrite bs h (s.flag ptp F.PX_PORT_PTP_ONE_STEP) (s.flag ptp F.PX_PORT_PTP_TC) egress e.tok.its,
        s.ptpQueue n bs h egress)
    | none => (bs, s)
  let p := r.2.port n
  r.2.setPort n { p with epq := p.epq.erase e, sending := some e, wire := r.1 ++ List.replicate (60 - r.1.length) 0 }

/-- TRANSMIT_FRAME (R81): `sfd` is the PTP-domain time at which the start of the frame is launched. -/
def execTransmitFrame (port : Nat) (sfd : W64) (s : State) : Out :=
  .next (
    if ¬ s.up port ∨ s.powerStep ≠ 0 ∨ (s.port port).sending.isSome then s
    else match s.nextEgress port with
      | some e => s.launch port e sfd
      | none => s)

/-- TRANSMIT_DONE (R82): the frame in transmission ends; under CUT only after its end is known (R78). -/
def execTransmitDone (port : Nat) (s : State) : Out :=
  .next (
    match (s.port port).sending with
    | none => s
    | some e =>
      if e.cut.isSome then s
      else
        let s1 := s.setPort port { (s.port port) with sending := none }
        let s2 := ((s1.pxCount port 8).countN (R.PX_PORT_CNT port 9) (max 60 e.tok.length.toNat + 4)).countIf e.bad
          (R.PX_PORT_CNT port 11)
        s2.pxComplete port e.tok)

/-- The effect of a write of POP (PX_PORT_TSQ_TAG). -/
def State.tsqPop (s : State) (n : Nat) : State :=
  (s.setPort n { (s.port n) with tsq := (s.port n).tsq.tail }).showTsq n

/-- TSQ_POP. -/
def execTsqPop (port : Nat) (s : State) : Out :=
  .next (if 144 ≤ port then s else (s.arrive (R.PX_PORT_TSQ_TAG port)).tsqPop port)

/-! ## Modes, quads and link states (R68 to R76) -/

/-- Whether PX accepts a value for PX_PORT_MODE of a port (R69, R70). -/
def State.modeOk (s : State) (n : Nat) (v : W32) : Bool :=
  let fec := bitsOf v.toNat 4 2
  let fecOk := match bitsOf v.toNat 0 4 with
    | 0 => decide (fec ≤ 2) | 1 | 2 | 3 => decide (fec = 0) | 4 => decide (fec ≤ 1) | 5 => decide (fec ≤ 2)
    | 6 => decide (fec = 0 ∨ fec = 2) | _ => false
  let quad := bitAt (s.fd (R.PX_GRP_QUAD (n / 12)) F.PX_GRP_QUAD_QUAD_EN) (n % 12 / 4)
  let md := bitsOf v.toNat 0 4
  fecOk && (if quad then (if n % 4 = 0 then decide (md = 0 ∨ md = 6) else decide (md = 0)) else decide (md ≠ 6))

/-- PX refuses a mode (R70). -/
def State.modeRefuse (s : State) (n : Nat) (v : W32) : State :=
  ((s.pxSt n F.PX_PORT_STATUS_CFG_BAD 1).pxInt n 0x40).raise
    (mkErr 1 n 0x0801 0 3 (R.PX_PORT_MODE n) 0 0 v.toNat)

/-- PX applies an accepted mode (R72, R75, R93): a port that is UP goes down, a port that software disables forms its
FLUSH cell, and the link trains in the new mode. -/
def State.modeApply (s : State) (n : Nat) (v : W32) : State :=
  let s0 := s.pxSt n F.PX_PORT_STATUS_CFG_BAD 0
  if v = s.rd (R.PX_PORT_MODE n) then s0
  else
    let s1 := if s0.up n then s0.portDown n 8 0
              else if s0.pxMode n ≠ 0 ∧ bitsOf v.toNat 0 4 = 0 then s0.formFlush n else s0
    let s2 := s1.wr (R.PX_PORT_MODE n) v
    (s2.setPort n { (s2.port n) with hold := false, anPause := 3 }).setLink n (s2.trainOrDown n)

/-- PX decides a value for PX_PORT_MODE. -/
def State.modeWrite (s : State) (n : Nat) (v : W32) : State :=
  if s.modeOk n v then s.modeApply n v else s.modeRefuse n v

/-- PORT_MODE_PAIR (R70): the complement of the pending first write arrives. -/
def execPortModePair (mid : Nat) (gen : BitVec 8) (port : Nat) (value : W32) (s : State) : Out :=
  .next (if 144 ≤ port then s else match s.takePair (R.PX_PORT_MODE port) mid gen value with
    | some t => (t.modeWrite port value).noteUpdate
    | none => s)

/-- The quads of a group that a value changes. -/
def quadChanges (old new : Nat) : List Nat := (List.range 3).filter (fun q => bitAt old q != bitAt new q)

/-- The ports of a group in the way of a QUAD_EN value (R71), as lane bits. -/
def State.quadBars (s : State) (g new : Nat) : Nat :=
  let old := s.fd (R.PX_GRP_QUAD g) F.PX_GRP_QUAD_QUAD_EN
  (quadChanges old new).foldl (fun a q =>
    (List.range 4).foldl (fun b i =>
      if (bitAt new q ∨ i = 0) ∧ s.pxMode (12 * g + 4 * q + i) ≠ 0 then putBits b (4 * q + i) 1 1 else b) a) 0

/-- PX decides a value for PX_GRP_QUAD (R68, R71). -/
def State.quadWrite (s : State) (g : Nat) (v : W32) : State :=
  let new := bitsOf v.toNat 0 3
  let bars := s.quadBars g new
  if bars ≠ 0 then s.raise (mkErr 1 (0xC0 + g) 0x0802 0 3 (R.PX_GRP_QUAD g) 0 0 new bars)
  else (List.range 3).foldl (fun t q => (List.range 3).foldl (fun u i =>
      u.pxSt (12 * g + 4 * q + i + 1) F.PX_PORT_STATUS_QUAD_MEMBER (b2n (bitAt new q))) t)
    (s.wf (R.PX_GRP_QUAD g) F.PX_GRP_QUAD_QUAD_EN new)

/-- QUAD_PAIR (R71). -/
def execQuadPair (mid : Nat) (gen : BitVec 8) (grp : Nat) (value : W32) (s : State) : Out :=
  .next (if 12 ≤ grp then s else match s.takePair (R.PX_GRP_QUAD grp) mid gen value with
    | some t => t.quadWrite grp value
    | none => s)

/-- AN_RESTART acts (R73): on a 1000BASE-X or SGMII port with AN_EN = 1 only; a port that is UP trains again at once. -/
def State.anRestart (s : State) (n : Nat) : State :=
  if ¬ s.anOn n then s
  else
    let s1 := if s.up n then s.portDown n 9 1 else s
    (s1.pxSt n F.PX_PORT_STATUS_AN_DONE 0)

/-- A plain write to PX_PORT_CTRL: its fields, and AN_RESTART where it is 1. -/
def State.portCtrlWrite (s : State) (n : Nat) (v : W32) : State :=
  let s1 := s.plainWrite (R.PX_PORT_CTRL n) v
  if bitAt v.toNat 15 then s1.anRestart n else s1

/-- AN_RESTART (R73): a write of PX_PORT_CTRL with AN_RESTART = 1; discarded under LOCK (R15). -/
def execAnRestart (mid : Nat) (gen : BitVec 8) (port : Nat) (value : W32) (s : State) : Out :=
  .next (
    if 144 ≤ port then s else
    s.reach (R.PX_PORT_CTRL port) mid gen (value ||| 0x8000) (fun t => t.portCtrlWrite port (value ||| 0x8000)))

/-- The pause that negotiation allows, by Clause 28B (03, Link states): bit 0 to send, bit 1 to honour; abilities as
bit 0 symmetric, bit 1 asymmetric. -/
def anResolve (mine theirs : Nat) : Nat :=
  if bitAt mine 0 ∧ bitAt theirs 0 then 3
  else if bitAt mine 1 ∧ ¬ bitAt mine 0 ∧ bitAt theirs 0 ∧ bitAt theirs 1 then 1
  else if bitAt mine 0 ∧ bitAt mine 1 ∧ ¬ bitAt theirs 0 ∧ bitAt theirs 1 then 2
  else 0

/-- The status a port shows when it comes UP (R73). -/
def State.upStatus (s : State) (n lpPause speed : Nat) : State :=
  let an := s.anOn n
  let s1 := ((((s.setLink n 2).pxSt n F.PX_PORT_STATUS_BLOCK_LOCK 1).pxSt n F.PX_PORT_STATUS_ALIGN
    (b2n (s.pxMode n == 6 || s.fd (R.PX_PORT_MODE n) F.PX_PORT_MODE_FEC == 2))).pxSt n F.PX_PORT_STATUS_LF 0).pxSt n
    F.PX_PORT_STATUS_RF 0
  let s2 := ((s1.pxSt n F.PX_PORT_STATUS_HI_BER 0).pxSt n F.PX_PORT_STATUS_LP_HDX 0).pxSt n F.PX_PORT_STATUS_AN_DONE
    (b2n an)
  let s3 := if s.pxMode n = 2 then s2.pxSt n F.PX_PORT_STATUS_SPEED speed else s2
  if an then (s3.pxSt n F.PX_PORT_STATUS_LP_PAUSE lpPause).pxInt n 3 else s3.pxInt n 1

/-- LINK_UP (R73, R76, R737): the receiver's conditions hold; with auto-negotiation, what the partner advertises. -/
def execLinkUp (port : Nat) (lpHalfDuplex : Bool) (lpPause speed : Nat) (s : State) : Out :=
  .next (
    if ¬ s.portExists port ∨ s.link port ≠ 1 ∨ ¬ s.released port ∨ 1 < s.powerStep then s
    else if lpHalfDuplex ∧ (s.pxMode port = 2 ∨ s.anOn port) then
      (s.pxSt port F.PX_PORT_STATUS_LP_HDX 1).raise (pxRec 0x0808 0 port)
    else
      let s1 := s.upStatus port lpPause speed
      let adv := s.fd (R.PX_PORT_CTRL port) F.PX_PORT_CTRL_ADV_PAUSE
      s1.setPort port { (s1.port port) with
        anPause := if s.pxMode port = 1 ∧ s.anOn port then anResolve adv lpPause else 3 })

/-- LINK_DOWN (R73, R74, R75): a port leaves UP for a reason 1 to 7 of R94 and is held in DOWN for DOWN_HOLD. -/
def execLinkDown (port reason : Nat) (s : State) : Out :=
  .next (
    if ¬ s.up port then s
    else
      let s1 := s.portDown port reason 0
      let s2 := match reason with
        | 1 | 2 => s1.pxSt port F.PX_PORT_STATUS_BLOCK_LOCK 0
        | 3 => s1.pxSt port F.PX_PORT_STATUS_ALIGN 0
        | 4 => s1.pxSt port F.PX_PORT_STATUS_LF 1
        | 5 => s1.pxSt port F.PX_PORT_STATUS_RF 1
        | 6 => s1.pxSt port F.PX_PORT_STATUS_AN_DONE 0
        | 7 => s1.pxSt port F.PX_PORT_STATUS_HI_BER 1
        | _ => s1
      s2.setPort port { (s2.port port) with hold := true })

/-- DOWN_HOLD_EXPIRE (R74): the port starts training again. -/
def execDownHoldExpire (port : Nat) (s : State) : Out :=
  .next (
    if (s.port port).hold then
      (s.setPort port { (s.port port) with hold := false }).setLink port (s.trainOrDown port)
    else s)

/-- LANE_FAULT (R94): a lane's PLL or CDR fails and its port enters FAULT; a port that was UP leaves it for the reason
given. -/
def execLaneFault (port lane reason : Nat) (s : State) : Out :=
  .next (
    if ¬ s.portExists port then s
    else
      let s1 := if s.up port then s.portDown port reason 3 else s.setLink port 3
      (s1.setPort port { (s1.port port) with hold := false }).raise (pxRec 0x0804 2 port (lane % 12)))

/-- FAULT_RETRY (R72): a port in FAULT trains again. -/
def execFaultRetry (port : Nat) (s : State) : Out :=
  .next (if s.link port = 3 then s.setLink port (s.trainOrDown port) else s)

/-- A write of PX_GRP_CTRL (R92): a group released trains its ports; one no longer released takes its ports down. -/
def State.grpCtrlWrite (s : State) (g : Nat) (v : W32) : State :=
  let was := s.flag (R.PX_GRP_CTRL g) F.PX_GRP_CTRL_TX_RELEASE
  let s1 := s.plainWrite (R.PX_GRP_CTRL g) v
  let ports := (List.range 12).map (fun l => 12 * g + l)
  if bitAt v.toNat 31 ∧ ¬ was then
    ports.foldl (fun t n => if t.link n = 0 ∧ ¬ (t.port n).hold then t.setLink n (t.trainOrDown n) else t) s1
  else if was ∧ ¬ bitAt v.toNat 31 then
    ports.foldl (fun t n => if t.up n then t.portDown n 8 0 else t.setLink n 0) s1
  else s1

end Sys2Proof.Machine
end

