-- ==== Sys2Proof/Machine/Rec.lean ====
section
/-! DEFINITION. The event recorder (15_recorder): ingest, the compressor, logs, the Raft, triggers and regions, commands. -/
namespace Sys2Proof.Machine
open Sys2Proof

/-! ## What the commands share -/

/-- Set the recorder's part of the state. -/
def State.setRec (s : State) (x : RecSt) : State := { s with rcd := x }

/-- A record of REC about no namespace. -/
def recErr (code sev : Nat) (akind addr d0 d1 : Nat := 0) : ErrRec := mkErr 12 0 code sev akind addr 0 0 d0 d1

/-- A record of REC about a namespace (R511). -/
def nsErr (code sev n : Nat) (d0 : Nat := 0) : ErrRec := mkErr 12 (0x40 + n) code sev 7 (n * 2 ^ 56) 0 0 d0

/-- A limited record of REC with its count in DETAIL1 (R511). -/
def State.recLim (s : State) (r : ErrRec) : State :=
  s.raiseLim msCyc 0 r (fun k e => { e with d1 := e.d1 ||| BitVec.ofNat 32 (k % 65536 * 65536) })

/-- REC_STATUS.STATE: 0 STOPPED, 1 RESUMING, 2 READY, 3 UNFORMATTED, 4 EMPTY. -/
def State.recState (s : State) : Nat := s.fd R.REC_STATUS F.REC_STATUS_STATE

/-- Set REC_STATUS.STATE. -/
def State.setRecState (s : State) (x : Nat) : State := s.wf R.REC_STATUS F.REC_STATUS_STATE x

/-- A namespace's state: 0 ABSENT, 1 MEMBER, 2 LOST, 3 FOREIGN, 4 STALE, 5 UNSUPPORTED, 6 SMALL, 7 IDLE. -/
def State.nsState (s : State) (n : Nat) : Nat := s.fd (R.REC_NS_STATUS n) F.REC_NS_STATUS_STATE

/-- Set a namespace's state. -/
def State.setNs (s : State) (n x : Nat) : State := s.wf (R.REC_NS_STATUS n) F.REC_NS_STATUS_STATE x

/-- The Raft's members, rising. -/
def State.members (s : State) : List Nat := (List.range 64).filter (fun n => s.nsState n == 1)

/-- The slots per member. -/
def State.recP (s : State) : Nat := s.fd R.REC_SLOTS F.REC_SLOTS_P

/-- The next LSN to be assigned. -/
def State.recHead (s : State) : Nat := (s.rd64 (R.REC_HEAD 0)).toNat

/-- The lowest LSN still VALID in the Raft. -/
def State.recTail (s : State) : Option Nat := (s.rcd.valid.map (fun e => e.2.1)).min?

/-- The highest LSN such that every log up to it is durable or no longer in the Raft (R493). -/
def State.recDurable (s : State) : Nat :=
  (((s.rcd.sealed.map (·.lsn)) ++ (s.rcd.fly.map (·.log.lsn)) ++ (s.rcd.unflushed.map (·.2))).min?.getD s.recHead) - 1

/-- The staging buffers in use. -/
def State.stageUsed (s : State) : Nat := s.rcd.sealed.length + s.rcd.fly.length + s.rcd.log.toList.length

/-- The staging buffers (R494). -/
def State.stageCount (s : State) : Nat := s.fd R.REC_STAGE F.REC_STAGE_COUNT

/-- Show what REC_STATUS, REC_TAIL and REC_DURABLE report. -/
def State.recShow (s : State) : State :=
  ((((s.wf R.REC_STATUS F.REC_STATUS_STAGE_USED s.stageUsed).wf R.REC_STATUS F.REC_STATUS_IN_FLIGHT s.rcd.fly.length).wf
    R.REC_STATUS F.REC_STATUS_MEMBERS s.members.length).wr64 (R.REC_TAIL 0)
      (BitVec.ofNat 64 (s.recTail.getD 0))).wr64 (R.REC_DURABLE 0) (BitVec.ofNat 64 s.recDurable)

/-- A staging buffer's first byte in DRAM. -/
def State.stageAt (s : State) (b : Nat) : Nat := s.fd R.REC_STAGE F.REC_STAGE_BASE * 65536 + b * 2 ^ 22

/-- A free staging buffer, the lowest. -/
def State.freeStage (s : State) : Option Nat :=
  let used := (s.rcd.sealed.map (·.buf)) ++ (s.rcd.fly.map (·.log.buf)) ++ (s.rcd.log.toList.map (·.buf))
  (List.range s.stageCount).find? (fun b => !used.contains b)

/-! ## Regions (R496, R497) -/

/-- A region's STATE: 0 FREE, 1 ARMING, 2 OPEN, 3 FROZEN. -/
def State.rgnState (s : State) (r : Nat) : Nat := s.fd (R.REC_RGN r 0) ⟨0, 3⟩

/-- Set a region's STATE. -/
def State.setRgnState (s : State) (r x : Nat) : State := s.wf (R.REC_RGN r 0) ⟨0, 3⟩ x

/-- A 64-bit word of a region's entry. -/
def State.rgnQ (s : State) (r q : Nat) : Nat := (s.rd64 (R.REC_RGN r (2 * q))).toNat

/-- Set a 64-bit word of a region's entry. -/
def State.setRgnQ (s : State) (r q v : Nat) : State := s.wr64 (R.REC_RGN r (2 * q)) (BitVec.ofNat 64 v)

/-- Whether a region fences an LSN (R496). -/
def State.fencedBy (s : State) (r lsn : Nat) : Bool :=
  match s.rgnState r with
  | 1 | 2 => decide (s.rgnQ r 2 ≤ lsn)
  | 3 => decide (s.rgnQ r 2 ≤ lsn ∧ lsn ≤ s.rgnQ r 4)
  | _ => false

/-- Whether any region fences an LSN. -/
def State.fenced (s : State) (lsn : Nat) : Bool := (List.range 16).any (fun r => s.fencedBy r lsn)

/-- The logs that count toward the frozen share: those VALID in the Raft, and those sealed and not yet written. -/
def State.heldLsns (s : State) : List Nat :=
  s.rcd.valid.map (fun e => e.2.1) ++ s.rcd.sealed.map (·.lsn) ++ s.rcd.fly.map (·.log.lsn)

/-- The logs fenced by any region (R502). -/
def State.fencedCount (s : State) : Nat := (s.heldLsns.filter s.fenced).length

/-- The limit of fenced logs (R502). -/
def State.fenceLimit (s : State) : Nat :=
  s.members.length * s.recP * max 1 (s.fd R.REC_CFG F.REC_CFG_FRZ_MAX) / 256

/-- Set bits of REC_RGN_INT for a region: bit `r`, or 16 + r, and vector 224 + r (R513). -/
def State.rgnInt (s : State) (r bit : Nat) : State :=
  let sel : W32 := BitVec.ofNat 32 (2 ^ r + 2 ^ (16 + r))
  let t := s.orBits R.REC_RGN_INT (2 ^ bit)
  t.irqIf (decide ((t.rd R.REC_RGN_INT &&& t.rd R.REC_RGN_INT_EN &&& sel) ≠ 0 ∧
    (s.rd R.REC_RGN_INT &&& s.rd R.REC_RGN_INT_EN &&& sel) = 0)) (224 + r)

/-! ## Drive commands, the label and the index (R489 to R492) -/

/-- Issue a command to a member. -/
def State.nvIssue (s : State) (io : NvIo) : State := s.setRec { s.rcd with ios := s.rcd.ios ++ [io] }

/-- The 64 bytes of a region's entry. -/
def State.rgnBytes (s : State) (r : Nat) : List Byte :=
  (List.range 16).flatMap (fun w => toLe 4 (s.rd (R.REC_RGN r w)).toNat)

/-- A member's label without its check value (R491). -/
def State.labelBody (s : State) (n : Nat) : List Byte :=
  let ms := s.members
  toLe 4 0x54464152 ++ toLe 2 1 ++ toLe 2 (s.fd R.REC_CTRL F.REC_CTRL_RAFT_ID) ++ toLe 1 n ++ toLe 1 ms.length
  ++ toLe 2 0 ++ toLe 4 s.recP ++ toLe 8 s.rcd.labelSeq ++ toLe 8 (s.rd64 (R.MGT_SERIAL 0)).toNat
  ++ toLe 8 (ms.foldl (fun a i => a + 2 ^ i) 0) ++ toLe 24 0 ++ (List.range 16).flatMap s.rgnBytes
  ++ List.replicate 3004 0

/-- A member's label (R491). -/
def State.labelBytes (s : State) (n : Nat) : List Byte := s.labelBody n ++ toLe 4 (crc32c (s.labelBody n))

/-- REC writes the label to every member, raising its sequence number (R491). -/
def State.writeLabels (s : State) : State :=
  let t := s.setRec { s.rcd with labelSeq := s.rcd.labelSeq + 1 }
  t.members.foldl (fun a n => a.nvIssue { n := n, kind := .label, len := 4096, data := t.labelBytes n }) t

/-- The mirror's address of slot j of member n (R491). -/
def State.mirrorAt (s : State) (n j : Nat) : Nat := s.fd R.REC_IDX F.REC_IDX_BASE * 65536 + (n * s.recP + j) * 64

/-- The key of a member's slot. -/
def slotKey (n j : Nat) : Nat := n * 2 ^ 31 + j

/-- The log a slot holds. -/
def State.slotLsn (s : State) (n j : Nat) : Option Nat := (s.rcd.valid.find? (fun e => e.1 == slotKey n j)).map (fun e => e.2.1)

/-- A slot's entry becomes VALID 0 in the mirror. -/
def State.slotInval (s : State) (n j : Nat) : State :=
  let a := s.mirrorAt n j + 7
  (s.setByte .dram a (s.byte .dram a &&& 0x7F)).setRec { s.rcd with valid := s.rcd.valid.erase (slotKey n j) }

/-- The words of a log's index entry, check value apart (R489). -/
def State.entryBody (s : State) (l : RecLog) (n j : Nat) : List Byte :=
  toLe 8 (2 ^ 63 + l.lsn) ++ toLe 8 l.tmin ++ toLe 8 l.tmax
  ++ toLe 8 (j + n * 2 ^ 32 + (l.block + 1) * 2 ^ 40) ++ toLe 8 l.records ++ toLe 8 l.tseal
  ++ toLe 8 (l.cause + s.fd R.REC_CTRL F.REC_CTRL_RAFT_ID * 65536)

/-- A log's index entry (R489). -/
def State.entryBytes (s : State) (l : RecLog) (n j : Nat) : List Byte :=
  s.entryBody l n j ++ toLe 8 (crc32c (s.entryBody l n j))

/-- Write the 4 KiB index block that holds a slot's entry. -/
def State.writeIndex (s : State) (n j lsn : Nat) (kind : NvKind) : State :=
  let first := j / 64 * 64
  s.nvIssue { n := n, kind := kind, at_ := 4096 + first * 64, len := 4096, lsn := lsn,
              data := (List.range 64).flatMap (fun i =>
                if first + i < s.recP then s.bytes .dram (s.mirrorAt n (first + i)) 64 else List.replicate 64 0) }

/-- Where a member's slots start (R490). -/
def slotsStart (p : Nat) : Nat := 4096 + (p * 64 + 4095) / 4096 * 4096

/-! ## Blocks and seals (R486 to R488, R499 to R502) -/

/-- Close the open log's current block: its header with the check value, and zeros behind its last record (R486). -/
def State.closeBlock (s : State) (l : RecLog) : State :=
  let a := s.stageAt l.buf + l.block * 4096
  let head := toLe 8 l.base ++ toLe 2 l.inBlock ++ toLe 2 l.used
  let crc := crc32c (head ++ s.bytes .dram (a + 16) (l.used - 16))
  (s.setBytes .dram a (head ++ toLe 4 crc)).zero .dram (a + l.used) (4096 - l.used)

/-- A region closes at an LSN (R501). -/
def State.closeRegion (s : State) (r lsn : Nat) : State :=
  ((((s.setRgnQ r 4 lsn).setRgnQ r 5 s.time.ptp.toNat).setRgnState r 3).rgnInt r r).writeLabels

/-- The OPEN regions, lowest first. -/
def State.openRegions (s : State) : List Nat := (List.range 16).filter (fun r => s.rgnState r == 2)

/-- An LSN is the last sealed so far: the OPEN regions take it (R497). -/
def State.noteLast (s : State) (lsn : Nat) : State := s.openRegions.foldl (fun t r => t.setRgnQ r 4 lsn) s

/-- A region becomes OPEN at an LSN, and closes at once where its post window has ended (R499, R501). -/
def State.openRegion (s : State) (r lsn : Nat) : State :=
  let t := ((s.setRgnQ r 3 lsn).setRgnQ r 4 lsn).setRgnState r 2
  if t.rgnQ r 1 + bitsOf (t.rgnQ r 6) 16 12 * 10000000 ≤ t.time.ptp.toNat then t.closeRegion r lsn else t.writeLabels

/-- The seal that a region waited for has come. -/
def State.settleWant (s : State) (lsn : Nat) (w : Nat × Bool) : State :=
  if w.2 then s.closeRegion w.1 lsn else s.openRegion w.1 lsn

/-- Members join and leave at a log boundary (R506): the namespaces that wait become members with wp = 0. -/
def State.joinMembers (s : State) : State :=
  let t := s.rcd.joining.foldl (fun t n => (t.setNs n 1).setRec { t.rcd with wp := t.rcd.wp.set (fun _ => 0) n 0 })
    (s.setRec { s.rcd with joining := [] })
  if s.rcd.joining = [] then s else t.writeLabels

/-- Where a seal takes the fenced logs above the limit, every OPEN region closes at it with TRUNC (R502). -/
def State.truncOpen (s : State) (lsn : Nat) : State :=
  if s.fencedCount ≤ s.fenceLimit then s
  else s.openRegions.foldl (fun t r =>
    ((t.wf (R.REC_RGN r 0) ⟨3, 1⟩ 1).closeRegion r lsn).raise (recErr 0x6008 0 0 0 r)) s

/-- REC seals the open log (R488): it takes the next LSN and waits to be written. -/
def State.sealLog (s : State) (l : RecLog) (cause : Nat) : State :=
  let lsn := s.recHead
  let now := s.time.ptp.toNat
  let unit_ := now / 100000000
  let s1 := (s.closeBlock l).wr64 (R.REC_HEAD 0) (BitVec.ofNat 64 (lsn + 1))
  let x := s1.rcd
  let first := (x.tmap.get (fun _ => none) unit_).getD lsn
  let ws := x.wants
  let s2 := (s1.setRec { x with log := none, wants := [], tmap := x.tmap.set (fun _ => none) unit_ (some first),
                                sealed := x.sealed ++ [{ l with lsn := lsn, cause := cause, tseal := now }] }).count
    (R.REC_CNT 7)
  let s3 := ws.foldl (fun t w => t.settleWant lsn w) (s2.noteLast lsn)
  ((s3.truncOpen lsn).joinMembers).recShow

/-- Whether a seal for TIME or TRIGGER may come: another staging buffer is free (R488). -/
def State.sealFree (s : State) : Bool := s.freeStage.isSome

/-- A region asks for its seal with cause TRIGGER (R499, R501): at once, after the last LSN where the open log is empty, or
when a buffer frees. -/
def State.askSeal (s : State) (r : Nat) (closing : Bool) : State :=
  match s.rcd.log with
  | none => (s.settleWant (s.recHead - 1) (r, closing)).recShow
  | some l =>
    let t := s.setRec { s.rcd with wants := s.rcd.wants ++ [(r, closing)] }
    if s.sealFree then t.sealLog l 3 else t

/-! ## Ingest (R479 to R481) -/

/-- A record is offered at an ingest port (R480): the state, and whether REC accepts it. -/
def State.recOffer (s : State) (port : Nat) (x : SigRec) : State × Bool :=
  let q := s.rcd.fifos.get (fun _ => []) port
  if ¬ s.mode F.GLB_MODE_RECORD ∨ s.recState ≠ 2 ∨ s.rcd.hold then (s.count (R.REC_CNT 1), false)
  else if 512 ≤ q.length then ((s.count (R.REC_CNT 1)).recLim (recErr 0x6001 0 0 0 port), false)
  else ((s.setRec { s.rcd with fifos := s.rcd.fifos.set (fun _ => []) port (q ++ [x]) }).count (R.REC_CNT 0), true)

/-! ## The compressor (R483 to R487) -/

/-- A curve's points, up to the first that is not VALID: abscissa and deadband. -/
def State.curvePts (s : State) (c : Nat) : List (Int × Nat) :=
  (((List.range 8).map (fun i => (s.rcd.curves.get (fun _ => 0) (c * 8 + i)).toNat)).takeWhile (fun w => bitAt w 63)).map
    (fun w => (signed 20 w, bitsOf w 24 20))

/-- The deadband between points (R484). -/
def deadbandFrom : List (Int × Nat) → Int → Int
  | [], _ => 0
  | [p], _ => p.2
  | p :: q :: rest, x =>
    if x < p.1 then p.2
    else if x < q.1 then p.2 + ((q.2 : Int) - p.2) * (x - p.1) / (q.1 - p.1)
    else deadbandFrom (q :: rest) x

/-- The deadband of a curve at a sample (R484). -/
def State.deadband (s : State) (c : Nat) (x : Int) : Int := deadbandFrom (s.curvePts c) x

/-- The address of a signal's entry (R483). -/
def State.sigAt (s : State) (id : Nat) : Nat := s.fd R.REC_SIG F.REC_SIG_BASE * 65536 + id * 16

/-- The entries of the signal table; 0 where there is none. -/
def State.sigCount (s : State) : Nat :=
  if s.fd R.REC_SIG F.REC_SIG_LOG = 0 then 0 else 2 ^ s.fd R.REC_SIG F.REC_SIG_LOG

/-- Whether a sample of a signal is stored (R485), given its entry's words. -/
def State.storeIt (s : State) (s0 s1 : Nat) (x : SigRec) : Bool :=
  let d := (x.time.toNat + 2 ^ 40 - s1 % 2 ^ 40) % 2 ^ 40
  let last := signed 20 (bitsOf s0 25 20)
  let hb := bitsOf s0 49 4
  !bitAt s0 62 || bitAt s0 61 || x.qual.toNat != bitsOf s0 45 4
    || decide (s.deadband (bitsOf s0 53 8) last < absInt (signed 20 x.sample.toNat - last))
    || decide (hb ≠ 0 ∧ 2 ^ (hb - 1) * 1000000 ≤ d ∧ d < 2 ^ 39)

/-- An unsigned LEB128 number (R487). -/
def leb128 : Nat → Nat → List Byte
  | 0, _ => []
  | n + 1, v => if v < 128 then [BitVec.ofNat 8 v] else BitVec.ofNat 8 (v % 128 + 128) :: leb128 n (v / 128)

/-- The zigzag number of a signed 64-bit delta (R487). -/
def zigzag (d : BitVec 64) : Nat := ((d <<< 1) ^^^ d.sshiftRight 63).toNat

/-- A record's bytes in a log, given the time before it (R487). -/
def recBytes (x : SigRec) (prev : Nat) : List Byte :=
  toLe 3 x.sig.toNat ++ toLe 3 (x.sample.toNat + x.qual.toNat * 2 ^ 20)
    ++ leb128 10 (zigzag (x.time - BitVec.ofNat 64 prev))

/-- Write a record into the open log `l`, where it fits, or behind a new block's header. -/
def State.putRecord (s : State) (l : RecLog) (x : SigRec) : State :=
  let fits := decide (0 < l.inBlock ∧ l.used + (recBytes x l.prev).length ≤ 4096)
  let bs := if fits then recBytes x l.prev else recBytes x x.time.toNat
  let s1 := if fits ∨ l.inBlock = 0 then s else s.closeBlock l
  let l1 : RecLog := if fits then l else
    { l with block := if l.inBlock = 0 then l.block else l.block + 1, used := 16, inBlock := 0, base := x.time.toNat }
  let t := x.time.toNat
  let l2 : RecLog :=
    { l1 with used := l1.used + bs.length, inBlock := l1.inBlock + 1, prev := t, records := l.records + 1,
              tmin := if l.records = 0 then t else min l.tmin t, tmax := if l.records = 0 then t else max l.tmax t }
  ((s1.setBytes .dram (s.stageAt l.buf + l1.block * 4096 + l1.used) bs).setRec { s1.rcd with log := some l2 }).countN
    (R.REC_CNT 6) bs.length

/-- Whether a record does not fit the open log any more: FULL (R488). -/
def logFull (l : RecLog) (x : SigRec) : Bool :=
  decide (l.block = 1023 ∧ 0 < l.inBlock ∧ 4096 < l.used + (recBytes x l.prev).length)

/-- Append a record to the open log (R486 to R488); none where no staging buffer is free for it. -/
def State.appendRecord (s : State) (x : SigRec) : Option State :=
  let fresh (t : State) : Option State :=
    t.freeStage.map (fun b => t.putRecord { buf := b, opened := t.time.clock, base := x.time.toNat } x)
  match s.rcd.log with
  | none => fresh s
  | some l => if logFull l x then (if s.sealFree then fresh (s.sealLog l 1) else none) else some (s.putRecord l x)

/-- The compressor decides one record (R485); none where it stalls. -/
def State.compress (s : State) (x : SigRec) (miss ue : Bool) : Option State :=
  let id := x.sig.toNat
  let a := s.sigAt id
  let s0 := s.ldN .dram a 8
  let s1 := s.ldN .dram (a + 8) 8
  if s.sigCount ≤ id then some (s.count (R.REC_CNT 4))
  else
    let t := s.countIf miss (R.REC_CNT 14)
    if ue then some ((t.count (R.REC_CNT 5)).raise (recErr 0x6003 2 1 a id))
    else if ¬ bitAt s0 63 then some (t.count (R.REC_CNT 4))
    else if ¬ s.storeIt s0 s1 x then some (t.count (R.REC_CNT 3))
    else (t.appendRecord x).map (fun u =>
      let w := putBits (putBits (putBits s0 62 1 1) 25 20 x.sample.toNat) 45 4 x.qual.toNat
      ((u.stN .dram a 8 w).stN .dram (a + 8) 8 (putBits s1 0 40 x.time.toNat)).count (R.REC_CNT 2))

/-- The ingest port that the compressor takes from next: round robin over those that hold a record (R481). -/
def State.nextPort (s : State) : Option Nat :=
  ((List.range 21).map (fun i => (s.rcd.rr + i) % 21)).find? (fun p => !(s.rcd.fifos.get (fun _ => []) p).isEmpty)

/-- The compressor takes one record; nothing where no port holds one. While the open log is full and no staging buffer is
free it stalls (R488). -/
def State.compressNext (s : State) (miss ue : Bool) : State :=
  match s.nextPort with
  | none => s
  | some p =>
    match s.rcd.fifos.get (fun _ => []) p with
    | [] => s
    | x :: rest =>
      let t := s.setRec { s.rcd with fifos := s.rcd.fifos.set (fun _ => []) p rest, rr := p + 1 }
      match t.compress x miss ue with
      | some u => u.recShow
      | none => s.recLim (recErr 0x6002 0 0 0 ((s.rcd.log.map (·.records)).getD 0))

/-- Every record accepted so far reaches the open log (R499), as far as staging buffers allow. -/
def State.drainFifos (s : State) : Nat → State
  | 0 => s
  | n + 1 => State.drainFifos (s.compressNext false false) n

/-- The records standing in the FIFOs. -/
def State.fifoRecords (s : State) : Nat := (s.rcd.fifos.map (fun e => e.2.length)).sum

/-- REC seals the open log with cause STOP (R504, R507, R488); nothing where it is empty. -/
def State.sealStop (s : State) : State :=
  match s.rcd.log with
  | some l => s.sealLog l 4
  | none => s

/-- RECORD_COMPRESS (R485): `miss` says that the signal cache missed, `ue` that the table read met an uncorrectable error. -/
def execRecordCompress (miss ue : Bool) (s : State) : Out := .next (s.compressNext miss ue)

/-- The seal of the open log for the given cause, where the cause holds (R488): 1 FULL, 2 TIME, 3 TRIGGER, 4 STOP. -/
def State.sealFor (s : State) (cause : Nat) : State :=
  match s.rcd.log with
  | none => s
  | some l =>
    match cause with
    | 1 => if s.sealFree ∧ l.block = 1023 ∧ 4096 < l.used + 16 then s.sealLog l 1 else s
    | 2 =>
      if s.fd R.REC_CFG F.REC_CFG_SEAL_MS = 0 ∨ ¬ s.sealFree then s
      else (s.passTo (l.opened + s.fd R.REC_CFG F.REC_CFG_SEAL_MS * msCyc)).sealLog l (if s.rcd.wants = [] then 2 else 3)
    | 3 => if s.sealFree ∧ s.rcd.wants ≠ [] then s.sealLog l 3 else s
    | 4 => if ¬ s.mode F.GLB_MODE_RECORD ∨ ¬ s.flag R.REC_CTRL F.REC_CTRL_RUN ∨ s.rcd.hold then s.sealLog l 4 else s
    | _ => s

/-- LOG_SEAL (R488). -/
def execLogSeal (cause : Nat) (s : State) : Out := .next (s.sealFor cause)

/-! ## The writer (R492 to R494) -/

/-- The members in the order the writer tries them: rising after the one served last, wrapping. -/
def State.memberOrder (s : State) : List Nat :=
  match s.rcd.last with
  | none => s.members
  | some k => s.members.filter (fun n => decide (k < n)) ++ s.members.filter (fun n => decide (n ≤ k))

/-- The first slot of a member from its write pointer on that no region fences, within `fuel` slots. -/
def State.freeSlot (s : State) (n : Nat) : Nat → Nat → Option Nat
  | 0, _ => none
  | fuel + 1, j =>
    match s.slotLsn n j with
    | some l => if s.fenced l then State.freeSlot s n fuel ((j + 1) % s.recP) else some j
    | none => some j

/-- The member and the slot for the next log. -/
def State.pickSlot (s : State) : List Nat → Option (Nat × Nat)
  | [] => none
  | n :: ns =>
    match s.freeSlot n s.recP (s.rcd.wp.get (fun _ => 0) n) with
    | some j => some (n, j)
    | none => State.pickSlot s ns

/-- REC starts a sealed log's writes: its slot shows VALID 0 first. -/
def State.startWrite (s : State) (l : RecLog) (n j : Nat) : State :=
  let s1 := s.slotInval n j
  let s2 := s1.setRec { s1.rcd with sealed := s1.rcd.sealed.drop 1, fly := s1.rcd.fly ++ [{ log := l, n := n, j := j }],
                                    last := some n }
  (s2.writeIndex n j l.lsn .inval).recShow

/-- LOG_WRITE (R492); `ue` says that a read of the staged log met an error, and REC abandons it (R494). -/
def execLogWrite (ue : Bool) (s : State) : Out :=
  .next (
    match s.rcd.sealed with
    | [] => s
    | l :: rest =>
      if ue then ((s.setRec { s.rcd with sealed := rest }).raise
        (recErr 0x6010 2 1 (s.stageAt l.buf) (l.lsn % 65536))).recShow
      else if 16 ≤ s.rcd.fly.length then s
      else match s.pickSlot s.memberOrder with
        | none => s
        | some (n, j) => if s.rcd.fly.any (fun f => f.n == n) then s else s.startWrite l n j)

/-- A member's slot starts: `D + j × 4 MiB` (R490). -/
def State.slotAt (s : State) (j : Nat) : Nat := slotsStart s.recP + j * 2 ^ 22

/-- Issue a log's data writes, at most 128 KiB each (R492). -/
def State.issueData (s : State) (f : RecFly) : State :=
  let total := (f.log.block + 1) * 4096
  let k := (total + 131071) / 131072
  let s1 := s.setRec { s.rcd with fly := s.rcd.fly.map (fun g => if g.n = f.n then { g with left := k } else g) }
  (List.range k).foldl (fun t i => t.nvIssue
    { n := f.n, kind := .data, at_ := s.slotAt f.j + i * 131072, len := min 131072 (total - i * 131072),
      src := s.stageAt f.log.buf + i * 131072, lsn := f.log.lsn }) s1

/-- A log's data is written: the mirror takes its entry, and the index block goes to the drive. -/
def State.issueFinal (s : State) (f : RecFly) : State :=
  let s1 := s.setBytes .dram (s.mirrorAt f.n f.j) (s.entryBytes f.log f.n f.j)
  let v := (s1.rcd.valid.erase (slotKey f.n f.j)).insert (slotKey f.n f.j) (f.log.lsn, f.log.tseal)
  let s2 := s1.setRec { s1.rcd with valid := v }
  s2.writeIndex f.n f.j f.log.lsn .final

/-- A log is written: the write pointer advances and its staging buffer frees. -/
def State.logWritten (s : State) (f : RecFly) : State :=
  let x := s.rcd
  (((s.setRec { x with fly := x.fly.filter (fun g => g.n != f.n),
                       wp := x.wp.set (fun _ => 0) f.n ((f.j + 1) % s.recP),
                       unflushed := x.unflushed ++ [(f.n, f.log.lsn)],
                       dirty := if x.dirty.contains f.n then x.dirty else x.dirty ++ [f.n] }).count (R.REC_CNT 8)).recShow)

/-! ## Loss of a member (R505) -/

/-- The regions that are not FREE and whose range holds an LSN of a list. -/
def State.regionsOf (s : State) (lsns : List Nat) : List Nat :=
  (List.range 16).filter (fun r => s.rgnState r != 0 && lsns.any (s.fencedBy r))

/-- REC declares a member lost (R505); `cause` is the DETAIL0 of MEMBER_LOST. -/
def State.memberLost (s : State) (n cause : Nat) : State :=
  if s.nsState n ≠ 1 then s
  else
    let x := s.rcd
    let gone := x.valid.filter (fun e => e.1 / 2 ^ 31 == n)
    let lsns := gone.map (fun e => e.2.1)
    let back := (x.fly.filter (fun f => f.n == n)).map (·.log)
    let s1 := gone.foldl (fun t e => t.slotInval n (e.1 % 2 ^ 31))
      (s.setRec { x with ios := x.ios.filter (fun i => i.n != n), fly := x.fly.filter (fun f => f.n != n),
                         sealed := back ++ x.sealed, unflushed := x.unflushed.filter (fun u => u.1 != n),
                         dirty := x.dirty.filter (· ≠ n), leaving := x.leaving.filter (· ≠ n) })
    let s2 := (s.regionsOf lsns).foldl (fun t r =>
      ((t.wf (R.REC_RGN r 0) ⟨4, 1⟩ 1).rgnInt r (16 + r)).raise (recErr 0x600A 2 0 0 (r + n * 256))) s1
    let s3 := ((s2.setNs n 2).writeLabels).raise (nsErr 0x6005 2 n cause)
    let s4 := if s3.members = [] then (s3.setRecState 4).raise (recErr 0x6006 3) else s3
    s4.recShow

/-- A member that is to leave has no log in flight any more (R506). -/
def State.leaveNow (s : State) (n : Nat) : State :=
  if s.rcd.leaving.contains n ∧ ¬ s.rcd.fly.any (fun f => f.n == n) then s.memberLost n 4 else s

/-- The effect of a command that completed. -/
def State.nvDone (s : State) (io : NvIo) : State :=
  match io.kind with
  | .inval =>
    let t := s.countN (R.REC_CNT 9) io.len
    (match s.rcd.fly.find? (fun f => f.n == io.n) with | some f => t.issueData f | none => t)
  | .data =>
    let t := s.countN (R.REC_CNT 9) io.len
    (match s.rcd.fly.find? (fun f => f.n == io.n) with
    | none => t
    | some f =>
      if f.left ≤ 1 then t.issueFinal f
      else t.setRec { t.rcd with fly := t.rcd.fly.map (fun g => if g.n = io.n then { g with left := g.left - 1 } else g) })
  | .final =>
    let t := s.countN (R.REC_CNT 9) io.len
    (match s.rcd.fly.find? (fun f => f.n == io.n) with | some f => (t.logWritten f).leaveNow io.n | none => t)
  | .flush => (s.setRec { s.rcd with unflushed := s.rcd.unflushed.filter (fun u => !(u.1 == io.n && decide (u.2 ≤ io.lsn))) }).recShow
  | _ => s

/-- The NVMe opcode of a command. -/
def NvKind.opcode : NvKind → Nat
  | .flush => 0 | .dealloc => 9 | _ => 1

/-- A command completes with an error status: it is retried once, and after that its member is lost (R492, R505). -/
def State.nvFail (s : State) (i : Nat) (io : NvIo) (status : Nat) : State :=
  if io.tried then s.memberLost io.n 1
  else
    let e := s.fd (R.REC_NS_STATUS io.n) F.REC_NS_STATUS_ERRORS
    (((s.setRec { s.rcd with ios := s.rcd.ios.set i { io with tried := true } }).wf (R.REC_NS_STATUS io.n)
      F.REC_NS_STATUS_ERRORS (min 65535 (e + 1))).count (R.REC_CNT 15)).recLim
        (nsErr 0x6004 1 io.n (status % 65536 + io.kind.opcode * 65536))

/-- NVME_COMPLETION (R492): the `i`-th command without completion ends with an NVMe status, 0 for success. -/
def execNvmeCompletion (i status : Nat) (s : State) : Out :=
  .next (
    match s.rcd.ios[i]? with
    | none => s
    | some io =>
      if status = 0 then (s.setRec { s.rcd with ios := s.rcd.ios.eraseIdx i }).nvDone io
      else s.nvFail i io status)

/-- RAFT_FLUSH (R493): a Flush to every member with completed writes. -/
def execRaftFlush (s : State) : Out :=
  .next (
    let top (n : Nat) : Nat := ((s.rcd.unflushed.filter (fun u => u.1 == n)).map (·.2)).max?.getD 0
    s.rcd.dirty.foldl (fun t n => t.nvIssue { n := n, kind := .flush, lsn := top n })
      (s.setRec { s.rcd with dirty := [] }))

/-- MEMBER_LOST (R505): `cause` 1 a failed retry, 2 a timeout, 3 the drive or its root port removed, 4 LEAVE. -/
def execMemberLost (n cause : Nat) (s : State) : Out := .next (s.memberLost n cause)

/-- NVME_IO_TIMEOUT (R505): a command to a member stays without completion for IO_TMO. -/
def execNvmeIoTimeout (n : Nat) (s : State) : Out :=
  .next (if s.rcd.ios.any (fun i => i.n == n) then s.memberLost n 2 else s)

/-! ## Resume (R495) -/

/-- What a label holds (R491). -/
structure Label where
  raft : Nat
  n : Nat
  p : Nat
  seq : Nat
  mask : Nat
  rgn : List Byte
  deriving DecidableEq, Repr

/-- A label with a good check value, its signature and its version. -/
def parseLabel (bs : List Byte) : Option Label :=
  let at_ (o n : Nat) : Nat := leNat ((bs.drop o).take n)
  if bs.length = 4096 ∧ crc32c (bs.take 4092) = at_ 4092 4 ∧ at_ 0 4 = 0x54464152 ∧ at_ 4 2 = 1 then
    some { raft := at_ 6 2, n := at_ 8 1, p := at_ 12 4, seq := at_ 16 8, mask := at_ 32 8, rgn := (bs.drop 64).take 1024 }
  else none

/-- Whether a label is this Raft's for a namespace. -/
def State.labelFits (s : State) (d : DriveInfo) (l : Label) : Bool :=
  l.raft == s.fd R.REC_CTRL F.REC_CTRL_RAFT_ID && l.n == d.n

/-- The best label among the drives. -/
def State.bestLabel (s : State) (ds : List DriveInfo) : Option Label :=
  ds.foldl (fun b d => match parseLabel d.label with
    | none => b
    | some l => if s.labelFits d l ∧ d.lbaOk then (match b with
        | none => some l
        | some m => if m.seq < l.seq then some l else b) else b) none

/-- A namespace's state after its label was read (R495), with its LABEL_BAD record. -/
def State.nsResume (s : State) (best : Option Label) (d : DriveInfo) : State :=
  if ¬ d.lbaOk then s.setNs d.n 5
  else match parseLabel d.label, best with
    | none, _ => (s.setNs d.n 7).raise (nsErr 0x600B 0 d.n 1)
    | some l, b =>
      if ¬ s.labelFits d l then (s.setNs d.n 3).raise (nsErr 0x600B 0 d.n 2)
      else match b with
        | some m =>
          if l.seq < m.seq then (s.setNs d.n 4).raise (nsErr 0x600B 0 d.n 3)
          else if bitAt m.mask d.n then s.setNs d.n 1 else s.setNs d.n 7
        | none => s.setNs d.n 7

/-- One index entry of a member goes to the mirror; with a bad check value it is VALID 0 (R495). -/
def State.loadEntry (s : State) (n j : Nat) (e : List Byte) : State :=
  let q (i : Nat) : Nat := leNat ((e.drop (8 * i)).take 8)
  let good := decide (e.length = 64 ∧ crc32c (e.take 56) = q 7 % 2 ^ 32)
  let s1 := s.setBytes .dram (s.mirrorAt n j) (if good then e else toLe 8 (putBits (q 0) 63 1 0) ++ e.drop 8)
  if good ∧ bitAt (q 0) 63 then
    let lsn := q 0 % 2 ^ 48
    let u := q 5 / 100000000
    let x := s1.rcd
    s1.setRec { x with valid := (x.valid.erase (slotKey n j)).insert (slotKey n j) (lsn, q 5),
                       tmap := x.tmap.set (fun _ => none) u (some (min lsn ((x.tmap.get (fun _ => none) u).getD lsn))) }
  else s1

/-- A member's index area goes to the mirror. -/
def State.loadArea (s : State) (n : Nat) (area : List Byte) : Nat → Nat → State
  | 0, _ => s
  | k + 1, j => State.loadArea (s.loadEntry n j ((area.drop (64 * j)).take 64)) n area k (j + 1)

/-- A member's write pointer, after its highest LSN. -/
def State.resumeWp (s : State) (n : Nat) : State :=
  let mine := s.rcd.valid.filter (fun e => e.1 / 2 ^ 31 == n)
  let top := mine.foldl (fun b e => match b with
    | none => some e
    | some f => if f.2.1 < e.2.1 then some e else b) none
  match top with
  | some e => s.setRec { s.rcd with wp := s.rcd.wp.set (fun _ => 0) n ((e.1 % 2 ^ 31 + 1) % s.recP) }
  | none => s

/-- The region table from a label; a region found ARMING or OPEN closes with TRUNC (R495). -/
def State.resumeRegions (s : State) (bs : List Byte) (top : Nat) : State :=
  let s1 := (List.range 256).foldl (fun t i =>
    t.wr (R.REC_RGN (i / 16) (i % 16)) (BitVec.ofNat 32 (leNat ((bs.drop (4 * i)).take 4)))) s
  (List.range 16).foldl (fun t r => if t.rgnState r = 1 ∨ t.rgnState r = 2 then
    (t.wf (R.REC_RGN r 0) ⟨3, 1⟩ 1).closeRegion r top else t) s1

/-- The namespaces offered to the Raft that a list of drives reaches. -/
def State.offered (s : State) (ds : List DriveInfo) : List DriveInfo :=
  ds.filter (fun d => decide (d.n < 64) && s.flag (R.REC_NS d.n) F.REC_NS_EN)

/-- The member that holds the highest LSN. -/
def State.topMember (s : State) : Option Nat :=
  (s.rcd.valid.foldl (fun b e => match b with
    | none => some e
    | some f => if f.2.1 < e.2.1 then some e else b) none).map (fun e => e.1 / 2 ^ 31)

/-- The recorder resumes from a good label. -/
def State.resumeFrom (s : State) (l : Label) (ds : List DriveInfo) : State :=
  let s1 := s.wf R.REC_SLOTS F.REC_SLOTS_P l.p
  let s2 := ds.foldl (fun t d => if t.nsState d.n = 1 then (t.loadArea d.n d.area l.p 0).resumeWp d.n else t) s1
  let top := (s2.rcd.valid.map (fun e => e.2.1)).max?.getD 0
  let s3 := s2.setRec { s2.rcd with labelSeq := l.seq, last := s2.topMember }
  let s4 := (s3.wr64 (R.REC_HEAD 0) (BitVec.ofNat 64 (top + 1))).resumeRegions l.rgn top
  if s4.members = [] then s4.setRecState 4 else s4.setRecState 2

/-- RAFT_RESUME (R495): `drives` are the namespaces that answer. -/
def execRaftResume (drives : List DriveInfo) (s : State) : Out :=
  .next (
    if s.recState ≠ 1 then s
    else
      let ds := s.offered drives
      let s0 := s.setRec { s.rcd with valid := [], tmap := [], wp := [], unflushed := [], dirty := [], ios := [] }
      let s1 := ds.foldl (fun t d => t.nsResume (s.bestLabel ds) d)
        ((List.range 64).foldl (fun t n => t.setNs n 0) s0)
      match s.bestLabel ds with
      | some l => (s1.resumeFrom l ds).recShow
      | none => (s1.setRecState (if ds = [] then 4 else 3)).recShow)

/-- A write of REC_CTRL: a rise of RUN starts the resume (R495), a fall seals the open log with cause STOP (R488). -/
def State.recCtrlWrite (s : State) (v : W32) : State :=
  let was := s.flag R.REC_CTRL F.REC_CTRL_RUN
  let s1 := s.plainWrite R.REC_CTRL v
  if bitAt v.toNat 31 ∧ ¬ was then s1.setRecState 1
  else if was ∧ ¬ bitAt v.toNat 31 then s1.sealStop.setRecState 0
  else s1

/-! ## Triggers (R498 to R502) -/

/-- FIRST and TRUNC of a new region, from the time map (R500). -/
def State.firstOf (s : State) (pre : Nat) : Nat × Bool :=
  let tail := s.recTail.getD s.recHead
  if pre = 0xFFFF then (tail, false)
  else
    let u := (s.time.ptp.toNat - pre * 100000000) / 100000000
    let now := s.time.ptp.toNat / 100000000
    match ((s.rcd.tmap.filter (fun e => decide (u ≤ e.1 ∧ now < e.1 + 65536))).filterMap (·.2)).min? with
    | none => (s.recHead, false)
    | some a => if a < tail then (tail, true) else (a, false)

/-- FIRST raised until the fenced logs fit the limit (R502), `r` being the new region. -/
def State.firstFit (s : State) (r first : Nat) : Nat × Bool :=
  let n (f : Nat) : Nat := (s.setRgnQ r 2 f).fencedCount
  if n first ≤ s.fenceLimit then (first, false)
  else
    let cands := (s.heldLsns.map (· + 1)).filter (fun f => decide (first ≤ f ∧ n f ≤ s.fenceLimit))
    (cands.min?.getD s.recHead, true)

/-- REC admits the FREEZE cell of a region (R499): it joins the release behind every copy there, or is held. -/
def State.freezeCell (s : State) (r src : Nat) : State :=
  let t : Token := { ctype := 6, cresult := BitVec.ofNat 32 src, epoch := s.epoch, its := s.time.ptp }
  match s.allocSlot 4 t with
  | none => s.holdCell { kind := 2, tok := t, ent := r }
  | some (s1, id) =>
    let s2 := (s1.setSlot id { (s1.slot id) with place := .release, refs := 1 }).relPush 146
      { id := id, tok := (s1.slot id).tok }
    s2.setRec { s2.rcd with cells := s2.rcd.cells.set (fun _ => 0) r (id + 1) }

/-- A trigger creates region `r` (R498). -/
def State.newRegion (s : State) (r src : Nat) : State :=
  let pre := s.fd (R.REC_TRIG_CFG src) F.REC_TRIG_CFG_PRE
  let post := s.fd (R.REC_TRIG_CFG src) F.REC_TRIG_CFG_POST
  let f := s.firstOf pre
  let s1 := (((((((s.setRgnQ r 0 (1 + src * 256)).setRgnQ r 1 s.time.ptp.toNat).setRgnQ r 2 f.1).setRgnQ r 3 0).setRgnQ r 4
    0).setRgnQ r 5 0).setRgnQ r 6 (pre + post * 65536)).setRgnQ r 7 0
  let g := s1.firstFit r f.1
  let s2 := (s1.setRgnQ r 2 g.1).wf (R.REC_RGN r 0) ⟨3, 1⟩ (b2n (f.2 || g.2))
  let s3 := if g.2 then s2.raise (recErr 0x6008 0 0 0 r) else s2
  ((s3.count (R.REC_CNT 13)).writeLabels).freezeCell r src

/-- A trigger from source `src` reaches REC (R498). -/
def State.recTrigger (s : State) (src : Nat) : State :=
  let t := s.count (R.REC_CNT 10)
  if ¬ s.mode F.GLB_MODE_RECORD ∨ s.recState ≠ 2 ∨ ¬ s.mode F.GLB_MODE_FREEZE
      ∨ ¬ s.flag (R.REC_TRIG_CFG src) F.REC_TRIG_CFG_EN then t.count (R.REC_CNT 12)
  else match (List.range 16).find? (fun r => (s.rgnState r == 1 || s.rgnState r == 2)
      && s.fd (R.REC_RGN r 0) ⟨8, 6⟩ == src) with
    | some r =>
      (t.wf (R.REC_RGN r 0) ⟨16, 16⟩ (min 65535 (s.fd (R.REC_RGN r 0) ⟨16, 16⟩ + 1))).count (R.REC_CNT 11)
    | none =>
      match (List.range 16).find? (fun r => s.rgnState r == 0) with
      | none => (t.count (R.REC_CNT 12)).raise (recErr 0x6007 0 0 0 src)
      | some r => t.newRegion r src

/-- RCP or a CVU raises a trigger source (R334, R409): the trigger is on its way to REC. -/
def State.raiseTrigger (s : State) (src : Nat) : State := s.setRec { s.rcd with trigs := s.rcd.trigs ++ [src % 64] }

/-- REC_TRIGGER (R498): the next trigger from RCP or a CVU reaches REC. -/
def execRecTrigger (s : State) : Out :=
  .next (match s.rcd.trigs with
    | [] => s
    | src :: rest => (s.setRec { s.rcd with trigs := rest }).recTrigger src)

/-- SWTRIG (R498): a write to REC_SWTRIG. -/
def execSwtrig (src : Nat) (s : State) : Out := .next ((s.arrive R.REC_SWTRIG).recTrigger (src % 64))

/-- A region leaves ARMING (R499): every record accepted so far reaches the open log, which is sealed. -/
def State.endArming (s : State) (r : Nat) : State :=
  let s1 := s.setRec { s.rcd with cells := s.rcd.cells.set (fun _ => 0) r 0 }
  (s1.drainFifos s1.fifoRecords).askSeal r false

/-- The region that waits for a FREEZE cell. -/
def State.cellRegion (s : State) (id : Nat) : Option Nat := (s.rcd.cells.find? (fun e => e.2 == id + 1)).map (·.1)

/-- The copies still in release that entered it before a place in the order. -/
def State.releasedBefore (s : State) (ord : Nat) : Bool :=
  s.ods.rel.any (fun l => decide (l.1 < 146) && l.2.any (fun e => decide (e.ord < ord)))

/-- FREEZE_CELL_RETURN (R253, R499): ODS hands REC the next FREEZE cell, behind every token that entered release before it.
-/
def execFreezeCellReturn (s : State) : Out :=
  .next (
    match s.relList 146 with
    | [] => s
    | e :: rest =>
      if s.releasedBefore e.ord then s
      else
        let s1 : State := ({ s with ods := { s.ods with rel := s.ods.rel.set (fun _ => []) 146 rest } }).dropSlot e.id
        match s.cellRegion e.id with
        | some r => s1.endArming r
        | none => s1)

/-- FREEZE_CELL_TIMEOUT (R499): 1 ms after TTRIG. -/
def execFreezeCellTimeout (r : Nat) (s : State) : Out :=
  .next (
    if s.rgnState r ≠ 1 ∨ 16 ≤ r ∨ s.rcd.wants.any (fun w => w.1 == r) then s
    else
      let s1 := s.until (s.rgnQ r 1 + 1000000)
      ((s1.wf (R.REC_RGN r 0) ⟨5, 1⟩ 1).raise (recErr 0x6009 0 0 0 r)).endArming r)

/-- REGION_CLOSE (R501): PTP time reaches the end of the post window. -/
def execRegionClose (r : Nat) (s : State) : Out :=
  .next (
    if s.rgnState r ≠ 2 ∨ 16 ≤ r ∨ s.rcd.wants.any (fun w => w.1 == r) then s
    else (s.until (s.rgnQ r 1 + bitsOf (s.rgnQ r 6) 16 12 * 10000000)).askSeal r true)

/-! ## REC_RCTL (R503, R506) -/

/-- A pair on REC_RCTL is refused (R506). -/
def State.rctlRefuse (s : State) : State := s.wf R.REC_STATUS F.REC_STATUS_CTRL_ERR 1

/-- A pair on REC_RCTL starts an operation. -/
def State.rctlStart (s : State) (op arg : Nat) : State :=
  (s.setRec { s.rcd with rctl := some (op, arg) }).wf R.REC_STATUS F.REC_STATUS_CTRL_ERR 0
    |>.wf R.REC_STATUS F.REC_STATUS_RCTL_BUSY 1

/-- What every operation requires: RUN and RECORD, and no operation running. -/
def State.rctlFree (s : State) : Bool :=
  s.flag R.REC_CTRL F.REC_CTRL_RUN && s.mode F.GLB_MODE_RECORD && s.rcd.rctl.isNone

/-- The largest P for which a member of capacity `c` has room (R490), at most `p`. -/
def fitP (c : Nat) : Nat → Nat
  | 0 => 0
  | p + 1 => if slotsStart (p + 1) + (p + 1) * 2 ^ 22 ≤ c then p + 1 else fitP c p

/-- P of a Raft over the given capacities (R490). -/
def formatP (caps : List Nat) : Nat :=
  caps.foldl (fun a c => min a (fitP c (min a (c / 2 ^ 22)))) (2 ^ 31 / max 1 caps.length)

/-- Deallocate a namespace and invalidate its index area. -/
def State.clearNs (s : State) (n cap : Nat) : State :=
  (s.nvIssue { n := n, kind := .dealloc, len := cap }).nvIssue
    { n := n, kind := .wipe, at_ := 4096, len := slotsStart s.recP - 4096 }

/-- FORMAT (R506): `caps` lists the namespaces that answer, with their capacity, 0 where the format is unsupported. -/
def State.formatEff (s : State) (caps : List (Nat × Nat)) : State :=
  let en := caps.filter (fun e => decide (e.1 < 64) && s.flag (R.REC_NS e.1) F.REC_NS_EN)
  let ok := en.filter (fun e => decide (e.2 ≠ 0))
  let s1 := (List.range 64).foldl (fun t n => t.setNs n 0) (s.rctlStart 1 0)
  let s2 := en.foldl (fun t e => t.setNs e.1 (if e.2 = 0 then 5 else 1)) s1
  let s3 := s2.wf R.REC_SLOTS F.REC_SLOTS_P (formatP (ok.map (·.2)))
  let s4 := s3.setRec { s3.rcd with valid := [], tmap := [], wp := [], unflushed := [], dirty := [], ios := [], sealed := [],
                                    fly := [], last := none, labelSeq := 0, joining := [], leaving := [] }
  let s5 := s4.zero .dram (s4.mirrorAt 0 0) (64 * s4.recP * 64)
  let s6 := (ok.foldl (fun t e => t.clearNs e.1 e.2) s5).wr64 (R.REC_HEAD 0) 1
  (s6.writeLabels.setRecState (if ok = [] then 4 else 2)).recShow

/-- FORMAT's condition (R506). -/
def State.formatOk (s : State) : Bool := s.rctlFree && (List.range 16).all (fun r => s.rgnState r == 0)

/-- The pair's value on REC_RCTL. -/
def rctlWord (op arg : Nat) : W32 := BitVec.ofNat 32 (op + arg % 64 * 256)

/-- RAFT_FORMAT (R506). -/
def execRaftFormat (mid : Nat) (gen : BitVec 8) (caps : List (Nat × Nat)) (s : State) : Out :=
  .next (match s.takePair R.REC_RCTL mid gen (rctlWord 1 0) with
    | some t => if t.formatOk then t.formatEff caps else t.rctlRefuse
    | none => s)

/-- JOIN (R506): a namespace of capacity `cap`, 0 where its format is unsupported. -/
def State.joinEff (s : State) (n cap : Nat) : State :=
  if ¬ s.rctlFree ∨ ¬ s.flag (R.REC_NS n) F.REC_NS_EN ∨ s.nsState n = 1 then s.rctlRefuse
  else if cap = 0 then (s.setNs n 5).rctlRefuse
  else if cap < slotsStart s.recP + s.recP * 2 ^ 22 ∨ s.recP = 0 then (s.setNs n 6).rctlRefuse
  else
    let t := (s.rctlStart 2 n).clearNs n cap
    let u := t.setRec { t.rcd with joining := t.rcd.joining ++ [n] }
    if u.rcd.log.isNone then u.joinMembers.recShow else u

/-- RAFT_JOIN (R506). -/
def execRaftJoin (mid : Nat) (gen : BitVec 8) (n cap : Nat) (s : State) : Out :=
  .next (match s.takePair R.REC_RCTL mid gen (rctlWord 2 n) with
    | some t => t.joinEff (n % 64) cap
    | none => s)

/-- LEAVE (R506): a log in flight to the member completes there first. -/
def State.leaveEff (s : State) (n : Nat) : State :=
  if ¬ s.rctlFree ∨ s.nsState n ≠ 1 then s.rctlRefuse
  else
    let t := s.rctlStart 3 n
    (t.setRec { t.rcd with leaving := t.rcd.leaving ++ [n] }).leaveNow n

/-- RAFT_LEAVE (R506). -/
def execRaftLeave (mid : Nat) (gen : BitVec 8) (n : Nat) (s : State) : Out :=
  .next (match s.takePair R.REC_RCTL mid gen (rctlWord 3 n) with
    | some t => t.leaveEff (n % 64)
    | none => s)

/-- RELEASE (R503). -/
def State.releaseEff (s : State) (r : Nat) : State :=
  if ¬ s.rctlFree ∨ 16 ≤ r ∨ s.rgnState r ≠ 3 then s.rctlRefuse
  else ((s.rctlStart 4 r).setRgnState r 0).writeLabels

/-- REGION_RELEASE (R503). -/
def execRegionRelease (mid : Nat) (gen : BitVec 8) (r : Nat) (s : State) : Out :=
  .next (match s.takePair R.REC_RCTL mid gen (rctlWord 4 r) with
    | some t => t.releaseEff (r % 64)
    | none => s)

/-- The commands to a drive that an operation waits for. -/
def NvKind.formats : NvKind → Bool
  | .label | .dealloc | .wipe => true | _ => false

/-- RCTL_DONE (R506): the operation has ended. -/
def execRctlDone (s : State) : Out :=
  .next (
    match s.rcd.rctl with
    | none => s
    | some (_, arg) =>
      if s.rcd.ios.any (·.kind.formats) ∨ s.rcd.joining.contains arg ∨ s.rcd.leaving.contains arg then s
      else (s.setRec { s.rcd with rctl := none }).wf R.REC_STATUS F.REC_STATUS_RCTL_BUSY 0)

/-! ## Commands and read-back (R508, R509) -/

/-- An argument of REC_ARG. -/
def State.recArg (s : State) (i : Nat) : Nat := (s.rd (R.REC_ARG i)).toNat

/-- Two arguments as one 64-bit number, low half first. -/
def State.recArg64 (s : State) (i : Nat) : Nat := (s.rd64 (R.REC_ARG i)).toNat

/-- Whether REC's command interface is busy. -/
def State.recBusy (s : State) : Bool := s.flag R.REC_CMD F.REC_CMD_BUSY

/-- A write to REC_CMD or REC_ARG while BUSY is 1 is discarded with CMD_BUSY (R508). -/
def State.recBusyErr (s : State) (off : Nat) (v : W32) : State := s.raise (recErr 0x600E 0 3 off v.toNat)

/-- A command of REC starts: BUSY rises, and RESULT waits for its end. -/
def State.recRun (s : State) (op res : Nat) : State :=
  let t := ((s.wf R.REC_CMD F.REC_CMD_OP op).wf R.REC_CMD F.REC_CMD_BUSY 1).setRes R.REC_CMD (BitVec.ofNat 32 res)
  if res = 5 then t.raise (recErr 0x600D 0 3 R.REC_CMD op) else t

/-- SIG_READ. -/
def State.sigRead (s : State) (ue : Bool) : State :=
  let id := s.recArg 0 % 2 ^ 24
  if s.sigCount ≤ id then s.recRun 1 5
  else if ue then (s.raise (recErr 0x6003 2 1 (s.sigAt id) id)).recRun 1 6
  else ((s.wr64 (R.REC_ARG 2) (BitVec.ofNat 64 (s.ldN .dram (s.sigAt id) 8))).wr64 (R.REC_ARG 4)
    (BitVec.ofNat 64 (s.ldN .dram (s.sigAt id + 8) 8))).recRun 1 0

/-- SIG_WRITE. -/
def State.sigWrite (s : State) : State :=
  let id := s.recArg 0 % 2 ^ 24
  if s.sigCount ≤ id then s.recRun 2 5
  else ((s.stN .dram (s.sigAt id) 8 (s.recArg64 2)).stN .dram (s.sigAt id + 8) 8 (s.recArg64 4)).recRun 2 0

/-- CURVE_READ. -/
def State.curveRead (s : State) : State :=
  (s.wr64 (R.REC_ARG 2) (s.rcd.curves.get (fun _ => 0) (s.recArg 0 % 2048))).recRun 3 0

/-- Whether abscissae rise strictly. -/
def risesStrictly : List Int → Bool
  | [] => true
  | [_] => true
  | a :: b :: rest => decide (a < b) && risesStrictly (b :: rest)

/-- CURVE_WRITE (R484): refused where it would break the rising order of the points in use. -/
def State.curveWrite (s : State) : State :=
  let k := s.recArg 0 % 2048
  let t := s.setRec { s.rcd with curves := s.rcd.curves.set (fun _ => 0) k (s.rd64 (R.REC_ARG 2)) }
  if risesStrictly ((t.curvePts (k / 8)).map (·.1)) then t.recRun 4 0 else s.recRun 4 5

/-- A mirror entry goes to REC_ARG. -/
def State.giveEntry (s : State) (n j : Nat) : State :=
  (List.range 16).foldl (fun t i => t.wr (R.REC_ARG i) (BitVec.ofNat 32 (s.ldN .dram (s.mirrorAt n j + 4 * i) 4))) s

/-- The VALID slot of the lowest LSN that passes a test. -/
def State.findLog (s : State) (p : Nat → Nat → Nat → Bool) : Option (Nat × Nat) :=
  ((s.rcd.valid.filter (fun e => p (e.1 / 2 ^ 31) (e.1 % 2 ^ 31) e.2.1)).foldl (fun b e => match b with
    | none => some e
    | some f => if e.2.1 < f.2.1 then some e else b) none).map (fun e => (e.1 / 2 ^ 31, e.1 % 2 ^ 31))

/-- FIND_TIME. -/
def State.findTime (s : State) : State :=
  match s.findLog (fun n j _ => decide (s.recArg64 0 ≤ s.ldN .dram (s.mirrorAt n j + 16) 8)) with
  | some (n, j) => (s.giveEntry n j).recRun 5 0
  | none => s.recRun 5 1

/-- FIND_LSN. -/
def State.findLsn (s : State) : State :=
  match s.findLog (fun _ _ l => l == s.recArg64 0 % 2 ^ 48) with
  | some (n, j) => (s.giveEntry n j).recRun 6 0
  | none => s.recRun 6 1

/-- What the arguments of READ_LOG name: member, slot, LSN, first block and blocks. -/
def State.readWhat (s : State) : Nat × Nat × Nat × Nat × Nat :=
  (s.recArg 1 % 64, s.recArg 0 % 2 ^ 31, s.recArg64 2 % 2 ^ 48, bitsOf (s.recArg 4) 0 10, bitsOf (s.recArg 4) 16 10 + 1)

/-- READ_LOG's first check (R509); the mark 15 stands for a result that the drive's answer decides. -/
def State.readLog (s : State) : State :=
  let (n, j, lsn, first, cnt) := s.readWhat
  if s.slotLsn n j ≠ some lsn then s.recRun 7 1
  else if bitsOf (s.ldN .dram (s.mirrorAt n j + 24) 8) 40 11 < first + cnt then s.recRun 7 5
  else s.recRun 7 15

/-- Whether a block's check value is good (R486). -/
def blockGood (b : List Byte) : Bool :=
  let used := leNat ((b.drop 10).take 2)
  decide (16 ≤ used ∧ used ≤ 4096) && crc32c (b.take 12 ++ (b.drop 16).take (used - 16)) == leNat ((b.drop 12).take 4)

/-- READ_LOG ends (R509): the blocks are delivered as read, and the entry is checked again. -/
def State.readDone (s : State) (blocks : List (List Byte)) (ioErr : Bool) : State × Nat :=
  let (n, j, lsn, first, _) := s.readWhat
  if ioErr then (s.memberLost n 1, 4)
  else
    let dram := bitAt (s.recArg 7) 0
    let s1 := (s.setBytes (if dram then .dram else .host) (s.recArg64 5) blocks.flatten).countN (R.REC_CNT 16) blocks.length
    match blocks.findIdx? (fun b => !blockGood b) with
    | some i => (s1.raise (nsErr 0x600C 2 n ((first + i) % 1024)), if s.slotLsn n j ≠ some lsn then 2 else 3)
    | none => (s1, if s.slotLsn n j ≠ some lsn then 2 else 0)

/-- A write to REC_CMD starts the operation OP names (R508), unless BUSY is 1 or LOCK bars it (R15). -/
def State.recCmdWrite (s : State) (mid : Nat) (gen : BitVec 8) (v : W32) (ue : Bool) : State :=
  let op := bitsOf v.toNat 0 4
  if s.recBusy then s.recBusyErr R.REC_CMD v
  else if s.locked ∧ (op = 2 ∨ op = 4) then s.lockDiscard R.REC_CMD mid gen v
  else match op with
    | 1 => s.sigRead ue
    | 2 => s.sigWrite
    | 3 => s.curveRead
    | 4 => s.curveWrite
    | 5 => s.findTime
    | 6 => s.findLsn
    | 7 => s.readLog
    | _ => s.recRun op 5

/-- A write to REC_CMD reaches REC. -/
def State.recCmd (s : State) (mid : Nat) (gen : BitVec 8) (op : Nat) (ue : Bool) : State :=
  s.reach R.REC_CMD mid gen (BitVec.ofNat 32 op) (fun t => t.recCmdWrite mid gen (BitVec.ofNat 32 op) ue)

/-- SIG_READ (R508). -/
def execSigRead (mid : Nat) (gen : BitVec 8) (ue : Bool) (s : State) : Out := .next (s.recCmd mid gen 1 ue)

/-- SIG_WRITE (R508). -/
def execSigWrite (mid : Nat) (gen : BitVec 8) (s : State) : Out := .next (s.recCmd mid gen 2 false)

/-- CURVE_READ (R508). -/
def execCurveRead (mid : Nat) (gen : BitVec 8) (s : State) : Out := .next (s.recCmd mid gen 3 false)

/-- CURVE_WRITE (R484). -/
def execCurveWrite (mid : Nat) (gen : BitVec 8) (s : State) : Out := .next (s.recCmd mid gen 4 false)

/-- FIND_TIME (R508). -/
def execFindTime (mid : Nat) (gen : BitVec 8) (s : State) : Out := .next (s.recCmd mid gen 5 false)

/-- FIND_LSN (R508). -/
def execFindLsn (mid : Nat) (gen : BitVec 8) (s : State) : Out := .next (s.recCmd mid gen 6 false)

/-- READ_LOG (R509). -/
def execReadLog (mid : Nat) (gen : BitVec 8) (s : State) : Out := .next (s.recCmd mid gen 7 false)

/-- REC_COMMAND_DONE (R508, R509): for READ_LOG, the blocks that the drive returned, and whether the read failed. -/
def execRecCommandDone (blocks : List (List Byte)) (ioErr : Bool) (s : State) : Out :=
  .next (
    if ¬ s.recBusy then s
    else
      let r := if s.resOf R.REC_CMD = 15 then s.readDone blocks ioErr else (s, (s.resOf R.REC_CMD).toNat)
      ((r.1.wf R.REC_CMD F.REC_CMD_BUSY 0).wf R.REC_CMD F.REC_CMD_RESULT r.2).setRes R.REC_CMD 0)

/-! ## Configuration pairs (R512) -/

/-- Whether REC accepts a value for REC_STAGE, REC_SIG or REC_IDX. -/
def State.recCfgOk (s : State) (off : Nat) (v : W32) : Bool :=
  let a := bitsOf v.toNat 0 24 * 65536
  let fits (n : Nat) : Bool := decide (a + n ≤ s.dramSize)
  !s.flag R.REC_CTRL F.REC_CTRL_RUN &&
    (if off = R.REC_STAGE then decide (2 ≤ bitsOf v.toNat 24 8) && fits (bitsOf v.toNat 24 8 * 2 ^ 22)
     else if off = R.REC_SIG then
       let l := bitsOf v.toNat 24 5
       (l == 0 || decide (10 ≤ l ∧ l ≤ 24)) && fits (if l = 0 then 0 else 2 ^ l * 16)
     else fits (4096 * s.recP))

/-- REC decides a value for REC_STAGE, REC_SIG or REC_IDX. -/
def State.recCfgWrite (s : State) (off : Nat) (v : W32) : State :=
  if s.recCfgOk off v then s.wr off v else s.raise (recErr 0x600F 0 3 off v.toNat)

/-- The register that a number names: 0 REC_STAGE, 1 REC_SIG, 2 REC_IDX. -/
def recCfgReg (k : Nat) : Nat := match k with | 0 => R.REC_STAGE | 1 => R.REC_SIG | _ => R.REC_IDX

/-- REC_CFG_PAIR (R512). -/
def execRecCfgPair (mid : Nat) (gen : BitVec 8) (reg : Nat) (value : W32) (s : State) : Out :=
  .next (match s.takePair (recCfgReg reg) mid gen value with
    | some t => t.recCfgWrite (recCfgReg reg) value
    | none => s)

end Sys2Proof.Machine
end

