-- ==== Sys2Proof/Machine/Prs.lean ====
section
/-! DEFINITION. Parsing and classification (04_parser_classifier): the parse walk, taps, keys, exact match, spreading, what
PRS writes into a token, control cells, and the table commands. -/
namespace Sys2Proof.Machine
open Sys2Proof

/-! ## The parse tables in table memory (R105, R106, R113, R119, R129) -/

/-- The first byte of a pipeline's copy of the parse tables. -/
def prsCopy (pl : Nat) : Nat := pl * 0x80000

/-- A direct table 8 to 12 in a copy: its first byte, the bytes of an entry, and its entries. -/
def prsTab (k : Nat) : Nat × Nat × Nat :=
  match k with
  | 8 => (0, 32, 256) | 9 => (0x10000, 16, 16384) | 10 => (0x50000, 16, 2048) | 11 => (0x58000, 2, 4096)
  | _ => (0x5A000, 64, 8)

/-- An entry's address. -/
def prsEntAt (pl k i : Nat) : Nat := prsCopy pl + (prsTab k).1 + i * (prsTab k).2.1

/-- An entry as a number. -/
def State.prsEnt (v : State) (pl k i : Nat) : Nat := v.ldN .table (prsEntAt pl k i) (prsTab k).2.1

/-! ## The walk (R103, R104) -/

/-- The walk's variables, with the visit before (its state), the class of the last outer visit that set one, its profile,
the taps taken, and how the walk ended: the exception class, 0 for accept. -/
structure Walk where
  st : Nat := 0
  prev : Option Nat := none
  l : Nat := 0
  p : Nat := 0
  pushed : Nat := 0
  layers : List (Nat × Nat) := []
  inner : Bool := false
  cls : Option Nat := none
  prof : Option Nat := none
  pflag : Nat := 0
  nfrag : Bool := false
  taps : List Tap := []
  oor : Nat := 0
  excess : Nat := 0
  ended : Option Nat := none
  deriving DecidableEq, Repr

/-- A byte of the window. -/
def winByte (w : List Byte) (i : Nat) : Nat := (w.getD i 0).toNat

/-- The ones'-complement sum of bytes as big-endian words (R104). -/
def onesSum (bs : List Byte) : Nat → Nat
  | 0 => 0
  | n + 1 =>
    let t := onesSum bs n + beNat [bs.getD (2 * n) 0, bs.getD (2 * n + 1) 0]
    if t < 65536 then t else t - 65535

/-- What one tap descriptor yields: nothing usable, or a tap (R113 to R115). -/
def takeTap (w : List Byte) (l d : Nat) : Option Tap :=
  let p1 := d / 2 ^ 64
  let soff := l + bitsOf d 0 8
  let fmt := bitsOf d 8 3
  let n := match fmt with | 0 | 7 => 1 | 3 => 3 | 4 | 5 => 4 | _ => 2
  let qm := bitsOf d 14 2
  let qoff := l + bitsOf d 20 8
  let iw := bitsOf p1 32 2
  let ioff := l + bitsOf p1 24 8
  let has (o k : Nat) : Bool := decide (o + k ≤ w.length)
  if ¬ has soff n ∨ ((qm = 1 ∨ qm = 2) ∧ ¬ has qoff 1) ∨ ((iw = 1 ∨ iw = 2) ∧ ¬ has ioff iw) then none
  else
    let bs := (w.drop soff).take n
    let smp : Int := match fmt with
      | 0 => signed 8 (beNat bs)
      | 1 => signed 16 (beNat bs)
      | 2 => signed 16 (leNat bs)
      | 3 => beNat bs
      | 4 => beNat bs / 2 ^ 12
      | 5 => leNat bs / 2 ^ 12
      | 6 => beNat bs
      | _ => b2n (bitAt (beNat bs) (bitsOf d 11 3))
    let q := match qm with | 1 => winByte w qoff / 16 | 2 => winByte w qoff % 16 | _ => bitsOf d 16 4
    let idx := if iw = 1 ∨ iw = 2 then beNat ((w.drop ioff).take iw) else 0
    some { sig := BitVec.ofNat 24 (bitsOf p1 0 24 + idx * bitsOf p1 34 16), sample := BitVec.ofInt 20 smp,
           qual := BitVec.ofNat 4 q }

/-- A visit applies the descriptors of a tap set in rising order (R112, R115). -/
def applyTaps (w : List Byte) : List Nat → Walk → Walk
  | [], k => k
  | d :: ds, k =>
    if ¬ bitAt d 28 then applyTaps w ds k
    else if 8 ≤ k.taps.length then applyTaps w ds { k with excess := k.excess + 1 }
    else match takeTap w k.l d with
      | none => applyTaps w ds { k with oor := k.oor + 1 }
      | some t => applyTaps w ds { k with taps := k.taps ++ [t] }

/-- The lowest transition of a range that matches (R106): its words. -/
def State.transition (v : State) (pl key : Nat) : Nat → Nat → Option Nat
  | 0, _ => none
  | n + 1, i =>
    let t := v.prsEnt pl 9 i
    if Nat.land key (bitsOf t 32 32) = bitsOf t 0 32 then some t else State.transition v pl key n (i + 1)

/-- The class that the checks of a visit name, 0 where every one passes; `s` is the state's words, `h` the header's length
(R103). -/
def walkCheck (w : List Byte) (len : Nat) (k : Walk) (s h : Nat) : Nat :=
  let s1 := s / 2 ^ 64
  let b := if bitAt s 56 then k.p else k.l
  let hlEnd := if bitAt s 18 then k.l + bitsOf s 27 8 + 1 else 0
  let keyEnd := if bitsOf s1 46 7 ≠ 0 then b + bitsOf s 0 8 + bitsOf s 8 2 + 1 else 0
  if bitAt s 11 ∧ k.pushed = 16 then 3
  else if len < hlEnd ∨ len < keyEnd then 1
  else if 256 < hlEnd ∨ 256 < keyEnd then 2
  else if h < bitsOf s 48 8 then 5
  else if len < k.l + h then 1
  else if 256 < k.l + h then 2
  else if bitAt s 17 ∧ onesSum ((w.drop k.l).take h) ((h + 1) / 2) ≠ 0xFFFF then 6
  else 0

/-- The header length a state gives (R103). -/
def headerLen (w : List Byte) (k : Walk) (s : Nat) : Nat :=
  if bitAt s 18 then
    Nat.land (winByte w (k.l + bitsOf s 27 8) / 2 ^ bitsOf s 35 3) (bitsOf s 38 8) * 2 ^ bitsOf s 46 2 + bitsOf s 19 8
  else bitsOf s 19 8

/-- A good layer (R103): pushed, its taps, class and profile taken, its flags set. -/
def State.goodLayer (v : State) (pl : Nat) (w : List Byte) (k : Walk) (s : Nat) : Walk :=
  let s2 := s / 2 ^ 128
  let k1 : Walk := if bitAt s 11 then
      { k with p := k.l, pushed := k.pushed + 1,
               layers := if k.inner then k.layers else k.layers ++ [(bitsOf s 12 5, k.l)] }
    else k
  let k2 := if bitAt s2 8 then
      applyTaps w ((List.range 8).map (fun i => v.prsEnt pl 10 (bitsOf s2 0 8 * 8 + i))) k1
    else k1
  let co := k.l + bitsOf s2 14 8
  let k3 : Walk := if ¬ k.inner ∧ bitAt s2 13 ∧ co < w.length then
      { k2 with cls := some (winByte w co / 2 ^ bitsOf s2 22 3 % 8) } else k2
  let k4 : Walk := if ¬ k.inner ∧ bitAt s2 12 then { k3 with prof := some (bitsOf s2 9 3) } else k3
  { k4 with pflag := Nat.lor k4.pflag (bitsOf s2 25 2) }

/-- The walk takes a transition (R106). -/
def Walk.take (k : Walk) (t : Nat) : Walk :=
  let t1 := t / 2 ^ 64
  let k1 : Walk := if bitAt t1 9 then { k with inner := true } else k
  if bitsOf t1 11 3 ≠ 0 then { k1 with ended := some (10 + bitsOf t1 11 3) }
  else if bitAt t1 10 then { k1 with nfrag := true, ended := some 8 }
  else if bitAt t1 8 then { k1 with ended := some 0 }
  else { k1 with prev := some k.st, st := bitsOf t1 0 8 }

/-- One visit (R103); `ue` says that a table read of it meets an uncorrectable error. -/
def State.visit (v : State) (pl : Nat) (w : List Byte) (len : Nat) (ue : Bool) (k : Walk) : Walk :=
  let s := v.prsEnt pl 8 k.st
  let s1 := s / 2 ^ 64
  if ue then { k with ended := some 9 }
  else if ¬ bitAt s 10 then { k with ended := some 10 }
  else
    let h := headerLen w k s
    match walkCheck w len k s h with
    | 0 =>
      let b := if bitAt s 56 then k.p else k.l
      let key := Nat.land (beNat ((w.drop (b + bitsOf s 0 8)).take (bitsOf s 8 2 + 1))) (bitsOf s1 0 32)
      let k1 := { (v.goodLayer pl w k s) with l := k.l + h }
      (match v.transition pl key (bitsOf s1 46 7) (bitsOf s1 32 14) with
      | some t => k1.take t
      | none =>
        match bitsOf s1 53 2 with
        | 0 => { k1 with ended := some 0 }
        | 1 => { k1 with prev := some k.st, st := bitsOf s1 55 8 }
        | _ => { k1 with ended := some 7 })
    | c => { k with ended := some c }

/-- The walk, for the visits left (R103); `ue` counts down to the visit that meets an uncorrectable error. -/
def State.walkFrom (v : State) (pl : Nat) (w : List Byte) (len : Nat) : Nat → Option Nat → Walk → Walk
  | 0, _, k => { k with ended := some 4 }
  | n + 1, ue, k =>
    let k1 := v.visit pl w len (ue == some 0) k
    if k1.ended.isSome then k1 else State.walkFrom v pl w len n (ue.map (· - 1)) k1

/-- The walk of a frame from its start state. -/
def State.walk (v : State) (pl : Nat) (bytes : List Byte) (len start : Nat) (ue : Option Nat) : Walk :=
  v.walkFrom pl (bytes.take 256) len 32 ue { st := start }

/-! ## Keys, exact match, spreading (R118 to R130) -/

/-- The metadata block of a frame (R120). -/
def metaBlock (inport exc pflags layers len : Nat) : List Byte :=
  toBe 1 inport ++ toBe 1 exc ++ toBe 1 pflags ++ toBe 1 layers ++ toBe 2 len

/-- The start of the layer an extract reads. -/
def extractLayer (layers : List (Nat × Nat)) (ty occ : Nat) : Option Nat :=
  let ls := (layers.filter (fun x => x.1 == ty)).map (·.2)
  match occ with | 0 => ls.head? | 1 => (ls.drop 1).head? | 2 => ls.getLast? | _ => none

/-- The bytes of an extract, after FIRSTMASK (R119, R120). -/
def extractBytes (w mb : List Byte) (layers : List (Nat × Nat)) (e : Nat) : List Byte :=
  let n := bitsOf e 15 4 + 1
  let off := bitsOf e 7 8
  let src (a : List Byte) (o : Nat) : List Byte := (List.range n).map (fun i => a.getD (o + i) 0)
  let raw := if bitsOf e 0 5 = 0 then src mb off
    else match extractLayer layers (bitsOf e 0 5) (bitsOf e 5 2) with
      | some o => src w (o + off)
      | none => List.replicate n 0
  match raw with
  | [] => []
  | b :: bs => (b &&& BitVec.ofNat 8 (bitsOf e 21 8)) :: bs

/-- The extract descriptors of a profile that are in use. -/
def State.extracts (v : State) (pl p : Nat) : List Nat :=
  ((List.range 16).map (fun i => bitsOf (v.prsEnt pl 12 p) (32 * i) 32)).filter (fun e => bitAt e 20)

/-- A profile's key width in bytes (R121). -/
def State.keyBytes (v : State) (p : Nat) : Nat := 8 * (v.fd (R.PRS_PROF_CTRL p) F.PRS_PROF_CTRL_KEYW + 1)

/-- Whether a profile's table is being cleared (R124). -/
def State.prsClearing (s : State) (p : Nat) : Bool := bitAt (s.fd R.PRS_STATUS F.PRS_STATUS_CLEARING) p

/-- A profile's slots per way, 0 where it owns no table (R121). -/
def State.waySlots (v : State) (p : Nat) : Nat :=
  if v.fd (R.PRS_PROF_CTRL p) F.PRS_PROF_CTRL_WAYSZ = 0 then 0 else 2 ^ v.fd (R.PRS_PROF_CTRL p) F.PRS_PROF_CTRL_WAYSZ

/-- A profile's table (R121, R123); no slots while it is being cleared. -/
def State.emTab (v : State) (p : Nat) : HTab :=
  { base := v.fd (R.PRS_PROF_CTRL p) F.PRS_PROF_CTRL_BASE * 65536, slots := if v.prsClearing p then 0 else v.waySlots p,
    keyB := v.keyBytes p, entB := v.keyBytes p + 8, validB := v.keyBytes p + 7 }

/-- Toeplitz (R128): XOR the key's bits `i` to `i + 31` for each 1 among the input bits; `key` has 352 bits, bit 0 of the
string being the most significant. -/
def toeplitz (key : Nat) (bs : List Byte) : Nat :=
  (List.range (8 * min bs.length 40)).foldl (fun h i =>
    if bitAt (bs.getD (i / 8) 0).toNat (7 - i % 8) then Nat.xor h (bitsOf key (352 - 32 - i) 32) else h) 0

/-- The 352-bit spreading key. -/
def State.spreadKey (v : State) : Nat :=
  (List.range 11).foldl (fun a i => a * 2 ^ 32 + (v.rd (R.PRS_SPREAD_KEY i)).toNat) 0

/-- The indirection entry of a frame (R129). -/
def State.indirection (v : State) (pl p h : Nat) : Nat :=
  let lg := min 12 (v.fd (R.PRS_PROF_SPREAD p) F.PRS_PROF_SPREAD_IND_LOG)
  let b := v.fd (R.PRS_PROF_SPREAD p) F.PRS_PROF_SPREAD_IND_BASE
  v.prsEnt pl 11 ((b - b % 2 ^ lg + h % 2 ^ lg) % 4096)

/-- How PRS classes a frame: FLOW and NODE, the hit entry's data, the profile, and the sideband word; dropped where the miss
action says so. -/
structure Classed where
  drop : Bool := false
  flow : Nat := 0
  node : Nat := 0
  hit : Option Nat := none
  looked : Bool := false
  prof : Nat := 0
  queue : Option Nat := none
  member : Option Nat := none
  deriving DecidableEq, Repr

/-- Classify a frame on its outer layers (R118 to R130); `ue` leaves the failed lookup out (R137). -/
def State.classify (v : State) (pl : Nat) (w mb : List Byte) (k : Walk) (defProf : Nat) (ue : Bool) : Classed :=
  let p := k.prof.getD defProf
  let es := v.extracts pl p
  let kb := v.keyBytes p
  let raw := (es.flatMap (extractBytes w mb k.layers)).take kb
  let key := raw ++ List.replicate (kb - raw.length) 0
  let h := toeplitz v.spreadKey ((es.filter (fun e => bitAt e 19)).flatMap (extractBytes w mb k.layers))
  let ind := v.indirection pl p h
  let use := v.fd (R.PRS_PROF_SPREAD p) F.PRS_PROF_SPREAD_USE
  let hit := if ue then none
    else ((v.emTab p).find v key).map (fun q => leNat (((v.emTab p).ent v q.1 q.2).drop kb))
  let spreadQ := if bitAt use 0 then some (bitsOf ind 0 10) else none
  let member := if bitAt use 1 then some (bitsOf ind 10 6) else none
  let miss := (v.rd (R.PRS_PROF_MISS p)).toNat
  match hit with
  | some d =>
    { flow := bitsOf d 30 22, node := bitsOf d 52 6, hit := some d, looked := true, prof := p,
      queue := if bitAt d 62 then some (bitsOf d 20 10) else spreadQ, member := member }
  | none =>
    { drop := decide (2 ≤ bitsOf miss 30 2), node := bitsOf miss 22 6, looked := !ue, prof := p, queue := spreadQ,
      flow := if bitsOf miss 30 2 = 0 then putBits (bitsOf miss 0 22) 0 20 h else bitsOf miss 0 22, member := member }

/-- PFLAGS (R120, R127): bits 1:0 the image's, bit 2 NFRAG, bit 3 TUN. -/
def Walk.pflags (k : Walk) : Nat := k.pflag + b2n k.nfrag * 4 + b2n k.inner * 8

/-- CRESULT (R127). -/
def cresultOf (k : Walk) (c : Classed) (exc : Nat) : W32 :=
  BitVec.ofNat 32 (b2n c.hit.isSome * 2 ^ 31 + c.prof * 2 ^ 28 + exc * 2 ^ 24 + b2n k.inner * 2 ^ 23 + b2n k.nfrag * 2 ^ 22
    + k.pflag * 2 ^ 20 + (match c.hit with | some d => bitsOf d 0 20 | none => k.pushed * 256 + k.st))

/-! ## A frame through PRS (R98 to R102, R108, R109, R125) -/

/-- A record of PRS about a frame. -/
def prsRec (pl code sev akind addr d0 d1 : Nat) : ErrRec := mkErr 2 pl code sev akind addr 0 0 d0 d1

/-- The record of a walk that ended with an exception class (R138). -/
def State.prsExc (s : State) (pl inport exc : Nat) (k : Walk) : State :=
  match exc with
  | 0 => s
  | 9 => s.raise (prsRec pl 0x1003 2 5 k.st 8 0)
  | 10 => s.raise (prsRec pl 0x1002 2 5 k.st (match k.prev with | some p => p | none => 256) 0)
  | x => s.raiseLim msCyc (pl * 16 + x) (prsRec pl 0x1001 0 0 0 (x + k.st * 256 + k.l % 256 * 65536) inport)
      (fun n e => { e with d1 := BitVec.ofNat 32 (inport + n % 65536 * 65536) })

/-- What PRS counts for a walk's taps (R112, R115). -/
def State.tapCounts (s : State) (pl : Nat) (k : Walk) : State :=
  let s1 := (s.countN (R.PRS_CNT 9) k.oor).countN (R.PRS_CNT 8) k.excess
  if k.excess = 0 then s1
  else s1.raiseLimN msCyc pl k.excess (prsRec pl 0x1004 0 0 0 0 0) (fun n e => { e with d0 := BitVec.ofNat 32 n })

/-- A source of a pipeline: a port, or 144 for MLK (R98). -/
def prsSources (pl : Nat) : List Nat := (List.range 36).map (fun i => 36 * pl + i) ++ (if pl = 3 then [144] else [])

/-- The sources in the order of arbitration, after the one served last (R98). -/
def State.prsOrder (s : State) (pl : Nat) : List Nat :=
  let r := (s.pipe pl).rr
  (prsSources pl).filter (fun n => decide (r ≤ n)) ++ (prsSources pl).filter (fun n => decide (n < r))

/-- Whether a source holds a frame that PRS may start: a whole one, or a cut one of which 256 bytes are there (R101). -/
def State.frameReady (s : State) (n : Nat) : Bool :=
  match (s.port n).rxq.head? with
  | some i => !i.flush && (!i.cut || decide (256 ≤ i.bytes.length))
  | none => false

/-- The source that PRS serves next. -/
def State.prsNext (s : State) (pl : Nat) : Option Nat := (s.prsOrder pl).find? s.frameReady

/-- The start state, default profile and default class of a source. -/
def prsPort (v : State) (n : Nat) : Nat × Nat × Nat :=
  if n = 144 then (v.fd R.PRS_CFG F.PRS_CFG_MLK_START, v.fd R.PRS_CFG F.PRS_CFG_MLK_PROFILE,
    v.fd R.PRS_CFG F.PRS_CFG_MLK_CLASS)
  else (v.fd (R.PRS_PORT_CFG n) F.PRS_PORT_CFG_START_STATE, v.fd (R.PRS_PORT_CFG n) F.PRS_PORT_CFG_DEF_PROFILE,
    v.fd (R.PRS_PORT_CFG n) F.PRS_PORT_CFG_DEF_CLASS)

/-- INPORT of a source (R33): MLK is 0xFE. -/
def inportOf (n : Nat) : Nat := if n = 144 then 0xFE else n

/-- The action of an exception class: 0 classify, 1 fixed, 2 drop (R109). -/
def excAct (v : State) (x : Nat) : Nat :=
  if x = 0 then 0 else min 2 (v.fd (R.PRS_EXC_ACT x) F.PRS_EXC_ACT_ACT)

/-- The fixed FLOW and NODE of an exception class. -/
def excFixed (v : State) (x : Nat) : Classed :=
  { flow := v.fd (R.PRS_EXC_ACT x) F.PRS_EXC_ACT_FLOW, node := v.fd (R.PRS_EXC_ACT x) F.PRS_EXC_ACT_NODE }

/-- The class a frame ends with, and how it is classed (R109, R125, R137). -/
def State.decideFrame (v : State) (pl : Nat) (w mb : List Byte) (k : Walk) (defProf : Nat) (ueMatch : Bool) :
    Nat × Classed :=
  let x := k.ended.getD 0
  let go (x : Nat) (ue : Bool) : Classed :=
    match excAct v x with
    | 0 => v.classify pl w mb k defProf ue
    | 1 => excFixed v x
    | _ => { drop := true }
  if ueMatch ∧ excAct v x = 0 then (9, go 9 true) else (x, go x false)

/-- A frame taken from a source: the token PRS forms for it (R125). -/
def State.formToken (s : State) (i : RxItem) (id len inport exc defCls : Nat) (epoch : BitVec 8) (k : Walk)
    (c : Classed) : Token :=
  let cls := match c.hit with
    | some d => if bitAt d 61 then bitsOf d 58 3 else k.cls.getD defCls
    | none => k.cls.getD defCls
  { s.slot id |>.tok with
      epoch := epoch, ctype := 0, flow := BitVec.ofNat 22 c.flow, node := BitVec.ofNat 6 c.node, cls := BitVec.ofNat 3 cls,
      its := i.its, handle := 0, cresult := cresultOf k c exc, length := BitVec.ofNat 16 len,
      inport := BitVec.ofNat 8 inport, egress := 0x1FF, tapf := 0, scratch := 0 }

/-- A pipeline's flight behind those that wait for their taps' offer, or straight before BPM (R116). -/
def PipeSt.hand (p : PipeSt) (f : Flight) : PipeSt :=
  if p.toTap = [] ∧ f.taps = [] then { p with toBpm := p.toBpm ++ [f] } else { p with toTap := p.toTap ++ [f] }

/-- PRS starts the frame at the head of source `n` under the grant of slot `id` (R98 to R130). -/
def State.parseFrame (s : State) (pl n id : Nat) (adm : BitVec 12) (i : RxItem) (ueVisit : Option Nat) (ueMatch : Bool) :
    State :=
  let epoch := (s.pipe pl).prsEpoch
  let v := s.view epoch
  let cfg := prsPort v n
  let k := v.walk pl i.bytes i.bytes.length cfg.1 ueVisit
  if i.cut ∧ k.ended = some 1 then s
  else
    let len := if i.cut then s.freeWord.toNat % 65536 else i.bytes.length
    let inport := inportOf n
    let d := v.decideFrame pl (i.bytes.take 256)
      (metaBlock inport (k.ended.getD 0) k.pflags k.pushed len) k cfg.2.1 ueMatch
    let exc := d.1
    let c := d.2
    let p := s.port n
    let s0 := if i.cut then s.tookFree else s
    let s1 := (s0.setPort n { p with rxq := p.rxq.tail }).count (R.PRS_CNT 0)
    let s2 := (s1.setPipe pl { (s1.pipe pl) with grants := (s1.pipe pl).grants.tail, rr := n + 1 }).tapCounts pl k
    let s3 := (s2.countIf (decide (exc ≠ 0)) (R.PRS_EXC_CNT exc)).prsExc pl inport exc k
    let s4 := (s3.countIf c.hit.isSome (R.PRS_CNT 2)).countIf (c.looked && c.hit.isNone) (R.PRS_CNT 3)
    if c.drop then
      ((s4.count (R.PRS_CNT (if excAct v exc = 2 then 4 else 5))).countN (R.PRS_CNT 10) k.taps.length).dropForming id
    else
      let t := s4.formToken i id len inport exc cfg.2.2 epoch k c
      let s5 := s4.setSlot id { (s4.slot id) with tok := t, adm := adm, cut := if i.cut then some n else none }
      let s6 := if i.cut then
          s5.setPort n { (s5.port n) with cutTaps := k.taps, cutId := some id, cutIts := i.its }
        else s5
      s6.setPipe pl ((s6.pipe pl).hand
        { tok := t, frame := i.bytes, adm := adm, cut := if i.cut then some n else none, queue := c.queue,
          member := c.member, taps := if i.cut then [] else k.taps, layers := k.layers })

/-- The packet tokens that stand before BPM on a pipeline. -/
def PipeSt.packets (p : PipeSt) : Nat := (p.toBpm.filter (fun f => f.tok.ctype == 0)).length

/-- The pipeline's packet tokens that came to stand before BPM count as handed on. -/
def State.countOut (s t : State) (pl : Nat) : State := t.countN (R.PRS_CNT 1) ((t.pipe pl).packets - (s.pipe pl).packets)

/-- PARSE_FRAME (R98, R103): `ueVisit` names the visit, from 0, whose table read meets an uncorrectable error, and `ueMatch`
says that the exact-match read does. -/
def execParseFrame (pl : Nat) (ueVisit : Option Nat) (ueMatch : Bool) (s : State) : Out :=
  .next (
    if 4 ≤ pl ∨ s.throttles pl then s
    else match (s.pipe pl).grants, s.prsNext pl with
      | (id, adm) :: _, some n =>
        (match (s.port n).rxq with
        | i :: _ => s.countOut (s.parseFrame pl n id adm i ueVisit ueMatch) pl
        | [] => s)
      | _, _ => s)

/-! ## Taps (R116, R117) -/

/-- PRS offers taps to REC in order: how many REC accepts. -/
def State.offerTaps (s : State) (pl : Nat) (its : W64) : List Tap → State × Nat
  | [] => (s, 0)
  | t :: ts =>
    let r := s.recOffer pl { sig := t.sig, sample := t.sample, qual := t.qual, time := its }
    let q := State.offerTaps r.1 pl its ts
    (q.1, q.2 + b2n r.2)

/-- TAPF after an offer of `n` taps of which `a` are accepted. -/
def tapf (n a : Nat) : BitVec 2 := BitVec.ofNat 2 (b2n (decide (0 < a)) + 2 * b2n (decide (a < n)))

/-- The counts of an offer. -/
def State.tapsOffered (s : State) (n a : Nat) : State := (s.countN (R.PRS_CNT 6) a).countN (R.PRS_CNT 7) (n - a)

/-- The head of a pipeline's tokens that wait for their offer goes to BPM, with those behind it that have no taps. -/
def PipeSt.handTap (p : PipeSt) (f : Flight) : PipeSt :=
  let rest := p.toTap.tail
  let free := rest.takeWhile (fun g => g.taps.isEmpty)
  { p with toTap := rest.drop free.length, toBpm := p.toBpm ++ [f] ++ free }

/-- The offer for a whole frame. -/
def State.tapOffer (s : State) (pl : Nat) : State :=
  match (s.pipe pl).toTap with
  | [] => s
  | f :: _ =>
    let r := s.offerTaps pl f.tok.its f.taps
    let s1 := r.1.tapsOffered f.taps.length r.2
    let id := f.tok.id.toNat
    let t := { f.tok with tapf := tapf f.taps.length r.2 }
    let s2 := s1.setSlot id { (s1.slot id) with tok := t }
    s.countOut (s2.setPipe pl ((s2.pipe pl).handTap { f with tok := t, taps := [] })) pl

/-- The offer for a frame of a port under CUT, once its end is good: TAPF goes to the copy that ODS holds (R116). -/
def State.cutOffer (s : State) (n : Nat) : State :=
  let p := s.port n
  if ¬ p.cutOk then s
  else
    let r := s.offerTaps (if n = 144 then 3 else portPipe n) p.cutIts p.cutTaps
    let s1 := (r.1.tapsOffered p.cutTaps.length r.2).setPort n { p with cutOk := false, cutTaps := [], cutId := none }
    match p.cutId with
    | some id =>
      let x := s1.slot id
      if x.used ∧ x.tok.its = p.cutIts ∧ p.cutTaps ≠ [] then
        s1.setSlot id { x with tok := { x.tok with tapf := tapf p.cutTaps.length r.2 } }
      else s1
    | none => s1

/-- TAP_OFFER (R116): for the token that waits on a pipeline, or for a port's frame under CUT. -/
def execTapOffer (pl : Nat) (cutPort : Option Nat) (s : State) : Out :=
  .next (match cutPort with
    | some n => s.cutOffer n
    | none => if pl < 4 then s.tapOffer pl else s)

/-! ## Control cells through PRS, BPM and FTE (R131, R253) -/

/-- A cell leaves PRS: a MARK switches the view, a PROBE is stamped. -/
def State.cellPastPrs (s : State) (pl : Nat) (f : Flight) : State :=
  let p := s.pipe pl
  s.setPipe pl ({ p with prsEpoch := if f.tok.ctype = 1 then f.tok.epoch else p.prsEpoch }.hand
    { f with tok := s.probed f.tok 1 })

/-- The port of a pipeline whose receive FIFO is headed by an admitted FLUSH cell. -/
def State.flushHead (s : State) (pl : Nat) : Option (Nat × Nat × BitVec 12) :=
  (prsSources pl).findSome? (fun n => match (s.port n).rxq with
    | i :: _ => if i.flush then i.cell.map (fun c => (n, c.1, c.2)) else none
    | [] => none)

/-- A control cell passes PRS: one that MGT injected first, else a FLUSH at the head of a receive FIFO. -/
def State.passPrs (s : State) (pl : Nat) : State :=
  match (s.pipe pl).cells with
  | f :: rest => (s.setPipe pl { (s.pipe pl) with cells := rest }).cellPastPrs pl f
  | [] =>
    match s.flushHead pl with
    | some (n, id, adm) =>
      let p := s.port n
      ((s.setPort n { p with rxq := p.rxq.tail }).cellPastPrs pl { tok := (s.slot id).tok, adm := adm })
    | none => s

/-- Whether a flight is a control cell. -/
def Flight.isCell (f : Flight) : Bool := f.tok.ctype != 0

/-- A control cell passes BPM (R213). -/
def State.passBpm (s : State) (pl : Nat) : State :=
  let p := s.pipe pl
  match p.toBpm with
  | f :: rest =>
    if f.isCell then s.setPipe pl { p with toBpm := rest, toFte := p.toFte ++ [{ f with tok := s.probed f.tok 2 }] } else s
  | [] => s

/-- A control cell other than a FLUSH passes FTE: a MARK switches FTE's view (R174). -/
def State.passFte (s : State) (pl : Nat) : State :=
  let p := s.pipe pl
  match p.toFte with
  | f :: rest =>
    if f.isCell ∧ f.tok.ctype ≠ 5 then
      s.setPipe pl { p with toFte := rest, fteEpoch := if f.tok.ctype = 1 then f.tok.epoch else p.fteEpoch,
                            toOds := p.toOds ++ [{ f with tok := s.probed f.tok 3 }] }
    else s
  | [] => s

/-- CONTROL_CELL_PASS (R131): the next control cell passes a unit of a pipeline: 0 PRS, 1 BPM, 2 FTE. -/
def execControlCellPass (unit_ pl : Nat) (s : State) : Out :=
  .next (
    if 4 ≤ pl then s
    else match unit_ with | 0 => s.passPrs pl | 1 => s.passBpm pl | 2 => s.passFte pl | _ => s)

/-! ## Table commands (R132 to R137) -/

/-- A result word of PRS_TSTAT. -/
def tstat (res moves way index : Nat) : W32 := BitVec.ofNat 32 (res * 2 ^ 28 + moves * 2 ^ 24 + way * 2 ^ 20 + index)

/-- The table that PRS_TCMD names. -/
def State.prsTable (s : State) : Nat := s.fd R.PRS_TCMD F.PRS_TCMD_TABLE

/-- A command of PRS has run; its result waits for its end (R132). -/
def State.prsResult (s : State) (res moves way index : Nat) : State :=
  let t := (s.wf R.PRS_TCMD F.PRS_TCMD_BUSY 1).setRes R.PRS_TSTAT (tstat res moves way index)
  if res = 4 then t.raise (mkErr 2 0xFF 0x1006 0 3 R.PRS_TCMD 0 0 (s.rd R.PRS_TCMD).toNat) else t

/-- The bytes staged in PRS_TBUF. -/
def State.tbufBytes (s : State) (n : Nat) : List Byte :=
  ((List.range 16).flatMap (fun i => toLe 4 (s.rd (R.PRS_TBUF i)).toNat)).take n

/-- Put bytes into PRS_TBUF from word `i` on. -/
def State.putTbuf (s : State) (i : Nat) (bs : List Byte) : State :=
  (List.range ((bs.length + 3) / 4)).foldl (fun t k =>
    t.wr (R.PRS_TBUF (i + k)) (BitVec.ofNat 32 (leNat ((bs.drop (4 * k)).take 4)))) s

/-- The entry that PRS_TBUF stages for a profile: key and data. -/
def State.emStaged (s : State) (p : Nat) : List Byte :=
  s.tbufBytes (s.keyBytes p) ++ toLe 8 (s.rd64 (R.PRS_TBUF 10)).toNat

/-- An exact-match entry goes to PRS_TBUF. -/
def State.emShow (s : State) (p : Nat) (e : List Byte) : State :=
  (s.putTbuf 0 (e.take (s.keyBytes p) ++ List.replicate (40 - s.keyBytes p) 0)).putTbuf 10 (e.drop (s.keyBytes p))

/-- WAY and INDEX of PRS_TIDX. -/
def State.tidx (s : State) : Nat × Nat := (s.fd R.PRS_TIDX F.PRS_TIDX_WAY, s.fd R.PRS_TIDX F.PRS_TIDX_INDEX)

/-- READ (R132); `ue` says that it meets an uncorrectable error. -/
def State.prsRead (s : State) (ue : Bool) : State :=
  let k := s.prsTable
  let (w, i) := s.tidx
  let at_ := if k < 8 then (s.emTab k).addr w i else prsEntAt 0 k i
  let fail (t : State) : State := ((t.sramUe 1 at_).raise (mkErr 2 0xFF 0x1003 2 5 i 0 0 k)).prsResult 5 0 0 0
  if k < 8 then
    (if s.prsClearing k then s.prsResult 6 0 0 0
     else if s.waySlots k ≤ i then s.prsResult 4 0 0 0
     else if ue then fail s
     else (s.emShow k ((s.emTab k).ent s w i)).prsResult 0 0 w i)
  else if k ≤ 12 ∧ i < (prsTab k).2.2 then
    (if ue then fail s
     else (s.putTbuf 0 (s.bytes .table (prsEntAt 0 k i) (prsTab k).2.1)).prsResult 0 0 0 i)
  else s.prsResult 4 0 0 0

/-- Whether a state or transition may be written (R107). -/
def State.prsWriteOk (s : State) (k : Nat) : Bool :=
  let e := leNat (s.tbufBytes 32)
  if k = 8 then decide (bitsOf e 110 7 ≤ 64 ∧ bitsOf e 96 14 + bitsOf e 110 7 ≤ 16384)
  else if k = 9 then decide (bitsOf e 75 3 < 6) else true

/-- WRITE (R132, R134, R136): an entry of tables 8 to 12 goes to every copy. -/
def State.prsWrite (s : State) : State :=
  let k := s.prsTable
  let (w, i) := s.tidx
  if k < 8 then
    (if s.prsClearing k then s.prsResult 6 0 0 0
     else if s.waySlots k ≤ i then s.prsResult 4 0 0 0
     else ((s.emTab k).put s w i (s.emStaged k)).prsResult 0 0 w i)
  else if k ≤ 12 ∧ i < (prsTab k).2.2 ∧ s.prsWriteOk k then
    ((List.range 4).foldl (fun t pl => t.setBytes .table (prsEntAt pl k i) (s.tbufBytes (prsTab k).2.1)) s).prsResult 0 0 0 i
  else s.prsResult 4 0 0 0

/-- Run a key command on a profile's table. -/
def State.prsKeyed (s : State) (f : State → HTab → List Byte → State) : State :=
  let k := s.prsTable
  if 8 ≤ k then s.prsResult 4 0 0 0
  else if s.prsClearing k then s.prsResult 6 0 0 0
  else f s (s.emTab k) (s.tbufBytes (s.keyBytes k))

/-- INSERT (R133). -/
def State.prsInsert (s : State) : State :=
  s.prsKeyed (fun t tab key =>
    match tab.find t key with
    | some q => t.prsResult 2 0 q.1 q.2
    | none =>
      match tab.place t (fun _ => false) (t.emStaged t.prsTable) with
      | some (u, q, moves) => u.prsResult 0 moves q.1 q.2
      | none => (t.raise (mkErr 2 0xFF 0x1005 0 0 0 0 0 t.prsTable)).prsResult 3 0 0 0)

/-- UPDATE (R132). -/
def State.prsUpdate (s : State) : State :=
  s.prsKeyed (fun t tab key =>
    match tab.find t key with
    | some q => (tab.put t q.1 q.2 (t.emStaged t.prsTable)).prsResult 0 0 q.1 q.2
    | none => t.prsResult 1 0 0 0)

/-- DELETE (R132). -/
def State.prsDelete (s : State) : State :=
  s.prsKeyed (fun t tab key =>
    match tab.find t key with
    | some q => (tab.clear t q.1 q.2).prsResult 0 0 q.1 q.2
    | none => t.prsResult 1 0 0 0)

/-- SEARCH (R132); `ue` says that it meets an uncorrectable error. -/
def State.prsSearch (s : State) (ue : Bool) : State :=
  s.prsKeyed (fun t tab key =>
    if ue then (t.raise (mkErr 2 0xFF 0x1003 2 5 0 0 0 t.prsTable)).prsResult 5 0 0 0
    else match tab.find t key with
      | some q => (t.emShow t.prsTable (tab.ent t q.1 q.2)).prsResult 0 0 q.1 q.2
      | none => t.prsResult 1 0 0 0)

/-- Whether PRS's command interface is busy. -/
def State.prsBusy (s : State) : Bool := s.flag R.PRS_TCMD F.PRS_TCMD_BUSY

/-- A write to PRS_TCMD, PRS_TIDX or PRS_TBUF while BUSY is 1 is discarded with CMD_BUSY (R135). -/
def State.prsBusyErr (s : State) (off : Nat) (v : W32) : State := s.raise (mkErr 2 0xFF 0x1007 0 3 off 0 0 v.toNat)

/-- The command that OP names runs. -/
def State.prsRun (s : State) (op : Nat) (ue : Bool) : State :=
  match op with
  | 1 => s.prsRead ue
  | 2 => s.prsWrite
  | 3 => s.prsInsert
  | 4 => s.prsUpdate
  | 5 => s.prsDelete
  | 6 => s.prsSearch ue
  | _ => s.prsResult 4 0 0 0

/-- A write to PRS_TCMD starts a command (R132, R135). -/
def State.prsTcmdWrite (s : State) (mid : Nat) (gen : BitVec 8) (v : W32) (ue : Bool) : State :=
  let op := bitsOf v.toNat 0 4
  if s.prsBusy then s.prsBusyErr R.PRS_TCMD v
  else if s.locked ∧ 2 ≤ op ∧ op ≤ 5 then s.lockDiscard R.PRS_TCMD mid gen v
  else s.storeToo ((s.plainWrite R.PRS_TCMD v).prsRun op ue)

/-- A write to PRS_TCMD reaches PRS. -/
def State.prsTcmd (s : State) (mid : Nat) (gen : BitVec 8) (table op : Nat) (ue : Bool) : State :=
  s.reach R.PRS_TCMD mid gen (BitVec.ofNat 32 (table % 32 * 256 + op)) (fun t =>
    t.prsTcmdWrite mid gen (BitVec.ofNat 32 (table % 32 * 256 + op)) ue)

/-- PRS_READ (R132). -/
def execPrsRead (mid : Nat) (gen : BitVec 8) (table : Nat) (ue : Bool) (s : State) : Out :=
  .next (s.prsTcmd mid gen table 1 ue)

/-- PRS_WRITE (R132). -/
def execPrsWrite (mid : Nat) (gen : BitVec 8) (table : Nat) (s : State) : Out := .next (s.prsTcmd mid gen table 2 false)

/-- PRS_INSERT (R133). -/
def execPrsInsert (mid : Nat) (gen : BitVec 8) (table : Nat) (s : State) : Out := .next (s.prsTcmd mid gen table 3 false)

/-- PRS_UPDATE (R132). -/
def execPrsUpdate (mid : Nat) (gen : BitVec 8) (table : Nat) (s : State) : Out := .next (s.prsTcmd mid gen table 4 false)

/-- PRS_DELETE (R132). -/
def execPrsDelete (mid : Nat) (gen : BitVec 8) (table : Nat) (s : State) : Out := .next (s.prsTcmd mid gen table 5 false)

/-- PRS_SEARCH (R132). -/
def execPrsSearch (mid : Nat) (gen : BitVec 8) (table : Nat) (ue : Bool) (s : State) : Out :=
  .next (s.prsTcmd mid gen table 6 ue)

/-- PRS_BAD_OP (R132): OP is 0, or 7 to 15. -/
def execPrsBadOp (mid : Nat) (gen : BitVec 8) (table op : Nat) (s : State) : Out :=
  .next (if op = 0 ∨ 7 ≤ op % 16 then s.prsTcmd mid gen table (op % 16) false else s)

/-! ## Profiles (R124) -/

/-- The entries of a profile's table. -/
def State.profEntries (s : State) (p : Nat) : Nat := 4 * s.waySlots p

/-- A table's first byte and its length, from the value of PRS_PROF_CTRL. -/
def profRange (v : Nat) : Nat × Nat :=
  (bitsOf v 21 11 * 65536, if bitsOf v 16 5 = 0 then 0 else 4 * 2 ^ bitsOf v 16 5 * (8 * (bitsOf v 0 3 + 1) + 8))

/-- Whether PRS accepts a value for PRS_PROF_CTRL of a profile. -/
def State.profOk (s : State) (p : Nat) (v : W32) : Bool :=
  let w := bitsOf v.toNat 16 5
  let r := profRange v.toNat
  let others := (List.range 8).filter (fun q => q != p && s.waySlots q != 0)
  decide (bitsOf v.toNat 0 3 ≤ 4) && (w == 0 ||
    (decide (10 ≤ w ∧ w ≤ 19 ∧ 32 ≤ bitsOf v.toNat 21 11 ∧ r.1 + r.2 ≤ 96 * 2 ^ 20)
      && others.all (fun q =>
          let o := profRange (s.rd (R.PRS_PROF_CTRL q)).toNat
          decide (r.1 + r.2 ≤ o.1 ∨ o.1 + o.2 ≤ r.1))
      && decide (4 * 2 ^ w + (others.map s.profEntries).sum ≤ 2097152)))

/-- A profile's new value takes effect: its table is cleared. -/
def State.profApply (s : State) (p : Nat) (v : W32) : State :=
  if v = s.rd (R.PRS_PROF_CTRL p) then s
  else
    let t := s.wr (R.PRS_PROF_CTRL p) v
    if t.waySlots p = 0 then t
    else t.wf R.PRS_STATUS F.PRS_STATUS_CLEARING (putBits (t.fd R.PRS_STATUS F.PRS_STATUS_CLEARING) p 1 1)

/-- PRS decides a value for PRS_PROF_CTRL. -/
def State.profWrite (s : State) (p : Nat) (v : W32) : State :=
  if s.profOk p v then s.profApply p v
  else s.raise (mkErr 2 0xFF 0x1008 0 3 (R.PRS_PROF_CTRL p) 0 0 v.toNat)

/-- PROF_CTRL_PAIR (R124). -/
def execProfCtrlPair (mid : Nat) (gen : BitVec 8) (p : Nat) (value : W32) (s : State) : Out :=
  .next (if 8 ≤ p then s else match s.takePair (R.PRS_PROF_CTRL p) mid gen value with
    | some t => t.profWrite p value
    | none => s)

/-- PROF_CLEAR_DONE (R124): every slot of the table is clear. -/
def execProfClearDone (p : Nat) (s : State) : Out :=
  .next (
    if 8 ≤ p ∨ ¬ s.prsClearing p then s
    else
      let r := profRange (s.rd (R.PRS_PROF_CTRL p)).toNat
      (s.zero .table r.1 r.2).wf R.PRS_STATUS F.PRS_STATUS_CLEARING
        (putBits (s.fd R.PRS_STATUS F.PRS_STATUS_CLEARING) p 1 0))

/-- PRS_COMMAND_DONE (R132): BUSY clears, and PRS_TSTAT shows the result. -/
def execPrsCommandDone (s : State) : Out :=
  .next (
    if ¬ s.prsBusy then s
    else ((s.wr R.PRS_TSTAT (s.resOf R.PRS_TSTAT)).wf R.PRS_TCMD F.PRS_TCMD_BUSY 0).setRes R.PRS_TSTAT 0)

end Sys2Proof.Machine
end

