-- ==== Sys2Proof/Machine/ThreadOps.lean ====
section
/-! DEFINITION. What the meanings of threads and clusters share (08_move_machine to 10_pipeline_threads, 13_scratch): a
thread's state, scratchpads, windows, answers to its operations, faults, fetching. -/
namespace Sys2Proof.Machine
open Sys2Proof

/-! ## Threads and cores -/

/-- A thread's state. -/
def State.thr (s : State) (mid : Nat) : ThreadSt := s.threads.get (fun _ => {}) mid

/-- Set a thread's state. -/
def State.setThr (s : State) (mid : Nat) (x : ThreadSt) : State :=
  { s with threads := s.threads.set (fun _ => {}) mid x }

/-- Whether a MID names a thread of a cluster or of the management pair. -/
def isThread (mid : Nat) : Bool := midIsThread mid || decide (0x800 ≤ mid ∧ mid ≤ 0x807)

/-- The core of a thread: cluster × 9 + core, 144 for the management pair. -/
def coreKey (mid : Nat) : Nat := if midCluster mid = 16 then 144 else midCluster mid * 9 + midCore mid

/-- A core's cycle count (R274). -/
def State.cycle (s : State) (core : Nat) : Nat := s.cycles.get (fun _ => 0) core

/-- Set a core's cycle count. -/
def State.setCycle (s : State) (core n : Nat) : State := { s with cycles := s.cycles.set (fun _ => 0) core n }

/-- The scratchpad of a cluster, 16 for the management pair. -/
def spadOf (c : Nat) : Space := if c = 16 then .mgmtSpad else .spad c

/-- A scratchpad's bytes (R280, R281). -/
def spadSize (c : Nat) : Nat := if c = 16 then 0x20000 else 0x80000

/-- The instruction RAM of a cluster, 16 for the management pair. -/
def iramOf (c : Nat) : Space := if c = 16 then .mgmtIram else .iram c

/-- The last index of an instruction RAM (R286). -/
def lastIdx (c : Nat) : Nat := if c = 16 then 0xFFF else 0x3FFF

/-- An operand, result or state port of a thread. -/
def ThreadSt.port (x : ThreadSt) (sock : Nat) : W40 := x.sock.get (fun _ => 0) sock

/-- Set a port of a thread. -/
def ThreadSt.setPort (x : ThreadSt) (sock : Nat) (v : W40) : ThreadSt := { x with sock := x.sock.set (fun _ => 0) sock v }

/-- The token in a slot of a thread's window, as its slot of the store. -/
def ThreadSt.tokenIn (x : ThreadSt) (slot : Nat) : Option Nat :=
  match x.slots.get (fun _ => 0) slot with | 0 => none | n + 1 => some n

/-- The lowest slot of a window that holds no token (R283). -/
def ThreadSt.freeSlot (x : ThreadSt) : Option Nat := (List.range 8).find? (fun i => (x.tokenIn i).isNone)

/-- The bytes of a slot of a thread's token window. -/
def State.winToken (s : State) (mid slot : Nat) : Token := Token.ofBytes (s.bytes (.twin mid) (slot * 64) 64)

/-- Write a token into a slot of a thread's token window. -/
def State.setWinToken (s : State) (mid slot : Nat) (t : Token) : State := s.setBytes (.twin mid) (slot * 64) t.bytes

/-! ## Scratchpads (R420 to R431) -/

/-- The key of an aligned 8-byte word of a scratchpad, or of the vault as 17. -/
def spmKey (c addr : Nat) : Nat := c * 2 ^ 20 + addr / 8

/-- Whether a word of a range is poisoned (R428). -/
def State.spmPoisoned (s : State) (c addr n : Nat) : Bool :=
  s.spmBad.any (fun k => decide (spmKey c addr ≤ k ∧ k ≤ spmKey c (addr + n - 1)))

/-- The SPM_UE record: the word is marked poisoned, UNCORRECTED counts. -/
def State.spmUe (s : State) (c addr : Nat) : State :=
  let k := spmKey c addr
  let s1 : State := { s with spmBad := if s.spmBad.contains k then s.spmBad else s.spmBad ++ [k] }
  let s2 := if c < 16 then s1.count (R.CLU_SPM_CNT c 5) else s1
  s2.raise (mkErr 8 (if c = 17 then 0x10 else c) 0x4002 2 0 0 0 0 addr)

/-- The thread whose mailbox holds an address of a cluster's scratchpad (R427). -/
def State.mailboxOf (s : State) (c addr : Nat) : Option Nat :=
  let b := s.fd (R.CLU_SPM_CFG c) F.CLU_SPM_CFG_MBOX_BASE * 64
  if c < 16 ∧ s.flag (R.CLU_SPM_CFG c) F.CLU_SPM_CFG_MBOX_EN ∧ b ≤ addr ∧ addr < b + 4608 then
    some (threadMid c ((addr - b) / 512) ((addr - b) / 64 % 8))
  else none

/-- Reservations on the blocks that a write touches end (R327). -/
def State.endResv (s : State) (c addr n : Nat) : State :=
  { s with threads := s.threads.map (fun e =>
      if midCluster e.1 == c && (match e.2.resv with
          | some (b, _) => decide (addr / 8 ≤ b ∧ b ≤ (addr + n - 1) / 8)
          | none => false)
      then (e.1, { e.2 with resv := none }) else e) }

/-- A master writes bytes to a scratchpad (R425 to R427): reservations end, and a mailbox raises event 8 for its thread. -/
def State.spmWrite (s : State) (c addr writer : Nat) (bs : List Byte) : State :=
  if bs = [] then s
  else
    let s1 := (s.setBytes (spadOf c) addr bs).endResv c addr bs.length
    let boxes := ([s.mailboxOf c addr, s.mailboxOf c (addr + bs.length - 1)].filterMap id).eraseDups
    boxes.foldl (fun t m => if m = writer then t else (t.event m 8).count (R.CLU_SPM_CNT c 3)) s1

/-! ## Window caches (R282, R318) -/

/-- The window cache of a slot: lines, the one used latest first. -/
def ThreadSt.cache (x : ThreadSt) (slot : Nat) : List WinLine := x.wins.get (fun _ => []) slot

/-- Set the window cache of a slot. -/
def ThreadSt.setCache (x : ThreadSt) (slot : Nat) (ls : List WinLine) : ThreadSt :=
  { x with wins := x.wins.set (fun _ => []) slot ls }

/-- Write a line's written bytes back to a buffer. -/
def State.writeLine (s : State) (h : W32) (l : WinLine) : State :=
  (List.range 64).foldl (fun t i => if bitAt l.dirty i then
    t.setByte (t.poolSpace (hPool h)) (t.bufAddr h + l.line * 64 + i) (l.data.getD i 0) else t) s

/-- The written bytes of a slot's lines go back to its buffer (R318). -/
def State.writeBack (s : State) (mid slot : Nat) : State :=
  let x := s.thr mid
  let h := (s.winToken mid slot).handle
  let s1 := (x.cache slot).foldl (fun t l => if l.dirty = 0 then t else t.writeLine h l) s
  s1.setThr mid (x.setCache slot ((x.cache slot).map (fun l => { l with dirty := 0 })))

/-- A line of a buffer. -/
def State.bufLine (s : State) (h : W32) (line : Nat) : WinLine :=
  { line := line, data := s.bytes (s.poolSpace (hPool h)) (s.bufAddr h + line * 64) 64 }

/-- The lines that a dispatch fills (R318): those that cover buffer bytes HEAD × 32 to HEAD × 32 + 255. -/
def State.fillLines (s : State) (h : W32) : List WinLine :=
  if ¬ s.handleOk h then []
  else
    let a := s.poolHead (hPool h)
    (((List.range 5).map (fun i => a / 64 + i)).filter (fun l => decide (l * 64 ≤ a + 255 ∧ l * 64 < s.poolBytes (hPool h)))).map
      (s.bufLine h)

/-- A window line is in the cache. -/
def ThreadSt.hasLine (x : ThreadSt) (slot line : Nat) : Bool := (x.cache slot).any (fun l => l.line == line)

/-- A line arrives in a window cache, the least recently used line being written back and replaced. -/
def State.fetchLine (s : State) (mid slot line : Nat) : State :=
  let x := s.thr mid
  let h := (s.winToken mid slot).handle
  if x.hasLine slot line ∨ ¬ s.handleOk h then s
  else
    let ls := x.cache slot
    let s1 := if 8 ≤ ls.length then (match ls.getLast? with
      | some l => if l.dirty = 0 then s else s.writeLine h l
      | none => s) else s
    s1.setThr mid (x.setCache slot (s1.bufLine h line :: ls.take 7))

/-! ## Answers to a thread's operations (R301, R325, R341) -/

/-- Answer the first operation in progress that passes a test and has no answer yet. -/
def answerFirst (p : LongOp → Bool) (rs : List W40) (err : Bool) : List LongOp → List LongOp
  | [] => []
  | o :: os => if o.res.isNone && p o then { o with res := some rs, err := err } :: os else o :: answerFirst p rs err os

/-- Whether a thread has an unanswered operation that passes a test. -/
def ThreadSt.waitsFor (x : ThreadSt) (p : LongOp → Bool) : Bool := x.longs.any (fun o => o.res.isNone && p o)

/-- A unit answers a thread's operation. -/
def State.answer (s : State) (mid : Nat) (p : LongOp → Bool) (rs : List W40) (err : Bool := false) : State :=
  if isThread mid then
    let x := s.thr mid
    s.setThr mid { x with longs := answerFirst p rs err x.longs }
  else s

/-- The last response word sent to a master. -/
def State.setResp (s : State) (mid : Nat) (w : W40) : State := { s with resps := s.resps.set (fun _ => 0) mid w }

/-- Whether an operation is a BPM operation of LSU1. -/
def LongOp.isBpm (o : LongOp) : Bool := o.unit == 0x280 && o.op == 4

/-- Whether an operation is one of TKP. -/
def LongOp.isTkp (o : LongOp) : Bool := o.unit == 0x340

/-- Whether an operation is a register load of LSU1 at an offset (R693). -/
def LongOp.isRegLoad (off : Nat) (o : LongOp) : Bool :=
  o.unit == 0x280 && o.op == 0 && (o.o0 + o.t).toNat == 0xFE * 2 ^ 32 + off

/-- BPM answers a requester's operation, of a code and a first argument, with a response word (R189, R321). -/
def State.bpmAnswer (s : State) (mid op arg : Nat) (w : W40) : State :=
  (s.setResp mid w).answer mid (fun o => o.isBpm && bitsOf o.o2.toNat 6 4 == op && o.t.toNat % 2 ^ 32 == arg % 2 ^ 32) [w]

/-- ODS answers a requester's operation with a response word (R226). -/
def State.odsAnswer (s : State) (mid : Nat) (w : W40) : State := (s.setResp mid w).answer mid LongOp.isTkp [w]

/-! ## Fetch and loops (R286 to R293, R338) -/

/-- The bundle in an instruction RAM. -/
def State.bundleAt (s : State) (c i : Nat) : Nat := s.ldN (iramOf c) (i * 16) 16

/-- A loop register: LS0 at socket 0x50, LE0 at 0x54, LC0 at 0x58, LDEPTH at 0x5B. -/
def loopGet (m : SMap Nat) (sock : Nat) : Nat := m.get (fun _ => 0) sock

/-- Set a loop register. -/
def loopSet (m : SMap Nat) (sock v : Nat) : SMap Nat := m.set (fun _ => 0) sock v

/-- The loop check after the bundle at index `i` (R291): the loop registers, and the index it loops back to. -/
def loopCheck (i : Nat) : Nat → SMap Nat → SMap Nat × Option Nat
  | 0, m => (m, none)
  | n + 1, m =>
    let d := loopGet m 0x5B
    if d = 0 ∨ loopGet m (0x53 + d) ≠ i then (m, none)
    else if 1 < loopGet m (0x57 + d) then (loopSet m (0x57 + d) (loopGet m (0x57 + d) - 1), some (loopGet m (0x4F + d)))
    else loopCheck i n (loopSet (loopSet m (0x57 + d) 0) 0x5B (d - 1))

/-- The loop registers with the writes that now take part in checks. -/
def loopDue (m : SMap Nat) (ws : List LoopWr) : SMap Nat :=
  (ws.filter (fun w => w.left == 0)).foldl (fun a w => loopSet a w.sock w.val) m

/-- The writes that still wait, one check nearer. -/
def loopWait (ws : List LoopWr) : List LoopWr :=
  (ws.filter (fun w => w.left != 0)).map (fun w => { w with left := w.left - 1 })

/-- The loop registers as moves read them (R293). -/
def ThreadSt.loopsSeen (x : ThreadSt) : SMap Nat := x.loopWr.foldl (fun a w => loopSet a w.sock w.val) x.loops

/-- A loop check on a bundle, for registers and waiting writes. -/
def loopStep (i : Nat) (m : SMap Nat) (ws : List LoopWr) : (SMap Nat × List LoopWr) × Option Nat :=
  let r := loopCheck i 4 (loopDue m ws)
  ((r.1, loopWait ws), r.2)

/-- The indices of the bundles that follow index `i`, as the loops select them (R286, R291). An index above the last one
stands for no bundle. -/
def aheadFrom (i : Nat) (m : SMap Nat) (ws : List LoopWr) : Nat → List Nat
  | 0 => []
  | n + 1 =>
    let r := loopStep i m ws
    let j := r.2.getD (i + 1)
    j :: aheadFrom j r.1.1 r.1.2 n

/-- Fetch a list of indices (R338): a core reads one bundle a cycle, from the next cycle on, and each issues two cycles after its
read at the earliest. -/
def State.fetchAll (s : State) (mid : Nat) (is : List Nat) : List Fetch :=
  is.zipIdx.map (fun i => { idx := i.1, bits := some (s.bundleAt (midCluster mid) i.1), due := s.cycle (coreKey mid) + 3 + i.2 })

/-- A thread starts fetching at an index: its first three bundles (R338). -/
def State.startFetch (s : State) (mid pc : Nat) : State :=
  let x := s.thr mid
  s.setThr mid { x with fq := s.fetchAll mid (pc :: aheadFrom pc x.loops x.loopWr 2) }

/-- A thread reads its fetched bundles again, where a halt ends (R338). -/
def State.refetch (s : State) (mid : Nat) : State :=
  let x := s.thr mid
  s.setThr mid { x with fq := s.fetchAll mid (x.fq.map (·.idx)) }

/-- The index of a thread's next bundle. -/
def ThreadSt.pc (x : ThreadSt) : Nat := (x.fq.head?.map (·.idx)).getD 0

/-! ## Faults (R294, R335, R357, R358) -/

/-- A fault a bundle meets: its code, the slot where one applies, the faulting unit's socket base, a physical address, a
local address. -/
structure FaultRec where
  code : Nat
  slot : Nat := 0
  unit : Nat := 0
  phys : Option Nat := none
  loc : Option Nat := none
  deriving DecidableEq, Repr

/-- The record of a thread's fault (R295, R335). -/
def State.faultErr (s : State) (mid : Nat) (f : FaultRec) : ErrRec :=
  let x := s.thr mid
  let c := midCluster mid
  let d1 := match f.loc with
    | some a => a
    | none => match x.xfers with | t :: _ => 2 ^ 31 + t.target | [] => 0
  mkErr (if c = 16 then 14 else 6)
    (if c = 16 then 0 else c * 16 + (if f.code = 0x3008 then 0xC else midCore mid)) f.code 2
    (if f.phys.isSome then 1 else 6) (f.phys.getD (x.pc * 16)) mid (s.genOf mid).toNat
    (x.pc + f.slot * 65536 + f.unit / 64 * 2 ^ 24) d1

/-- The Keeper of a thread's cluster; for the management pair, the head Keeper. -/
def State.keeperOf (s : State) (mid : Nat) : Nat := if midCluster mid = 16 then 0x807 else s.keeperMid (midCluster mid)

/-- A thread faults (R357, R358): it halts, its record goes to the fault area and to MGT, its bit is set, and its Keeper
takes event 0, or MGT's direct fault line rises where the Keeper itself faults. -/
def State.threadFault (s : State) (mid : Nat) (f : FaultRec) : State :=
  let c := midCluster mid
  let n := midCore mid * 8 + mid % 8
  let r := s.faultErr mid f
  let s1 := s.setThr mid { s.thr mid with st := 2, step := false }
  let s2 := if c = 16 then s1
    else ((s1.spmWrite c (s1.fd (R.CLU_FAULT_AREA c) F.CLU_FAULT_AREA_BASE * 32 + n * 32) 0xFFF
        (ErrRec.words { r with ts := s.stamp, tskind := !s.timeRuns } |>.flatMap (fun (w : W32) => toLe 4 w.toNat))).orBits
          (R.CLU_FAULT_PEND c (n / 32)) (2 ^ (n % 32))).count (R.CLU_CORE_CNT c (midCore mid) 4)
  let s3 := s2.raise r
  if s.keeperOf mid = mid then
    { s3 with err := s3.err.set (fun _ => {}) r.unit.toNat { (s3.errOf r.unit.toNat) with line := true } }
  else s3.event (s.keeperOf mid) 0

/-! ## Completions for event 4 (R329, R373) -/

/-- A completion with a tag is queued for a thread. -/
def State.complete4 (s : State) (mid : Nat) (tag : BitVec 8) : State :=
  let x := s.thr mid
  (s.setThr mid { x with tags := x.tags ++ [tag] }).event mid 4

end Sys2Proof.Machine
end

