-- ==== Sys2Proof/Machine/Bpm.lean ====
section
/-! DEFINITION. Buffer pools (06_buffer_pools): the meanings of BPM's commands. -/
namespace Sys2Proof.Machine
open Sys2Proof

/-! ## Allocation at ingress (R186 to R188) -/

/-- The length BPM sizes a token's need by (R186). -/
def State.ingressLen (s : State) (f : Flight) : Nat :=
  match f.cut with
  | none => f.tok.length.toNat
  | some n => if n = 144 then 9724 else s.mtu n - 4

/-- BPM drops a packet: its slot goes back. -/
def State.ingressDrop (s : State) (f : Flight) : State := s.dropForming f.tok.id.toNat

/-- A pool gives its buffer to a packet token (R188): the frame's bytes go to offset HEAD × 32, and the token to FTE. -/
def State.ingressGive (s : State) (pl p : Nat) (up : Bool) (f : Flight) : State :=
  let r := s.takeBuffer p 0xA30 (s.genOf 0xA30)
  let t := { f.tok with handle := r.2 }
  let s1 := r.1.countIf up (R.BPM_POOL_CNT p 4)
  let s2 := s1.setBytes (s1.poolSpace p) (s1.packetAddr r.2) f.frame
  let x := s2.slot f.tok.id.toNat
  let s3 := s2.setSlot f.tok.id.toNat { x with tok := t }
  (s3.setPipe pl { (s3.pipe pl) with toFte := (s3.pipe pl).toFte ++ [{ f with tok := t }] }).reThrottle

/-- BPM's decision about a packet token (R186, R187). -/
def State.ingressAlloc (s : State) (pl : Nat) (f : Flight) : State :=
  match s.pickFrom (some f.tok.cls.toNat) (s.poolsFor (s.ingressLen f)) false with
  | .gives p up => s.ingressGive pl p up f
  | .refused p why => ((s.count (R.BPM_POOL_CNT p (if why = 3 then 3 else 2))).ingressDrop f)
  | .noFit => (s.count (R.BPM_CNT 0)).ingressDrop f

/-- INGRESS_ALLOC (R186): the head packet token before BPM on a pipeline. -/
def execIngressAlloc (pl : Nat) (s : State) : Out :=
  .next (
    match (s.pipe pl).toBpm with
    | f :: rest =>
      if f.isCell ∨ 4 ≤ pl then s
      else (s.setPipe pl { (s.pipe pl) with toBpm := rest }).ingressAlloc pl f
    | [] => s)

/-! ## Operations (R189 to R198) -/

/-- An allocation by a requester: the state and its response word (R197). -/
def State.allocBy (s : State) (pick : PoolPick) (mid : Nat) (gen : BitVec 8) : State × W40 :=
  match pick with
  | .noFit => (s, bpmResp 0 3)
  | .refused p why => (s.count (R.BPM_POOL_CNT p 2), bpmResp 0 (if why = 1 then 0xC else 1))
  | .gives p up =>
    match s.quotaTake mid p with
    | none => (s.quotaRefuse mid p gen (bpmClass 1), bpmResp 0 2)
    | some t =>
      let r := t.takeBuffer p mid gen
      (r.1.countIf up (R.BPM_POOL_CNT p 4), bpmResp r.2 0)

/-- An allocation, its requester's identity checked first (R191, check 1). -/
def State.allocOp (s : State) (pick : PoolPick) (mid : Nat) (gen : BitVec 8) : State × W40 :=
  if ¬ midDefined mid then (s.raiseMidUndef 4 0xFF mid gen 0 0 (bpmClass 1), bpmResp 0 0xB)
  else if gen ≠ s.genOf mid then (s.bpmRefuse 0xFF 1 mid gen 0 0 0xB 0, bpmResp 0 0xB)
  else s.allocBy pick mid gen

/-- The one pool that ALLOC_POOL names. -/
def State.onePool (s : State) (p : Nat) : PoolPick :=
  match s.poolRefuses p none with | 0 => .gives p false | why => .refused p why

/-- Give a requester its response. -/
def bpmReply (r : State × W40) (mid op arg : Nat) : State := (r.1.bpmAnswer mid op arg r.2).reThrottle

/-- ALLOC_LEN (R189). -/
def execAllocLen (mid : Nat) (gen : BitVec 8) (n : Nat) (s : State) : Out :=
  .next (bpmReply (s.allocOp (s.pickFrom none (s.poolsFor n) false) mid gen) mid 1 n)

/-- ALLOC_POOL (R189): a pool that is not enabled is RANGE. -/
def execAllocPool (mid : Nat) (gen : BitVec 8) (p : Nat) (s : State) : Out :=
  .next (
    if midDefined mid ∧ gen = s.genOf mid ∧ ¬ s.poolOn p then s.bpmAnswer mid 2 p (bpmResp 0 4)
    else bpmReply (s.allocOp (s.onePool p) mid gen) mid 2 p)

/-- An operation that names a buffer, and the answer it gives unless it is held (R200). -/
def State.bpmReq (s : State) (pl op mid : Nat) (gen : BitVec 8) (h : W32) (arg : Nat) : State :=
  match s.bpmOp pl op mid gen h arg with
  | (t, some res) => (t.bpmAnswer mid op h.toNat (bpmResp h res)).reThrottle
  | (t, none) => t

/-- SHARE (R189). -/
def execShare (mid : Nat) (gen : BitVec 8) (h : W32) (k : Nat) (s : State) : Out := .next (s.bpmReq 0xFF 3 mid gen h k)

/-- RELEASE (R193). -/
def execRelease (mid : Nat) (gen : BitVec 8) (h : W32) (s : State) : Out := .next (s.bpmReq 0xFF 4 mid gen h 0)

/-- GIVE (R189): to an undefined MID it is refused as STALE. -/
def execGive (mid : Nat) (gen : BitVec 8) (h : W32) (tgt : Nat) (s : State) : Out :=
  .next (s.bpmReq 0xFF 5 mid gen h (tgt % 4096))

/-- FREE (R192). -/
def execFree (mid : Nat) (gen : BitVec 8) (h : W32) (s : State) : Out := .next (s.bpmReq 0xFF 6 mid gen h 0)

/-- FREE_LATER (R189). -/
def execFreeLater (mid : Nat) (gen : BitVec 8) (h : W32) (s : State) : Out := .next (s.bpmReq 0xFF 7 mid gen h 0)

/-- COMPLETE (R189): from the egress of a port. -/
def execComplete (mid : Nat) (gen : BitVec 8) (h : W32) (s : State) : Out :=
  .next (s.bpmReq (if 0x900 ≤ mid ∧ mid < 0x990 then portPipe (mid - 0x900) else 0xFF) 9 mid gen h 0)

/-- The enabled pool whose buffer region holds an address of a memory (R191, check 2). -/
def State.poolAtAddr (s : State) (packet : Bool) (a : Nat) : Option Nat :=
  (List.range 8).find? (fun p => s.poolOn p && decide (s.poolSpace p = if packet then .packet else .dram)
    && decide (s.poolBase p ≤ a ∧ a < s.poolBase p + s.poolCount p * s.poolBytes p))

/-- A refusal of FREE_ADDR at check 2. -/
def State.addrRefuse (s : State) (mid : Nat) (gen : BitVec 8) (a res d0 : Nat) : State :=
  (s.bpmRefuse 0xFF 8 mid gen 1 a res d0).bpmAnswer mid 8 a (bpmResp 0 res)

/-- FREE_ADDR on an address of DRAM (selector 0) or packet memory (1). -/
def State.freeAddr (s : State) (mid : Nat) (gen : BitVec 8) (a : Nat) (packet : Bool) : State :=
  let off := if packet then a - 0x10000000 else a
  if ¬ midDefined mid then (s.raiseMidUndef 4 0xFF mid gen 1 a (bpmClass 8)).bpmAnswer mid 8 a (bpmResp 0 0xB)
  else if gen ≠ s.genOf mid then s.addrRefuse mid gen a 0xB 0
  else if packet ∧ a < 0x10000000 then s.addrRefuse mid gen a 4 0
  else match s.poolAtAddr packet off with
    | none => s.addrRefuse mid gen a 4 0
    | some p =>
      let d := off - s.poolBase p
      if d % s.poolBytes p ≠ 0 then s.addrRefuse mid gen a 5 (d % s.poolBytes p)
      else if d = 0 then s.addrRefuse mid gen a 6 (s.metaOf p 0).toNat
      else
        let h := mkHandle p (d / s.poolBytes p)
        match s.bpmOp 0xFF 8 mid gen h 0 with
        | (t, some res) => (t.bpmAnswer mid 8 a (bpmResp h res)).reThrottle
        | (t, none) => t

/-- FREE_ADDR (R191). -/
def execFreeAddr (mid : Nat) (gen : BitVec 8) (addr : Nat) (packet : Bool) (s : State) : Out :=
  .next (s.freeAddr mid gen addr packet)

/-- BPM_OP_RANGE (R189): a code of 0x0 or 0xA to 0xF. -/
def execBpmOpRange (mid : Nat) (gen : BitVec 8) (op arg : Nat) (s : State) : Out :=
  .next (
    if 1 ≤ op ∧ op ≤ 9 then s
    else if ¬ midDefined mid then (s.raiseMidUndef 4 0xFF mid gen 0 0 (bpmClass op)).bpmAnswer mid op arg (bpmResp 0 0xB)
    else if gen ≠ s.genOf mid then (s.bpmRefuse 0xFF op mid gen 0 0 0xB 0).bpmAnswer mid op arg (bpmResp 0 0xB)
    else s.bpmAnswer mid op arg (bpmResp 0 4))

/-- A thread's BPM operation as LSU1 passes it (R321): its code, T, and o1. -/
def State.bpmThread (s : State) (mid : Nat) (gen : BitVec 8) (op t o1 : Nat) : Out :=
  let h := BitVec.ofNat 32 t
  match op with
  | 1 => execAllocLen mid gen t s
  | 2 => execAllocPool mid gen t s
  | 3 => execShare mid gen h (o1 % 256) s
  | 4 => execRelease mid gen h s
  | 5 => execGive mid gen h o1 s
  | 6 => execFree mid gen h s
  | 7 => execFreeLater mid gen h s
  | 8 => execFreeAddr mid gen t (bitAt o1 0) s
  | 9 => execComplete mid gen h s
  | _ => execBpmOpRange mid gen op t s

/-- The held operations of a pool are carried out in order once it thaws, or complete under R201 once it failed (R200). -/
def State.bpmRunHeld (s : State) (p : Nat) : State :=
  (s.pool p).held.foldl (fun t o => t.bpmReq 0xFF o.op o.mid o.gen o.handle o.arg)
    (s.setPool p { (s.pool p) with held := [] })

/-! ## The ring and failures (R184, R201) -/

/-- RING_REFILL (R184). -/
def execRingRefill (p : Nat) (s : State) : Out :=
  .next (if s.poolOn p ∧ (s.pool p).cache.length < 256 ∧ (s.pool p).fill ≠ 0 then s.ringRefill p else s)

/-- RING_SPILL (R184). -/
def execRingSpill (p : Nat) (s : State) : Out :=
  .next (if s.poolOn p ∧ 448 < (s.pool p).cache.length then s.ringSpill p else s)

/-- A pool becomes FAILED (R200, R201): BPM_INT.FAILED, and the held operations complete. -/
def State.poolFail (s : State) (p : Nat) : State :=
  ((s.setPoolStat F.BPM_STATUS_FAILED p true).intSet (R.BPM_INT p) (R.BPM_INT_EN p) 0x20 (216 + p)).bpmRunHeld p

/-- POOL_UE (R201): a read at a DRAM or packet-memory address, of the ring or, with `meta_`, of metadata. -/
def execPoolUe (p : Nat) (meta_ : Bool) (addr : Nat) (s : State) : Out :=
  .next (
    if s.poolOn p then
      ((if s.poolSpace p = .packet then s.sramUe 0 addr else s).poolFail p).raise (mkErr 4 0xFF 0x200A 2 1 addr 0 0 p (b2n meta_))
    else s)

/-! ## Layout (R180 to R182) -/

/-- The registers of a pool's layout by number: 0 BASE, 1 COUNT, 2 RING, 3 META, others SIZE. -/
def poolReg (p k : Nat) : Nat :=
  match k with
  | 0 => R.BPM_POOL_BASE p | 1 => R.BPM_POOL_COUNT p | 2 => R.BPM_POOL_RING p | 3 => R.BPM_POOL_META p
  | _ => R.BPM_POOL_SIZE p

/-- LAYOUT_BAD (R180). -/
def State.layoutBad (s : State) (off : Nat) (v : W32) : State := s.raise (mkErr 4 0xFF 0x200B 0 3 off 0 0 v.toNat)

/-- The ranges a pool occupies: memory (true for DRAM), first byte, length. -/
def State.poolRanges (s : State) (p : Nat) : List (Bool × Nat × Nat) :=
  let loc := s.flag (R.BPM_POOL_SIZE p) F.BPM_POOL_SIZE_LOC
  [(loc, s.poolBase p, s.poolCount p * s.poolBytes p),
   (true, s.fd (R.BPM_POOL_RING p) F.BPM_POOL_RING_RING_BASE * 65536, 4 * 2 ^ s.fd (R.BPM_POOL_RING p) F.BPM_POOL_RING_RING_LOG),
   (loc, s.metaAddr p 0, 4 * s.poolCount p)]

/-- Whether two ranges share a byte. -/
def rangesMeet (a b : Bool × Nat × Nat) : Bool :=
  a.1 == b.1 && decide (a.2.1 < b.2.1 + b.2.2 ∧ b.2.1 < a.2.1 + a.2.2)

/-- Whether a range lies within its memory: 128 MiB of packet memory, or the installed DRAM. -/
def State.rangeFits (s : State) (r : Bool × Nat × Nat) : Bool :=
  decide (r.2.1 + r.2.2 ≤ if r.1 then s.dramSize else 128 * 2 ^ 20)

/-- Whether pool `p`, as its registers stand in this state, may be enabled (R181). -/
def State.enableOk (s : State) (p : Nat) : Bool :=
  let sz (q : Nat) : Nat := s.fd (R.BPM_POOL_SIZE q) F.BPM_POOL_SIZE_BUFSZ
  let others := (List.range 8).filter (fun q => q != p && s.poolOn q)
  decide (2 ≤ sz p ∧ sz p ≤ 1024 ∧ s.poolHead p < s.poolBytes p)
    && others.all (fun q => if q < p then decide (sz q < sz p) else decide (sz p < sz q))
    && decide (2 ≤ s.poolCount p ∧ s.poolCount p ≤ 2 ^ 29 - 1)
    && (s.poolRanges p).all s.rangeFits
    && decide (s.poolCount p - 1 ≤ 2 ^ s.fd (R.BPM_POOL_RING p) F.BPM_POOL_RING_RING_LOG)
    && others.all (fun q => (s.poolRanges q).all (fun a => (s.poolRanges p).all (fun b => !rangesMeet a b)))

/-- BPM starts to build an enabled pool (R182). -/
def State.poolBuild (s : State) (p : Nat) : State :=
  let s1 := ((s.setPool p {}).setPoolStat F.BPM_STATUS_INIT p true).setPoolStat F.BPM_STATUS_FAILED p false
  let s2 := (s1.wr (R.BPM_POOL_FREE p) 0).wr (R.BPM_POOL_RUSED p) 0
  { s2 with bpm := { s2.bpm with quotas := s2.bpm.quotas.filterMap (fun e =>
      if e.1 % 8 = p then
        (if e.2.quota = 0 ∧ e.2.borrowMax = 0 then none else some (e.1, { e.2 with held := 0, borrowed := 0 }))
      else some e) } }

/-- The buffers of a pool that are allocated. -/
def State.poolBusy (s : State) (p : Nat) : Bool := (List.range (s.poolCount p)).any (fun i => (s.metaOf p i).alloc)

/-- BPM decides a value for BPM_POOL_SIZE of a pool (R180, R181). -/
def State.poolSizeWrite (s : State) (p : Nat) (v : W32) : State :=
  let off := R.BPM_POOL_SIZE p
  let t := s.wr off v
  if v = s.rd off then s
  else if s.poolOn p then
    (if v = s.rd off &&& 0x7FFFFFFF ∧ (¬ s.poolBusy p ∨ s.poolStat F.BPM_STATUS_FAILED p) then
      (((t.setPool p {}).setPoolStat F.BPM_STATUS_FAILED p false).setPoolStat F.BPM_STATUS_INIT p false).wr
        (R.BPM_POOL_FREE p) 0
     else s.layoutBad off v)
  else if ¬ bitAt v.toNat 31 then t
  else if t.enableOk p then t.poolBuild p
  else s.layoutBad off v

/-- BPM decides a value for a register of a pool's layout (R180). -/
def State.poolLayoutWrite (s : State) (p k : Nat) (v : W32) : State :=
  let off := poolReg p k
  if 4 ≤ k then s.poolSizeWrite p v
  else if v = s.rd off then s
  else if s.poolOn p then s.layoutBad off v
  else s.wr off v

/-- POOL_LAYOUT_PAIR (R180). -/
def execPoolLayoutPair (mid : Nat) (gen : BitVec 8) (p reg : Nat) (value : W32) (s : State) : Out :=
  .next (if 8 ≤ p then s else match s.takePair (poolReg p reg) mid gen value with
    | some t => t.poolLayoutWrite p reg value
    | none => s)

/-- POOL_ENABLE (R181): a value for BPM_POOL_SIZE with EN set. -/
def execPoolEnable (mid : Nat) (gen : BitVec 8) (p : Nat) (value : W32) (s : State) : Out :=
  .next (if 8 ≤ p then s else match s.takePair (R.BPM_POOL_SIZE p) mid gen (value ||| 0x80000000) with
    | some t => t.poolSizeWrite p (value ||| 0x80000000)
    | none => s)

/-- POOL_DISABLE (R181): a value for BPM_POOL_SIZE with EN clear. -/
def execPoolDisable (mid : Nat) (gen : BitVec 8) (p : Nat) (value : W32) (s : State) : Out :=
  .next (if 8 ≤ p then s else match s.takePair (R.BPM_POOL_SIZE p) mid gen (value &&& 0x7FFFFFFF) with
    | some t => t.poolSizeWrite p (value &&& 0x7FFFFFFF)
    | none => s)

/-- The indices a build puts into the ring: 1 to COUNT - 1, rising, those over a retired page left out (R182). -/
def State.buildIndices (s : State) (p : Nat) : List Nat :=
  ((List.range (s.poolCount p)).drop 1).filter (fun i => (s.bufRetired p i).isNone)

/-- POOL_BUILD_DONE (R182). -/
def execPoolBuildDone (p : Nat) (s : State) : Out :=
  .next (
    if 8 ≤ p ∨ ¬ s.poolStat F.BPM_STATUS_INIT p then s
    else
      let is := s.buildIndices p
      let s1 := (s.zero (s.poolSpace p) (s.metaAddr p 0) (4 * s.poolCount p)).ringWrite p 0 (is.map (mkHandle p))
      ((s1.setPool p { (s1.pool p) with fill := is.length }).setPoolStat F.BPM_STATUS_INIT p false).setFree p is.length)

/-! ## Recovery commands (R206) -/

/-- An argument of BPM_CARG. -/
def State.carg (s : State) (i : Nat) : Nat := (s.rd (R.BPM_CARG i)).toNat

/-- A command of BPM has run; its RESULT waits for its end. -/
def State.bpmResult (s : State) (op res : Nat) : State :=
  let t := ((s.wf R.BPM_CMD F.BPM_CMD_OP op).wf R.BPM_CMD F.BPM_CMD_BUSY 1).setRes R.BPM_CMD (BitVec.ofNat 32 res)
  if res = 1 ∨ res = 2 then t.raise (mkErr 4 0xFF 0x200D 0 3 R.BPM_CMD 0 0 op) else t

/-- Whether a master may run RECLAIM and FORCE_FREE. -/
def State.bpmMay (s : State) (mid : Nat) : Bool := decide (0x800 ≤ mid ∧ mid ≤ 0x807) || (mid == 0xA60 && !s.locked)

/-- META_READ. -/
def State.metaRead (s : State) (ue : Bool) : State :=
  let h := s.rd (R.BPM_CARG 0)
  if ¬ s.handleOk h then s.bpmResult 1 1
  else if ue then s.bpmResult 1 4
  else (s.wr (R.BPM_CARG 1) (BitVec.ofNat 32 (s.metaOf (hPool h) (hIdx h)).toNat)).bpmResult 1 0

/-- Buffers of pool `p` that an owner holds, with a generation where one is given. -/
def State.ownedBy (s : State) (p mid : Nat) (gen : Option Nat) : List Nat :=
  (List.range (s.poolCount p)).filter (fun i =>
    let m := s.metaOf p i
    m.alloc && m.owner == mid && (match gen with | some g => m.gen == g | none => true))

/-- A pool's HELD and BORROWED counts move from one MID to another (R206). -/
def State.moveCounts (s : State) (p a b : Nat) : State :=
  let qa := s.quota a p
  let s1 := s.setQuota a p { qa with held := 0, borrowed := 0 }
  let qb := s1.quota b p
  if quotaMid b ∧ quotaMid a then s1.setQuota b p { qb with held := qb.held + qa.held, borrowed := qb.borrowed + qa.borrowed }
  else s1

/-- RECLAIM. -/
def State.reclaim (s : State) (mid : Nat) : State :=
  let p := s.carg 0
  let old := s.carg 1
  let new := s.carg 2
  if ¬ s.bpmMay mid then s.bpmResult 2 2
  else if ¬ s.poolOn p then s.bpmResult 2 1
  else
    let is := s.ownedBy p (bitsOf old 0 12) (some (bitsOf old 12 8))
    let s1 := is.foldl (fun t i => t.setMeta p i
      { (t.metaOf p i) with owner := bitsOf new 0 12, gen := bitsOf new 12 8 }) s
    ((s1.moveCounts p (bitsOf old 0 12) (bitsOf new 0 12)).wr (R.BPM_CARG 3) (BitVec.ofNat 32 is.length)).bpmResult 2 0

/-- AUDIT. -/
def State.audit (s : State) : State :=
  let p := s.carg 0
  if ¬ s.poolOn p then s.bpmResult 3 1
  else (s.wr (R.BPM_CARG 3) (BitVec.ofNat 32 (s.ownedBy p (bitsOf (s.carg 1) 0 12) none).length)).bpmResult 3 0

/-- FORCE_FREE. -/
def State.forceFree (s : State) (mid : Nat) : State :=
  let h := s.rd (R.BPM_CARG 0)
  let m := s.metaOf (hPool h) (hIdx h)
  if ¬ s.bpmMay mid then s.bpmResult 4 2
  else if ¬ s.handleOk h then s.bpmResult 4 1
  else if ¬ m.alloc then s.bpmResult 4 3
  else ((s.quotaLeave m.owner (hPool h)).giveBack (hPool h) (hIdx h)).bpmResult 4 0

/-- A write to BPM_CMD. -/
def State.bpmCmdWrite (s : State) (mid : Nat) (v : W32) (ue : Bool) : State :=
  if s.flag R.BPM_CMD F.BPM_CMD_BUSY then s.raise (mkErr 4 0xFF 0x200D 0 3 R.BPM_CMD 0 0 v.toNat)
  else match bitsOf v.toNat 0 4 with
    | 1 => s.metaRead ue
    | 2 => s.reclaim mid
    | 3 => s.audit
    | 4 => s.forceFree mid
    | op => s.bpmResult op 1

/-- META_READ (R206); `ue` says that the read meets an uncorrectable error. -/
def execMetaRead (mid : Nat) (ue : Bool) (s : State) : Out := .next ((s.arrive R.BPM_CMD).bpmCmdWrite mid 1 ue)

/-- RECLAIM (R206). -/
def execReclaim (mid : Nat) (s : State) : Out := .next ((s.arrive R.BPM_CMD).bpmCmdWrite mid 2 false)

/-- AUDIT (R206). -/
def execAudit (mid : Nat) (s : State) : Out := .next ((s.arrive R.BPM_CMD).bpmCmdWrite mid 3 false)

/-- FORCE_FREE (R206). -/
def execForceFree (mid : Nat) (s : State) : Out := .next ((s.arrive R.BPM_CMD).bpmCmdWrite mid 4 false)

/-- BPM_COMMAND_DONE (R206). -/
def execBpmCommandDone (s : State) : Out :=
  .next (
    if ¬ s.flag R.BPM_CMD F.BPM_CMD_BUSY then s
    else ((s.wf R.BPM_CMD F.BPM_CMD_RESULT (s.resOf R.BPM_CMD).toNat).wf R.BPM_CMD F.BPM_CMD_BUSY 0).setRes R.BPM_CMD 0)

/-! ## Banked registers (BPM_QUOTA, BPM_QUSE) -/

/-- BPM_QUOTA as a read returns it. -/
def State.quotaRead (s : State) : W32 :=
  let m := s.fd R.BPM_QSEL F.BPM_QSEL_MID
  let q := s.quota m (s.fd R.BPM_QSEL F.BPM_QSEL_POOL)
  if quotaMid m then BitVec.ofNat 32 (q.borrowMax * 65536 + q.quota) else 0

/-- BPM_QUSE as a read returns it. -/
def State.quseRead (s : State) : W32 :=
  let q := s.quota (s.fd R.BPM_QSEL F.BPM_QSEL_MID) (s.fd R.BPM_QSEL F.BPM_QSEL_POOL)
  BitVec.ofNat 32 (q.borrowed * 65536 + q.held)

/-- A write to BPM_QUOTA. -/
def State.quotaWrite (s : State) (v : W32) : State :=
  let m := s.fd R.BPM_QSEL F.BPM_QSEL_MID
  let p := s.fd R.BPM_QSEL F.BPM_QSEL_POOL
  if quotaMid m then s.setQuota m p { (s.quota m p) with quota := bitsOf v.toNat 0 16, borrowMax := bitsOf v.toNat 16 16 }
  else s

end Sys2Proof.Machine
end

