-- ==== Sys2Proof/Machine/Fte.lean ====
section
/-! DEFINITION. Forwarding tables and learning (05_forwarding): resolution, the learning engine, aging and flushing, learning
across devices, and the table commands. -/
namespace Sys2Proof.Machine
open Sys2Proof

/-! ## The L2 table (R150, R151) -/

/-- NOW (R151): the PTP-domain seconds modulo 2^16. -/
def State.fteNow (s : State) : Nat := s.time.secs.toNat % 65536

/-- Serial comparison of seconds (R151): `a` is at or after `b`. -/
def secAtOrAfter (a b : Nat) : Bool := decide ((a + 65536 - b % 65536) % 65536 < 32768)

/-- The key word E0 of a MAC address and a VID (R150). -/
def l2Key (mac vid : Nat) : Nat := mac % 2 ^ 48 + vid % 4096 * 2 ^ 48

/-- The fields of E1 (R150). -/
def e1Valid (e : Nat) : Bool := bitAt e 63
def e1Static (e : Nat) : Bool := bitAt e 62
def e1Remote (e : Nat) : Bool := bitAt e 61
def e1Chip (e : Nat) : Nat := bitsOf e 58 3
def e1Frozen (e : Nat) : Bool := bitAt e 57
def e1Dest (e : Nat) : Nat := bitsOf e 47 10
def e1Last (e : Nat) : Nat := bitsOf e 31 16
def e1Moves (e : Nat) : Nat := bitsOf e 26 5
def e1Rport (e : Nat) : Nat := bitsOf e 18 8
def e1HoldEnd (e : Nat) : Nat := bitsOf e 2 16

/-- Whether an entry is local and dynamic. -/
def e1Local (e : Nat) : Bool := e1Valid e && !e1Static e && !e1Remote e

/-- E1 of a local dynamic entry. -/
def e1Make (dest last moves : Nat) : Nat := 2 ^ 63 + dest % 1024 * 2 ^ 47 + last % 65536 * 2 ^ 31 + moves % 32 * 2 ^ 26

/-- The places of a hashed table's entries in use, in the order in which they stand. -/
def HTab.inUse (t : HTab) (s : State) : List (Nat × Nat) :=
  if t.slots = 0 then []
  else s.mem.filterMap (fun c =>
    let k := (c.1 - Space.table.base - t.base) / t.entB
    if Space.table.base + t.base ≤ c.1 ∧ (c.1 - Space.table.base - t.base) % t.entB = t.validB ∧ k < 4 * t.slots
        ∧ bitAt c.2.toNat 7 then some (k / t.slots, k % t.slots) else none)

/-- The L2 table. -/
def State.l2 (s : State) : HTab := s.fteTab 0

/-- The key and E1 in a slot of the L2 table. -/
def State.l2At (s : State) (q : Nat × Nat) : Nat × Nat :=
  (leNat ((s.l2.ent s q.1 q.2).take 8), leNat ((s.l2.ent s q.1 q.2).drop 8))

/-- The entry of a key: its place and E1. -/
def State.l2Find (s : State) (key : Nat) : Option ((Nat × Nat) × Nat) :=
  (s.l2.find s (toLe 8 key)).map (fun q => (q, (s.l2At q).2))

/-- COUNT of a port follows an entry that comes or goes (R152). -/
def State.adjCount (s : State) (e1 : Nat) (up : Bool) : State :=
  let r := R.FTE_PORT_LEARN (e1Dest e1)
  if e1Local e1 ∧ e1Dest e1 < 144 then
    s.wf r F.FTE_PORT_LEARN_COUNT (s.fd r F.FTE_PORT_LEARN_COUNT + if up then 1 else 65535)
  else s

/-- Write a slot of the L2 table. -/
def State.l2Put (s : State) (q : Nat × Nat) (key e1 : Nat) : State :=
  ((s.l2.put s q.1 q.2 (toLe 8 key ++ toLe 8 e1)).adjCount (s.l2At q).2 false).adjCount e1 true

/-- Delete an entry of the L2 table. -/
def State.l2Del (s : State) (q : Nat × Nat) : State := (s.l2.clear s q.1 q.2).adjCount (s.l2At q).2 false

/-- Delete several entries. -/
def State.l2DelAll (s : State) (qs : List (Nat × Nat)) : State := qs.foldl State.l2Del s

/-- Whether a slot of the L2 table stands in FTE's old-view store, which bars it from a chain's moves (R612). -/
def State.l2Pinned (s : State) (q : Nat × Nat) : Bool :=
  let a := Space.table.base + s.l2.addr q.1 q.2
  s.txn.oldMem.any (fun p => decide (a ≤ p.1 ∧ p.1 < a + 16))

/-- Add an entry to the L2 table (R171). -/
def State.l2Insert (s : State) (key e1 : Nat) : Option (State × (Nat × Nat) × Nat) :=
  (s.l2.place s s.l2Pinned (toLe 8 key ++ toLe 8 e1)).map (fun r => (r.1.adjCount e1 true, r.2))

/-! ## Notifications and messages (R154, R158, R159) -/

/-- Set bits of FTE_INT (R178). -/
def State.fteInt (s : State) (f : Fld) : State := s.intSet R.FTE_INT R.FTE_INT_EN (2 ^ f.lo) 10

/-- A record of FTE. -/
def fteRec (inst code sev akind addr d0 d1 : Nat) : ErrRec := mkErr 3 inst code sev akind addr 0 0 d0 d1

/-- A limited record's count in DETAIL0 (R176). -/
def cntD0 (n : Nat) (e : ErrRec) : ErrRec := { e with d0 := BitVec.ofNat 32 n }

/-- A learning message (R158). -/
def learnWords (kind mac vid dest chip sec pipe : Nat) : W64 × W64 :=
  (BitVec.ofNat 64 (l2Key mac vid + kind % 16 * 2 ^ 60),
   BitVec.ofNat 64 (dest % 1024 + chip % 8 * 2 ^ 10 + sec % 65536 * 2 ^ 13 + pipe % 4 * 2 ^ 29))

/-- A message of this device. -/
def State.learnMsg (s : State) (kind mac vid dest pipe : Nat) : W64 × W64 :=
  learnWords kind mac vid dest (s.fd R.FTE_CFG F.FTE_CFG_CHIP) s.fteNow pipe

/-- FTE_LNQ and FTE_LNQ_CTRL show the head notification. -/
def State.showLnq (s : State) : State :=
  let m := s.fte.lnq.head?.getD (0, 0)
  let s1 := (s.wr64 (R.FTE_LNQ 0) m.1).wr64 (R.FTE_LNQ 2) m.2
  (s1.wf R.FTE_LNQ_CTRL F.FTE_LNQ_CTRL_VALID (b2n (s.fte.lnq != []))).wf R.FTE_LNQ_CTRL F.FTE_LNQ_CTRL_COUNT s.fte.lnq.length

/-- FTE posts a notification (R154). -/
def State.notify (s : State) (pl : Nat) (m : W64 × W64) : State :=
  if 1024 ≤ s.fte.lnq.length then
    (s.fteInt F.FTE_INT_LNQ_LOST).raiseLim msCyc pl (fteRec pl 0x180B 0 0 0 0 0) cntD0
  else
    let s1 : State := { s with fte := { s.fte with lnq := s.fte.lnq ++ [m] } }
    (if s.fte.lnq = [] then s1.fteInt F.FTE_INT_LNQ_NE else s1).showLnq

/-- A notification that a field of FTE_CFG enables. -/
def State.notifyIf (s : State) (f : Fld) (pl : Nat) (m : W64 × W64) : State :=
  if s.settled.flag R.FTE_CFG f then s.notify pl m else s

/-- The engine sends a message over MLK (R159). -/
def State.fteSend (s : State) (m : W64 × W64) : State :=
  if s.settled.flag R.FTE_CFG F.FTE_CFG_MLK_TX then
    { s.count (R.FTE_CNT 22) with
      fte := { s.fte with tx := s.fte.tx ++ [m], txSince := if s.fte.tx = [] then s.time.clock else s.fte.txSince } }
  else s

/-- PIPE of a message that no pipeline raised: the spec names none (log entry 3). -/
def State.freePipe (s : State) : Nat := s.freeWord.toNat % 4

/-! ## Header fields (R143) -/

/-- What FTE reads of a frame: its window, with bytes beyond it that the spec leaves open, and its outer layers. -/
def State.fteWindow (s : State) (f : Flight) : List Byte :=
  f.frame.take 256 ++ (List.range 48).map (fun i => (Config.freeValue (s.free + i)).setWidth 8)

/-- The offset of the first outer layer of a type; type 0 names none. -/
def layerAt (f : Flight) (ty : Nat) : Option Nat :=
  if ty = 0 then none else (f.layers.find? (fun l => l.1 == ty)).map (·.2)

/-- A big-endian field of the window. -/
def winField (w : List Byte) (o n : Nat) : Nat := beNat ((w.drop o).take n)

/-- The layers of a frame that FTE_LTYPE names. -/
structure FteLayers where
  eth : Option Nat := none
  vlan : Option Nat := none
  ip4 : Option Nat := none
  ip6 : Option Nat := none
  deriving DecidableEq, Repr

/-- Find them. -/
def fteLayers (v : State) (f : Flight) : FteLayers :=
  { eth := layerAt f (v.fd R.FTE_LTYPE F.FTE_LTYPE_ETH), vlan := layerAt f (v.fd R.FTE_LTYPE F.FTE_LTYPE_VLAN),
    ip4 := layerAt f (v.fd R.FTE_LTYPE F.FTE_LTYPE_IPV4), ip6 := layerAt f (v.fd R.FTE_LTYPE F.FTE_LTYPE_IPV6) }

/-! ## Resolution (R144 to R149, R161 to R168) -/

/-- What a resolution decides: EGRESS; the counters it counts; the tables it read; whether it passed step 3, with the VID;
the words of the next hop that rewrites; the ECMP group of which no member qualified. -/
structure FteRes where
  eg : Nat := 0x1FE
  cnts : List Nat := []
  reads : List Nat := []
  past3 : Bool := false
  vid : Nat := 0
  rewrite : Option (Nat × Nat) := none
  down : Option Nat := none
  deriving DecidableEq, Repr

/-- A resolution that reaches a bad reference (R146). -/
def FteRes.bad (r : FteRes) : FteRes := { r with eg := 0x1FE, cnts := r.cnts ++ [17], rewrite := none }

/-- A resolution that discards, with a counter. -/
def FteRes.drop (r : FteRes) (k : Nat) : FteRes := { r with eg := 0x1FE, cnts := r.cnts ++ [k] }

/-- A resolution that sends a token to a destination in the EGRESS encoding: a port set beyond its table is a bad
reference (R146). -/
def FteRes.tgt (r : FteRes) (v : State) (eg : Nat) : FteRes :=
  if 512 ≤ eg ∧ v.fteEnt 8 (eg - 512) = none then r.bad else { r with eg := eg }

/-- The router MAC of an index, where it is VALID. -/
def rmac (v : State) (i : Nat) : Option Nat :=
  let hi := (v.rd (R.FTE_RMAC i + 4)).toNat
  if bitAt hi 31 then some (hi % 65536 * 2 ^ 32 + (v.rd (R.FTE_RMAC i)).toNat) else none

/-- A number of `w` bits with the bits below prefix length `l` cleared. -/
def prefixOf (w l x : Nat) : Nat := x / 2 ^ (w - l) * 2 ^ (w - l)

/-- The key of an IPv4 route (R162). -/
def route4Key (p l : Nat) : List Byte := toLe 8 (p + l * 2 ^ 32)

/-- The key of an IPv6 route (R162). -/
def route6Key (p l : Nat) : List Byte := toLe 24 (p + l * 2 ^ 128)

/-- MASK of the IPv4 filter entry of a destination (R163). -/
def filter4Mask (v : State) (dst : Nat) : Nat := ((v.fteEnt 3 (dst / 65536)).getD 0) % 65536

/-- The slots of an IPv6 filter entry (R164). -/
def filter6Slots (e : List Byte) : List Nat := (List.range 16).map (fun i => leNat ((e.drop (8 + 4 * i)).take 4))

/-- The IPv6 filter entry of an address: its place and slots (R164). -/
def filter6Find (v : State) (dst : Nat) : Option ((Nat × Nat) × List Nat) :=
  ((v.fteTab 4).find v (toLe 4 (dst / 2 ^ 96))).map (fun q => (q, filter6Slots ((v.fteTab 4).ent v q.1 q.2)))

/-- Whether a slot is USED for a length. -/
def slotFor (l x : Nat) : Bool := bitAt x 7 && x % 128 == l - 1

/-- Whether the filters name a length for an IPv4 destination (R165). -/
def named4 (v : State) (dst l : Nat) : Bool :=
  if l ≤ 16 then bitAt (v.rd R.FTE_LPM4_SHORT).toNat l else bitAt (filter4Mask v dst) (l - 17)

/-- The bit of FTE_LPM6_SHORT for a length. -/
def short6 (v : State) (l : Nat) : Bool := bitAt (v.rd (R.FTE_LPM6_SHORT (l / 32))).toNat (l % 32)

/-- Whether the filters name a length for an IPv6 destination (R165). -/
def named6 (v : State) (dst l : Nat) : Bool :=
  if l ≤ 32 then short6 v l
  else match filter6Find v dst with | some (_, xs) => xs.any (slotFor l) | none => false

/-- The data word of the longest route that hits an IPv4 destination (R165). -/
def route4 (v : State) (dst : Nat) : Option Nat :=
  (((List.range 33).reverse).filter (named4 v dst)).findSome? (fun l =>
    ((v.fteTab 1).find v (route4Key (prefixOf 32 l dst) l)).map (fun q => leNat (((v.fteTab 1).ent v q.1 q.2).drop 8)))

/-- The data word of the longest route that hits an IPv6 destination (R165). -/
def route6 (v : State) (dst : Nat) : Option Nat :=
  (((List.range 129).reverse).filter (named6 v dst)).findSome? (fun l =>
    ((v.fteTab 2).find v (route6Key (prefixOf 128 l dst) l)).map (fun q => leNat (((v.fteTab 2).ent v q.1 q.2).drop 24)))

/-- How an ECMP choice ends: a next hop's index, a bad reference, or no member that qualifies. -/
inductive EcmpPick where
  | hop (i : Nat)
  | bad
  | down
  deriving DecidableEq, Repr

/-- The next hop of an index: N0 and N1, where it is VALID. -/
def nextHop (v : State) (i : Nat) : Option (Nat × Nat) :=
  match v.fteEnt 5 i with
  | some e => if bitAt e 127 then some (e % 2 ^ 64, e / 2 ^ 64) else none
  | none => none

/-- The destination of a next hop. -/
def hopDest (n : Nat × Nat) : Nat := bitsOf n.2 48 10

/-- The member that an ECMP group takes, from member `i` on, with `n` tries left (R167). -/
def ecmpFrom (s v : State) (base count : Nat) (skip : Bool) : Nat → Nat → EcmpPick
  | 0, _ => .down
  | n + 1, i =>
    match v.fteEnt 7 (base + i) with
    | none => .bad
    | some m =>
      if ¬ bitAt m 31 then .bad
      else if ¬ skip then .hop (m % 65536)
      else match nextHop v (m % 65536) with
        | none => .bad
        | some h =>
          if hopDest h < 144 ∧ ¬ s.up (hopDest h) then ecmpFrom s v base count skip n ((i + 1) % count)
          else .hop (m % 65536)

/-- A next hop's effect (R168): the TTL check, then EGRESS. -/
def FteRes.hop (r : FteRes) (v : State) (i ttl : Nat) : FteRes :=
  match nextHop v i with
  | none => r.bad
  | some h =>
    if ¬ bitAt h.2 62 then r.tgt v (hopDest h)
    else if ttl ≤ 1 then
      { r with eg := if v.fd R.FTE_CFG F.FTE_CFG_TTL_ACT = 0 then 0x1F0 else 0x1FE, cnts := r.cnts ++ [19] }
    else match rmac v (bitsOf h.2 58 4) with
      | none => r.bad
      | some _ => { r.tgt v (hopDest h) with rewrite := if (r.tgt v (hopDest h)).eg = hopDest h then some h else none }

/-- A route's data word is resolved (R167, R168). -/
def FteRes.viaRoute (r : FteRes) (s v : State) (f : Flight) (d ttl : Nat) : FteRes :=
  if ¬ bitAt d 62 then ({ r with reads := r.reads ++ [5] }).hop v (d % 65536) ttl
  else
    let r1 := { r with reads := r.reads ++ [5, 6, 7] }
    match v.fteEnt 6 (d % 65536) with
    | none => r1.bad
    | some g =>
      let count := bitsOf g 14 7
      if ¬ bitAt g 63 ∨ count = 0 ∨ 64 < count then r1.bad
      else
        let r2 := match f.member with | some _ => r1 | none => { r1 with cnts := r1.cnts ++ [25] }
        match ecmpFrom s v (bitsOf g 0 14) count (bitAt g 21) count ((f.member.getD 0) % count) with
        | .hop i => r2.hop v i ttl
        | .bad => r2.bad
        | .down => { (r2.drop 20) with down := some (d % 65536) }

/-- Routing (R161). -/
def FteRes.routing (r : FteRes) (s v : State) (f : Flight) (w : List Byte) (l : FteLayers) : FteRes :=
  let exc := bitsOf f.tok.cresult.toNat 24 4
  let miss (r : FteRes) : FteRes :=
    { r with eg := if v.fd R.FTE_CFG F.FTE_CFG_RMISS_ACT = 1 then 0x1F0 else 0x1FE, cnts := r.cnts ++ [5] }
  match l.ip4, l.ip6 with
  | none, none => { r with eg := 0x1F0 }
  | some o, _ =>
    if exc ≠ 0 ∧ exc ≠ 8 then r.drop 18
    else
      let r1 := { r with reads := r.reads ++ [1, 3] }
      (match route4 v (winField w (o + 16) 4) with
      | none => miss r1
      | some d => ({ r1 with cnts := r1.cnts ++ [4] }).viaRoute s v f d (winField w (o + 8) 1))
  | none, some o =>
    if exc ≠ 0 ∧ exc ≠ 8 then r.drop 18
    else
      let r1 := { r with reads := r.reads ++ [2, 4] }
      (match route6 v (winField w (o + 24) 16) with
      | none => miss r1
      | some d => ({ r1 with cnts := r1.cnts ++ [4] }).viaRoute s v f d (winField w (o + 7) 1))

/-- UNK_UC and UNK_MC (R145). -/
def FteRes.unknown (r : FteRes) (v : State) (act flood : Nat) : FteRes :=
  match act with
  | 0 => (r.tgt v (512 + flood))
  | 2 => { r with eg := 0x1F0 }
  | _ => { r with eg := 0x1FE }

/-- A lookup of the L2 table: an entry whose DEST names a port under flush is a miss (R157). -/
def State.l2Lookup (s v : State) (key : Nat) : Option Nat :=
  match v.l2Find key with
  | some (_, e) => if s.fte.flushing.contains (e1Dest e) then none else some e
  | none => none

/-- Steps 5 to 7 of R144. -/
def FteRes.bridging (r : FteRes) (s v : State) (f : Flight) (dmac vid ent : Nat) : FteRes :=
  let r1 := { r with reads := r.reads ++ [0] }
  let group := bitAt dmac 40
  match s.l2Lookup v (l2Key dmac vid) with
  | some e =>
    let r2 := { r1 with cnts := r1.cnts ++ [1] }
    if ¬ group ∧ e1Dest e = f.tok.inport.toNat then r2.drop 15 else r2.tgt v (e1Dest e)
  | none =>
    let r2 := { r1 with cnts := r1.cnts ++ [2] }
    let act := if group then bitsOf ent 52 2 else bitsOf ent 54 2
    let r3 := r2.unknown v act (bitsOf ent 16 9)
    if 512 ≤ r3.eg then { r3 with cnts := r3.cnts ++ [3] } else r3

/-- The index of a token in FTE_PORT_CFG (R144). -/
def ftePort (t : Token) : Nat := if t.inport = 0xFE then 144 else t.inport.toNat

/-- Whether the MEMBER port set holds INPORT; none for a port set beyond its table. -/
def memberHolds (v : State) (ent i : Nat) : Option Bool := (v.fteEnt 8 (ent % 512)).map (fun q => setHolds q i)

/-- The resolution of a packet token (R144), in its view. -/
def State.resolve (s v : State) (f : Flight) (w : List Byte) : FteRes :=
  let i := ftePort f.tok
  let cfg (x : Fld) : Nat := v.fd (R.FTE_PORT_CFG i) x
  let l := fteLayers v f
  if cfg F.FTE_PORT_CFG_FIXED = 1 then FteRes.tgt {} v (cfg F.FTE_PORT_CFG_FIX_EGRESS)
  else match l.eth with
    | none => FteRes.drop {} 13
    | some eo =>
      let tci := match l.vlan with | some o => winField w o 2 % 4096 | none => 0
      let vid := if tci = 0 then cfg F.FTE_PORT_CFG_PVID else tci
      let r : FteRes := { reads := [9], vid := vid }
      let ent := (v.fteEnt 9 vid).getD 0 % 2 ^ 64
      if vid = 0xFFF ∨ ¬ bitAt ent 63 then r.drop 14
      else
        let go (r : FteRes) : FteRes :=
          let dmac := winField w eo 6
          let r1 := { r with past3 := true }
          if bitAt ent 61 ∧ rmac v (bitsOf ent 56 4) = some dmac then r1.routing s v f w l
          else r1.bridging s v f dmac vid ent
        if bitAt ent 60 then
          (match memberHolds v ent i with
          | none => ({ r with reads := r.reads ++ [8] }).bad
          | some false => ({ r with reads := r.reads ++ [8] }).drop 14
          | some true => go { r with reads := r.reads ++ [8] })
        else go r

/-! ## Learning in a pipeline (R152 to R154) -/

/-- A pipeline's learning queue. -/
def State.learnQ (s : State) (pl : Nat) : List LearnMsg := s.fte.q.get (fun _ => []) pl

/-- Set a pipeline's learning queue. -/
def State.setLearnQ (s : State) (pl : Nat) (l : List LearnMsg) : State :=
  { s with fte := { s.fte with q := s.fte.q.set (fun _ => []) pl l } }

/-- Whether a pipeline's recent filter holds a key, for at most 1 µs (R153). -/
def State.recent (s : State) (pl key : Nat) : Bool :=
  (s.fte.recent.get (fun _ => []) pl).any (fun p => p.1 == key && decide (s.time.clock ≤ p.2 + 250))

/-- A pipeline drops a learning message (R153). -/
def State.learnDrop (s : State) (pl : Nat) : State :=
  (s.count (R.FTE_CNT 11)).raiseLim msCyc pl (fteRec (if pl < 4 then pl else 0xFF) 0x1808 0 0 0 0 0) cntD0

/-- A pipeline queues a learning message, unless its queue is full. -/
def State.learnPush (s : State) (pl : Nat) (m : LearnMsg) : State :=
  if 256 ≤ ((s.learnQ pl).filter (fun x => !x.flush)).length then s.learnDrop pl
  else s.setLearnQ pl (s.learnQ pl ++ [m])

/-- Whether the device learns locally (R152, R601). -/
def State.learns (s : State) : Bool := s.mode F.GLB_MODE_LEARN && !s.standby

/-- A STATIC violation (R152, R176). -/
def State.staticViol (s : State) (pl smac inport : Nat) : State :=
  (s.count (R.FTE_CNT 12)).raiseLim msCyc pl
    (fteRec pl 0x1809 0 0 0 (smac % 2 ^ 32) (smac / 2 ^ 32 % 65536 + inport * 65536))
    (fun n e => { e with d1 := e.d1 + BitVec.ofNat 32 (min n 255 * 2 ^ 24) })

/-- A pipeline learns from a frame (R152, R154): the state, and whether STATIC_DROP discards the frame. -/
def State.learnFrame (s v : State) (pl : Nat) (f : Flight) (w : List Byte) (r : FteRes) (eo : Nat) : State × Bool :=
  let n := f.tok.inport.toNat
  let smac := winField w (eo + 6) 6
  let ent := (v.fteEnt 9 r.vid).getD 0
  if ¬ r.past3 ∨ 144 ≤ n ∨ ¬ v.flag (R.FTE_PORT_CFG n) F.FTE_PORT_CFG_LEARN_EN ∨ ¬ bitAt ent 62 ∨ bitAt smac 40 ∨ smac = 0
  then (s, false)
  else
    let hit := s.l2Lookup v (l2Key smac r.vid)
    if ¬ s.learns then
      (if hit.isNone then s.notifyIf F.FTE_CFG_NOTIFY_MISS pl (s.learnMsg 6 smac r.vid n pl) else s, false)
    else match hit with
      | some e =>
        if e1Static e ∧ e1Dest e ≠ n then
          (s.staticViol pl smac n, v.flag (R.FTE_PORT_CFG n) F.FTE_PORT_CFG_STATIC_DROP)
        else if e1Local e ∧ e1Dest e = n ∧ e1Last e = s.fteNow then (s, false)
        else if s.recent pl (l2Key smac r.vid) then (s, false)
        else (s.learnPush pl { port := n, mac := smac, vid := r.vid, now := s.fteNow }, false)
      | none =>
        if s.recent pl (l2Key smac r.vid) then (s, false)
        else (s.learnPush pl { port := n, mac := smac, vid := r.vid, now := s.fteNow }, false)

/-! ## A token through FTE -/

/-- The IPv4 header checksum after its TTL word falls by one (R168). -/
def ttlChecksum (ck old new : Nat) : Nat := 65535 - onesAdd (onesAdd (65535 - ck) (65535 - old)) new

/-- FTE edits the buffer under a next hop that rewrites (R168). -/
def State.rewrite (s v : State) (f : Flight) (w : List Byte) (l : FteLayers) (h : Nat × Nat) : State :=
  let a := s.packetAddr f.tok.handle
  let sp := s.poolSpace (hPool f.tok.handle)
  let s1 := match l.eth with
    | some o => s.setBytes sp (a + o) (toBe 6 (h.1 % 2 ^ 48) ++ toBe 6 ((rmac v (bitsOf h.2 58 4)).getD 0))
    | none => s
  let s2 := match l.vlan with
    | some o => if bitAt h.1 60 then s1.setBytes sp (a + o) (toBe 2 (putBits (winField w o 2) 0 12 (bitsOf h.1 48 12))) else s1
    | none => s1
  match l.ip4, l.ip6 with
  | some o, _ =>
    let old := winField w (o + 8) 2
    (s2.setBytes sp (a + o + 8) (toBe 1 (winField w (o + 8) 1 - 1))).setBytes sp (a + o + 10)
      (toBe 2 (ttlChecksum (winField w (o + 10) 2) old (old - 256)))
  | none, some o => s2.setBytes sp (a + o + 7) (toBe 1 (winField w (o + 7) 1 - 1))
  | none, none => s2

/-- Count several of FTE's counters. -/
def State.fteCounts (s : State) (ks : List Nat) : State := ks.foldl (fun t k => t.count (R.FTE_CNT k)) s

/-- FTE hands a packet token to ODS with its EGRESS. -/
def State.fteHand (s : State) (pl eg : Nat) (f : Flight) : State :=
  let id := f.tok.id.toNat
  let t := { f.tok with egress := BitVec.ofNat 10 eg }
  let s1 := (s.setSlot id { (s.slot id) with tok := t }).countIf (eg == 0x1F0) (R.FTE_CNT 21)
  s1.setPipe pl { (s1.pipe pl) with toOds := (s1.pipe pl).toOds ++ [{ f with tok := t }] }

/-- A packet token whose lookup read met an uncorrectable error (R147). -/
def State.fteUe (s : State) (pl : Nat) (f : Flight) (table index : Nat) : State :=
  ((((s.sramUe 1 (s.fteBase table + index * fteEntB table)).count (R.FTE_CNT 16)).fteInt F.FTE_INT_LOOKUP_UE).raise
    (fteRec pl 0x1803 2 5 index table 0)).fteHand pl 0x1FE f

/-- FTE resolves a packet token (R144) that it has taken from a pipeline. -/
def State.fteResolve (s : State) (pl : Nat) (f : Flight) (ue : Option (Nat × Nat)) : State :=
  let v := s.view f.tok.epoch
  let w := s.fteWindow f
  let l := fteLayers v f
  let r := s.resolve v f w
  let s0 := ({ s with free := s.free + 48 } : State).count (R.FTE_CNT 0)
  let bad : Option (Nat × Nat) := match ue with
    | some (k, i) => if r.reads.contains k ∨ (k = 0 ∧ r.past3) then some (k, i) else none
    | none => none
  match bad with
  | some (k, i) => s0.fteUe pl f k i
  | none =>
    let q := (s0.learnFrame v pl f w r (l.eth.getD 0))
    let s1 := q.1.fteCounts r.cnts
    let s2 := match r.down with
      | some g => s1.raiseLim msCyc pl (fteRec pl 0x180A 0 5 g 0 0) cntD0
      | none => s1
    if q.2 then s2.fteHand pl 0x1FE f
    else match r.rewrite with
      | some h => (s2.rewrite v f w l h).fteHand pl r.eg f
      | none => s2.fteHand pl r.eg f

/-- FTE_RESOLVE (R144): the head token before FTE on a pipeline; `ue` names the table and entry whose read meets an
uncorrectable error. -/
def execFteResolve (pl : Nat) (ue : Option (Nat × Nat)) (s : State) : Out :=
  .next (
    match (s.pipe pl).toFte with
    | f :: rest =>
      if f.isCell ∨ 4 ≤ pl then s
      else (s.setPipe pl { (s.pipe pl) with toFte := rest }).fteResolve pl f ue
    | [] => s)

/-! ## The learning engine (R152, R153) -/

/-- The sources the engine serves round robin that hold work: 0 to 3 the pipelines, 4 MLK, 5 the scanner. -/
def State.engineWork (s : State) (i : Nat) : Bool :=
  if i < 4 then s.learnQ i != [] else if i = 4 then s.fte.mlkRx != [] else s.fte.aging != []

/-- The pipeline whose queue is headed by a flush request. -/
def State.flushFirst (s : State) : Option Nat :=
  (List.range 4).find? (fun p => match s.learnQ p with | m :: _ => m.flush | [] => false)

/-- The source that the engine serves next, where no flush request comes first. -/
def State.engineNext (s : State) : Option Nat :=
  if s.flushFirst.isSome then none
  else ((List.range 6).map (fun i => (s.fte.turn + i) % 6)).find? s.engineWork

/-- The engine has served a source. -/
def State.engineServed (s : State) (i : Nat) : State := { s with fte := { s.fte with turn := (i + 1) % 6 } }

/-- Whether table 0 is being cleared (R173). -/
def State.l2Clearing (s : State) : Bool := bitAt (s.fd R.FTE_STATUS F.FTE_STATUS_CLEARING) 0

/-- The engine writes a key into the recent filters (R153): the last 64 keys. -/
def State.noteRecent (s : State) (key : Nat) : State :=
  { s with fte := { s.fte with recent := (List.range 4).foldl (fun m p =>
      let l := m.get (fun _ => []) p ++ [(key, s.time.clock)]
      m.set (fun _ => []) p (l.drop (l.length - 64))) s.fte.recent } }

/-- LEARN_MAX holds for a port. -/
def State.learnFull (s : State) (n : Nat) : Bool :=
  let m := s.settled.fd (R.FTE_PORT_LEARN n) F.FTE_PORT_LEARN_MAX
  decide (m ≠ 0 ∧ m ≤ s.fd (R.FTE_PORT_LEARN n) F.FTE_PORT_LEARN_COUNT)

/-- A learning message meets LEARN_MAX. -/
def State.learnLimit (s : State) (pl : Nat) (m : LearnMsg) : State :=
  (s.notify pl (s.learnMsg 7 m.mac m.vid m.port pl)).count (R.FTE_CNT 10)

/-- Learning finds no place (R171). -/
def State.learnNoPlace (s : State) (pl vid : Nat) : State :=
  ((s.count (R.FTE_CNT 9)).fteInt F.FTE_INT_LEARN_FULL).raiseLim msCyc pl
    (fteRec (if pl < 4 then pl else 0xFF) 0x1801 0 0 0 0 vid) cntD0

/-- A new address (R152). -/
def State.learnNew (s : State) (pl : Nat) (m : LearnMsg) : State :=
  match s.l2Insert (l2Key m.mac m.vid) (e1Make m.port m.now 0) with
  | none => s.learnNoPlace pl m.vid
  | some (t, _, _) =>
    ((t.count (R.FTE_CNT 6)).notifyIf F.FTE_CFG_NOTIFY_LEARN pl (s.learnMsg 1 m.mac m.vid m.port pl)).fteSend
      (s.learnMsg 1 m.mac m.vid m.port pl)

/-- An address moves to a port, or is frozen (R152). -/
def State.learnMove (s : State) (pl : Nat) (m : LearnMsg) (q : Nat × Nat) (e : Nat) : State :=
  let k := if e1Last e ≠ m.now then 1 else min (e1Moves e + 1) 31
  let c := s.settled
  let lim := c.fd R.FTE_AGE_CFG F.FTE_AGE_CFG_MOVE_LIMIT
  let key := l2Key m.mac m.vid
  if lim ≠ 0 ∧ lim < k then
    ((((s.l2Put q key (putBits (putBits e 57 1 1) 2 16 (m.now + c.fd R.FTE_AGE_CFG F.FTE_AGE_CFG_MOVE_HOLD))).notify pl
      (s.learnMsg 8 m.mac m.vid m.port pl)).fteInt F.FTE_INT_MOVE_STORM).raise
        (fteRec pl 0x1802 0 0 0 (m.mac % 2 ^ 32) (m.mac / 2 ^ 32 % 65536 + m.vid * 65536)))
  else
    let e1 := putBits (putBits (putBits (putBits e 47 10 m.port) 61 1 0) 31 16 m.now) 26 5 k
    (((s.l2Put q key e1).notifyIf F.FTE_CFG_NOTIFY_MOVE pl (s.learnMsg 2 m.mac m.vid m.port pl)).count
      (R.FTE_CNT 7)).fteSend (s.learnMsg 2 m.mac m.vid m.port pl)

/-- The engine applies a learning message (R152). -/
def State.learnApply (s : State) (pl : Nat) (m : LearnMsg) : State :=
  if s.l2Clearing then s.learnDrop pl
  else match s.l2Find (l2Key m.mac m.vid) with
    | none => if s.learnFull m.port then s.learnLimit pl m else s.learnNew pl m
    | some (q, e) =>
      if e1Static e then s
      else if e1Frozen e ∧ ¬ secAtOrAfter m.now (e1HoldEnd e) then s
      else
        let e0 := putBits e 57 1 0
        let key := l2Key m.mac m.vid
        if ¬ e1Remote e ∧ e1Dest e = m.port then
          s.l2Put q key (if e1Last e ≠ m.now then putBits (putBits e0 31 16 m.now) 26 5 0 else e0)
        else if s.learnFull m.port then (s.l2Put q key e0).learnLimit pl m
        else s.learnMove pl m q e0

/-- LEARN_MESSAGE (R152): the engine takes the message at the head of the pipeline queue whose turn it is. -/
def execLearnMessage (s : State) : Out :=
  .next (match s.engineNext with
    | some p =>
      if 4 ≤ p then s
      else (match s.learnQ p with
        | m :: rest => (((s.setLearnQ p rest).engineServed p).noteRecent (l2Key m.mac m.vid)).learnApply p m
        | [] => s)
    | none => s)

/-- RECENT_FILTER_EXPIRE (R153): the oldest key of a pipeline's recent filter leaves it. -/
def execRecentFilterExpire (pl : Nat) (s : State) : Out :=
  .next (if 4 ≤ pl then s else
    { s with fte := { s.fte with recent := s.fte.recent.set (fun _ => []) pl (s.fte.recent.get (fun _ => []) pl).tail } })

/-! ## Aging (R155, R156) -/

/-- Whether R155 deletes an entry. -/
def State.aged (s : State) (e : Nat) : Bool :=
  let t := s.settled.fd R.FTE_AGE_CFG F.FTE_AGE_CFG_AGE_TIME
  e1Local e && decide (t ≠ 0 ∧ t ≤ (s.fteNow + 65536 - e1Last e) % 65536)

/-- The engine deletes an entry that has aged. -/
def State.ageDelete (s : State) (q : Nat × Nat) : State :=
  let k := s.l2At q
  let m := s.learnMsg 3 (k.1 % 2 ^ 48) (bitsOf k.1 48 12) (e1Dest k.2) s.freePipe
  (((s.tookFree.l2Del q).count (R.FTE_CNT 8)).notifyIf F.FTE_CFG_NOTIFY_AGE s.freePipe m).fteSend m

/-- AGE_PASS (R155): NOW has changed since the scanner looked last. -/
def execAgePass (s : State) : Out :=
  .next (
    if s.fteNow = s.fte.passed then s
    else
      let s1 : State := { s with fte := { s.fte with passed := s.fteNow } }
      if ¬ s.settled.flag R.FTE_AGE_CFG F.FTE_AGE_CFG_AUTO ∨ s.l2Clearing then s1
      else
        let keys := ((s.l2.inUse s).filter (fun q => s.aged (s.l2At q).2)).map (fun q => (s.l2At q).1)
        { s1 with fte := { s1.fte with aging := s1.fte.aging ++ keys } })

/-- AGE_DELETE (R155): the engine takes the scanner's next request and checks the age again. -/
def execAgeDelete (s : State) : Out :=
  .next (
    if s.engineNext ≠ some 5 then s
    else match s.fte.aging with
      | k :: rest =>
        let s1 := ({ s with fte := { s.fte with aging := rest } } : State).engineServed 5
        (match s1.l2Find k with
        | some (q, e) => if s1.aged e ∧ ¬ s1.l2Clearing then s1.ageDelete q else s1
        | none => s1)
      | [] => s)

/-! ## Flushing (R157) -/

/-- Show whether a port flush runs. -/
def State.showFlush (s : State) : State := s.wf R.FTE_STATUS F.FTE_STATUS_FLUSH_BUSY (b2n (s.fte.flushing != []))

/-- FTE_FLUSH_CELL (R157): a FLUSH cell passes FTE on a pipeline. -/
def execFteFlushCell (pl : Nat) (s : State) : Out :=
  .next (
    match (s.pipe pl).toFte with
    | f :: rest =>
      if f.tok.ctype ≠ 5 ∨ 4 ≤ pl then s
      else
        let p := s.pipe pl
        let s1 := s.setPipe pl { p with toFte := rest, toOds := p.toOds ++ [f] }
        let n := f.tok.inport.toNat
        if 144 ≤ n ∨ ¬ s.settled.flag (R.FTE_PORT_CFG n) F.FTE_PORT_CFG_FLUSH_DOWN then s1
        else
          let s2 := s1.setLearnQ (portPipe n) (s1.learnQ (portPipe n) ++ [{ flush := true, port := n }])
          ({ s2 with fte := { s2.fte with flushing := s2.fte.flushing ++ [n] } } : State).showFlush
    | [] => s)

/-- The dynamic entries of a port. -/
def State.dynOf (s : State) (n : Nat) : List (Nat × Nat) :=
  (s.l2.inUse s).filter (fun q => !e1Static (s.l2At q).2 && e1Dest (s.l2At q).2 == n)

/-- PORT_FLUSH (R157): the engine carries out the flush request at the head of a pipeline queue. -/
def execPortFlush (s : State) : Out :=
  .next (match s.flushFirst with
    | none => s
    | some p =>
      match s.learnQ p with
      | m :: rest =>
        let qs := s.dynOf m.port
        let s1 := ((s.setLearnQ p rest).l2DelAll qs).countN (R.FTE_CNT 24) qs.length
        let s2 := ({ s1 with fte := { s1.fte with flushing := s1.fte.flushing.erase m.port } } : State).showFlush
        (s2.fteInt F.FTE_INT_FLUSH_DONE).fteSend (s.learnMsg 5 0 0 m.port p)
      | [] => s)

/-! ## Learning across devices (R160) -/

/-- E1 of a remote entry. -/
def e1RemoteMake (chip rport dest sec : Nat) : Nat :=
  2 ^ 63 + 2 ^ 61 + chip % 8 * 2 ^ 58 + dest % 1024 * 2 ^ 47 + sec % 65536 * 2 ^ 31 + rport % 256 * 2 ^ 18

/-- A message of kind LEARN or MOVE from another chip. -/
def State.mlkLearn (s : State) (key chip dest mapped sec : Nat) : State :=
  let e1 := e1RemoteMake chip dest mapped sec
  match s.l2Find key with
  | none => (match s.l2Insert key e1 with | some (t, _, _) => t | none => s.learnNoPlace 4 (bitsOf key 48 12))
  | some (q, e) =>
    let mine := if e1Remote e then e1Chip e else s.fd R.FTE_CFG F.FTE_CFG_CHIP
    if e1Static e then s
    else if (sec ≠ e1Last e ∧ secAtOrAfter sec (e1Last e)) ∨ (sec = e1Last e ∧ chip < mine) then s.l2Put q key e1
    else s

/-- The engine applies a message received over MLK. -/
def State.mlkApply (s : State) (m : W64 × W64) : State :=
  let kind := bitsOf m.1.toNat 60 4
  let key := m.1.toNat % 2 ^ 60
  let dest := bitsOf m.2.toNat 0 10
  let chip := bitsOf m.2.toNat 10 3
  let sec := bitsOf m.2.toNat 13 16
  let c := s.settled
  let mode := c.fd (R.FTE_MLK_MAP chip) F.FTE_MLK_MAP_MODE
  let bad := decide (kind = 0 ∨ 8 < kind ∨ chip = s.fd R.FTE_CFG F.FTE_CFG_CHIP)
  if ¬ c.flag R.FTE_CFG F.FTE_CFG_MLK_RX then s
  else if bad ∨ 5 < kind ∨ 2 ≤ mode then
    (s.count (R.FTE_CNT 23)).raiseIf bad (fteRec 0xFF 0x180C 0 0 0 (m.1.toNat / 2 ^ 32) (m.2.toNat % 2 ^ 32))
  else if s.l2Clearing then s.learnDrop 4
  else
    let mapped := if mode = 0 then dest else 512 + c.fd (R.FTE_MLK_MAP chip) F.FTE_MLK_MAP_PSET
    match kind with
    | 1 | 2 => s.mlkLearn key chip dest mapped sec
    | 3 | 4 =>
      (match s.l2Find key with
      | some (q, e) => if e1Remote e ∧ e1Chip e = chip then s.l2Del q else s
      | none => s)
    | _ => s.l2DelAll ((s.l2.inUse s).filter (fun q =>
        let e := (s.l2At q).2
        e1Remote e && e1Chip e == chip && e1Rport e == dest % 256))

/-- MLK_LEARN_APPLY (R160). -/
def execMlkLearnApply (s : State) : Out :=
  .next (
    if s.engineNext ≠ some 4 then s
    else match s.fte.mlkRx with
      | m :: rest =>
        ((({ s with fte := { s.fte with mlkRx := rest } } : State).engineServed 4).noteRecent (m.1.toNat % 2 ^ 60)).mlkApply m
      | [] => s)

/-- A write to FTE_LNQ_CTRL (R154). -/
def State.lnqCtrlWrite (s : State) (v : W32) : State :=
  if bitAt v.toNat 30 then ({ s with fte := { s.fte with lnq := s.fte.lnq.tail } } : State).showLnq else s

/-- LNQ_POP (R154). -/
def execLnqPop (s : State) : Out := .next ((s.arrive R.FTE_LNQ_CTRL).lnqCtrlWrite 0x40000000)

/-! ## Table commands (R169 to R172) -/

/-- A result word of FTE_TSTAT. -/
def fteStat (res moves way index : Nat) : W32 := BitVec.ofNat 32 (res * 2 ^ 28 + moves * 2 ^ 24 + way * 2 ^ 20 + index)

/-- The table that FTE_TCMD names. -/
def State.fteTable (s : State) : Nat := s.fd R.FTE_TCMD F.FTE_TCMD_TABLE

/-- A command of FTE has run; its result waits for its end. -/
def State.fteResult (s : State) (res : Nat) (moves way index : Nat := 0) : State :=
  let t := (s.wf R.FTE_TCMD F.FTE_TCMD_BUSY 1).setRes R.FTE_TSTAT (fteStat res moves way index)
  let route := s.fteTable = 1 ∨ s.fteTable = 2
  if res = 4 then t.raise (fteRec 0xFF 0x1804 0 3 R.FTE_TCMD (s.rd R.FTE_TCMD).toNat 0)
  else if (res = 3 ∨ res = 7 ∨ res = 8) ∧ route then
    (t.fteInt F.FTE_INT_ROUTE_FULL).raise (fteRec 0xFF 0x1807 0 0 0 (res + s.fteTable * 16) 0)
  else t

/-- The bytes staged in FTE_TBUF. -/
def State.fteStaged (s : State) (n : Nat) : List Byte :=
  ((List.range 32).flatMap (fun i => toLe 4 (s.rd (R.FTE_TBUF i)).toNat)).take n

/-- Put an entry into FTE_TBUF. -/
def State.fteShow (s : State) (bs : List Byte) : State :=
  (List.range (bs.length / 4)).foldl (fun t k =>
    t.wr (R.FTE_TBUF k) (BitVec.ofNat 32 (leNat ((bs.drop (4 * k)).take 4)))) s

/-- WAY and INDEX of FTE_TIDX. -/
def State.fteIdx (s : State) : Nat × Nat := (s.fd R.FTE_TIDX F.FTE_TIDX_WAY, s.fd R.FTE_TIDX F.FTE_TIDX_INDEX)

/-- Whether a table is hashed (R169). -/
def fteHashed (k : Nat) : Bool := k ≤ 2 || k == 4

/-- Whether OP and TABLE are a defined pair (R170). -/
def ftePair (op k : Nat) : Bool :=
  match op with
  | 1 => k ≤ 9
  | 2 => k == 0 || (decide (5 ≤ k) && decide (k ≤ 9))
  | 3 | 4 | 8 => k ≤ 2
  | 5 => k ≤ 2 || k == 4
  | 6 | 7 => k == 0
  | _ => false

/-- The address of the place that FTE_TIDX names. -/
def State.ftePlace (s : State) (k : Nat) : Nat :=
  let (w, i) := s.fteIdx
  s.fteBase k + (if fteHashed k then w * s.fteSize k + i else i) * fteEntB k

/-- READ; `ue` says that it meets an uncorrectable error. -/
def State.fteRead (s : State) (k : Nat) (ue : Bool) : State :=
  let (w, i) := s.fteIdx
  if ue then ((s.sramUe 1 (s.ftePlace k)).raise (fteRec 0xFF 0x1803 2 5 i k 0)).fteResult 5
  else (s.fteShow (s.bytes .table (s.ftePlace k) (fteEntB k))).fteResult 0 0 (if fteHashed k then w else 0) i

/-- WRITE. -/
def State.fteWrite (s : State) (k : Nat) : State :=
  let (w, i) := s.fteIdx
  let e := s.fteStaged (fteEntB k)
  if k = 0 then (s.l2Put (w, i) (leNat (e.take 8)) (leNat (e.drop 8))).fteResult 0 0 w i
  else (s.setBytes .table (s.ftePlace k) e).fteResult 0 0 0 i

/-! ### Routes (R162 to R166, R171) -/

/-- The prefix and the length of a staged route of table 1 or 2. -/
def stagedRoute (k : Nat) (e : List Byte) : Nat × Nat :=
  if k = 1 then (leNat (e.take 4), bitsOf (leNat (e.take 8)) 32 6)
  else (leNat (e.take 16), bitsOf (leNat ((e.drop 16).take 8)) 0 8)

/-- The width of an address of table 1 or 2. -/
def routeWidth (k : Nat) : Nat := if k = 1 then 32 else 128

/-- Whether a route's prefix has no bits set below its length. -/
def routeOk (k : Nat) (r : Nat × Nat) : Bool := decide (r.2 ≤ routeWidth k) && prefixOf (routeWidth k) r.2 r.1 == r.1

/-- The routes of a length that a table holds. -/
def State.routesOf (s : State) (k l : Nat) : Nat :=
  (((s.fteTab k).inUse s).filter (fun q => (stagedRoute k ((s.fteTab k).ent s q.1 q.2)).2 == l)).length

/-- The short mask's bit follows the routes of a length. -/
def State.setShort (s : State) (k l : Nat) : State :=
  let b := b2n (decide (s.routesOf k l ≠ 0))
  if k = 1 then s.wr R.FTE_LPM4_SHORT (BitVec.ofNat 32 (putBits (s.rd R.FTE_LPM4_SHORT).toNat l 1 b))
  else s.wr (R.FTE_LPM6_SHORT (l / 32)) (BitVec.ofNat 32 (putBits (s.rd (R.FTE_LPM6_SHORT (l / 32))).toNat (l % 32) 1 b))

/-- The address of an IPv4 filter entry. -/
def State.filter4At (s : State) (p : Nat) : Nat := s.fteBase 3 + p / 65536 * 64

/-- The IPv4 filter's count of a length changes (R163). -/
def State.filter4Adj (s : State) (p l : Nat) (up : Bool) : Option State :=
  if s.fteGone 3 then none
  else
    let a := s.filter4At p
    let j := l - 17
    let c := s.ldN .table (a + 8 + 3 * j) 3
    let n := if up then c + 1 else c - 1
    let m := putBits (s.ldN .table a 2) j 1 (b2n (decide (n ≠ 0)))
    some ((s.stN .table (a + 8 + 3 * j) 3 n).stN .table a 2 m)

/-- Write a slot of an IPv6 filter entry. -/
def State.filter6Slot (s : State) (q : Nat × Nat) (i x : Nat) : State :=
  s.stN .table ((s.fteTab 4).addr q.1 q.2 + 8 + 4 * i) 4 x

/-- A route of length 33 to 128 raises its count in the IPv6 filter (R164). -/
def State.filter6Raise (s : State) (p l : Nat) : Option State :=
  match filter6Find s p with
  | some (q, xs) =>
    (match xs.findIdx? (slotFor l) with
    | some i => some (s.filter6Slot q i (xs.getD i 0 + 256))
    | none =>
      match xs.findIdx? (fun x => !bitAt x 7) with
      | some i => some (s.filter6Slot q i (256 + 128 + (l - 1)))
      | none => none)
  | none =>
    let e := toLe 4 (p / 2 ^ 96) ++ [0x80, 0, 0, 0] ++ toLe 4 (256 + 128 + (l - 1)) ++ List.replicate 116 0
    ((s.fteTab 4).place s (fun _ => false) e).map (fun r => r.1)

/-- A deleted route lowers it; a filter entry without slots in use goes. -/
def State.filter6Lower (s : State) (p l : Nat) : State :=
  match filter6Find s p with
  | some (q, xs) =>
    (match xs.findIdx? (slotFor l) with
    | some i =>
      let n := xs.getD i 0 / 256 - 1
      if n ≠ 0 then s.filter6Slot q i (xs.getD i 0 - 256)
      else if (xs.eraseIdx i).any (fun x => bitAt x 7) then s.filter6Slot q i 0
      else (s.fteTab 4).clear (s.filter6Slot q i 0) q.1 q.2
    | none => s)
  | none => s

/-- A placed route raises its filter's count, or finds none. -/
def State.filterRaise (s : State) (k : Nat) (r : Nat × Nat) : Option State :=
  if r.2 ≤ (if k = 1 then 16 else 32) then some (s.setShort k r.2)
  else if k = 1 then s.filter4Adj r.1 r.2 true
  else s.filter6Raise r.1 r.2

/-- A removed route lowers its filter's count. -/
def State.filterLower (s : State) (k : Nat) (r : Nat × Nat) : State :=
  if r.2 ≤ (if k = 1 then 16 else 32) then s.setShort k r.2
  else if k = 1 then (s.filter4Adj r.1 r.2 false).getD s
  else s.filter6Lower r.1 r.2

/-- Whether a route would exceed R166's numbers: 7 LIMIT, 8 LEN_LIMIT, 0 it would not. -/
def State.routeLimit (s : State) (k : Nat) (r : Nat × Nat) : Nat :=
  if (if k = 1 then 524288 else 262144) ≤ ((s.fteTab k).inUse s).length then 7
  else if k = 1 then 0
  else if r.2 ≤ 32 then
    (if ¬ short6 s r.2 ∧ 16 ≤ ((List.range 33).filter (short6 s)).length then 8 else 0)
  else match filter6Find s r.1 with
    | some (_, xs) => if ¬ xs.any (slotFor r.2) ∧ xs.all (fun x => bitAt x 7) then 8 else 0
    | none => 0

/-- INSERT of a route. -/
def State.routeInsert (s : State) (k : Nat) : State :=
  let e := s.fteStaged (fteEntB k)
  let r := stagedRoute k e
  match s.routeLimit k r with
  | 0 =>
    (match (s.fteTab k).place s (fun _ => false) e with
    | none => s.fteResult 3
    | some (t, q, moves) =>
      match t.filterRaise k r with
      | none => s.fteResult 3
      | some u => u.fteResult 0 moves q.1 q.2)
  | x => s.fteResult x

/-- INSERT (R171). -/
def State.fteInsert (s : State) (k : Nat) : State :=
  let e := s.fteStaged (fteEntB k)
  if k ≠ 0 ∧ ¬ routeOk k (stagedRoute k e) then s.fteResult 4
  else match (s.fteTab k).find s (e.take (fteKeyB k)) with
    | some q => s.fteResult 2 0 q.1 q.2
    | none =>
      if k ≠ 0 then s.routeInsert k
      else match s.l2Insert (leNat (e.take 8)) (leNat (e.drop 8)) with
        | some (t, q, moves) => t.fteResult 0 moves q.1 q.2
        | none => s.fteResult 3

/-- DELETE (R171, R159). -/
def State.fteDelete (s : State) (k : Nat) : State :=
  let e := s.fteStaged (fteEntB k)
  if k ≠ 0 ∧ ¬ routeOk k (stagedRoute k e) then s.fteResult 4
  else match (s.fteTab k).find s (e.take (fteKeyB k)) with
    | none => s.fteResult 1
    | some q =>
      if k ≠ 0 then (((s.fteTab k).clear s q.1 q.2).filterLower k (stagedRoute k e)).fteResult 0 0 q.1 q.2
      else
        let x := s.l2At q
        let t := s.l2Del q
        (if e1Local x.2 then
          t.tookFree.fteSend (s.learnMsg 4 (x.1 % 2 ^ 48) (bitsOf x.1 48 12) (e1Dest x.2) s.freePipe)
         else t).fteResult 0 0 q.1 q.2

/-- SEARCH; `ue` says that it meets an uncorrectable error. -/
def State.fteSearch (s : State) (k : Nat) (ue : Bool) : State :=
  if ue then (s.raise (fteRec 0xFF 0x1803 2 5 0 k 0)).fteResult 5
  else match (s.fteTab k).find s (s.fteStaged (fteKeyB k)) with
    | none => s.fteResult 1
    | some q => (s.fteShow ((s.fteTab k).ent s q.1 q.2)).fteResult 0 0 q.1 q.2

/-- UPDATE: the data word of a present key. -/
def State.fteUpdate (s : State) (k : Nat) : State :=
  let e := s.fteStaged (fteEntB k)
  if k ≠ 0 ∧ ¬ routeOk k (stagedRoute k e) then s.fteResult 4
  else match (s.fteTab k).find s (e.take (fteKeyB k)) with
    | none => s.fteResult 1
    | some q =>
      if k = 0 then (s.l2Put q (leNat (e.take 8)) (leNat (e.drop 8))).fteResult 0 0 q.1 q.2
      else (s.setBytes .table ((s.fteTab k).addr q.1 q.2 + fteEntB k - 8) (e.drop (fteEntB k - 8))).fteResult 0 0 q.1 q.2

/-- The places of AGE_STEP (R170): 4,096 slots from a place on, way after way. -/
def State.ageSlots (s : State) : List (Nat × Nat) :=
  let n := s.fteSize 0
  let at_ := s.fteIdx.1 * n + s.fteIdx.2
  (s.l2.inUse s).filter (fun q => decide ((q.1 * n + q.2 + 4 * n - at_) % (4 * n) < 4096))

/-- AGE_STEP. -/
def State.ageStep (s : State) : State :=
  let n := s.fteSize 0
  let next := (s.fteIdx.1 * n + s.fteIdx.2 + 4096) % (4 * n)
  if s.settled.flag R.FTE_AGE_CFG F.FTE_AGE_CFG_AUTO then s.fteResult 4
  else
    let qs := s.ageSlots.filter (fun q => s.aged (s.l2At q).2)
    ((qs.foldl State.ageDelete s).wr (R.FTE_TBUF 1) (BitVec.ofNat 32 qs.length)).fteResult 0 0 (next / n) (next % n)

/-- Whether FLUSH's criteria choose an entry (R170). -/
def flushHits (c key e : Nat) : Bool :=
  (!e1Static e || bitAt c 25) && (!bitAt c 10 || e1Dest e == bitsOf c 0 10)
    && (!bitAt c 24 || bitsOf key 48 12 == bitsOf c 12 12)
    && (!bitAt c 29 || (e1Remote e && e1Chip e == bitsOf c 26 3))

/-- FLUSH. -/
def State.fteFlush (s : State) : State :=
  let c := (s.rd (R.FTE_TBUF 0)).toNat
  let qs := (s.l2.inUse s).filter (fun q => flushHits c (s.l2At q).1 (s.l2At q).2)
  ((s.l2DelAll qs).wr (R.FTE_TBUF 1) (BitVec.ofNat 32 qs.length)).fteResult 0

/-- Whether FTE_TIDX names a place of a table. -/
def State.fteIn (s : State) (k : Nat) : Bool := decide (s.fteIdx.2 < s.fteSize k)

/-- The command that OP names runs on the table that TABLE names (R170). -/
def State.fteRun (s : State) (op : Nat) (ue : Bool) : State :=
  let k := s.fteTable
  if ¬ ftePair op k then s.fteResult 4
  else if bitAt (s.fd R.FTE_STATUS F.FTE_STATUS_CLEARING) k then s.fteResult 6
  else if (op = 1 ∨ op = 2 ∨ op = 6) ∧ ¬ s.fteIn k then s.fteResult 4
  else match op with
    | 1 => s.fteRead k ue
    | 2 => s.fteWrite k
    | 3 => s.fteInsert k
    | 4 => s.fteDelete k
    | 5 => s.fteSearch k ue
    | 6 => s.ageStep
    | 7 => s.fteFlush
    | _ => s.fteUpdate k

/-- Whether FTE's command interface is busy. -/
def State.fteBusy (s : State) : Bool := s.flag R.FTE_TCMD F.FTE_TCMD_BUSY

/-- A write to FTE_TCMD, FTE_TIDX or FTE_TBUF while BUSY is 1 is discarded (R172). -/
def State.fteBusyErr (s : State) (off : Nat) (v : W32) : State := s.raise (fteRec 0xFF 0x1805 0 3 off v.toNat 0)

/-- A write to FTE_TCMD starts a command (R170, R172). -/
def State.fteTcmdWrite (s : State) (mid : Nat) (gen : BitVec 8) (v : W32) (ue : Bool) : State :=
  let op := bitsOf v.toNat 0 4
  if s.fteBusy then s.fteBusyErr R.FTE_TCMD v
  else if s.locked ∧ (op = 2 ∨ op = 3 ∨ op = 4 ∨ op = 7 ∨ op = 8) then s.lockDiscard R.FTE_TCMD mid gen v
  else s.storeToo ((s.plainWrite R.FTE_TCMD v).fteRun op ue)

/-- A write to FTE_TCMD reaches FTE. -/
def State.fteTcmd (s : State) (mid : Nat) (gen : BitVec 8) (table op : Nat) (ue : Bool) : State :=
  s.reach R.FTE_TCMD mid gen (BitVec.ofNat 32 (table % 32 * 256 + op)) (fun t =>
    t.fteTcmdWrite mid gen (BitVec.ofNat 32 (table % 32 * 256 + op)) ue)

/-- FTE_READ (R170). -/
def execFteRead (mid : Nat) (gen : BitVec 8) (table : Nat) (ue : Bool) (s : State) : Out :=
  .next (s.fteTcmd mid gen table 1 ue)

/-- FTE_WRITE (R170). -/
def execFteWrite (mid : Nat) (gen : BitVec 8) (table : Nat) (s : State) : Out := .next (s.fteTcmd mid gen table 2 false)

/-- FTE_INSERT (R171). -/
def execFteInsert (mid : Nat) (gen : BitVec 8) (table : Nat) (s : State) : Out := .next (s.fteTcmd mid gen table 3 false)

/-- FTE_DELETE (R171). -/
def execFteDelete (mid : Nat) (gen : BitVec 8) (table : Nat) (s : State) : Out := .next (s.fteTcmd mid gen table 4 false)

/-- FTE_SEARCH (R170). -/
def execFteSearch (mid : Nat) (gen : BitVec 8) (table : Nat) (ue : Bool) (s : State) : Out :=
  .next (s.fteTcmd mid gen table 5 ue)

/-- AGE_STEP (R170). -/
def execAgeStep (mid : Nat) (gen : BitVec 8) (s : State) : Out := .next (s.fteTcmd mid gen 0 6 false)

/-- FTE_FLUSH (R170). -/
def execFteFlush (mid : Nat) (gen : BitVec 8) (s : State) : Out := .next (s.fteTcmd mid gen 0 7 false)

/-- FTE_UPDATE (R170). -/
def execFteUpdate (mid : Nat) (gen : BitVec 8) (table : Nat) (s : State) : Out := .next (s.fteTcmd mid gen table 8 false)

/-- FTE_BAD_OP (R170): a pair of OP and TABLE that R170 does not define. -/
def execFteBadOp (mid : Nat) (gen : BitVec 8) (table op : Nat) (s : State) : Out :=
  .next (if ftePair (op % 16) (table % 32) then s else s.fteTcmd mid gen table (op % 16) false)

/-- FTE_COMMAND_DONE (R170). -/
def execFteCommandDone (s : State) : Out :=
  .next (
    if ¬ s.fteBusy then s
    else (((s.wr R.FTE_TSTAT (s.resOf R.FTE_TSTAT)).wf R.FTE_TCMD F.FTE_TCMD_BUSY 0).setRes R.FTE_TSTAT 0).fteInt
      F.FTE_INT_CMD_DONE)

/-! ## Layout (R173) -/

/-- The sizes R169 allows a table. -/
def fteSizeOk (k n : Nat) : Bool :=
  match k with
  | 0 | 1 => decide (10 ≤ n ∧ n ≤ 18)
  | 2 => decide (10 ≤ n ∧ n ≤ 17)
  | 3 => n == 16
  | 4 => decide (8 ≤ n ∧ n ≤ 14)
  | 5 => decide (1 ≤ n ∧ n ≤ 16)
  | 6 => decide (1 ≤ n ∧ n ≤ 10)
  | 7 => decide (1 ≤ n ∧ n ≤ 14)
  | 8 => decide (1 ≤ n ∧ n ≤ 9)
  | 9 => decide (1 ≤ n ∧ n ≤ 12)
  | _ => false

/-- A table's first byte and its length, from a value of FTE_LAYOUT. -/
def fteRange (k v : Nat) : Nat × Nat :=
  (bitsOf v 21 11 * 65536, if bitsOf v 16 5 = 0 then 0 else (if fteHashed k then 4 else 1) * 2 ^ bitsOf v 16 5 * fteEntB k)

/-- Whether FTE accepts a value for a table's layout. -/
def State.layoutOk (s : State) (k : Nat) (v : W32) : Bool :=
  let n := bitsOf v.toNat 16 5
  let r := fteRange k v.toNat
  n == 0 || (fteSizeOk k n && decide (32 ≤ bitsOf v.toNat 21 11 ∧ r.1 + r.2 ≤ 96 * 2 ^ 20)
    && ((List.range 10).filter (fun q => q != k && s.fteLog q != 0)).all (fun q =>
      let o := fteRange q (s.rd (R.FTE_LAYOUT q)).toNat
      decide (r.1 + r.2 ≤ o.1 ∨ o.1 + o.2 ≤ r.1)))

/-- Set or clear a table's CLEARING bit. -/
def State.setClearing (s : State) (k : Nat) (b : Bool) : State :=
  s.wf R.FTE_STATUS F.FTE_STATUS_CLEARING (putBits (s.fd R.FTE_STATUS F.FTE_STATUS_CLEARING) k 1 (b2n b))

/-- What FTE keeps beside a table starts anew with it: COUNT of every port for L2, the short masks for routes. -/
def State.tableGone (s : State) (k : Nat) : State :=
  match k with
  | 0 => (List.range 144).foldl (fun t n => t.wf (R.FTE_PORT_LEARN n) F.FTE_PORT_LEARN_COUNT 0) s
  | 1 => s.wr R.FTE_LPM4_SHORT 0
  | 2 => (s.wr (R.FTE_LPM6_SHORT 0) 0).wr (R.FTE_LPM6_SHORT 1) 0
  | _ => s

/-- FTE decides a value for FTE_LAYOUT (R173). -/
def State.layoutWrite (s : State) (k : Nat) (v : W32) : State :=
  let off := R.FTE_LAYOUT k
  let w := v &&& 0xFFFF0000 &&& 0xFFFFFFFF
  if ¬ s.layoutOk k v then s.raise (fteRec 0xFF 0x1806 0 3 off v.toNat 0)
  else if w = s.rd off then s
  else
    let t := (s.wr off w).tableGone k
    t.setClearing k (decide (t.fteLog k ≠ 0))

/-- LAYOUT_PAIR (R173). -/
def execLayoutPair (mid : Nat) (gen : BitVec 8) (k : Nat) (value : W32) (s : State) : Out :=
  .next (if 10 ≤ k then s else match s.takePair (R.FTE_LAYOUT k) mid gen value with
    | some t => t.layoutWrite k value
    | none => s)

/-- LAYOUT_CLEAR_DONE (R173). -/
def execLayoutClearDone (k : Nat) (s : State) : Out :=
  .next (
    if 10 ≤ k ∨ ¬ bitAt (s.fd R.FTE_STATUS F.FTE_STATUS_CLEARING) k then s
    else
      let r := fteRange k (s.rd (R.FTE_LAYOUT k)).toNat
      (s.zero .table r.1 r.2).setClearing k false)

end Sys2Proof.Machine
end

