-- ==== Sys2Proof/Machine/Ods.lean ====
section
/-! DEFINITION. Order and dispatch (07_order_dispatch): the meanings of ODS's commands. -/
namespace Sys2Proof.Machine
open Sys2Proof

/-- Set bits of ODS_INT (R250). -/
def State.odsInt (s : State) (f : Fld) : State := s.intSet R.ODS_INT R.ODS_INT_EN (2 ^ f.lo) 11

/-! ## Threads' settings (R224) -/

/-- ODS_TCFG of a thread. -/
def State.tcfg (s : State) (mid : Nat) : Nat := (s.ods.tcfg.get (fun _ => 0x80000004) mid).toNat

/-- ODS_TGMASK of a thread. -/
def State.tgmask (s : State) (mid : Nat) : Nat := (s.ods.tgmask.get (fun _ => 0xFFFFFFFFFFFFFFFF) mid).toNat

/-- Whether a thread is in dynamic mode. -/
def State.dynamic (s : State) (mid : Nat) : Bool := bitAt (s.tcfg mid) 31

/-- HOLD_MAX as it acts. -/
def State.holdMax (s : State) (mid : Nat) : Nat := min 8 (bitsOf (s.tcfg mid) 0 4)

/-- The tokens a thread holds. -/
def State.heldBy (s : State) (mid : Nat) : Nat := ((List.range 8).filter (fun i => ((s.thr mid).tokenIn i).isSome)).length

/-- The tokens that a cluster's threads hold. -/
def State.cluHeld (s : State) (c : Nat) : Nat :=
  (s.ods.slots.filter (fun e => match e.2.place with | .window m _ => midCluster m == c | _ => false)).length

/-! ## Answers (R225, R226) -/

/-- ODS answers a TKP operation; bits 23:0 that hold neither slot nor handle are open (log entry 3). -/
def State.odsReply (s : State) (mid res : Nat) (val : Option Nat) : State :=
  match val with
  | some v => s.odsAnswer mid (BitVec.ofNat 40 (res * 2 ^ 32 + v % 2 ^ 24))
  | none => s.tookFree.odsAnswer mid (BitVec.ofNat 40 (res * 2 ^ 32 + s.freeWord.toNat % 2 ^ 24))

/-- A TKP operation's requester is refused (R48, R51): STALE. -/
def State.odsRefuse (s : State) (mid : Nat) (gen : BitVec 8) (cls : Nat) : Option State :=
  (s.refuseReq 5 0xFF mid gen 0 0 cls).map (fun t => t.odsReply mid 4 none)

/-! ## Uncorrectable errors (R216) -/

/-- A read of a token's body meets an uncorrectable error: the token is discarded, its buffer stays allocated to ODS. -/
def State.storeUe (s : State) (id : Nat) : State :=
  let x := s.slot id
  (((s.raise (odsRec 0x2808 2 id x.pipe)).odsInt F.ODS_INT_STORE_UE).setSlot id
    { x with tok := { x.tok with handle := 0 }, shared := false }).discardToken id

/-- A read of flow state (or slot state) meets an uncorrectable error. -/
def State.flowUe (s : State) (index : Nat) (slot : Bool) : State :=
  (s.raise (mkErr 5 0xFF 0x2809 3 5 index 0 0 (b2n slot))).odsInt F.ODS_INT_FLOW_UE

/-! ## Admission (R212, R213) -/

/-- ADMIT (R212): PRS asks for a slot on a pipeline for the frame that its arbiter would start. -/
def execAdmitCell (pl : Nat) (s : State) : Out :=
  .next (
    if 4 ≤ pl ∨ s.throttles pl ∨ s.powerStep ≠ 0 ∨ s.bcn.draining ∨ (s.pipe pl).grants ≠ [] ∨ s.prsNext pl = none then s
    else match s.allocSlot pl { inport := 0xFF } with
      | none => s
      | some (s1, id) =>
        let r := s1.nextAdm pl
        let p := r.1.pipe pl
        ((r.1.setSlot id { (r.1.slot id) with adm := r.2 }).setPipe pl { p with grants := p.grants ++ [(id, r.2)] }).reThrottle)

/-- The first held cell of the first kind that is held. -/
def firstHeld (l : List HeldCell) : Option HeldCell :=
  (List.range 6).findSome? (fun k => l.find? (fun c => c.kind == k))

/-- A token waits for its thread's next GET ahead of every queue; a GET that waits takes it at once (R245). -/
def State.giveThread (s : State) (mid slot id : Nat) : State :=
  let x := s.slot id
  let t := { x.tok with owner := BitVec.ofNat 12 mid, gen := s.genOf mid }
  let y := s.thr mid
  let s1 := (s.setSlot id { x with tok := t, place := .window mid slot }).setWinToken mid slot t
  let s2 := s1.setThr mid (({ y with slots := y.slots.set (fun _ => 0) slot (id + 1) }).setCache slot (s1.fillLines t.handle))
  let s3 : State := { s2 with ods := { s2.ods with gets := s2.ods.gets.filter (fun g => g.1 != mid) } }
  (s3.count (R.ODS_CNT 2)).odsReply mid 0 (some slot)

/-- The window slot in which a thread may receive a token now. -/
def State.mayHold (s : State) (mid : Nat) : Option Nat :=
  if s.heldBy mid < s.holdMax mid then (s.thr mid).freeSlot else none

/-- A TIMER cell's place once it is formed (R245). -/
def State.timerFormed (s : State) (id : Nat) (target : Option Nat) : State :=
  match target with
  | none => s.actOnNode id none
  | some mid =>
    let s1 := (s.setSlot id { (s.slot id) with place := .timerFor mid }).event mid 6
    match s.ods.gets.find? (fun g => g.1 == mid), s1.mayHold mid with
    | some _, some slot => s1.giveThread mid slot id
    | _, _ => s1

/-- The TIMER cell of an entry (R245). -/
def State.timerTok (s : State) (e : DlEnt) : Token :=
  { ctype := 3, node := e.node, flow := e.flow, cresult := e.cookie, epoch := s.odsEpoch, inport := 0xFF, its := s.time.ptp }

/-- A timer's entry expires into a slot. -/
def State.timerFire (s : State) (l i id : Nat) : State :=
  let e := s.dlEnt l i
  ((s.dlFree l i).count (R.ODS_CNT 12)).timerFormed id (if e.target then some e.mid else none)

/-- A held cell has its slot. -/
def State.heldAdmitted (s : State) (c : HeldCell) (id : Nat) : State :=
  match c.kind with
  | 0 | 3 =>
    let r := s.nextAdm c.at_
    let x := r.1.slot id
    let t := if c.kind = 3 then x.tok.stampProbe 0 s.time.ptp.toNat else x.tok
    let p := r.1.pipe c.at_
    (r.1.setSlot id { x with adm := r.2, tok := t }).setPipe c.at_ { p with cells := p.cells ++ [{ tok := t, adm := r.2 }] }
  | 1 =>
    let r := s.nextAdm (portPipe c.at_)
    let p := r.1.port c.at_
    let k := (p.rxq.findIdx? (fun i => i.flush && i.cell.isNone)).getD p.rxq.length
    (r.1.setSlot id { (r.1.slot id) with adm := r.2 }).setPort c.at_
      { p with rxq := p.rxq.modify k (fun i => { i with cell := some (id, r.2) }) }
  | 2 =>
    let s1 := (s.setSlot id { (s.slot id) with place := .release, refs := 1 }).relPush 146 { id := id, tok := (s.slot id).tok }
    if s.rgnState c.ent = 1 then s1.setRec { s1.rcd with cells := s1.rcd.cells.set (fun _ => 0) c.ent (id + 1) } else s1
  | _ => s.timerFire c.at_ c.ent id

/-- HELD_CELL_ADMIT (R212): the next held cell takes a free slot. -/
def execHeldCellAdmit (s : State) : Out :=
  .next (match firstHeld s.ods.held with
    | none => s
    | some c =>
      match s.allocSlot 4 c.tok with
      | none => s
      | some (s1, id) =>
        let s2 : State := { s1 with ods := { s1.ods with held := s1.ods.held.erase c } }
        (s2.heldAdmitted c id).reThrottle)

/-! ## Entry (R218, R55, R253) -/

/-- A token that arrives from FTE takes its slot's record. -/
def State.arriveOds (s : State) (pl : Nat) (f : Flight) : State :=
  let id := f.tok.id.toNat
  s.setSlot id { (s.slot id) with used := true, tok := f.tok, pipe := pl, adm := f.adm, cut := f.cut, bad := f.bad }

/-- A token whose epoch is dead (R55). -/
def State.epochDead (s : State) (id : Nat) : State :=
  let x := s.slot id
  (s.raise (odsRec 0x0003 2 id x.pipe (x.tok.epoch.toNat + s.odsEpoch.toNat * 256))).endDiscard id

/-- Without TIMED, ODS mirrors each packet token as it enters from FTE (R603). -/
def State.mirrorAtEntry (s : State) (id : Nat) : State := if s.mode F.GLB_MODE_TIMED then s else s.mirrorCopy id

/-- A packet token or a PROBE enters ODS. -/
def State.tokenEntry (s : State) (pl : Nat) (f : Flight) : State :=
  let id := f.tok.id.toNat
  let s1 := (s.arriveOds pl f).count (R.ODS_CNT 1)
  if f.tok.isProbe then
    (s1.setSlot id { (s1.slot id) with tok := s.probed f.tok 4 }).toEgress id
  else if ¬ s.epochLive f.tok.epoch then s1.epochDead id
  else ((s1.mirrorAtEntry id).assignDomain id).actOnNode id f.queue

/-- TOKEN_ENTRY (R218): the head token before ODS on a pipeline, a packet token or a PROBE; `ue` says that the read of its
flow state meets an uncorrectable error. -/
def execTokenEntry (pl : Nat) (ue : Bool) (s : State) : Out :=
  .next (
    match (s.pipe pl).toOds with
    | f :: rest =>
      if 4 ≤ pl ∨ (f.tok.ctype ≠ 0 ∧ f.tok.ctype ≠ 7) then s
      else if ue then s.flowUe f.tok.lockIdx false
      else ((s.setPipe pl { (s.pipe pl) with toOds := rest }).tokenEntry pl f).reThrottle
    | [] => s)

/-! ## Dispatch (R221, R222, R230) -/

/-- The threads of a cluster with a waiting GET, the oldest first. -/
def State.waitersOf (s : State) (c : Nat) : List Nat := (s.ods.gets.filter (fun g => midCluster g.1 == c)).map (·.1)

/-- Whether a queue's token suits a thread of cluster `c` but for its flow lock (R221). -/
def State.suits (s : State) (c q id mid : Nat) : Bool :=
  let x := s.slot id
  bitAt ((s.tokView x.tok).fd (R.ODS_NODE_B x.tok.node.toNat) F.ODS_NODE_B_CSET) c
    && s.serves c mid && (s.dynamic mid || bitAt (s.tgmask mid) (q / 16))
    && (s.mayHold mid).isSome
    && (!s.dynamic mid || decide (s.cluHeld c < s.fd (R.ODS_CLU_HOLD c) F.ODS_CLU_HOLD_LIMIT))

/-- Whether a token needs the flow lock where it waits. -/
def State.needsLock (s : State) (id : Nat) : Bool :=
  let x := s.slot id
  nodeAtomic (s.tokView x.tok) x.tok.node.toNat && !x.lock

/-- Whether another token holds a token's lock. -/
def State.lockTaken (s : State) (id : Nat) : Bool := (s.lockOf (s.slot id).tok.lockIdx).holder.isSome

/-- Head tokens that need a held lock move to its wait list (R230). -/
def State.shedLocked (s : State) (q : Nat) : Nat → State
  | 0 => s
  | n + 1 =>
    match s.queue q with
    | id :: rest =>
      if s.needsLock id ∧ s.lockTaken id then
        let f := (s.slot id).tok.lockIdx
        let k := s.lockOf f
        State.shedLocked ((((s.setQueue q rest).setLock f { k with waiters := k.waiters ++ [id] }).setSlot id
          { (s.slot id) with place := .lockWait f }).count (R.ODS_CNT 6)) q n
      else s
    | [] => s

/-- A selection examines the queues of a group. -/
def State.shedGroup (s : State) (g : Nat) : State :=
  (List.range 16).foldl (fun t i => t.shedLocked (g * 16 + i) (t.queue (g * 16 + i)).length) s

/-- The head of a queue and the oldest waiting thread of the cluster that it suits. -/
def State.headFor (s : State) (c q : Nat) : Option (Nat × Nat) :=
  match s.queue q with
  | id :: _ => ((s.waitersOf c).find? (s.suits c q id)).map (fun m => (id, m))
  | [] => none

/-- A cluster's dispatcher. -/
def State.dispOf (s : State) (c : Nat) : DispSt := s.ods.disp.get (fun _ => {}) c

/-- Set a cluster's dispatcher. -/
def State.setDisp (s : State) (c : Nat) (x : DispSt) : State :=
  { s with ods := { s.ods with disp := s.ods.disp.set (fun _ => {}) c x } }

/-- The choice within a group (R222): queue, token and thread, the highest level first, the two lanes of a level in
turn. -/
def State.groupPick (s : State) (c g : Nat) : Option (Nat × Nat × Nat) :=
  ((List.range 8).reverse).findSome? (fun l =>
    let last := (s.dispOf c).lanes.get (fun _ => true) (g * 8 + l)
    ([b2n (!last), b2n last].findSome? (fun lane =>
      (s.headFor c (g * 16 + l * 2 + lane)).map (fun r => (g * 16 + l * 2 + lane, r.1, r.2)))))

/-- A group's deficit at a cluster's dispatcher. -/
def State.deficitOf (s : State) (c g : Nat) : Nat := s.ods.deficit.get (fun _ => 0) (c * 64 + g)

/-- Set a group's deficit. -/
def State.setDeficit (s : State) (c g n : Nat) : State :=
  { s with ods := { s.ods with deficit := s.ods.deficit.set (fun _ => 0) (c * 64 + g) n } }

/-- A token's COST (R222). -/
def State.costOf (s : State) (id : Nat) : Nat :=
  max 1 (nodeA (s.tokView (s.slot id).tok) (s.slot id).tok.node.toNat F.ODS_NODE_A_COST)

/-- Dispatch a token to a thread (R227): it takes its lock, its OWNER and GEN, and its window slot. -/
def State.dispatchTo (s : State) (q id mid : Nat) (ue : Bool) : State :=
  let s1 := s.setQueue q (s.queue q).tail
  if ue then s1.storeUe id
  else
    let s2 := if s1.needsLock id then
        (s1.setLock (s1.slot id).tok.lockIdx { holder := some id }).setSlot id { (s1.slot id) with lock := true }
      else s1
    match s2.mayHold mid with
    | some slot => s2.giveThread mid slot id
    | none => s2

/-- The dispatcher passes to the next group. -/
def State.nextGroup (s : State) (c : Nat) : State :=
  s.setDisp c { (s.dispOf c) with group := ((s.dispOf c).group + 1) % 64, started := false }

/-- The dispatcher of a cluster runs until it dispatches a token, at most `n` visits (R222). -/
def State.dispatch (s : State) (c : Nat) (ue : Bool) : Nat → Option State
  | 0 => none
  | n + 1 =>
    let d := s.dispOf c
    let g := d.group
    let s := s.shedGroup g
    let quantum := s.fd (R.ODS_GROUP g) F.ODS_GROUP_QUANTUM
    match s.groupPick c g with
    | none => State.dispatch ((if d.started then s else s.setDeficit c g 0).nextGroup c) c ue n
    | some (q, id, mid) =>
      if quantum = 0 then State.dispatch (s.nextGroup c) c ue n
      else
        let have_ := s.deficitOf c g + if d.started then 0 else quantum
        if s.costOf id ≤ have_ then
          let lanes := d.lanes.set (fun _ => true) (q / 2) (q % 2 == 1)
          some (((s.setDeficit c g (have_ - s.costOf id)).setDisp c { d with started := true, lanes := lanes }).dispatchTo
            q id mid ue)
        else State.dispatch ((s.setDeficit c g have_).nextGroup c) c ue n

/-- The visits after which every group with an eligible token and a quantum has been served: 16 rounds. -/
def dispatchFuel : Nat := 1088

/-- DISPATCH (R222): a cluster's dispatcher makes its next dispatch; `ue` says that the read of the token's body meets an
uncorrectable error. -/
def execDispatch (c : Nat) (ue : Bool) (s : State) : Out :=
  .next (
    if 16 ≤ c ∨ s.waitersOf c = [] then s
    else match s.dispatch c ue dispatchFuel with
      | some t => t.reThrottle
      | none => s)

/-! ## GET and GET_NB (R225) -/

/-- The TIMER cell that waits for a thread (R245), the oldest first. -/
def State.timerCell (s : State) (mid : Nat) : Option Nat :=
  (s.ods.slots.find? (fun e => e.2.place == .timerFor mid)).map (·.1)

/-- A waiting GET of a thread is withdrawn without a token (R361, R600, R634). -/
def State.dropGet (s : State) (mid : Nat) : State :=
  let x := s.thr mid
  { s.setThr mid { x with longs := x.longs.filter (fun o => !(o.isTkp && o.op == 0 && o.res.isNone)) } with
    ods := { s.ods with gets := s.ods.gets.filter (fun g => g.1 != mid) } }

/-- A thread of a spare core that waits in GET and holds no token goes OFF (R600). -/
def State.spareOff (s : State) (mid : Nat) : State :=
  if s.isSpareThread mid ∧ s.heldBy mid = 0 ∧ s.ods.gets.any (fun g => g.1 == mid) then
    let t := s.dropGet mid
    t.setThr mid { (t.thr mid) with st := 0 }
  else s

/-- TKP_GET (R225). -/
def execTkpGet (mid : Nat) (gen : BitVec 8) (s : State) : Out :=
  .next (match s.odsRefuse mid gen 6 with
    | some t => t
    | none =>
      if s.holdMax mid ≤ s.heldBy mid then s.odsReply mid 9 none
      else match s.timerCell mid, s.mayHold mid with
        | some id, some slot => s.giveThread mid slot id
        | _, _ => ({ s with ods := { s.ods with gets := s.ods.gets ++ [(mid, gen)] } } : State).spareOff mid)

/-- TKP_GET_NB (R225): a token is eligible in the cycle of the request, or NONE. -/
def execTkpGetNb (mid : Nat) (gen : BitVec 8) (ue : Bool) (s : State) : Out :=
  .next (match s.odsRefuse mid gen 6 with
    | some t => t
    | none =>
      if s.holdMax mid ≤ s.heldBy mid then s.odsReply mid 9 none
      else match s.timerCell mid, s.mayHold mid with
        | some id, some slot => s.giveThread mid slot id
        | _, _ =>
          let alone : State := { s with ods := { s.ods with gets := [(mid, gen)] } }
          match (if 16 ≤ midCluster mid then none else alone.dispatch (midCluster mid) ue dispatchFuel) with
          | some t =>
            let u := ({ t with ods := { t.ods with gets := s.ods.gets } } : State).reThrottle
            if t.ods.gets = [] then u else u.odsReply mid 1 none
          | none => s.odsReply mid 1 none)

/-! ## Puts (R227, R232, R243, R249) -/

/-- Whether a thread's operation on a slot must wait: an LSU0 access of the thread is still in progress (R318). -/
def State.windowBusy (s : State) (mid : Nat) : Bool := (s.thr mid).shorts.any (fun o => o.unit == 0x240)

/-- The token that a thread holds in a slot under its MID and generation (R227, check 1). -/
def State.holds (s : State) (mid : Nat) (gen : BitVec 8) (slot : Nat) : Option Nat :=
  match (s.thr mid).tokenIn slot with
  | some id => if (s.slot id).tok.owner.toNat = mid ∧ (s.slot id).tok.gen = gen then some id else none
  | none => none

/-- NOT_HELD at a put (R227, check 1). -/
def State.notHeld (s : State) (mid : Nat) (gen : BitVec 8) (slot : Nat) : State :=
  let id := ((s.thr mid).tokenIn slot).getD 0
  (s.raise (mkErr 5 0xFF 0x0005 2 4 id mid gen.toNat (s.slot id).tok.owner.toNat)).odsReply mid 5 none

/-- A put refused under check 2 or 3. -/
def State.putBad (s : State) (mid : Nat) (gen : BitVec 8) (id res node : Nat) : State :=
  (s.raise (mkErr 5 0xFF 0x2802 2 4 id mid gen.toNat (res + node * 16) 7)).odsReply mid res none

/-- Whether a put may name a handle (R227, check 3). -/
def State.handleFits (s : State) (old new : W32) (ended : Bool) : Bool :=
  new == old || new == 0 || (s.handleOk new && ended && (s.metaOf (hPool new) (hIdx new)).alloc
    && (s.metaOf (hPool new) (hIdx new)).owner == 0xA30)

/-- What checks 2 and 3 of R227 find: 0 pass, 6 BAD_NODE, 7 BAD_HANDLE. -/
def State.putChecks (s v : State) (old : W32) (t : Token) (ended : Bool) : Nat :=
  if nodeKind v t.node.toNat = 0 then 6 else if s.handleFits old t.handle ended then 0 else 7

/-- The instant that 40 low bits name, nearest to now (R243). -/
def instantOf (now low : Nat) : Nat :=
  let d := (low + 2 ^ 40 - now % 2 ^ 40) % 2 ^ 40
  if d < 2 ^ 39 then now + d else now - (2 ^ 40 - d)

/-- Whether a queue stalls a put (R249). -/
def State.queueStalls (s v : State) (q : Nat) : Bool :=
  let l := v.fd (R.ODS_QCFG q) F.ODS_QCFG_LIMIT
  decide (l ≠ 0 ∧ l * 32 ≤ (s.queue q).length)

/-- The window slot of a thread is empty again. -/
def State.emptySlot (s : State) (mid slot : Nat) : State :=
  let x := s.thr mid
  s.setThr mid (({ x with slots := x.slots.set (fun _ => 0) slot 0 }).setCache slot [])

/-- The flow lock at a put (R231, R232): carried, or given up. -/
def State.putLock (s : State) (id : Nat) (t : Token) : State :=
  let x := s.slot id
  let v := s.tokView x.tok
  let n := t.node.toNat
  if x.lock ∧ nodeA v x.tok.node.toNat F.ODS_NODE_A_CARRY = 1 ∧ nodeKind v n = 1 ∧ nodeAtomic v n ∧ t.lockIdx = x.tok.lockIdx
  then s.count (R.ODS_CNT 7)
  else s.unlock id

/-- ODS takes an accepted put (R227): the lock, the changeable fields, the old buffer. -/
def State.putTake (s : State) (mid slot id : Nat) (t : Token) : State :=
  let s1 := (s.writeBack mid slot).putLock id t
  let x := s1.slot id
  let changed := decide (t.handle ≠ x.tok.handle)
  let s2 := if changed ∧ hIdx x.tok.handle ≠ 0 then s1.odsBpm 7 x.tok.handle 0 else s1
  ((s2.setSlot id { x with tok := x.tok.taken t, shared := x.shared && !changed }).emptySlot mid slot).count (R.ODS_CNT 3)

/-- What becomes of a put to a release node (R243): the entry's handle where it goes onto a list; a refusal; a stall. -/
inductive PutEnd where
  | done (t : State) (val : Option Nat)
  | refused
  | stalls

/-- A put to a release node. -/
def State.putRelease (s : State) (mid slot id : Nat) (t : Token) (at_ : Option Nat) : PutEnd :=
  let t1 := (s.slot id).tok.taken t
  match s.releaseInstant t1 at_ with
  | none => .done ((s.putTake mid slot id t).tokenDone id) none
  | some i =>
    let l := s.nodeList t1
    match s.timedPick l i with
    | .atOnce _ => .done (((s.putTake mid slot id t).count (R.ODS_CNT 11)).tokenDone id) none
    | .range => .refused
    | .full => .stalls
    | .on l tick =>
      let r := (s.putTake mid slot id t).reserveFor id l tick mid
      .done (r.tokenDone id) (match (r.slot id).timed with | some (l, i) => some (r.dlHandle l i) | none => none)

/-- A put whose checks passed. -/
def State.putGo (s : State) (mid slot id : Nat) (t : Token) (at_ : Option Nat) : PutEnd :=
  let v := s.tokView (s.slot id).tok
  if nodeKind v t.node.toNat = 1 then
    let q := nodeQueue v t.node.toNat t.flow
    if s.queueStalls v q then .stalls else .done ((s.putTake mid slot id t).makeReady id q) none
  else s.putRelease mid slot id t at_

/-- PUT and PUT_AT (R227, R243): none where the put stalls. -/
def State.put (s : State) (mid : Nat) (gen : BitVec 8) (slot : Nat) (at_ : Option Nat) : Option State :=
  match s.odsRefuse mid gen 7 with
  | some t => some t
  | none =>
    match s.holds mid gen slot with
    | none => some (s.notHeld mid gen slot)
    | some id =>
      let x := s.slot id
      let v := s.tokView x.tok
      let t := s.winToken mid slot
      let n := t.node.toNat
      let res := s.putChecks v x.tok.handle t x.cut.isNone
      let res := if res = 0 ∧ at_.isSome ∧ (nodeKind v n ≠ 2 ∨ v.fd (R.ODS_NODE_B n) F.ODS_NODE_B_TMODE ≠ 2) then 6 else res
      if res ≠ 0 then some (s.putBad mid gen id res n)
      else match s.putGo mid slot id t (at_.map (instantOf s.time.ptp.toNat)) with
        | .done t val => some (t.odsReply mid 0 val)
        | .refused => some (s.odsReply mid 8 none)
        | .stalls => none

/-- ODS stalls an operation (R249). -/
def State.stall (s : State) (o : StalledOp) : State :=
  (({ s with ods := { s.ods with stalls := s.ods.stalls ++ [o] } } : State).count (R.ODS_CNT 16)).odsInt F.ODS_INT_PUT_STALL

/-! ## SOFT and TIMER (R228, R245) -/

/-- The SOFT cell that a window slot's contents make. -/
def State.softTok (s : State) (mid slot : Nat) : Token :=
  { s.winToken mid slot with
      ctype := 4, inport := 0xFF, epoch := s.odsEpoch, its := s.time.ptp, owner := 0, gen := 0 }

/-- Whether a SOFT cell's target stalls it. -/
def State.softStalls (s v : State) (t : Token) : Bool :=
  if nodeKind v t.node.toNat = 1 then s.queueStalls v (nodeQueue v t.node.toNat t.flow)
  else match s.releaseInstant t none with
    | some i => (match s.timedPick (s.nodeList t) i with | .full => true | _ => false)
    | none => false

/-- SOFT: none where it stalls. -/
def State.soft (s : State) (mid : Nat) (gen : BitVec 8) (slot : Nat) : Option State :=
  match s.odsRefuse mid gen 7 with
  | some t => some t
  | none =>
    let t := s.softTok mid slot
    let v := s.tokView t
    if ((s.thr mid).tokenIn slot).isSome then some (s.odsReply mid 0xA none)
    else match s.putChecks v 0 t true with
      | 0 =>
        if s.softStalls v t ∨ s.ods.held ≠ [] then none
        else (match s.allocSlot 4 t with
          | none => none
          | some (s1, id) => some (((s1.assignDomain id).actOnNode id none).odsReply mid 0 none))
      | res => some (s.putBad mid gen 0 res t.node.toNat)

/-- TIMER: none where it stalls. -/
def State.timer (s : State) (mid : Nat) (gen : BitVec 8) (slot list delay : Nat) (target : Bool) : Option State :=
  match s.odsRefuse mid gen 7 with
  | some t => some t
  | none =>
    let t := s.winToken mid slot
    if ((s.thr mid).tokenIn slot).isSome then some (s.odsReply mid 0xA none)
    else if delay = 0 ∨ 2 ^ 24 ≤ delay ∨ ¬ s.dlOn list then some (s.odsReply mid 8 none)
    else
      let e : DlEnt :=
        { kind := .timer, tick := s.dlNow list + delay, mid := mid, node := t.node, flow := t.flow, cookie := t.cresult,
          target := target }
      match s.dlReserve list e with
      | none => none
      | some (s1, i) => some (s1.odsReply mid 0 (some (s1.dlHandle list i)))

/-- A stalled or fresh operation of R249 runs: none where it stalls. -/
def State.runOp (s : State) (o : StalledOp) : Option State :=
  match o.op with
  | 2 => s.put o.mid o.gen o.slot none
  | 3 => s.put o.mid o.gen o.slot (some o.a)
  | 6 => s.soft o.mid o.gen o.slot
  | _ => s.timer o.mid o.gen o.slot o.a o.b (o.c == 1)

/-- An operation of R249 reaches ODS: it waits for the thread's LSU0 accesses (R318); a slot above 7 or a list above 15
answers BAD_OP (R328). -/
def State.startOp (s : State) (o : StalledOp) : State :=
  if 8 ≤ o.slot ∨ (o.op = 7 ∧ 16 ≤ o.a) then s.odsReply o.mid 0xA none
  else if s.windowBusy o.mid then s
  else match s.runOp o with
    | some t => t.reThrottle
    | none => s.stall o

/-- TKP_PUT (R227). -/
def execTkpPut (mid : Nat) (gen : BitVec 8) (slot : Nat) (s : State) : Out :=
  .next (s.startOp { op := 2, mid := mid, gen := gen, slot := slot })

/-- TKP_PUT_AT (R243): the instant's low 40 bits. -/
def execTkpPutAt (mid : Nat) (gen : BitVec 8) (slot instant : Nat) (s : State) : Out :=
  .next (s.startOp { op := 3, mid := mid, gen := gen, slot := slot, a := instant % 2 ^ 40 })

/-- TKP_SOFT (R228). -/
def execTkpSoft (mid : Nat) (gen : BitVec 8) (slot : Nat) (s : State) : Out :=
  .next (s.startOp { op := 6, mid := mid, gen := gen, slot := slot })

/-- TKP_TIMER (R245). -/
def execTkpTimer (mid : Nat) (gen : BitVec 8) (slot list delay : Nat) (target : Bool) (s : State) : Out :=
  .next (s.startOp { op := 7, mid := mid, gen := gen, slot := slot, a := list, b := delay, c := b2n target })

/-- PUT_STALL_END (R249): the condition that stalled the i-th stalled operation has cleared. -/
def execPutStallEnd (i : Nat) (s : State) : Out :=
  .next (match s.ods.stalls[i]? with
    | none => s
    | some o =>
      match ({ s with ods := { s.ods with stalls := s.ods.stalls.eraseIdx i } } : State).runOp o with
      | some t => t.reThrottle
      | none => s)

/-- TKP_UNLOCK (R233). -/
def execTkpUnlock (mid : Nat) (gen : BitVec 8) (slot : Nat) (s : State) : Out :=
  .next (match s.odsRefuse mid gen 9 with
    | some t => t
    | none =>
      if 8 ≤ slot then s.odsReply mid 0xA none
      else match s.holds mid gen slot with
        | none => s.odsReply mid 5 none
        | some id => (s.unlock id).odsReply mid 0 none)

/-- TKP_DISCARD (R225). -/
def execTkpDiscard (mid : Nat) (gen : BitVec 8) (slot : Nat) (s : State) : Out :=
  .next (match s.odsRefuse mid gen 7 with
    | some t => t
    | none =>
      if 8 ≤ slot then s.odsReply mid 0xA none
      else if s.windowBusy mid then s
      else match s.holds mid gen slot with
        | none => s.odsReply mid 5 none
        | some id => ((((s.writeBack mid slot).emptySlot mid slot).discardToken id).odsReply mid 0 none).reThrottle)

/-! ## CANCEL (R246) -/

/-- An armed entry is cancelled. -/
def State.cancel (s : State) (l i : Nat) : State :=
  let e := s.dlEnt l i
  let s1 := (s.dlFree l i).count (R.ODS_CNT 13)
  match e.kind with
  | .token => (s1.setSlot e.id { (s1.slot e.id) with timed := none }).endDiscard e.id
  | .reserved => s1.setSlot e.id { (s1.slot e.id) with timed := none, disc := true }
  | _ => { s1 with ods := { s1.ods with held := s1.ods.held.filter (fun c => !(c.kind == 4 && c.at_ == l && c.ent == i)) } }

/-- TKP_CANCEL (R246). -/
def execTkpCancel (mid : Nat) (gen : BitVec 8) (handle : Nat) (s : State) : Out :=
  .next (match s.odsRefuse mid gen 7 with
    | some t => t
    | none =>
      let l := bitsOf handle 20 4
      let i := bitsOf handle 4 16
      let tag := BitVec.ofNat 4 handle
      let e := s.dlEnt l i
      if e.kind = .none then
        s.odsReply mid (if s.dlTag l i = (tag + 1, mid + 1) then 3 else 7) none
      else if e.tag ≠ tag ∨ e.mid ≠ mid then s.odsReply mid 7 none
      else ((s.cancel l i).odsReply mid 2 none).reThrottle)

/-! ## Order restoration's timeout (R236) -/

/-- The next-out passes missing SEQs up to a waiting token, those in between that are done leaving in their turn. -/
def State.skipTo (s : State) (d id : Nat) : Nat → State
  | 0 => s
  | n + 1 =>
    let o := s.domOf d
    if ¬ o.wait.contains id then s
    else
      let dist (k : Nat) : Nat := ((s.slot k).tok.seq - o.out).toNat
      match o.wait.find? (fun k => o.wait.all (fun j => decide (dist k ≤ dist j))) with
      | some k => State.skipTo ((s.setDom d { o with out := (s.slot k).tok.seq }).drain d) d id n
      | none => s

/-- ORDER_TIMEOUT (R236): a done token has waited longer than ORDER_TMO. -/
def execOrderTimeout (id : Nat) (s : State) : Out :=
  .next (
    let x := s.slot id
    let tmo := s.fd R.ODS_CFG F.ODS_CFG_ORDER_TMO
    match x.dom with
    | some d =>
      if x.place ≠ .ordered ∨ tmo = 0 then s
      else
        let s1 := s.passTo (x.doneAt + tmo * 250 + 1)
        let s2 := ((s1.count (R.ODS_CNT 8)).odsInt F.ODS_INT_ORDER_SKIP).raise
          (odsRec 0x2803 2 id x.pipe (s.domOf d).out.toNat (domDetail d))
        (s2.skipTo d id ((s.domOf d).wait.length + 1)).reThrottle
    | none => s)

/-! ## Release (R239) -/

/-- A member's copy of a token has been handed over: with the last one the slot is free (R214). -/
def State.relDone (s : State) (id : Nat) : State :=
  let x := s.slot id
  if x.refs ≤ 1 then (s.dropSlot id).count (R.ODS_CNT 4) else s.setSlot id { x with refs := x.refs - 1 }

/-- Take the head of a release list. -/
def State.relPop (s : State) (n : Nat) : State :=
  { s with ods := { s.ods with rel := s.ods.rel.set (fun _ => []) n (s.relList n).tail } }

/-- RELEASE_HANDOFF (R239, R75): the next token of a port's release list goes to PX. -/
def execReleaseHandoff (n : Nat) (s : State) : Out :=
  .next (
    if 144 ≤ n then s
    else match s.relList n with
      | [] => s
      | e :: _ =>
        let p := s.port n
        let g : EgTok := { tok := e.tok, cut := (s.slot e.id).cut, bad := (s.slot e.id).bad }
        if ¬ s.up n then (((s.relPop n).relDone e.id).dropEgress n [g]).reThrottle
        else if 64 ≤ p.epq.length then s
        else (((s.relPop n).relDone e.id).setPort n { p with epq := p.epq ++ [g] }).reThrottle)

/-! ## Delay lists (R242 to R245, R215) -/

/-- The entry of a list that expires next: the least tick, and at one tick the one placed first; entries reserved for
tokens not yet out of order restoration, and timers that wait for a slot, do not expire. -/
def State.dlNext (s : State) (l : Nat) : Option (Nat × DlEnt) :=
  let es := (s.dlList l).filter (fun e => (e.2.kind == .timer || e.2.kind == .token)
    && !s.ods.held.any (fun c => c.kind == 4 && c.at_ == l && c.ent == e.1))
  es.find? (fun e => es.all (fun f => decide (e.2.tick < f.2.tick ∨ (e.2.tick = f.2.tick ∧ e.2.order ≤ f.2.order))))

/-- An entry expires (R244, R245). -/
def State.dlExpire (s : State) (l i : Nat) (e : DlEnt) : State :=
  let late := decide (e.tick < s.dlNow l)
  let s1 := if late then s.countLate e.late else s
  match e.kind with
  | .token =>
    ((s1.dlFree l i).setSlot e.id { (s1.slot e.id) with timed := none }).releaseNow e.id
  | _ =>
    match s1.allocSlot 4 (s1.timerTok e) with
    | some (s2, id) => s2.timerFire l i id
    | none =>
      ((if late then s1 else s1.countLate e.late).setDl l i { e with late := true }).holdCell
        { kind := 4, tok := s1.timerTok e, at_ := l, ent := i }

/-- DLIST_EXPIRE (R244): the tick of a list's next entry arrives. A spilled body is brought back first (R215). -/
def execDlistExpire (l : Nat) (s : State) : Out :=
  .next (match s.dlNext l with
    | none => s
    | some (i, e) =>
      let s1 := s.until (e.tick * s.dlTick l)
      if s1.dlNow l < e.tick ∨ (e.kind = .token ∧ (s.slot e.id).spilled) then s
      else (s1.dlExpire l i e).reThrottle)

/-- The spill address of a token (R215). -/
def State.spillAt (s : State) (id : Nat) : Nat := s.fd R.ODS_SPILL F.ODS_SPILL_BASE * 65536 + id * 64

/-- TOKEN_SPILL (R215): a token on a delay list whose instant lies more than 1 ms ahead. -/
def execTokenSpill (id : Nat) (s : State) : Out :=
  .next (
    let x := s.slot id
    match x.place with
    | .listed l i =>
      if s.flag R.ODS_SPILL F.ODS_SPILL_EN ∧ ¬ x.spilled
          ∧ s.time.ptp.toNat + 1000000 < (s.dlEnt l i).tick * s.dlTick l then
        (s.setBytes .dram (s.spillAt id) x.tok.bytes).setSlot id { x with spilled := true }
      else s
    | _ => s)

/-- TOKEN_UNSPILL (R215): the body comes back; `ue` says that its read meets an uncorrectable error (R216). -/
def execTokenUnspill (id : Nat) (ue : Bool) (s : State) : Out :=
  .next (
    let x := s.slot id
    if ¬ x.spilled then s
    else if ue then ((s.setSlot id { x with spilled := false }).storeUe id).reThrottle
    else s.setSlot id { x with spilled := false, tok := Token.ofBytes (s.bytes .dram (s.spillAt id) 64) })

/-! ## FLUSH cells and drains (R252) -/

/-- ODS_FLUSH_CELL (R252): a FLUSH cell reaches ODS on a pipeline; the port's drain waits for its last token. -/
def execOdsFlushCell (pl : Nat) (s : State) : Out :=
  .next (
    match (s.pipe pl).toOds with
    | f :: rest =>
      if f.tok.ctype ≠ 5 ∨ 4 ≤ pl then s
      else
        let s1 := s.setPipe pl { (s.pipe pl) with toOds := rest }
        let s2 : State := { s1 with ods := { s1.ods with
          drains := s1.ods.drains ++ [{ port := f.tok.inport.toNat, since := s.time.clock }] } }
        (s2.dropSlot f.tok.id.toNat).reThrottle
    | [] => s)

/-- DRAIN_TMO (R252): FLUSH_TMO milliseconds pass first. -/
def execDrainTmo (n : Nat) (s : State) : Out :=
  .next (match s.ods.drains.find? (fun d => d.port == n) with
    | none => s
    | some d =>
      let s1 := s.passTo (d.since + s.fd R.ODS_CFG F.ODS_CFG_FLUSH_TMO * msCyc)
      let s2 : State := { s1 with ods := { s1.ods with drains := s1.ods.drains.erase d } }
      (s2.raise (mkErr 5 0xFF 0x280A 0 0 0 0 0 n (s.portTokens n))).setDrained n)

/-! ## PROBE (R253) -/

/-- A write to MGT_PROBE injects one PROBE. -/
def State.probeWrite (s : State) (v : W32) : State :=
  let t : Token := { ctype := 7, flow := BitVec.ofNat 22 (bitsOf v.toNat 0 22), epoch := s.epoch, inport := 0xFF,
                     egress := 0x1F0, its := s.time.ptp }
  s.injectCell 3 (bitsOf v.toNat 30 2) (t.stampProbe 0 s.time.ptp.toNat)

/-- PROBE_INJECT (R253): a write to MGT_PROBE. -/
def execProbeInject (pipe flow : Nat) (s : State) : Out :=
  .next ((s.arrive R.MGT_PROBE).probeWrite (BitVec.ofNat 32 (pipe % 4 * 2 ^ 30 + flow % 2 ^ 22)))

/-! ## Configuration (R211) -/

/-- CFG_BAD. -/
def State.odsCfgBad (s : State) (off : Nat) (v : W32) : State := s.raise (mkErr 5 0xFF 0x280B 0 3 off 0 0 v.toNat)

/-- Whether the flow and slot state of a base and a LOG end within table memory (R210). -/
def flowFits (base log : Nat) : Bool := decide (base * 65536 + 2 ^ 24 + 2 ^ log * 16 ≤ 96 * 2 ^ 20)

/-- ODS decides a value for ODS_STORE. -/
def State.storeWrite (s : State) (v : W32) : State :=
  let log := bitsOf v.toNat 0 5
  let fb := s.fd R.ODS_FLOWMEM F.ODS_FLOWMEM_BASE
  if ¬ s.odsRuns ∧ 14 ≤ log ∧ log ≤ 19 ∧ bitsOf v.toNat 20 7 * 2 ^ 20 + 2 ^ log * 64 ≤ 128 * 2 ^ 20
      ∧ (fb < 32 ∨ flowFits fb log) then s.wr R.ODS_STORE (v &&& 0x07FFFF1F)
  else s.odsCfgBad R.ODS_STORE v

/-- ODS decides a value for ODS_FLOWMEM. -/
def State.flowmemWrite (s : State) (v : W32) : State :=
  let b := bitsOf v.toNat 0 11
  if ¬ s.odsRuns ∧ 32 ≤ b ∧ flowFits b (s.fd R.ODS_STORE F.ODS_STORE_LOG) then s.wr R.ODS_FLOWMEM (v &&& 0x7FF)
  else s.odsCfgBad R.ODS_FLOWMEM v

/-- ODS_STORE_PAIR (R211). -/
def execOdsStorePair (mid : Nat) (gen : BitVec 8) (value : W32) (s : State) : Out :=
  .next (match s.takePair R.ODS_STORE mid gen value with
    | some t => t.storeWrite value
    | none => s)

/-- ODS_FLOWMEM_PAIR (R211). -/
def execOdsFlowmemPair (mid : Nat) (gen : BitVec 8) (value : W32) (s : State) : Out :=
  .next (match s.takePair R.ODS_FLOWMEM mid gen value with
    | some t => t.flowmemWrite value
    | none => s)

/-! ## Banked registers (ODS_TCFG, ODS_TGMASK, ODS_TUSE) -/

/-- The thread that ODS_TSEL names, where it names one. -/
def State.tsel (s : State) : Option Nat :=
  let m := s.fd R.ODS_TSEL F.ODS_TSEL_MID
  if midIsThread m then some m else none

/-- A write to ODS_TCFG. -/
def State.tcfgWrite (s : State) (v : W32) : State :=
  match s.tsel with
  | some m => { s with ods := { s.ods with tcfg := s.ods.tcfg.set (fun _ => 0x80000004) m (v &&& 0x8000000F) } }
  | none => s

/-- A write to a half of ODS_TGMASK. -/
def State.tgmaskWrite (s : State) (j : Nat) (v : W32) : State :=
  match s.tsel with
  | some m =>
    let new := BitVec.ofNat 64 (putBits (s.tgmask m) (32 * j) 32 v.toNat)
    { s with ods := { s.ods with tgmask := s.ods.tgmask.set (fun _ => 0xFFFFFFFFFFFFFFFF) m new } }
  | none => s

/-- ODS_TUSE as a read returns it. -/
def State.tuseRead (s : State) : W32 :=
  match s.tsel with
  | some m => BitVec.ofNat 32 (b2n (s.ods.gets.any (fun g => g.1 == m)) * 256 + s.heldBy m)
  | none => 0

end Sys2Proof.Machine
end

