-- ==== Sys2Proof/Machine/Spm.lean ====
section
/-! DEFINITION. Scratchpads, the secure vault and semaphores (13_scratch_semaphores): the meanings of their commands. -/
namespace Sys2Proof.Machine
open Sys2Proof

/-! ## Scratchpads (R424, R427 to R429) -/

/-- A read of a scratchpad by address: its bytes, or none where the answer is an error response (R428, R429); `ue` says that
the read meets an uncorrectable error. -/
def State.spmRead (s : State) (c addr n : Nat) (ue : Bool) : State × Option (List Byte) :=
  if s.spmPoisoned c addr n then (s, none)
  else if ue then (s.spmUe c addr, none)
  else (s, some (s.bytes (spadOf c) addr n))

/-- DMA_STARVED (R424): a DMA request has waited past DMA_WARN on a bank. -/
def execDmaStarved (c bank : Nat) (s : State) : Out :=
  .next (
    if 16 ≤ c ∨ s.fd (R.CLU_SPM_CFG c) F.CLU_SPM_CFG_DMA_WARN = 0 then s
    else (s.count (R.CLU_SPM_CNT c 1)).raiseLim msCyc c (mkErr 8 c 0x4003 0 0 0 0 0 (bank % 16))
      (fun n e => { e with d0 := BitVec.ofNat 32 (bank % 16 + min n 255 * 256) }))

/-- MAILBOX (R427): a master writes bytes of a scratchpad that reach a mailbox. -/
def execMailbox (mid c addr : Nat) (bytes : List Byte) (s : State) : Out :=
  .next (
    if 16 ≤ c ∨ bytes = [] ∨ spadSize c < addr + bytes.length
        ∨ ((s.mailboxOf c addr).isNone ∧ (s.mailboxOf c (addr + bytes.length - 1)).isNone) then s
    else s.spmWrite c addr mid bytes)

/-- A write to CLU_SPM_CLEAR (R429): the word becomes zeros and is clean. -/
def State.spmClearWrite (s : State) (mid : Nat) (gen : BitVec 8) (c : Nat) (v : W32) : State :=
  let a := bitsOf v.toNat 3 16 * 8
  if mid = s.keeperMid c ∨ (0x800 ≤ mid ∧ mid ≤ 0x807) ∨ (mid = 0xA60 ∧ ¬ s.locked) then
    let t := s.spmWrite c a mid (List.replicate 8 0)
    { t with spmBad := t.spmBad.filter (fun k => k != spmKey c a) }
  else s.raise (mkErr 8 c 0x4007 0 0 0 mid gen.toNat (v.toNat % 2 ^ 19) 2)

/-- SPM_CLEAR (R429). -/
def execSpmClear (mid : Nat) (gen : BitVec 8) (c addr : Nat) (s : State) : Out :=
  .next (if 16 ≤ c then s
    else s.reach (R.CLU_SPM_CLEAR c) mid gen (BitVec.ofNat 32 (addr % 2 ^ 19)) (fun t =>
      t.spmClearWrite mid gen c (BitVec.ofNat 32 (addr % 2 ^ 19))))

/-! ## The secure vault (R432 to R435) -/

/-- Whether a wipe runs, or a cause of one has arisen (R434). -/
def State.vaultWiping (s : State) : Bool := s.flag R.MGT_VAULT_STATUS F.MGT_VAULT_STATUS_WIPING || s.wipes != []

/-- A bit of a pair of 32-bit page registers. -/
def State.vaultPage (s : State) (r : Nat → Nat) (a : Nat) : Bool := bitAt (s.rd (r (a / 4096 / 32))).toNat (a / 4096 % 32)

/-- A VAULT_DENIED or VAULT_LOCKED record. -/
def State.vaultErr (s : State) (code mid : Nat) (gen : BitVec 8) (a cls : Nat) : State :=
  s.raise (mkErr 8 0x10 code 2 0 0 mid gen.toNat (a % 2 ^ 18) cls)

/-- An access to the vault: the state, and the bytes read ([] for a write), or none for an error response. -/
def State.vaultAccess (s : State) (mid : Nat) (gen : BitVec 8) (a n : Nat) (data : Option (List Byte)) (ue : Bool) :
    State × Option (List Byte) :=
  let cls := if data.isSome then 2 else 1
  if s.vaultWiping then (s, none)
  else if s.flag R.MGT_VAULT_STATUS F.MGT_VAULT_STATUS_RETIRED ∨ mid < 0x800 ∨ 0x808 < mid
      ∨ 0x40000 < a + n ∨ n = 0 ∨ a / 64 ≠ (a + n - 1) / 64 then (s.vaultErr 0x4004 mid gen a cls, none)
  else match data with
    | some bs =>
      if s.vaultPage R.MGT_VAULT_LOCK a then (s.vaultErr 0x4005 mid gen a cls, none)
      else (s.setBytes .vault a (bs.take n), some [])
    | none =>
      if mid ≠ 0x808 ∧ s.vaultPage R.MGT_VAULT_HIDE a then (s.vaultErr 0x4004 mid gen a cls, none)
      else if s.spmPoisoned 17 a n then (s, none)
      else if ue then (s.spmUe 17 a, none)
      else (s, some (s.bytes .vault a n))

/-- VAULT_ACCESS (R432): a master reads `n` bytes, or writes `data`; its response word shows what was read, or bit 39 for an
error response. -/
def execVaultAccess (mid : Nat) (gen : BitVec 8) (addr n : Nat) (data : Option (List Byte)) (ue : Bool) (s : State) : Out :=
  .next (
    match s.vaultAccess mid gen addr n data ue with
    | (t, some bs) => t.setResp mid (BitVec.ofNat 40 (leNat (bs.take 4)))
    | (t, none) => t.setResp mid (BitVec.ofNat 40 (2 ^ 39)))

/-- Whether a master may write the vault's registers (R433, R447). -/
def vaultMay (mid : Nat) : Bool := decide (0x800 ≤ mid ∧ mid ≤ 0x808)

/-- A write to MGT_VAULT_LOCK or MGT_VAULT_HIDE sets bits (R433). -/
def State.vaultBitsWrite (s : State) (off mid : Nat) (gen : BitVec 8) (v : W32) : State :=
  if vaultMay mid then s.orBits off v.toNat else s.vaultErr 0x4004 mid gen 0 2

/-- VAULT_LOCK_SET (R433). -/
def execVaultLockSet (mid : Nat) (gen : BitVec 8) (j : Nat) (pages : W32) (s : State) : Out :=
  .next (if 2 ≤ j then s else s.reach (R.MGT_VAULT_LOCK j) mid gen pages (fun t =>
    t.vaultBitsWrite (R.MGT_VAULT_LOCK j) mid gen pages))

/-- VAULT_HIDE_SET (R433). -/
def execVaultHideSet (mid : Nat) (gen : BitVec 8) (j : Nat) (pages : W32) (s : State) : Out :=
  .next (if 2 ≤ j then s else s.reach (R.MGT_VAULT_HIDE j) mid gen pages (fun t =>
    t.vaultBitsWrite (R.MGT_VAULT_HIDE j) mid gen pages))

/-- A cause of a wipe arises (R434). -/
def State.vaultCause (s : State) (cause : Nat) : State := { s with wipes := s.wipes ++ [cause] }

/-- A value for MGT_VAULT_WIPE. -/
def State.vaultWipeWrite (s : State) (mid : Nat) (gen : BitVec 8) (v : W32) : State :=
  if ¬ vaultMay mid then s.vaultErr 0x4004 mid gen 0 2
  else if bitAt v.toNat 0 then s.vaultCause 5 else s

/-- VAULT_WIPE_CMD (R434). -/
def execVaultWipeCmd (mid : Nat) (gen : BitVec 8) (value : W32) (s : State) : Out :=
  .next (match s.takePair R.MGT_VAULT_WIPE mid gen value with
    | some t => t.vaultWipeWrite mid gen value
    | none => s)

/-- VAULT_WIPE (R434): MGT starts the wipe for the first cause that has arisen. -/
def execVaultWipe (s : State) : Out :=
  .next (match s.wipes with
    | [] => s
    | c :: rest =>
      if s.flag R.MGT_VAULT_STATUS F.MGT_VAULT_STATUS_WIPING then s
      else (({ s with wipes := rest } : State).wf R.MGT_VAULT_STATUS F.MGT_VAULT_STATUS_WIPING 1).wf R.MGT_VAULT_STATUS
        F.MGT_VAULT_STATUS_CAUSE c)

/-- What a wipe leaves: zeros, clean words, no page locked or hidden. -/
def State.vaultZero (s : State) : State :=
  let t := s.zero .vault 0 0x40000
  (((({ t with spmBad := t.spmBad.filter (fun k => k / 2 ^ 17 != 17) } : State).wr (R.MGT_VAULT_LOCK 0) 0).wr
    (R.MGT_VAULT_LOCK 1) 0).wr (R.MGT_VAULT_HIDE 0) 0).wr (R.MGT_VAULT_HIDE 1) 0

/-- VAULT_WIPE_DONE (R434): the wipe ends with its record. -/
def execVaultWipeDone (s : State) : Out :=
  .next (
    if ¬ s.flag R.MGT_VAULT_STATUS F.MGT_VAULT_STATUS_WIPING then s
    else
      let cause := s.fd R.MGT_VAULT_STATUS F.MGT_VAULT_STATUS_CAUSE
      let t := s.vaultZero.wf R.MGT_VAULT_STATUS F.MGT_VAULT_STATUS_WIPING 0
      let n := t.fd R.MGT_VAULT_STATUS F.MGT_VAULT_STATUS_WIPES
      (t.wf R.MGT_VAULT_STATUS F.MGT_VAULT_STATUS_WIPES (if cause = 1 then n else min 255 (n + 1))).raise
        (mkErr 8 0x10 0x4006 0 0 0 0 0 cause))

/-! ## Semaphores (R436 to R441) -/

/-- The number of semaphores, and the first lease (R436). -/
def semCount : Nat := 4160
def semLease : Nat := 4096

/-- A semaphore. -/
def State.sem (s : State) (n : Nat) : SemSt := s.sems.get (fun _ => {}) n

/-- Set a semaphore. -/
def State.setSem (s : State) (n : Nat) (x : SemSt) : State := { s with sems := s.sems.set (fun _ => {}) n x }

/-- The waiters of all semaphores. -/
def State.semWaiters (s : State) : Nat := (s.sems.map (fun e => e.2.waiters.length)).sum

/-- Count one of SEM's events. -/
def State.semCnt (s : State) (k : Nat) : State := s.count (R.SEM_CNT k)

/-- The owner of a semaphore, as the response word names it (R438). -/
def SemSt.ownerBits (x : SemSt) : Nat :=
  match x.owner with | some (m, g) => g.toNat * 2 ^ 20 + m % 4096 * 256 | none => 0

/-- A response word (R438). -/
def State.semWord (s : State) (n res : Nat) : W32 := BitVec.ofNat 32 (res * 2 ^ 28 + (s.sem n).ownerBits)

/-- The offset that a read of semaphore `n` used. -/
def semOff (n : Nat) (try_ : Bool) : Nat := if try_ then R.SEM_TRY n else R.SEM_ACQ n

/-- A read that the host path or the SPI target left waiting gets its value (R437, R660, R680). -/
def State.hostAnswer (s : State) (mid off : Nat) (w : W32) : State :=
  if mid = 0xA60 ∧ s.hif.reads.any (fun r => r.off == off && r.bar == 0) then
    let h := s.hif
    { s with hif := { h with reads := h.reads.filter (fun r => r.off != off || r.bar != 0), last := some (.data (toLe 4 w.toNat)) } }
  else if mid = 0xA90 ∧ (s.low.spitBusy.any (fun b => b.1 == off)) then
    let l := s.low
    { s with low := { l with spitBusy := none, spit := { status := 0, seq := l.spit.seq, data := w } } }
  else s

/-- SEM answers a master's read. -/
def State.semAnswer (s : State) (mid off : Nat) (w : W32) : State :=
  ((s.setResp mid (w.setWidth 40)).answer mid (LongOp.isRegLoad off) [w.setWidth 40]).hostAnswer mid off w

/-- SEM grants a semaphore: the RESULT shows an abandoned mark, which clears. -/
def State.semGrant (s : State) (n mid : Nat) (gen : BitVec 8) : State × Nat :=
  let x := s.sem n
  ((s.setSem n { x with owner := some (mid, gen), abandoned := false, expired := false, since := s.time.clock }).semCnt 0,
    if x.abandoned then 1 else 0)

/-- A semaphore that has become free goes to its first waiter. -/
def State.semPass (s : State) (n : Nat) : State :=
  let x := s.sem n
  match x.waiters with
  | [] => s
  | w :: ws =>
    let r := (s.setSem n { x with waiters := ws }).semGrant n w.mid w.gen
    r.1.semAnswer w.mid (R.SEM_ACQ n) (r.1.semWord n r.2)

/-- A semaphore is freed, and passed on. -/
def State.semFree (s : State) (n : Nat) (abandoned expired : Bool) : State :=
  let x := s.sem n
  (s.setSem n { x with owner := none, abandoned := x.abandoned || abandoned, expired := x.expired || expired }).semPass n

/-- Whether a master may use a lease (R442). -/
def State.leaseMay (s : State) (mid : Nat) : Bool :=
  decide (0x800 ≤ mid ∧ mid ≤ 0x807) || (midIsThread mid && s.keeperMid (midCluster mid) == mid)

/-- LEASE_DENIED (R442). -/
def State.leaseDenied (s : State) (n mid : Nat) (gen : BitVec 8) (off : Nat) : State :=
  s.raise (mkErr 9 0 0x4806 2 3 off mid gen.toNat (n - semLease))

/-- SEM_TIMEOUT or SEM_BUSY (R446). -/
def State.semLim (s : State) (code n mid : Nat) (gen : BitVec 8) (off : Nat) : State :=
  s.raiseLim msCyc 0 (mkErr 9 0 code 0 3 off mid gen.toNat n)
    (fun k e => { e with d0 := BitVec.ofNat 32 (n + k % 65536 * 65536) })

/-- A read of SEM_ACQ or SEM_TRY (R437): the response word, or none while it waits. -/
def State.semRead (s : State) (mid : Nat) (gen : BitVec 8) (n : Nat) (try_ : Bool) : State × Option W32 :=
  let off := semOff n try_
  let x := s.sem n
  match s.refuseReq 9 0 mid gen 3 off 8 with
  | some t => (t, some (t.semWord n 3))
  | none =>
    if semLease ≤ n ∧ ¬ s.leaseMay mid then (s.leaseDenied n mid gen off, some (s.semWord n 6))
    else match x.owner with
      | none => let r := s.semGrant n mid gen; (r.1, some (r.1.semWord n r.2))
      | some o =>
        if o = (mid, gen) then (s, some (s.semWord n 5))
        else if try_ ∨ s.fd R.SEM_CFG F.SEM_CFG_TMO = 0 then
          ((s.semCnt 2).semLim 0x4802 n mid gen off, some (s.semWord n 2))
        else if 256 ≤ s.semWaiters then ((s.semCnt 6).semLim 0x4803 n mid gen off, some (s.semWord n 4))
        else
          let w : SemWait := { mid := mid, gen := gen, since := s.time.clock }
          ((s.setSem n { x with waiters := x.waiters ++ [w] }).semCnt 1, none)

/-- Give a read its response, where it has one. -/
def semReply (r : State × Option W32) (mid off : Nat) : State :=
  match r.2 with | some w => r.1.semAnswer mid off w | none => r.1

/-- A read of SEM through the register router: turned away with an error response (R695, R698), or made. -/
def State.semAsk (s : State) (mid : Nat) (gen : BitVec 8) (off : Nat) (f : State → State × Option W32) : State :=
  match s.turnedAway mid gen off false 0 with
  | some t => t.answer mid (LongOp.isRegLoad off) [] true
  | none => semReply (f s) mid off

/-- SEM_ACQUIRE (R437). -/
def execSemAcquire (mid : Nat) (gen : BitVec 8) (n : Nat) (s : State) : Out :=
  .next (if semCount ≤ n then s else s.semAsk mid gen (R.SEM_ACQ n) (fun t => t.semRead mid gen n false))

/-- SEM_TRY (R437). -/
def execSemTry (mid : Nat) (gen : BitVec 8) (n : Nat) (s : State) : Out :=
  .next (if semCount ≤ n then s else s.semAsk mid gen (R.SEM_TRY n) (fun t => t.semRead mid gen n true))

/-- SEM_WAIT_TIMEOUT (R437): TMO passes for a waiter. -/
def execSemWaitTimeout (n mid : Nat) (s : State) : Out :=
  .next (match (s.sem n).waiters.find? (fun w => w.mid == mid) with
    | none => s
    | some w =>
      let s1 := s.passTo (w.since + 2 * s.fd R.SEM_CFG F.SEM_CFG_TMO)
      let s2 := s1.setSem n { (s1.sem n) with waiters := (s1.sem n).waiters.erase w }
      ((s2.semCnt 2).semLim 0x4802 n mid w.gen (R.SEM_ACQ n)).semAnswer mid (R.SEM_ACQ n) (s2.semWord n 2))

/-- A write to SEM_REL (R439): the state, and whether the answer is an error response. -/
def State.semRel (s : State) (mid : Nat) (gen : BitVec 8) (n : Nat) : State × Bool :=
  let off := R.SEM_REL n
  match s.refuseReq 9 0 mid gen 3 off 9 with
  | some t => (t, true)
  | none =>
    if semLease ≤ n ∧ ¬ s.leaseMay mid then (s.leaseDenied n mid gen off, true)
    else if (s.sem n).owner = some (mid, gen) then (s.semFree n false false, false)
    else ((s.semCnt 3).raise (mkErr 9 0 0x4801 2 3 off mid gen.toNat (s.sem n).ownerBits), true)

/-- Whether an operation is a register store of LSU1 at an offset (R693). -/
def LongOp.isRegStore (off : Nat) (o : LongOp) : Bool :=
  o.unit == 0x280 && o.op == 1 && (o.o0 + o.t).toNat == 0xFE * 2 ^ 32 + off

/-- SEM_RELEASE (R439). -/
def execSemRelease (mid : Nat) (gen : BitVec 8) (n : Nat) (s : State) : Out :=
  .next (if semCount ≤ n then s else
    match s.turnedAway mid gen (R.SEM_REL n) true 0 with
    | some t => t.answer mid (LongOp.isRegStore (R.SEM_REL n)) [] true
    | none =>
      let r := (s.arrive (R.SEM_REL n)).semRel mid gen n
      r.1.answer mid (LongOp.isRegStore (R.SEM_REL n)) [] r.2)

/-- The SEM_ABANDON record (R440, R441). -/
def semAbandonRec (mid : Nat) (gen : BitVec 8) (n why : Nat) : ErrRec := mkErr 9 0 0x4804 0 0 0 mid gen.toNat n why

/-- A write to SEM_FORCE (R441). -/
def State.semForceWrite (s : State) (mid : Nat) (gen : BitVec 8) (v : W32) : State :=
  let n := bitsOf v.toNat 0 13
  if (0x800 ≤ mid ∧ mid ≤ 0x807) ∨ (mid = 0xA60 ∧ ¬ s.locked) then
    (match (s.sem n).owner with
    | some (m, g) => if semCount ≤ n then s else ((s.semFree n true false).semCnt 4).raise (semAbandonRec m g 1 2)
    | none => s)
  else s.raise (mkErr 9 0 0x4807 0 3 R.SEM_FORCE mid gen.toNat v.toNat)

/-- SEM_FORCE (R441). -/
def execSemForce (mid : Nat) (gen : BitVec 8) (n : Nat) (s : State) : Out :=
  .next (s.reach R.SEM_FORCE mid gen (BitVec.ofNat 32 (n % 8192)) (fun t =>
    t.semForceWrite mid gen (BitVec.ofNat 32 (n % 8192))))

/-- The semaphores a master holds. -/
def State.semsOf (s : State) (mid : Nat) : List Nat :=
  (s.sems.filter (fun e => match e.2.owner with | some (m, _) => m == mid | none => false)).map (·.1)

/-- SEM acts on a master's reset or revocation (R440): its waits go, its semaphores are freed as abandoned. -/
def State.semAbandon (s : State) (mid why : Nat) : State :=
  let ns := s.semsOf mid
  let s1 : State := { s with sems := (s.sems.map (fun e =>
    (e.1, { e.2 with waiters := e.2.waiters.filter (fun w => w.mid != mid) }))).filter (fun e => e.2 ≠ {}) }
  let s2 := (ns.foldl (fun t n => t.semFree n true false) s1).countN (R.SEM_CNT 4) ns.length
  if ns = [] then s2 else s2.raise (semAbandonRec mid (s.lastGenOf mid) ns.length why)

/-- A master is reset or revoked: SEM has yet to act (R440). -/
def State.askAbandon (s : State) (mid why : Nat) : State := { s with abandons := s.abandons ++ [(mid, why)] }

/-- SEM_ABANDON (R440): SEM acts on the next master that was reset or revoked. -/
def execSemAbandon (s : State) : Out :=
  .next (match s.abandons with
    | [] => s
    | (m, why) :: rest => ({ s with abandons := rest } : State).semAbandon m why)

/-! ## Leases (R442, R443) -/

/-- A read of SEM_RENEW (R443). -/
def State.leaseRead (s : State) (mid : Nat) (gen : BitVec 8) (j : Nat) : State × W32 :=
  let n := semLease + j
  let off := R.SEM_RENEW j
  match s.refuseReq 9 0 mid gen 3 off 8 with
  | some t => (t, t.semWord n 3)
  | none =>
    if ¬ s.leaseMay mid then (s.leaseDenied n mid gen off, s.semWord n 6)
    else if (s.sem n).owner = some (mid, gen) then
      (s.setSem n { (s.sem n) with since := s.time.clock }, s.semWord n 0)
    else (s, s.semWord n 7)

/-- LEASE_RENEW (R443). -/
def execLeaseRenew (mid : Nat) (gen : BitVec 8) (j : Nat) (s : State) : Out :=
  .next (if 64 ≤ j then s else s.semAsk mid gen (R.SEM_RENEW j) (fun t =>
    ((t.leaseRead mid gen j).1, some (t.leaseRead mid gen j).2)))

/-- LEASE_EXPIRE (R443). -/
def execLeaseExpire (j : Nat) (s : State) : Out :=
  .next (
    let n := semLease + j
    match (s.sem n).owner with
    | none => s
    | some (m, g) =>
      if 64 ≤ j then s
      else
        let s1 := s.passTo ((s.sem n).since + max 1 (s.fd (R.SEM_LEASE_CFG j) F.SEM_LEASE_CFG_TIME) * 250)
        ((s1.semFree n true true).semCnt 5).raise (mkErr 9 0 0x4805 2 0 0 m g.toNat j))

/-! ## Status as reads return it -/

/-- SEM_STATE (R438). -/
def State.semStateRead (s : State) (n : Nat) : W32 :=
  let x := s.sem n
  BitVec.ofNat 32 (b2n x.owner.isSome * 2 ^ 31 + b2n x.abandoned * 2 ^ 30 + b2n x.expired * 2 ^ 29
    + x.waiters.length / 256 * 2 ^ 28 + x.ownerBits + x.waiters.length % 256)

/-- SEM_STATUS. -/
def State.semStatusRead (s : State) : W32 := BitVec.ofNat 32 s.semWaiters

end Sys2Proof.Machine
end

