-- ==== Sys2Proof/Machine/Accel.lean ====
section
/-! DEFINITION. The attachment of accelerators (11_coprocessor_attach): queues, locks, contexts, SMX and HASHX. A command of a
thread enters its accelerator's queue when its trigger issues (`State.cpqIssue`); the rows below are the queue's head
running (`State.accRun`) and completing. -/
namespace Sys2Proof.Machine
open Sys2Proof

/-! ## Accelerators -/

/-- An accelerator of a cluster. -/
def State.acc (s : State) (c a : Nat) : AccSt := s.accs.get (fun _ => {}) (c * 4 + a)

/-- Set an accelerator. -/
def State.setAcc (s : State) (c a : Nat) (x : AccSt) : State := { s with accs := s.accs.set (fun _ => {}) (c * 4 + a) x }

/-- Count one of an accelerator's events (R394). -/
def State.accCnt (s : State) (c a j : Nat) : State := s.count (R.CLU_CPQ_CNT c a j)

/-- The MID an accelerator writes the scratchpad under (R366); HASHX uses its issuer's. -/
def accMid (c a mid : Nat) : Nat := if a < 2 then 0xB00 + 2 * c + a else if a = 2 then 0xB20 + c else mid

/-- The SRC_INST of CLU's records for an accelerator (R392). -/
def accInst (c a : Nat) : Nat := c * 16 + (if a < 2 then 0xD else if a = 2 then 0xA else 0xB)

/-- OP, TAG of a command word (R367), the flags and CPL of o3 (R368). -/
def AccCmd.op (x : AccCmd) : Nat := bitsOf x.t.toNat 0 6
def AccCmd.tag (x : AccCmd) : Nat := bitsOf x.t.toNat 6 8
def AccCmd.flags (x : AccCmd) : Nat := bitsOf x.o3.toNat 32 8
def AccCmd.cpl (x : AccCmd) : Nat := bitsOf x.o3.toNat 0 19

/-- The CPQ_REFUSED record and counter for a command that ends with FULL, NOT_OWNER or BAD_CMD (R392, R394). -/
def State.accRefused (s : State) (c a mid : Nat) (gen : BitVec 8) (t : W40) (st : Nat) : State :=
  if st = 1 ∨ st = 2 ∨ st = 3 then
    let s1 := s.accCnt c a 1
    if st = 1 then s1
    else s1.raiseLim msCyc (c * 4 + a) (mkErr 6 (accInst c a) 0x3014 0 0 0 mid gen.toNat (a + 16 * st) (t.toNat % 65536))
      (fun n e => { e with d1 := e.d1 + BitVec.ofNat 32 (n % 65536 * 65536) })
  else s

/-! ## Acceptance (R371, R372) -/

/-- Whether an accelerator defines an opcode (R369, R384, R389, R403). -/
def accOpOk (a op : Nat) : Bool :=
  decide ((0x38 ≤ op ∧ op ≤ 0x3C) ∨ (a < 2 ∧ op ≤ 4) ∨ (a = 2 ∧ op ≤ 5) ∨ (a = 3 ∧ op ≤ 4))

/-- Whether a thread owns an accelerator for the commands it issues now (R377, R378). -/
def AccSt.owns (x : AccSt) (mid : Nat) (gen : BitVec 8) : Bool := x.owner == some (mid, gen) && !x.releasing

/-- The queued commands of a thread that are outstanding (R371): in the queues, or completed and not acknowledged. -/
def State.accOutstanding (s : State) (c mid : Nat) : Nat :=
  ((List.range 4).map (fun a => ((s.acc c a).q.filter (fun x => x.mid == mid && !x.fused)).length)).sum
    + (s.thr mid).tags.length

/-- The checks of a command (R371, R372): 0, or the status of the first that fails. -/
def State.cpqCheck (s : State) (c a : Nat) (x : AccCmd) : Nat :=
  if ¬ x.fused ∧ (64 ≤ (s.acc c a).q.length ∨ 64 ≤ s.accOutstanding c x.mid) then 1
  else if ¬ (x.fused ∧ x.op = 0x38) ∧ ¬ (s.acc c a).owns x.mid x.gen then 2
  else if ¬ accOpOk a x.op ∨ bitsOf x.o3.toNat 19 13 ≠ 0 ∨ (¬ x.fused ∧ (x.op = 0x38 ∨ x.cpl % 16 ≠ 0)) then 3
  else 0

/-- The token that the slot a VERIFY names holds at acceptance (R408). -/
def State.verifyTok (s : State) (a : Nat) (x : AccCmd) : Option Nat :=
  if a < 2 ∧ x.op = 0 ∧ bitAt x.flags 0 then (s.thr x.mid).tokenIn (bitsOf x.t.toNat 14 3) else none

/-- CPQ checks a trigger and queues its command (R370 to R372): the state, and the status of the checks. An accepted RELEASE
ends its issuer's ownership for what it issues later (R377). -/
def State.cpqIssue (s : State) (c a : Nat) (x : AccCmd) : State × Nat :=
  let st := s.cpqCheck c a x
  if st ≠ 0 then (s.accRefused c a x.mid x.gen x.t st, st)
  else
    let y := s.acc c a
    (s.setAcc c a { y with q := y.q ++ [{ x with tok := s.verifyTok a x }], releasing := y.releasing || x.op == 0x39 }, 0)

/-! ## Locks (R376 to R379) -/

/-- A thread's fused operation on an accelerator. -/
def LongOp.isFused (a : Nat) (o : LongOp) : Bool := o.unit == 0x3C0 && o.op == a

/-- A fused command's result (R372): r and rb. -/
def fusedRes (r : W40) (aux : W32) (st : Nat) : List W40 := [r, BitVec.ofNat 40 (aux.toNat * 256 + st)]

/-- An ACQUIRE completes with a status. -/
def State.acqDone (s : State) (a mid st : Nat) : State := s.answer mid (LongOp.isFused a) (fusedRes 0 0 st)

/-- The lock is granted (R376). -/
def State.accGrant (s : State) (c a mid : Nat) (gen : BitVec 8) : State :=
  let x := s.acc c a
  (s.setAcc c a { x with owner := some (mid, gen), releasing := false, abandoned := false }).acqDone a mid
    (if x.abandoned then 7 else 0)

/-- The lock has become free: its first waiter receives it. -/
def State.accPass (s : State) (c a : Nat) : State :=
  let x := s.acc c a
  match x.waiters with
  | [] => s.setAcc c a { x with owner := none, releasing := false }
  | w :: ws => (s.setAcc c a { x with waiters := ws }).accGrant c a w.mid w.gen

/-- An ACQUIRE expires (R376, R392). -/
def State.acqExpire (s : State) (c a mid : Nat) (gen : BitVec 8) : State :=
  let o := match (s.acc c a).owner with | some (m, _) => m | none => 0
  (((s.accCnt c a 4).raiseLim msCyc (c * 4 + a) (mkErr 6 (accInst c a) 0x3017 0 0 0 mid gen.toNat (a + 256 * o))
    (fun n e => { e with d1 := BitVec.ofNat 32 (n % 65536 * 65536) }))).acqDone a mid 6

/-- The time an ACQUIRE waits, in BCN cycles. -/
def State.acqTmo (s : State) (c : Nat) : Nat := 2 * s.settled.fd (R.CLU_CPQ_CFG c) F.CLU_CPQ_CFG_ACQ_TMO

/-- ACC_ACQUIRE (R376): an ACQUIRE of a thread takes effect. -/
def execAccAcquire (mid : Nat) (gen : BitVec 8) (a : Nat) (s : State) : Out :=
  .next (
    let c := midCluster mid
    let x := s.acc c a
    if 4 ≤ a ∨ ¬ midIsThread mid ∨ x.waiters.any (fun w => w.mid == mid) then s
    else if x.owner.isNone ∨ x.owns mid gen then s.accGrant c a mid gen
    else if s.acqTmo c = 0 then s.acqExpire c a mid gen
    else s.setAcc c a { x with waiters := x.waiters ++ [{ mid := mid, gen := gen, since := s.time.clock }] })

/-- ACQUIRE_TIMEOUT (R376): ACQ_TMO passes for a waiter. -/
def execAcquireTimeout (mid a : Nat) (s : State) : Out :=
  .next (
    let c := midCluster mid
    match (s.acc c a).waiters.find? (fun w => w.mid == mid) with
    | none => s
    | some w =>
      let s1 := s.passTo (w.since + s.acqTmo c)
      let x := s1.acc c a
      (s1.setAcc c a { x with waiters := x.waiters.erase w }).acqExpire c a mid w.gen)

/-- The MID to which the live context belongs (R382). -/
def State.liveMid (s : State) (c a : Nat) : Option Nat :=
  if s.flag (R.CLU_CPQ_LIVE c a) F.CLU_CPQ_LIVE_VALID then some (s.fd (R.CLU_CPQ_LIVE c a) F.CLU_CPQ_LIVE_MID) else none

/-- The live context becomes empty, and belongs to nobody. -/
def State.liveDrop (s : State) (c a : Nat) : State :=
  (s.setAcc c a { s.acc c a with hist := [], ctx := none }).wr (R.CLU_CPQ_LIVE c a) 0

/-- The owner of a lock loses it (R379): its commands go, or their completions; the lock is freed as abandoned. -/
def State.accAbandon (s : State) (c a why : Nat) : State :=
  match (s.acc c a).owner with
  | none => s
  | some (m, g) =>
    let live := s.liveMid c a == some m
    let x := s.acc c a
    let q := (x.q.filter (fun e => e.mid != m || e.res.isSome)).map (fun e => if e.mid = m then { e with drop := true } else e)
    let s1 := s.setAcc c a { x with q := q, owner := none, releasing := false, abandoned := true }
    let s2 := if live then s1.liveDrop c a else s1
    ((s2.raise (mkErr 6 (accInst c a) 0x3015 0 0 0 m g.toNat (a + 256 * b2n live + 512 * why))).accCnt c a 5).accPass c a

/-- A thread is reset or revoked: it leaves the waiters, and loses the locks it holds. -/
def State.accLeave (s : State) (mid why : Nat) : State :=
  if ¬ midIsThread mid then s
  else (List.range 4).foldl (fun t a =>
    let c := midCluster mid
    let x := t.acc c a
    let t1 := t.setAcc c a { x with waiters := x.waiters.filter (fun w => w.mid != mid) }
    match x.owner with
    | some (m, _) => if m = mid then t1.accAbandon c a why else t1
    | none => t1) s

/-- A write to CLU_CPQ_OWN (R379). -/
def State.ownWrite (s : State) (c a : Nat) (v : W32) : State := if bitAt v.toNat 29 then s.accAbandon c a 2 else s

/-- ACC_FORCE (R379). -/
def execAccForce (c a : Nat) (s : State) : Out :=
  .next (if 16 ≤ c ∨ 4 ≤ a then s else (s.arrive (R.CLU_CPQ_OWN c a)).ownWrite c a 0x20000000)

/-- CLU_CPQ_OWN as a read returns it. -/
def State.ownRead (s : State) (c a : Nat) : W32 :=
  let x := s.acc c a
  BitVec.ofNat 32 (b2n x.owner.isSome * 2 ^ 31 + b2n x.abandoned * 2 ^ 30 + x.q.length
    + (match x.owner with | some (m, g) => g.toNat * 2 ^ 20 + m % 4096 * 256 | none => 0))

/-! ## Running the head of a queue (R370) -/

/-- A status with no result. -/
def AccRes.only (st : Nat) : AccRes := { st := st }

/-- The head of an accelerator's queue starts, where it is a command of the opcode given that has not started. -/
def State.accRun (s : State) (c a op : Nat) (f : State → AccCmd → State × AccRes) : State :=
  match (s.acc c a).q with
  | x :: _ =>
    if 16 ≤ c ∨ 4 ≤ a ∨ x.res.isSome ∨ x.op ≠ op then s
    else
      let s1 := s.accCnt c a 0
      let r := f (if a < 2 then s1.wf (R.CVU_STATUS (2 * c + a)) F.CVU_STATUS_BUSY 1 else s1) x
      let y := r.1.acc c a
      r.1.setAcc c a { y with q := { x with res := some r.2 } :: y.q.tail }
  | [] => s

/-- ACC_RELEASE (R377): RELEASE reaches the head of the queue. -/
def execAccRelease (c a : Nat) (s : State) : Out :=
  .next (s.accRun c a 0x39 (fun t x => (if (t.acc c a).owner = some (x.mid, x.gen) then t.accPass c a else t, {})))

/-- ACC_FENCE (R369): the issuer's earlier commands have completed, the queue running in order (R370). -/
def execAccFence (c a : Nat) (s : State) : Out := .next (s.accRun c a 0x3C (fun t _ => (t, {})))

/-! ## Context slots (R381 to R383) -/

/-- The address of a thread's context slot. -/
def State.slotAddr (s : State) (c a mid : Nat) : Nat := s.fd (R.CLU_CPQ_CTX c) F.CLU_CPQ_CTX_BASE * 256 + (mid % 128 * 4 + a) * 256

/-- The bytes of a live context in its slot, from byte 4 on (R387, R412). An empty stream is saved with the reserved preset 7
(log entry 40). -/
def AccSt.ctxBytes (x : AccSt) (a : Nat) : List Byte :=
  if a = 2 then
    toLe 4 x.hist.length ++ (x.hist ++ List.replicate (63 - x.hist.length) 0).flatMap (formStore 7)
  else
    let k := x.ctx.getD { preset := 7 }
    toLe 4 k.preset ++ toLe 4 k.reg ++ toLe 4 k.seed ++ toLe 8 k.count

/-- Write the live context to a thread's slot, with a generation. -/
def State.slotSave (s : State) (c a mid : Nat) (gen : BitVec 8) : State :=
  s.spmWrite c (s.slotAddr c a mid) (accMid c a mid)
    (toLe 4 (2 ^ 31 + gen.toNat * 2 ^ 20 + (if a = 2 then 2 else 1)) ++ (s.acc c a).ctxBytes a)

/-- Load a live context from a thread's slot. -/
def State.slotLoad (s : State) (c a mid : Nat) : State :=
  let b := s.slotAddr c a mid
  let x := s.acc c a
  if a = 2 then
    let n := s.ldN (.spad c) (b + 4) 2 % 64
    s.setAcc c a { x with hist := (List.range n).map (fun i => formLoad 7 (s.bytes (.spad c) (b + 8 + 3 * i) 3)) }
  else
    let p := s.ldN (.spad c) (b + 4) 1
    let k : CvuCtx := ⟨p, s.ldN (.spad c) (b + 8) 4, s.ldN (.spad c) (b + 12) 4, s.ldN (.spad c) (b + 16) 8⟩
    s.setAcc c a { x with ctx := if 5 < p then none else some k }

/-- A slot could not be read (R383): the live context becomes empty, with a CTX_UE record. -/
def State.ctxUe (s : State) (c a mid : Nat) (gen : BitVec 8) : State :=
  (s.liveDrop c a).raise (mkErr 6 (accInst c a) 0x3016 2 0 0 mid gen.toNat a (s.slotAddr c a mid))

/-- The accelerator makes the issuer's context the live one (R382); none where a slot meets an error. -/
def State.ctxSwitch (s : State) (c a : Nat) (x : AccCmd) (ue : UeAt) : Option State :=
  if s.liveMid c a = some x.mid then some s
  else
    let s1 := match s.liveMid c a with
      | some m => (s.slotSave c a m (s.acc c a).liveGen).accCnt c a 2
      | none => s
    let b := s1.slotAddr c a x.mid
    if ue = .ctx ∨ s1.spmPoisoned c b 256 then none
    else
      let h := s1.ldN (.spad c) b 4
      let s2 := s1.setAcc c a { s1.acc c a with hist := [], ctx := none, liveGen := x.gen }
      let s3 := if bitAt h 31 ∧ bitsOf h 20 8 = (s.genOf x.mid).toNat ∧ h % 256 = (if a = 2 then 2 else 1) then
        (s2.slotLoad c a x.mid).accCnt c a 3 else s2
      some (s3.wr (R.CLU_CPQ_LIVE c a) (BitVec.ofNat 32 (2 ^ 31 + x.mid)))

/-- A lazily switched command runs on the issuer's context. -/
def State.onCtx (s : State) (c a : Nat) (x : AccCmd) (ue : UeAt) (f : State → State × AccRes) : State × AccRes :=
  match s.ctxSwitch c a x ue with
  | some t => f t
  | none => (s.ctxUe c a x.mid x.gen, AccRes.only 5)

/-- CTX_SAVE (R383). -/
def execCtxSave (c a : Nat) (ue : UeAt) (s : State) : Out :=
  .next (s.accRun c a 0x3A (fun t x =>
    if t.liveMid c a ≠ some x.mid then (t, {})
    else if ue = .ctx then (t.ctxUe c a x.mid x.gen, AccRes.only 5)
    else (t.slotSave c a x.mid x.gen, {})))

/-- CTX_CLEAR (R383). -/
def execCtxClear (c a : Nat) (ue : UeAt) (s : State) : Out :=
  .next (s.accRun c a 0x3B (fun t x =>
    if ue = .ctx then (t.ctxUe c a x.mid x.gen, AccRes.only 5)
    else
      let t1 := if t.liveMid c a = some x.mid then t.liveDrop c a else t
      (if a = 3 then t1 else t1.spmWrite c (t1.slotAddr c a x.mid) (accMid c a x.mid) (toLe 4 0), {})))

/-! ## SMX (R384 to R388) -/

/-- The fields of an SMX command. -/
def AccCmd.n (x : AccCmd) : Nat := bitsOf x.t.toNat 14 14
def AccCmd.k (x : AccCmd) : Nat := bitsOf x.t.toNat 28 7
def AccCmd.shift (x : AccCmd) : Nat := bitsOf x.t.toNat 35 5
def AccCmd.packed (x : AccCmd) : Bool := bitAt x.flags 0

/-- The bytes of an array of `n` samples (R278). -/
def arrayBytes (packed : Bool) (n : Nat) : Nat := if packed then (n + 1) / 2 * 5 else n * 3

/-- The samples of `n` cells from an address. -/
def State.cells (s : State) (c a n : Nat) : List Int :=
  (List.range n).map (fun i => s40 (formLoad 7 (s.bytes (.spad c) (a + 3 * i) 3)))

/-- The samples of an array. -/
def State.samples (s : State) (c a : Nat) (packed : Bool) (n : Nat) : List Int :=
  if packed then
    ((List.range ((n + 1) / 2)).flatMap (fun i =>
      let w := BitVec.ofNat 40 (s.ldN (.spad c) (a + 5 * i) 5)
      [s20 w, hi20 w])).take n
  else s.cells c a n

/-- The bytes of an array of samples; an odd sample of a pair array is followed by 0. -/
def packBytes : List Int → List Byte
  | l :: h :: r => toLe 5 (pair20 l h).toNat ++ packBytes r
  | [l] => toLe 5 (pair20 l 0).toNat
  | [] => []

/-- The bytes of an output array. -/
def outBytes (packed : Bool) (ys : List Int) : List Byte :=
  if packed then packBytes ys else ys.flatMap (fun y => formStore 7 (w40 y))

/-- Whether a region lies in the scratchpad. -/
def inSpad (a n : Nat) : Bool := decide (a + n ≤ 0x80000)

/-- Whether two regions share a byte. -/
def regionsMeet (a n b m : Nat) : Bool := decide (a < b + m ∧ b < a + n ∧ 0 < n ∧ 0 < m)

/-- The checks of an SMX command (R384, R386): `ins` and `outs` are its regions; 0, or the status. -/
def smxCheck (x : AccCmd) (needK : Bool) (ins outs : List (Nat × Nat)) (inPlace : Bool) : Nat :=
  if x.n = 0 ∨ (needK ∧ (x.k = 0 ∨ 64 < x.k)) then 3
  else if ¬ (ins ++ outs).all (fun r => inSpad r.1 r.2) then 4
  else if outs.any (fun o => ins.zipIdx.any (fun i => regionsMeet o.1 o.2 i.1.1 i.1.2 && !(inPlace && i.2 == 0 && o.1 == i.1.1)))
  then 8 else 0

/-- A bad read of an operand: a poisoned word, or an error met now. -/
def State.badRead (s : State) (c : Nat) (ins : List (Nat × Nat)) (ue : UeAt) : Option State :=
  if ins.any (fun r => s.spmPoisoned c r.1 r.2) then some s
  else if ue = .data then some (s.spmUe c ((ins.head?.map (·.1)).getD 0))
  else none

/-- Run an SMX operation after its checks and its reads. -/
def State.smx (s : State) (c : Nat) (x : AccCmd) (needK : Bool) (ins outs : List (Nat × Nat)) (inPlace : Bool) (ue : UeAt)
    (f : State → State × AccRes) : State × AccRes :=
  if smxCheck x needK ins outs inPlace ≠ 0 then (s, AccRes.only (smxCheck x needK ins outs inPlace))
  else match s.badRead c ins ue with
    | some t => (t, AccRes.only 5)
    | none => f s

/-- The input array's region, and the region of `k` coefficients. -/
def AccCmd.inRegion (x : AccCmd) : Nat × Nat := (x.o0.toNat, arrayBytes x.packed x.n)
def AccCmd.coefRegion (x : AccCmd) : Nat × Nat := (x.o2.toNat, 3 * x.k)
def AccCmd.outRegion (x : AccCmd) : Nat × Nat := (x.o1.toNat, arrayBytes x.packed x.n)

/-- round of R385, unsaturated. -/
def firRound (shift : Nat) (v : Int) : Int := (if shift = 0 then v else v + 2 ^ (shift - 1)) / (2 ^ shift : Int)

/-- The filter (R384, R385): `full` is the history of length `n0` followed by the inputs; the outputs, unsaturated. -/
def fir (full : List Int) (n0 n shift : Nat) (h : List Int) : List Int :=
  (List.range n).map (fun i => firRound shift
    ((h.zipIdx.map (fun p => if p.2 ≤ i + n0 then p.1 * full.getD (i + n0 - p.2) 0 else 0)).sum))

/-- A filter's outputs reach the scratchpad, and its result. -/
def State.firEnd (s : State) (c : Nat) (x : AccCmd) (ys : List Int) : State × AccRes :=
  let n := (ys.filter (satd 20)).length
  let out := ys.map (sat 20)
  (s.spmWrite c x.o1.toNat (accMid c 2 x.mid) (outBytes x.packed out),
    { r := w40 (out.getLastD 0), aux := BitVec.ofNat 32 n, st := if n = 0 then 0 else 9 })

/-- SMX_FIR (R384). -/
def execSmxFir (c : Nat) (ue : UeAt) (s : State) : Out :=
  .next (s.accRun c 2 0 (fun t x =>
    t.smx c x true [x.inRegion, x.coefRegion] [x.outRegion] true ue (fun t =>
      t.firEnd c x (fir (t.samples c x.o0.toNat x.packed x.n) 0 x.n x.shift (t.cells c x.o2.toNat x.k)))))

/-- SMX_FIR_STREAM (R384, R387). -/
def execSmxFirStream (c : Nat) (ue : UeAt) (s : State) : Out :=
  .next (s.accRun c 2 1 (fun t x =>
    t.onCtx c 2 x ue (fun t =>
      t.smx c x true [x.inRegion, x.coefRegion] [x.outRegion] true ue (fun t =>
        let old := (t.acc c 2).hist.map s40
        let full := old ++ t.samples c x.o0.toNat x.packed x.n
        let r := t.firEnd c x (fir full old.length x.n x.shift (t.cells c x.o2.toNat x.k))
        (r.1.setAcc c 2 { r.1.acc c 2 with hist := (full.drop (full.length - 63)).map w40 }, r.2)))))

/-- The integer square root, rounded down, of a number below 2^40, bit by bit. -/
def isqrtFrom (v : Nat) : Nat → Nat → Nat
  | 0, r => r
  | i + 1, r => isqrtFrom v i (if (r + 2 ^ i) * (r + 2 ^ i) ≤ v then r + 2 ^ i else r)

/-- SMX_RMS (R384). -/
def execSmxRms (c : Nat) (ue : UeAt) (s : State) : Out :=
  .next (s.accRun c 2 2 (fun t x =>
    t.smx c x false [x.inRegion] [] false ue (fun t =>
      let q := ((t.samples c x.o0.toNat x.packed x.n).map (fun v => v * v)).sum
      (t, { r := BitVec.ofNat 40 (isqrtFrom (q.toNat / x.n) 20 0) }))))

/-- The index of the first element equal to `v`. -/
def indexOf (v : Int) (xs : List Int) : Nat := xs.findIdx (fun y => y == v)

/-- SMX_MINMAX (R384). -/
def execSmxMinmax (c : Nat) (ue : UeAt) (s : State) : Out :=
  .next (s.accRun c 2 3 (fun t x =>
    t.smx c x false [x.inRegion] [] false ue (fun t =>
      let xs := t.samples c x.o0.toNat x.packed x.n
      let lo := xs.foldl min (xs.headD 0)
      let hi := xs.foldl max (xs.headD 0)
      (t, { r := pair20 lo hi, aux := BitVec.ofNat 32 (indexOf lo xs + indexOf hi xs * 65536) }))))

/-- SMX_SUM (R384). -/
def execSmxSum (c : Nat) (ue : UeAt) (s : State) : Out :=
  .next (s.accRun c 2 4 (fun t x =>
    t.smx c x false [x.inRegion] [] false ue (fun t =>
      (t, { r := w40 (t.samples c x.o0.toNat x.packed x.n).sum }))))

/-- Bytes that hold a list of bits, the first in bit 0. -/
def bitBytes (bs : List Bool) : List Byte :=
  (List.range ((bs.length + 7) / 8)).map (fun j => BitVec.ofNat 8
    (((List.range 8).map (fun i => b2n (bs.getD (8 * j + i) false) * 2 ^ i)).sum))

/-- SMX_LIMIT (R384). -/
def execSmxLimit (c : Nat) (ue : UeAt) (s : State) : Out :=
  .next (s.accRun c 2 5 (fun t x =>
    let outs := if bitAt x.flags 1 then [(x.o1.toNat, (x.n + 7) / 8)] else []
    t.smx c x false [x.inRegion, (x.o2.toNat, 5 * x.n)] outs false ue (fun t =>
      let ls := (List.range x.n).map (fun i => BitVec.ofNat 40 (t.ldN (.spad c) (x.o2.toNat + 5 * i) 5))
      let bad := (t.samples c x.o0.toNat x.packed x.n).zipWith (fun v l => decide (v < s20 l ∨ hi20 l < v)) ls
      let n := (bad.filter id).length
      (if bitAt x.flags 1 then t.spmWrite c x.o1.toNat (accMid c 2 x.mid) (bitBytes bad) else t,
        { r := BitVec.ofNat 40 n,
          aux := if n = 0 then 0 else BitVec.ofNat 32 (2 ^ 31 + bad.findIdx id) }))))

/-! ## HASHX (R389, R390) -/

/-- A hit's 64 data bits, split over r and AUX. -/
def hitData (d : Nat) : AccRes := { r := BitVec.ofNat 40 d, aux := BitVec.ofNat 32 (bitsOf d 40 24) }

/-- A lookup under the epoch of o2: `need` is what it reads of the scratchpad. -/
def State.hashx (s : State) (c : Nat) (x : AccCmd) (need : List (Nat × Nat)) (ue : UeAt)
    (f : State → State → State × AccRes) : State × AccRes :=
  let e := BitVec.ofNat 8 x.o2.toNat
  if ¬ need.all (fun r => inSpad r.1 r.2) then (s, AccRes.only 4)
  else if ¬ s.epochLive e then (s, AccRes.only 9)
  else match s.badRead c need ue with
    | some t => (t, AccRes.only 5)
    | none => if ue = .table then (s, AccRes.only 5) else f s (s.view e)

/-- HASHX_EM (R389). -/
def execHashxEm (c : Nat) (ue : UeAt) (s : State) : Out :=
  .next (s.accRun c 3 0 (fun t x =>
    let p := bitsOf x.t.toNat 14 3
    let kb := (t.view (BitVec.ofNat 8 x.o2.toNat)).keyBytes p
    t.hashx c x [(x.o0.toNat, kb)] ue (fun t v =>
      (t, match (v.emTab p).find v (t.bytes (.spad c) x.o0.toNat kb) with
        | some q => hitData (leNat (((v.emTab p).ent v q.1 q.2).drop kb))
        | none => AccRes.only 8))))

/-- HASHX_L2 (R389, R390): the L2 table has no epoch. -/
def execHashxL2 (c : Nat) (ue : UeAt) (s : State) : Out :=
  .next (s.accRun c 3 1 (fun t x =>
    t.hashx c x [] ue (fun t _ =>
      (t, match t.l2Lookup t (l2Key (x.o0.toNat + x.o1.toNat % 256 * 2 ^ 40) (bitsOf x.t.toNat 14 12)) with
        | some d => hitData d
        | none => AccRes.only 8))))

/-- A route's data and matched length, split over r and AUX. -/
def routeData (ls : List Nat) (f : Nat → Option Nat) : AccRes :=
  match ls.findSome? (fun l => (f l).map (fun d => (l, d))) with
  | some (l, d) => { r := BitVec.ofNat 40 d, aux := BitVec.ofNat 32 l }
  | none => AccRes.only 8

/-- HASHX_LPM4 (R389). -/
def execHashxLpm4 (c : Nat) (ue : UeAt) (s : State) : Out :=
  .next (s.accRun c 3 2 (fun t x =>
    let d := x.o0.toNat % 2 ^ 32
    t.hashx c x [] ue (fun t v =>
      (t, routeData (((List.range 33).reverse).filter (named4 v d)) (fun l =>
        ((v.fteTab 1).find v (route4Key (prefixOf 32 l d) l)).map (fun q => leNat (((v.fteTab 1).ent v q.1 q.2).drop 8)))))))

/-- HASHX_LPM6 (R389). -/
def execHashxLpm6 (c : Nat) (ue : UeAt) (s : State) : Out :=
  .next (s.accRun c 3 3 (fun t x =>
    t.hashx c x [(x.o0.toNat, 16)] ue (fun t v =>
      let d := beNat (t.bytes (.spad c) x.o0.toNat 16)
      (t, routeData (((List.range 129).reverse).filter (named6 v d)) (fun l =>
        ((v.fteTab 2).find v (route6Key (prefixOf 128 l d) l)).map (fun q => leNat (((v.fteTab 2).ent v q.1 q.2).drop 24)))))))

/-- HASHX_READ (R389). -/
def execHashxRead (c : Nat) (ue : UeAt) (s : State) : Out :=
  .next (s.accRun c 3 4 (fun t x =>
    let k := bitsOf x.t.toNat 14 4
    if k < 5 ∨ 9 < k then (t, AccRes.only 3)
    else if ¬ inSpad x.o1.toNat (fteEntB k) then (t, AccRes.only 4)
    else t.hashx c x [] ue (fun t v =>
      if v.fteGone k then (t, AccRes.only 8)
      else if v.fteSize k ≤ x.o0.toNat then (t, AccRes.only 4)
      else (t.spmWrite c x.o1.toNat x.mid (v.bytes .table (v.fteBase k + x.o0.toNat * fteEntB k) (fteEntB k)), {}))))

/-! ## Completion (R372, R373, R388, R409) -/

/-- What a failed VERIFY or stream does after its completion (R409, steps 3 to 7; R411). -/
def State.cvuFailed (s : State) (n mid : Nat) (gen : BitVec 8) (f : CvuFail) : State :=
  let s1 := s.event mid 3
  if f.kind = 4 then s1.raise (mkErr 7 n 0x3808 0 0 0 mid gen.toNat f.comp f.want)
  else
    let s2 := (s1.wr (R.CVU_LAST_FAIL n 0) (BitVec.ofNat 32 (f.v * 2 ^ 28 + f.conn % 2 ^ 18))).wr (R.CVU_LAST_FAIL n 1)
      (BitVec.ofNat 32 (mid % 4096))
    let mid234 := decide (2 ≤ f.v ∧ f.v ≤ 4)
    let s3 := if mid234 ∧ f.msi then s2.intSet (R.CVU_INT n) (R.CVU_INT_EN n) 1 (160 + n) else s2
    let s4 := match f.trig with | some src => if mid234 then s3.raiseTrigger src else s3 | none => s3
    let s5 := if f.v = 0xF then s4.intSet (R.CVU_INT n) (R.CVU_INT_EN n) 2 (160 + n) else s4
    match f.kind with
    | 0 => s5.raiseLim msCyc (n * 16 + f.v) (mkErr 7 n 0x3801 0 5 f.conn mid gen.toNat (f.v + f.ctr * 256) f.comp)
        (fun k e => { e with d0 := e.d0 + BitVec.ofNat 32 ((k - 1) % 65536 * 65536) })
    | 1 => s5.raise (mkErr 7 n 0x3803 0 5 f.conn mid gen.toNat f.d0hi)
    | 2 => (s5.intSet (R.CVU_INT n) (R.CVU_INT_EN n) 4 (160 + n)).raise (mkErr 7 n 0x3802 2 1 f.at_ mid gen.toNat f.conn)
    | _ => s5

/-- The completion of a command reaches its issuer. -/
def State.accDeliver (s : State) (c a : Nat) (x : AccCmd) (r : AccRes) : State :=
  let rb := BitVec.ofNat 40 (r.aux.toNat * 256 + r.st)
  let s1 := if x.fused then s.answer x.mid (LongOp.isFused a) [r.r, rb]
    else (s.spmWrite c x.cpl (accMid c a x.mid) (toLe 5 r.r.toNat ++ toLe 5 rb.toNat ++ [BitVec.ofNat 8 x.tag, BitVec.ofNat 8 a]
      ++ toLe 4 0)).complete4 x.mid (BitVec.ofNat 8 x.tag)
  let s2 := s1.accRefused c a x.mid x.gen x.t r.st
  let s3 := if a = 2 ∧ ¬ x.fused ∧ (r.st = 2 ∨ r.st = 3 ∨ r.st = 4 ∨ r.st = 5 ∨ r.st = 8) then s2.event x.mid 5 else s2
  match r.fail with | some f => s3.cvuFailed (2 * c + a) x.mid x.gen f | none => s3

/-- ACC_COMMAND_DONE (R373): the command at the head of the queue completes. -/
def execAccCommandDone (c a : Nat) (s : State) : Out :=
  .next (match (s.acc c a).q with
    | x :: rest =>
      (match x.res with
      | some r =>
        if 16 ≤ c ∨ 4 ≤ a then s
        else
          let s1 := s.setAcc c a { s.acc c a with q := rest }
          let s2 := if a < 2 then s1.wf (R.CVU_STATUS (2 * c + a)) F.CVU_STATUS_BUSY 0 else s1
          if x.drop then s2 else s2.accDeliver c a x r
      | none => s)
    | [] => s)

end Sys2Proof.Machine
end

