-- ==== Sys2Proof/Machine/Cvu.lean ====
section
/-! DEFINITION. The check-value units (12_check_value_units): presets, the safety connection table, VERIFY, streams and the
descriptor commands. -/
namespace Sys2Proof.Machine
open Sys2Proof

/-! ## Presets (R396, R397) -/

/-- A preset: width, polynomial (with its bits reversed where the preset is reflected), initial value, reflected, final XOR. -/
structure Preset where
  w : Nat
  poly : Nat
  init : Nat
  refl : Bool
  xorOut : Nat
  deriving DecidableEq, Repr

/-- The six presets (R396). -/
def presetOf (k : Nat) : Preset :=
  match k with
  | 0 => ⟨32, 0xEDB88320, 0xFFFFFFFF, true, 0xFFFFFFFF⟩
  | 1 => ⟨32, 0x82F63B78, 0xFFFFFFFF, true, 0xFFFFFFFF⟩
  | 2 => ⟨24, 0x5D6DCB, 0xFEDCBA, false, 0⟩
  | 3 => ⟨16, 0x1021, 0xFFFF, false, 0⟩
  | 4 => ⟨16, 0xA001, 0, true, 0⟩
  | _ => ⟨8, 0x07, 0, false, 0⟩

/-- `n` steps of a register that is not reflected. -/
def crcFwdSteps (w poly : Nat) : Nat → Nat → Nat
  | 0, c => c
  | n + 1, c => crcFwdSteps w poly n
      (if bitAt c (w - 1) then Nat.xor (c * 2 % 2 ^ w) poly else c * 2 % 2 ^ w)

/-- The register after a sequence of bytes (R397). -/
def Preset.run (p : Preset) (reg : Nat) (bs : List Byte) : Nat :=
  if p.refl then crcRefl p.poly reg bs
  else bs.foldl (fun r b => crcFwdSteps p.w p.poly 8 (Nat.xor r (b.toNat * 2 ^ (p.w - 8)))) reg

/-- The register's start for a seed. -/
def Preset.start (p : Preset) (seed : Nat) : Nat := Nat.xor p.init (seed % 2 ^ p.w)

/-- The check value over bytes with a seed. -/
def Preset.value (p : Preset) (seed : Nat) (bs : List Byte) : Nat := Nat.xor (p.run (p.start seed) bs) p.xorOut

/-! ## Descriptors (R398 to R401) -/

/-- The number of descriptors. -/
def State.cvuCount (s : State) : Nat := 2 ^ s.fd R.CVU_TABLE F.CVU_TABLE_LOG

/-- The DRAM address of a descriptor. -/
def State.descAt (s : State) (i : Nat) : Nat := s.fd R.CVU_TABLE F.CVU_TABLE_BASE * 65536 + i * 32

/-- A set of an instance's parameter cache, the entry used latest first: connection, D0, D1. -/
def State.cvuSet (s : State) (n i : Nat) : List (Nat × Nat × Nat) := s.cvuCache.get (fun _ => []) (n * 1024 + i % 1024)

/-- Set a set of a parameter cache. -/
def State.setCvuSet (s : State) (n i : Nat) (l : List (Nat × Nat × Nat)) : State :=
  { s with cvuCache := s.cvuCache.set (fun _ => []) (n * 1024 + i % 1024) l }

/-- Drop a descriptor from every cache. -/
def State.cvuDrop (s : State) (i : Nat) : State :=
  { s with cvuCache := (s.cvuCache.map (fun e => (e.1, e.2.filter (fun x => x.1 != i)))).filter (fun e => e.2 ≠ []) }

/-- Drop every cached parameter. -/
def State.cvuDropAll (s : State) : State := { s with cvuCache := [] }

/-- A descriptor's parameters by way of the instance's cache (R401): the state, D0, D1. -/
def State.cvuParams (s : State) (n i at_ : Nat) : State × Nat × Nat :=
  let l := s.cvuSet n i
  match l.find? (fun x => x.1 == i) with
  | some x => ((s.setCvuSet n i (x :: l.erase x)).count (R.CVU_CNT n 9), x.2)
  | none =>
    let d := (s.ldN .dram at_ 8, s.ldN .dram (at_ + 8) 8)
    ((s.setCvuSet n i ((i, d) :: l.take 3)).count (R.CVU_CNT n 10), d)

/-! ## VERIFY (R404 to R409) -/

/-- What a check comes to: the verdict, the value computed, the counter, LAST, and the state words to write. -/
structure Checked where
  v : Nat
  comp : Nat := 0
  ctr : Nat := 0
  last : Nat := 0
  d23 : Option (Nat × Nat) := none
  deriving DecidableEq, Repr

/-- The decision of R404 from D0 to D3 and the PDU, with the state of R405 at the time `now`. -/
def verifyDecide (d0 d1 d2 d3 : Nat) (pdu : List Byte) (now : Nat) : Checked :=
  let l := pdu.length
  let p := presetOf (bitsOf d0 59 3)
  let nb := p.w / 8
  let aw := bitsOf d0 56 2
  let ab := if aw = 1 then 1 else 2
  let crcOff := bitsOf d0 30 10
  let covS := bitsOf d0 20 10
  let covL := bitsOf d0 10 10
  let aOff := bitsOf d0 0 10
  if ¬ bitAt d0 63 then { v := 5 }
  else if ¬ bitAt d0 62 then { v := 7 }
  else if 5 < bitsOf d0 59 3 ∨ aw = 3 ∨ covL = 0 then { v := 0xF }
  else if l < bitsOf d1 54 10 ∨ l < crcOff + nb ∨ l < covS + covL ∨ (aw ≠ 0 ∧ l < aOff + ab) then { v := 6 }
  else
    let keep := fun i => !(decide (crcOff ≤ i ∧ i < crcOff + nb))
      && !(decide (aw ≠ 0 ∧ aOff ≤ i ∧ i < aOff + ab) && !bitAt d0 55)
    let cov := (((List.range covL).map (fun i => covS + i)).filter keep).map (fun i => pdu.getD i 0)
    let comp := p.value (d1 % 2 ^ 32) cov
    let eb := (pdu.drop crcOff).take nb
    let cok := comp == (if bitAt d0 58 then leNat eb else beNat eb)
    let cb := (pdu.drop aOff).take ab
    let a := if aw = 0 then 0 else if bitAt d0 54 then leNat cb else beNat cb
    let m := 2 ^ (8 * ab)
    let last := if aw = 0 then 0 else bitsOf d2 32 16 % m
    let dist := (a + m - last) % m
    let aok := aw == 0 || !bitAt d2 63 || decide (1 ≤ dist ∧ dist ≤ 1 + bitsOf d0 50 4)
    let v := if cok && aok then 1 else if aok then 2 else if cok then 3 else 4
    let e2 := if cok ∧ aw ≠ 0 then putBits (putBits d2 63 1 1) 32 16 a else d2
    let f := bitsOf d2 0 32
    let g2 := if v = 1 then e2 else putBits e2 0 32 (if f = 0xFFFFFFFF then f else f + 1)
    { v := v, comp := comp, ctr := a, last := last, d23 := some (g2, putBits d3 0 40 now) }

/-- The counter of CVU_CNT for a verdict (R419). -/
def verdictCnt (v : Nat) : Nat := if v = 0xF then 8 else v

/-- Change a token in a slot of a thread's window, provided the slot still holds it (R408). -/
def State.patchWin (s : State) (mid slot id : Nat) (f : Token → Token) : Option State :=
  if (s.thr mid).tokenIn slot = some id then some (s.setWinToken mid slot (f (s.winToken mid slot))) else none

/-- The verdict reaches the slot, and SAFE's discard (R408, R409). -/
def State.verdictOut (s : State) (n : Nat) (x : AccCmd) (v : Nat) : State :=
  match x.tok with
  | none => s
  | some id =>
    let slot := bitsOf x.t.toNat 14 3
    let drop := v != 1 && s.mode F.GLB_MODE_SAFE && decide (2 ≤ v) && bitAt (s.settled.fd R.CVU_GCFG F.CVU_GCFG_DROP_SET) v
    match s.patchWin x.mid slot id (fun t => { t with verdict := BitVec.ofNat 4 v, egress := if drop then 0x1FE else t.egress }) with
    | some t => t.countIf drop (R.CVU_CNT n 11)
    | none => (s.count (R.CVU_CNT n 12)).raise (mkErr 7 n 0x3807 0 4 id x.mid x.gen.toNat v)

/-- A VERIFY ends with a verdict: the counters, the window, the result word (R407), the failure that its completion reports. -/
def State.verifyEnd (s : State) (n : Nat) (x : AccCmd) (k : Checked) (st : Nat) (f : CvuFail) : State × AccRes :=
  let s1 := ((s.count (R.CVU_CNT n 0)).count (R.CVU_CNT n (verdictCnt k.v))).wf (R.CVU_STATUS n) F.CVU_STATUS_LAST_VERDICT k.v
  let shown := decide (1 ≤ k.v ∧ k.v ≤ 4)
  (s1.verdictOut n x k.v,
    { r := BitVec.ofNat 40 (k.v + k.comp * 256), st := st,
      aux := if shown then BitVec.ofNat 32 (k.ctr % 65536 + k.last % 65536 * 65536) else 0,
      fail := if k.v = 1 then none else some f })

/-- What a VERIFY's failure reports. -/
def verifyFail (i : Nat) (d0 at_ : Nat) (k : Checked) (kind : Nat) : CvuFail :=
  { kind := kind, v := k.v, conn := i, at_ := at_, ctr := k.ctr % 256, comp := k.comp, d0hi := bitsOf d0 32 32,
    msi := bitAt d0 42, trig := if bitAt d0 49 then some (bitsOf d0 43 6) else none }

/-- The check of a PDU whose bytes have been read (R404). -/
def State.verifyPdu (s : State) (n : Nat) (x : AccCmd) (i : Nat) (pdu : List Byte) (ue : UeAt) : State × AccRes :=
  let v := s.settled
  let at_ := v.descAt i
  if ¬ v.flag R.CVU_GCFG F.CVU_GCFG_RUN ∨ v.cvuCount ≤ i then s.verifyEnd n x { v := 5 } 8 (verifyFail i 0 at_ { v := 5 } 0)
  else if ue = .table then
    (s.setCvuSet n i ((s.cvuSet n i).filter (fun e => e.1 != i))).verifyEnd n x { v := 0xF } 8
      (verifyFail i 0 at_ { v := 0xF } 2)
  else
    let p := s.cvuParams n i at_
    let k := verifyDecide p.2.1 p.2.2 (s.ldN .dram (at_ + 16) 8) (s.ldN .dram (at_ + 24) 8) pdu s.time.ptp.toNat
    let s1 := match k.d23 with
      | some d => (p.1.stN .dram (at_ + 16) 8 d.1).stN .dram (at_ + 24) 8 d.2
      | none => p.1
    s1.verifyEnd n x k (if k.v = 1 then 0 else 8) (verifyFail i p.2.1 at_ k (if k.v = 0xF then 1 else 0))

/-- Run a CVU operation over `len` bytes at o0 after the checks of R403: `bad` is a field that ends it with BAD_CMD. -/
def State.cvuRead (s : State) (c : Nat) (x : AccCmd) (bad : Bool) (len : Nat) (ue : UeAt)
    (onUe : State → State × AccRes) (f : State → List Byte → State × AccRes) : State × AccRes :=
  if bad then (s, AccRes.only 3)
  else if len ≠ 0 ∧ ¬ inSpad x.o0.toNat len then (s, AccRes.only 4)
  else match if len = 0 then none else s.badRead c [(x.o0.toNat, len)] ue with
    | some t => onUe t
    | none => f s (s.bytes (.spad c) x.o0.toNat len)

/-- VERIFY (R404): a PDU is checked, its state and verdict written. -/
def execVerify (c a : Nat) (ue : UeAt) (s : State) : Out :=
  .next (if 2 ≤ a then s else s.accRun c a 0 (fun t x =>
    let n := 2 * c + a
    let i := x.o1.toNat % 2 ^ 18
    let l := x.o2.toNat % 1024
    let bad := decide (2 ^ 18 ≤ x.o1.toNat ∨ l = 0) || (bitAt x.flags 0 && x.tok.isNone)
    t.cvuRead c x bad l ue (fun t => t.verifyEnd n x { v := 0xF } 5 (verifyFail i 0 0 { v := 0xF } 3))
      (fun t pdu => t.verifyPdu n x i pdu ue)))

/-! ## One-shot and streamed values (R411) -/

/-- The preset and the length fields. -/
def AccCmd.preset (x : AccCmd) : Nat := bitsOf x.t.toNat 14 3
def AccCmd.len (x : AccCmd) : Nat := x.o2.toNat % 2 ^ 14

/-- An uncorrectable error ends a command with DATA_ERR. -/
def dataErr (t : State) : State × AccRes := (t, AccRes.only 5)

/-- CALC (R411). -/
def execCalc (c a : Nat) (ue : UeAt) (s : State) : Out :=
  .next (if 2 ≤ a then s else s.accRun c a 1 (fun t x =>
    t.cvuRead c x (decide (5 < x.preset)) x.len ue dataErr (fun t bs =>
      (t, { r := BitVec.ofNat 40 ((presetOf x.preset).value (x.o1.toNat % 2 ^ 32) bs) }))))

/-- S_START (R411). -/
def execSStart (c a : Nat) (ue : UeAt) (s : State) : Out :=
  .next (if 2 ≤ a then s else s.accRun c a 2 (fun t x =>
    t.onCtx c a x ue (fun t =>
      if 5 < x.preset then (t, AccRes.only 3)
      else
        let seed := x.o1.toNat % 2 ^ 32
        let k : CvuCtx := ⟨x.preset, (presetOf x.preset).start seed, seed, 0⟩
        (t.setAcc c a { t.acc c a with ctx := some k }, {}))))

/-- A live stream absorbs bytes; without one the command ends with NO_STREAM. -/
def State.absorb (s : State) (c a : Nat) (x : AccCmd) (ue : UeAt) (f : State → CvuCtx → State × AccRes) : State × AccRes :=
  s.cvuRead c x false x.len ue dataErr (fun t bs =>
    match (t.acc c a).ctx with
    | none => (t, AccRes.only 9)
    | some k => f t { k with reg := (presetOf k.preset).run k.reg bs, count := (k.count + bs.length) % 2 ^ 64 })

/-- A stream's running value. -/
def CvuCtx.value (k : CvuCtx) : Nat := Nat.xor k.reg (presetOf k.preset).xorOut

/-- S_DATA (R411). -/
def execSData (c a : Nat) (ue : UeAt) (s : State) : Out :=
  .next (if 2 ≤ a then s else s.accRun c a 3 (fun t x =>
    t.onCtx c a x ue (fun t => t.absorb c a x ue (fun t k =>
      (t.setAcc c a { t.acc c a with ctx := some k }, { r := BitVec.ofNat 40 k.value })))))

/-- S_END (R411). -/
def execSEnd (c a : Nat) (ue : UeAt) (s : State) : Out :=
  .next (if 2 ≤ a then s else s.accRun c a 4 (fun t x =>
    t.onCtx c a x ue (fun t => t.absorb c a x ue (fun t k =>
      let want := x.o1.toNat % 2 ^ (presetOf k.preset).w
      let bad := bitAt x.flags 2 && k.value != want
      let f : CvuFail := { kind := 4, comp := k.value, want := want }
      (t.setAcc c a { t.acc c a with ctx := none },
        { r := BitVec.ofNat 40 k.value, st := if bad then 8 else 0, fail := if bad then some f else none })))))

/-! ## Descriptor commands (R413) -/

/-- Whether a descriptor command runs. -/
def State.cvuBusy (s : State) : Bool := s.flag R.CVU_TCMD F.CVU_TCMD_BUSY

/-- A write to CVU_TCMD, CVU_TIDX or CVU_TBUF while BUSY is 1 (R413). -/
def State.cvuBusyErr (s : State) (off : Nat) (v : W32) : State := s.raise (mkErr 7 0 0x3806 0 3 off 0 0 v.toNat)

/-- A command has run with a result; BUSY shows until its completion. -/
def State.cvuResult (s : State) (res : Nat) : State :=
  (s.wf R.CVU_TCMD F.CVU_TCMD_BUSY 1).setRes R.CVU_TSTAT (BitVec.ofNat 32 (res * 2 ^ 28))

/-- Copy 32 bytes into CVU_TBUF. -/
def State.putCvuTbuf (s : State) (a : Nat) : State :=
  (List.range 8).foldl (fun t i => t.wr (R.CVU_TBUF i) (BitVec.ofNat 32 (s.ldN .dram (a + 4 * i) 4))) s

/-- The 32 bytes of CVU_TBUF. -/
def State.cvuTbuf (s : State) : List Byte := (List.range 8).flatMap (fun i => toLe 4 (s.rd (R.CVU_TBUF i)).toNat)

/-- A command runs (R413). -/
def State.cvuCmd (s : State) (op : Nat) (ue : Bool) : State :=
  let i := s.fd R.CVU_TIDX F.CVU_TIDX_INDEX
  let v := s.settled
  let at_ := v.descAt i
  if op = 0 ∨ 4 < op then s.cvuResult 1
  else if ¬ v.flag R.CVU_GCFG F.CVU_GCFG_RUN ∨ (op ≠ 4 ∧ v.cvuCount ≤ i) then s.cvuResult 3
  else match op with
    | 1 => if ue then s.cvuResult 2 else (s.putCvuTbuf at_).cvuResult 0
    | 2 => ((s.setBytes .dram at_ s.cvuTbuf).cvuDrop i).cvuResult 0
    | 3 => (s.setBytes .dram (at_ + 16) (List.replicate 16 0)).cvuResult 0
    | _ => s.cvuDropAll.cvuResult 0

/-- A write to CVU_TCMD (R413). -/
def State.cvuTcmdWrite (s : State) (mid : Nat) (gen : BitVec 8) (v : W32) (ue : Bool) : State :=
  let op := bitsOf v.toNat 0 4
  if s.cvuBusy then s.cvuBusyErr R.CVU_TCMD v
  else if s.locked ∧ (op = 2 ∨ op = 3) then s.lockDiscard R.CVU_TCMD mid gen v
  else (s.plainWrite R.CVU_TCMD v).cvuCmd op ue

/-- CVU_DESC_READ (R413). -/
def execCvuDescRead (mid : Nat) (gen : BitVec 8) (ue : Bool) (s : State) : Out :=
  .next (s.reach R.CVU_TCMD mid gen 1 (fun t => t.cvuTcmdWrite mid gen 1 ue))

/-- CVU_DESC_WRITE (R413). -/
def execCvuDescWrite (mid : Nat) (gen : BitVec 8) (s : State) : Out :=
  .next (s.reach R.CVU_TCMD mid gen 2 (fun t => t.cvuTcmdWrite mid gen 2 false))

/-- RESET_STATE (R413). -/
def execResetState (mid : Nat) (gen : BitVec 8) (s : State) : Out :=
  .next (s.reach R.CVU_TCMD mid gen 3 (fun t => t.cvuTcmdWrite mid gen 3 false))

/-- INVALIDATE (R413). -/
def execInvalidate (mid : Nat) (gen : BitVec 8) (s : State) : Out :=
  .next (s.reach R.CVU_TCMD mid gen 4 (fun t => t.cvuTcmdWrite mid gen 4 false))

/-- CVU_COMMAND_DONE (R413). -/
def execCvuCommandDone (s : State) : Out :=
  .next (
    if ¬ s.cvuBusy then s
    else
      let res := (s.resOf R.CVU_TSTAT).toNat / 2 ^ 28
      let s1 := ((s.wr R.CVU_TSTAT (s.resOf R.CVU_TSTAT)).wf R.CVU_TCMD F.CVU_TCMD_BUSY 0).setRes R.CVU_TSTAT 0
      s1.raiseIf (res == 1 || res == 3) (mkErr 7 0 0x3805 0 3 R.CVU_TCMD 0 0 (s1.rd R.CVU_TCMD).toNat))

/-- A value for CVU_TABLE (R414). -/
def State.cvuTableWrite (s : State) (v : W32) : State :=
  let lg := bitsOf v.toNat 24 5
  if s.flag R.CVU_GCFG F.CVU_GCFG_RUN ∨ 18 < lg ∨ s.dramSize < bitsOf v.toNat 0 24 * 65536 + 2 ^ lg * 32 then
    s.raise (mkErr 7 0 0x3804 0 3 R.CVU_TABLE 0 0 v.toNat)
  else (s.wr R.CVU_TABLE (v &&& 0x1FFFFFFF)).cvuDropAll

/-- CVU_TABLE_PAIR (R414). -/
def execCvuTablePair (mid : Nat) (gen : BitVec 8) (value : W32) (s : State) : Out :=
  .next (match s.takePair R.CVU_TABLE mid gen value with
    | some t => t.cvuTableWrite value
    | none => s)

end Sys2Proof.Machine
end

