-- ==== Sys2Proof/Machine/Dmc.lean ====
section
/-! DEFINITION. DRAM channels and ECS (14_dram_ecc): address maps, reads and writes, freeze and thaw, the fill, the scrubber,
retirement and spares. A write's bytes stand in the DRAM space from the time its channel takes it, since every later read
returns them (R456); a queued entry keeps what stood there before, for a removal under R458 or R465. -/
namespace Sys2Proof.Machine
open Sys2Proof

/-! ## Channels and maps (R452 to R454) -/

/-- A channel's queues. -/
def State.dmc (s : State) (n : Nat) : DmcSt := s.dmcs.get (fun _ => {}) n

/-- Set a channel's queues. -/
def State.setDmc (s : State) (n : Nat) (x : DmcSt) : State := { s with dmcs := s.dmcs.set (fun _ => {}) n x }

/-- A channel's STATE: 0 OFF, 1 TRAINING, 2 FILLING, 3 RUN, 4 FROZEN, 5 RETIRED, 6 TRAIN_FAIL. -/
def State.chState (s : State) (n : Nat) : Nat := s.fd (R.DMC_CH_STATUS n) F.DMC_CH_STATUS_STATE

/-- Set a channel's STATE. -/
def State.setCh (s : State) (n x : Nat) : State := s.wf (R.DMC_CH_STATUS n) F.DMC_CH_STATUS_STATE x

/-- A channel's capacity in bytes. -/
def State.chCap (s : State) (n : Nat) : Nat := s.fd (R.DMC_CH_STATUS n) F.DMC_CH_STATUS_CAP * 2 ^ 30

/-- The channels of a CHEN mask, rising. -/
def chansOf (chen : Nat) : List Nat := (List.range 8).filter (fun n => bitAt chen n)

/-- log2 of a number of channels. -/
def chLog (n : Nat) : Nat := if n ≤ 1 then 0 else if n ≤ 2 then 1 else if n ≤ 4 then 2 else 3

/-- The channel-contiguous map: channel and local address. -/
def State.contig (s : State) : List Nat → Nat → Option (Nat × Nat)
  | [], _ => none
  | n :: ns, a => if a < s.chCap n then some (n, a) else State.contig s ns (a - s.chCap n)

/-- The channel and local address of a physical address under a value of DMC_MAP (R453). -/
def State.mapAddr (s : State) (v a : Nat) : Option (Nat × Nat) :=
  let chs := chansOf (bitsOf v 8 8)
  if bitsOf v 0 2 = 2 then s.contig chs a
  else
    let c := chLog chs.length
    match chs[bitsOf a 8 c]? with
    | some n => if a / 2 ^ (8 + c) * 256 + a % 256 < s.chCap n then some (n, a / 2 ^ (8 + c) * 256 + a % 256) else none
    | none => none

/-- The bytes before a channel's range in the channel-contiguous map. -/
def State.before (s : State) (n : Nat) : List Nat → Nat
  | [] => 0
  | m :: ms => if m = n then 0 else s.chCap m + State.before s n ms

/-- The physical address of a channel's local address under a value of DMC_MAP; none where the channel is not in it. -/
def State.unmapAddr (s : State) (v n l : Nat) : Option Nat :=
  let chs := chansOf (bitsOf v 8 8)
  if ¬ chs.contains n ∨ s.chCap n ≤ l then none
  else if bitsOf v 0 2 = 2 then some (s.before n chs + l)
  else
    let c := chLog chs.length
    some (l / 256 * 2 ^ (8 + c) + chs.idxOf n * 256 + l % 256)

/-- The channel and local address of a physical address now; none beyond installed DRAM (R457). -/
def State.chanOf (s : State) (a : Nat) : Option (Nat × Nat) :=
  if s.dramSize ≤ a then none else s.mapAddr (s.rd R.DMC_MAP).toNat a

/-- The coordinates of a local address (R454): subchannel, column, bank group, bank, rank, DIMM, row. -/
structure DramAt where
  sub : Nat
  col : Nat
  bg : Nat
  bank : Nat
  rank : Nat
  dimm : Nat
  row : Nat
  deriving DecidableEq, Repr

/-- Split a local address (R454): `rk` and `dm` say whether rank and DIMM take a bit. -/
def splitLocal (map l rk dm : Nat) : DramAt :=
  let col := if map = 1 then bitsOf l 12 7 else bitsOf l 7 7
  let bg := if map = 1 then bitsOf l 7 3 else bitsOf l 14 3
  let bank := if map = 1 then bitsOf l 10 2 else bitsOf l 17 2
  let row := l / 2 ^ (19 + rk + dm)
  { sub := bitsOf l 6 1, col := col, rank := bitsOf l 19 rk, dimm := bitsOf l (19 + rk) dm, row := row,
    bg := if map = 3 then Nat.xor bg (row % 8) else bg, bank := if map = 3 then Nat.xor bank (bitsOf row 3 2) else bank }

/-- The coordinates of a channel's local address. -/
def State.dramAt (s : State) (n l : Nat) : DramAt :=
  splitLocal (s.fd R.DMC_MAP F.DMC_MAP_MAP) l (b2n (s.fd (R.DMC_CH_STATUS n) F.DMC_CH_STATUS_RANKS == 2))
    (b2n (s.fd (R.DMC_CH_STATUS n) F.DMC_CH_STATUS_DIMMS == 2))

/-- The subchannel of a line. -/
def lineSub (line : Nat) : Nat := line % 2

/-! ## Answers -/

/-- A master receives a line's bytes: its response word shows the first four. -/
def State.dmcData (s : State) (mid : Nat) (bs : List Byte) : State :=
  { s.setResp mid (BitVec.ofNat 40 (leNat (bs.take 4))) with lines := s.lines.set (fun _ => []) mid bs }

/-- A master receives an error response. -/
def State.dmcErr (s : State) (mid : Nat) : State :=
  { s.setResp mid (BitVec.ofNat 40 (2 ^ 39)) with lines := s.lines.erase mid }

/-- Set bits of DMC_CH_INT. -/
def State.chInt (s : State) (n : Nat) (f : Fld) : State := s.intSet (R.DMC_CH_INT n) (R.DMC_CH_INT_EN n) (2 ^ f.lo) (208 + n)

/-- Set bits of ECS_INT. -/
def State.ecsInt (s : State) (f : Fld) : State := s.intSet R.ECS_INT R.ECS_INT_EN (2 ^ f.lo) 9

/-- Count one of a channel's events. -/
def State.chCnt (s : State) (n k : Nat) : State := s.count (R.DMC_CH_CNT n k)

/-- Count one of ECS's events. -/
def State.ecsCnt (s : State) (k : Nat) : State := s.count (R.ECS_CNT k)

/-- The address of a byte in a record. -/
def lineAddr (line : Nat) : Nat := line * 64

/-! ## Suspects (R471) -/

/-- Put the entry of the lowest count out of a full list. -/
def dropLeast (l : List SusEnt) : List SusEnt :=
  match (l.map (·.count)).min? with
  | some m => l.eraseP (fun e => e.count == m)
  | none => l

/-- The suspect list after a corrected error of a location, and the location's count. -/
def suspectIn (l : List SusEnt) (sram : Bool) (mem loc : Nat) : List SusEnt × Nat :=
  let same := fun (e : SusEnt) => e.sram == sram && e.mem == mem && e.loc == loc
  match l.find? same with
  | some e => (l.map (fun x => if same x then { x with count := min 65535 (x.count + 1) } else x), min 65535 (e.count + 1))
  | none => ((if 64 ≤ l.length then dropLeast l else l) ++ [{ sram := sram, mem := mem, loc := loc, count := 1 }], 1)

/-- A corrected error enters the suspect list (R471). -/
def State.suspect (s : State) (sram : Bool) (mem loc : Nat) : State :=
  let r := suspectIn s.ecs.suspects sram mem loc
  let th := s.fd R.ECS_CFG F.ECS_CFG_SUSPECT_TH
  let s1 : State := { s with ecs := { s.ecs with suspects := r.1 } }
  if th ≠ 0 ∧ r.2 = th then
    (s1.ecsInt F.ECS_INT_SUSPECT).raise
      (if sram then mkErr 11 0 0x5803 0 0 0 0 0 (mem + loc * 64) r.2 else mkErr 11 0 0x5803 0 1 (loc * 4096) 0 0 0 r.2)
  else s1

/-- A channel's read met a correctable error (R461). -/
def State.dramCe (s : State) (n line devs : Nat) : State :=
  (((s.chCnt n 4).chInt n F.DMC_CH_INT_CE).raiseLim msCyc n (mkErr 10 (n + 8 * lineSub line) 0x5001 1 1 (lineAddr line) 0 0 devs)
    (fun k e => { e with d1 := BitVec.ofNat 32 k })).suspect false 0 (lineAddr line / 4096)

/-- A read of a poisoned line (R463). -/
def State.poisonRead (s : State) (n line mid : Nat) (gen : BitVec 8) : State :=
  (((s.chCnt n 9).raiseLim msCyc n (mkErr 10 (n + 8 * lineSub line) 0x5005 2 1 (lineAddr line) mid gen.toNat)
    (fun k e => { e with d1 := BitVec.ofNat 32 k }))).dmcErr mid

/-! ## Freeze, thaw, retirement (R200, R464 to R466) -/

/-- The channels named by a pool. -/
def State.poolChs (s : State) (p : Nat) : List Nat := chansOf (s.fd (R.BPM_POOL_META p) F.BPM_POOL_META_CHMASK)

/-- BPM's FROZEN bits follow the channels (R200): a pool that thaws carries out what it held. -/
def State.bpmFollow (s : State) : State :=
  (List.range 8).foldl (fun t p =>
    let now := (t.poolChs p).any (fun n => t.chState n == 4)
    let was := t.poolStat F.BPM_STATUS_FROZEN p
    if now = was then t
    else if now then t.setPoolStat F.BPM_STATUS_FROZEN p true
    else (t.setPoolStat F.BPM_STATUS_FROZEN p false).bpmRunHeld p) s

/-- What DMC_DIAG pins. -/
def State.pinDiag (s : State) (n cause : Nat) (line : Option Nat) (devs mid : Nat) (gen : BitVec 8) : State :=
  let x := s.dmc n
  let a := lineAddr (line.getD 0)
  let d := match line with
    | some _ => (match s.chanOf a with
      | some (_, l) =>
        let k := s.dramAt n l
        k.sub * 2 ^ 28 + k.dimm * 2 ^ 27 + k.rank * 2 ^ 26 + k.bg * 2 ^ 23 + k.bank * 2 ^ 21 + k.row % 2 ^ 17
      | none => 0)
    | none => devs * 2 ^ 26
  let ws := [2 ^ 31 + cause * 2 ^ 28, a % 2 ^ 32, a / 2 ^ 32, d, if line.isSome then devs else 0,
    x.wq.length * 2 ^ 16 + x.rq.length, gen.toNat * 2 ^ 12 + mid]
  ws.zipIdx.foldl (fun t p => t.wr (R.DMC_DIAG n p.2) (BitVec.ofNat 32 p.1)) s

/-- A channel freezes (R464); in a channel that is frozen already the error counts in DIAG. `devs` are the devices implicated,
or the DIMM and rank of a parity error. -/
def State.freeze (s : State) (n cause : Nat) (line : Option Nat) (devs mid : Nat) (gen : BitVec 8) (scrub : Bool) : State :=
  let s0 := s.chCnt n (if cause = 1 then 5 else 6)
  if s0.chState n = 4 then
    s0.wr (R.DMC_DIAG n 0) (BitVec.ofNat 32 (putBits (s0.rd (R.DMC_DIAG n 0)).toNat 0 16
      (min 65535 (bitsOf (s0.rd (R.DMC_DIAG n 0)).toNat 0 16 + 1))))
  else
    let s1 := ((s0.pinDiag n cause line devs mid gen).setCh n 4).chCnt n 7
    let s2 := (s1.setDmc n { s1.dmc n with since := s1.time.clock, tmo := false }).chInt n F.DMC_CH_INT_FROZEN
    let sub := lineSub (line.getD 0)
    let r := if cause = 1 then mkErr 10 (n + 8 * sub) 0x5002 2 1 (lineAddr (line.getD 0)) mid gen.toNat devs (b2n scrub)
      else mkErr 10 n 0x5003 2 0 0 0 0 devs
    s2.bpmFollow.raise r

/-- Undo queued writes, the latest first. -/
def State.undoWrites (s : State) : List DmcWr → State
  | [] => s
  | w :: ws =>
    ((List.range 64).foldl (fun t i => if bitAt w.mask i then t.setByte .dram (lineAddr w.line + i) (w.old.getD i 0) else t)
      (State.undoWrites s ws)).dmcErr w.mid

/-- A channel answers every queued request with an error response and empties its queues; the number answered. -/
def State.emptyChannel (s : State) (n : Nat) : State × Nat :=
  let x := s.dmc n
  let s1 := x.rq.foldl (fun t r => t.dmcErr r.mid) (s.undoWrites x.wq.reverse)
  (s1.setDmc n { x with wq := [], rq := [] }, x.wq.length + x.rq.length)

/-- DMC removes the queued requests of a revoked master (R458). -/
def State.dmcRevoke (s : State) (mid : Nat) : State :=
  (List.range 8).foldl (fun t n =>
    let x := t.dmc n
    let gone := x.wq.filter (fun w => w.mid == mid && !w.merged)
    let t1 := t.undoWrites gone.reverse
    let t2 := if x.rq.any (fun r => r.mid == mid) then t1.dmcErr mid else t1
    t2.setDmc n { x with wq := x.wq.filter (fun w => !(w.mid == mid && !w.merged)), rq := x.rq.filter (fun r => r.mid != mid) }) s

/-- CA_PARITY_ERROR (R464): a DIMM reports a parity error; `dimm` carries DIMM and rank. -/
def execCaParityError (ch dimm : Nat) (s : State) : Out :=
  .next (if 8 ≤ ch ∨ ¬ (s.chState ch = 3 ∨ s.chState ch = 4) then s else s.freeze ch 2 none (dimm % 4) 0 0 false)

/-- FREEZE_TIMEOUT (R465). -/
def execFreezeTimeout (ch : Nat) (s : State) : Out :=
  .next (
    if 8 ≤ ch ∨ s.chState ch ≠ 4 ∨ (s.dmc ch).tmo then s
    else
      let us := max 1 (s.settled.fd (R.DMC_CH_CFG ch) F.DMC_CH_CFG_FREEZE_TMO)
      let s1 := s.passTo ((s.dmc ch).since + us * 250)
      let r := s1.emptyChannel ch
      (((r.1.setDmc ch { r.1.dmc ch with tmo := true }).countN (R.DMC_CH_CNT ch 8) r.2).chInt ch F.DMC_CH_INT_TMO).raise
        (mkErr 10 ch 0x5004 2 0 0 0 0 r.2))

/-- Whether a master may write DMC_CH_CTRL (R466). -/
def State.ctrlMay (s : State) (mid : Nat) : Bool :=
  decide (0x800 ≤ mid ∧ mid ≤ 0x807) || (midIsThread mid && s.keeperMid (midCluster mid) == mid) || (mid == 0xA60 && !s.locked)

/-- A pair of DMC_CH_CTRL from a master that may not write it. -/
def State.ctrlDenied (s : State) (n mid : Nat) (gen : BitVec 8) (v : W32) : State :=
  s.raise (mkErr 10 n 0x5009 0 3 (R.DMC_CH_CTRL n) mid gen.toNat v.toNat)

/-- A channel thaws (R466). -/
def State.thaw (s : State) (n : Nat) : State :=
  let line := (s.rd (R.DMC_DIAG n 1)).toNat / 64 + (s.rd (R.DMC_DIAG n 2)).toNat * 2 ^ 26
  let data := bitsOf (s.rd (R.DMC_DIAG n 0)).toNat 28 3 == 1
  let past := (s.dmc n).wq.any (fun w => w.line == line && w.mask == 2 ^ 64 - 1)
  let s1 : State := if data ∧ ¬ past ∧ ¬ s.dramBad.contains line then { s with dramBad := s.dramBad ++ [line] } else s
  let s2 := (List.range 7).foldl (fun t j => t.wr (R.DMC_DIAG n j) 0) s1
  ((s2.setDmc n { s2.dmc n with tmo := false }).setCh n 3).bpmFollow

/-- A channel retires (R466): its pools fail (R200). -/
def State.retireCh (s : State) (n : Nat) : State :=
  let s1 := ((s.emptyChannel n).1.setCh n 5).chInt n F.DMC_CH_INT_RETIRED
  let s2 := (List.range 8).foldl (fun t p =>
    if (t.poolChs p).contains n ∧ t.poolOn p then (t.setPoolStat F.BPM_STATUS_FROZEN p false).poolFail p else t) s1
  s2.bpmFollow.raise (mkErr 10 n 0x5008 3)

/-- A value for DMC_CH_CTRL. -/
def State.chCtrlWrite (s : State) (n mid : Nat) (gen : BitVec 8) (v : W32) : State :=
  let st := s.chState n
  let ok := fun (t : State) => t.wf (R.DMC_CH_STATUS n) F.DMC_CH_STATUS_CTRL_ERR 0
  if ¬ s.ctrlMay mid then s.ctrlDenied n mid gen v
  else if bitAt v.toNat 1 ∧ (st = 3 ∨ st = 4) then (ok s).retireCh n
  else if ¬ bitAt v.toNat 1 ∧ bitAt v.toNat 0 ∧ st = 4 then (ok s).thaw n
  else s.wf (R.DMC_CH_STATUS n) F.DMC_CH_STATUS_CTRL_ERR 1

/-- THAW (R466): a pair on DMC_CH_CTRL with THAW and without RETIRE. -/
def execThaw (mid : Nat) (gen : BitVec 8) (ch : Nat) (s : State) : Out :=
  .next (if 8 ≤ ch then s else match s.takePair (R.DMC_CH_CTRL ch) mid gen 1 with
    | some t => t.chCtrlWrite ch mid gen 1
    | none => s)

/-- RETIRE (R466): a pair on DMC_CH_CTRL with RETIRE; `thaw` gives its THAW bit, which has no effect. -/
def execRetire (mid : Nat) (gen : BitVec 8) (ch : Nat) (thaw : Bool) (s : State) : Out :=
  let v := BitVec.ofNat 32 (2 + b2n thaw)
  .next (if 8 ≤ ch then s else match s.takePair (R.DMC_CH_CTRL ch) mid gen v with
    | some t => t.chCtrlWrite ch mid gen v
    | none => s)

/-! ## Requests (R455 to R457) -/

/-- What a channel does with a request: 0 takes it; 1 lets it wait; 2 answers with an error response. -/
def State.chTakes (s : State) (n : Nat) : Nat :=
  match s.chState n with
  | 3 => 0
  | 4 => if (s.dmc n).tmo then 2 else 0
  | 5 => 2
  | _ => 1

/-- A request's common checks: the state where it is refused. -/
def State.dmcRefuse (s : State) (mid : Nat) (gen : BitVec 8) (line cls : Nat) : Option State :=
  let a := lineAddr line
  match s.refuseReq 10 (((s.chanOf a).map (·.1)).getD 0) mid gen 1 a cls with
  | some t => some (t.dmcErr mid)
  | none =>
    match s.chanOf a with
    | none => some ((s.raise (mkErr 10 0 0x500A 2 1 a mid gen.toNat)).dmcErr mid)
    | some (n, _) => if s.chTakes n = 2 then some ((if s.chState n = 4 then s.chCnt n 8 else s).dmcErr mid) else none

/-- DRAM_READ (R456): a channel takes a read of the line that holds an address. -/
def execDramRead (mid : Nat) (gen : BitVec 8) (addr : Nat) (s : State) : Out :=
  .next (
    let line := addr / 64
    match s.dmcRefuse mid gen line 1 with
    | some t => t
    | none =>
      let n := ((s.chanOf (lineAddr line)).map (·.1)).getD 0
      let x := s.dmc n
      if s.chTakes n = 1 ∨ 64 ≤ (x.rq.filter (fun r => lineSub r.line == lineSub line)).length then s
      else if s.chState n = 3 ∧ x.wq.any (fun w => w.line == line) then
        ((s.chCnt n 0).chCnt n 2).dmcData mid (s.bytes .dram (lineAddr line) 64)
      else
        (s.chCnt n 0).setDmc n { x with rq := x.rq ++ [⟨line, mid, gen, s.bytes .dram (lineAddr line) 64⟩] })

/-- A write's bytes reach their line, with a queue entry. -/
def State.dmcPut (s : State) (n line mid mask : Nat) (data : List Byte) : State :=
  let x := s.dmc n
  let old := s.bytes .dram (lineAddr line) 64
  let wq := if x.wq.any (fun w => w.line == line) then
      x.wq.map (fun w => if w.line = line then { w with mask := Nat.lor w.mask mask, merged := true } else w)
    else x.wq ++ [⟨line, mid, mask, old, false⟩]
  let s1 := (List.range 64).foldl (fun t i =>
    if bitAt mask i then t.setByte .dram (lineAddr line + i) (data.getD i 0) else t) s
  ({ s1 with dramBad := if mask = 2 ^ 64 - 1 then s1.dramBad.filter (fun l => l != line) else s1.dramBad } : State).setDmc n
    { x with wq := wq }

/-- A write that a channel has taken; `corr` and `uncorr` are the devices in error at the read of a read-modify-write. -/
def State.dmcWrite (s : State) (n line mid : Nat) (gen : BitVec 8) (mask : Nat) (data : List Byte) (corr uncorr : Nat) : State :=
  let part := decide (mask ≠ 2 ^ 64 - 1)
  let merge := (s.dmc n).wq.any (fun w => w.line == line)
  let s1 := (s.chCnt n 1).countIf (part && !merge) (R.DMC_CH_CNT n 3)
  if part ∧ ¬ merge ∧ s.dramBad.contains line then s1.setResp mid 0
  else if part ∧ ¬ merge ∧ s.chState n = 3 ∧ uncorr ≠ 0 then (s1.freeze n 1 (some line) uncorr mid gen false).dmcErr mid
  else
    let s2 := if part ∧ ¬ merge ∧ corr ≠ 0 then s1.dramCe n line corr else s1
    (s2.dmcPut n line mid mask data).setResp mid 0

/-- DRAM_WRITE (R455): a channel takes a write of the bytes of a line that a mask names. -/
def execDramWrite (mid : Nat) (gen : BitVec 8) (addr : Nat) (mask : W64) (data : List Byte) (corr uncorr : Nat) (s : State) : Out :=
  .next (
    let line := addr / 64
    match s.dmcRefuse mid gen line 2 with
    | some t => t
    | none =>
      let n := ((s.chanOf (lineAddr line)).map (·.1)).getD 0
      let x := s.dmc n
      if s.chTakes n = 1 ∨ (¬ x.wq.any (fun w => w.line == line) ∧
          64 ≤ (x.wq.filter (fun w => lineSub w.line == lineSub line)).length) then s
      else s.dmcWrite n line mid gen mask.toNat data (corr % 1024) (uncorr % 1024))

/-- DRAM_READ_COMPLETE (R459, R463, R464): read `i` of a running channel's queue returns, with the devices whose errors were
corrected, or could not be. -/
def execDramReadComplete (ch i corr uncorr : Nat) (s : State) : Out :=
  .next (match (s.dmc ch).rq[i]? with
    | none => s
    | some r =>
      if 8 ≤ ch ∨ s.chState ch ≠ 3 then s
      else
        let s1 := s.setDmc ch { s.dmc ch with rq := (s.dmc ch).rq.eraseIdx i }
        if s.dramBad.contains r.line then s1.poisonRead ch r.line r.mid r.gen
        else if uncorr % 1024 ≠ 0 then (s1.freeze ch 1 (some r.line) (uncorr % 1024) r.mid r.gen false).dmcErr r.mid
        else (if corr % 1024 ≠ 0 then s1.dramCe ch r.line (corr % 1024) else s1).dmcData r.mid r.data)

/-- Each running channel issues its oldest queued write to its DIMMs, as command slots allow (R451). -/
def State.issueWrites (s : State) : State :=
  let step := fun (e : Nat × DmcSt) => if s.chState e.1 = 3 then (e.1, { e.2 with wq := e.2.wq.tail }) else e
  { s with dmcs := (s.dmcs.map step).filter (fun e => e.2 ≠ {}) }

/-- DRAM_REFRESH (R451): a channel refreshes its DIMMs, which changes no content and no queue. -/
def execDramRefresh (_ch : Nat) (s : State) : Out := .next s

/-! ## DMC_MAP (R452) -/

/-- Whether DMC accepts a value for DMC_MAP. -/
def State.mapOk (s : State) (v : W32) : Bool :=
  let chs := chansOf (bitsOf v.toNat 8 8)
  !s.flag R.DMC_GSTATUS F.DMC_GSTATUS_LIVE && chs != [] && chs.all (fun n => s.chState n == 3) &&
    (bitsOf v.toNat 0 2 == 2 || ((chs.length == 1 || chs.length == 2 || chs.length == 4 || chs.length == 8) &&
      chs.all (fun n => s.chCap n == s.chCap (chs.headD 0))))

/-- The channels' contents as the new map shows them (R453): a byte moves with its channel and local address. -/
def State.remap (s : State) (old new : Nat) : State :=
  let cells := s.mem.filter (fun c => decide (c.1 < 2 ^ 44))
  let rest : State := { s with mem := s.mem.filter (fun c => decide (2 ^ 44 ≤ c.1)) }
  cells.foldl (fun t c =>
    match s.mapAddr old c.1 with
    | some (n, l) => (match s.unmapAddr new n l with | some a => t.setByte .dram a c.2 | none => t)
    | none => t) rest

/-- A value for DMC_MAP (R452). -/
def State.dmcMapWrite (s : State) (v : W32) : State :=
  if s.mapOk v then
    let gib := ((chansOf (bitsOf v.toNat 8 8)).map (fun n => s.fd (R.DMC_CH_STATUS n) F.DMC_CH_STATUS_CAP)).sum
    (((s.remap (s.rd R.DMC_MAP).toNat v.toNat).wr R.DMC_MAP (v &&& 0xFF03)).wf R.DMC_GSTATUS F.DMC_GSTATUS_INSTALLED gib).wf
      R.DMC_GSTATUS F.DMC_GSTATUS_MAP_BAD 0
  else (s.wf R.DMC_GSTATUS F.DMC_GSTATUS_MAP_BAD 1).raise (mkErr 10 0 0x5007 0 3 R.DMC_MAP 0 0 v.toNat)

/-- DMC_MAP_PAIR (R452). -/
def execDmcMapPair (mid : Nat) (gen : BitVec 8) (value : W32) (s : State) : Out :=
  .next (match s.takePair R.DMC_MAP mid gen value with
    | some t => t.dmcMapWrite value
    | none => s)

/-! ## Training and the fill (R450, R467, R468) -/

/-- A channel ends in TRAIN_FAIL (R450). -/
def State.trainFail (s : State) (n step : Nat) : State :=
  ((s.setCh n 6).chInt n F.DMC_CH_INT_TRAIN_FAIL).raise (mkErr 10 n 0x5006 3 0 0 0 0 step)

/-- DDR_TRAINING_DONE (R450): a training channel ends: `step` is 0, or the step of R476 that failed. -/
def execDdrTrainingDone (ch step speed dimms ranks density cap : Nat) (s : State) : Out :=
  .next (
    if 8 ≤ ch ∨ s.chState ch ≠ 1 then s
    else if step ≠ 0 then s.trainFail ch (min 6 step)
    else if cap = 0 ∨ 128 < cap ∨ dimms = 0 ∨ 2 < dimms ∨ ranks = 0 ∨ 2 < ranks ∨ 2 < speed ∨ 1 < density then s.trainFail ch 2
    else s.wr (R.DMC_CH_STATUS ch) (BitVec.ofNat 32 (2 * 2 ^ 29 + speed * 2 ^ 24 + dimms * 2 ^ 20 + ranks * 2 ^ 16
      + density * 2 ^ 12 + cap)))

/-- DRAM_FILL_DONE (R468): the fill of a channel completes, or fails at an address. -/
def execDramFillDone (ch : Nat) (failAt : Option Nat) (s : State) : Out :=
  .next (
    if 8 ≤ ch ∨ s.chState ch ≠ 2 then s
    else match failAt with
      | some a => (s.raise (mkErr 11 0 0x5807 3 1 a)).trainFail ch 7
      | none => (s.setCh ch 3).wf R.ECS_STATUS F.ECS_STATUS_DRAM_DONE (putBits (s.fd R.ECS_STATUS F.ECS_STATUS_DRAM_DONE) ch 1 1))

/-- SRAM_FILL_DONE (R467): the fill that began at boot ROM entry completes. -/
def execSramFillDone (s : State) : Out :=
  .next (if 3 ≤ s.fd R.MGT_BOOT_STATUS F.MGT_BOOT_STATUS_STEP then s.wf R.ECS_STATUS F.ECS_STATUS_SRAM_DONE 1 else s)

/-! ## The scrubber (R469, R470) -/

/-- Whether the scrubber runs. -/
def State.scrubs (s : State) : Bool :=
  let m := s.settled.fd R.ECS_SCRUB_CFG F.ECS_SCRUB_CFG_MODE
  m == 1 || m == 2

/-- A channel's backlog of scrub reads in milliseconds (R470). -/
def State.scrubLag (s : State) (n lag : Nat) : State :=
  let b := s.ecs.backlog.set (fun _ => 0) n lag
  let s1 : State := { s with ecs := { s.ecs with backlog := b } }
  let s2 := s1.wf R.ECS_STATUS F.ECS_STATUS_BACKLOG (min 255 ((b.map (·.2)).foldl max 0))
  if 100 < lag then (s2.ecsInt F.ECS_INT_LAG).raiseLim secCyc n (mkErr 11 0 0x5808 0 0 0 0 0 n) else s2

/-- The channel's scrub moves on; a pass ends at its capacity (R470). -/
def State.scrubNext (s : State) (n : Nat) : State :=
  let k := (s.dmc n).scrub + 1
  if k * 64 < s.chCap n then s.setDmc n { s.dmc n with scrub := k }
  else
    let s1 := s.setDmc n { s.dmc n with scrub := 0 }
    let d := if s1.ecs.passDone.contains n then s1.ecs.passDone else n :: s1.ecs.passDone
    if (List.range 8).all (fun m => s1.chState m != 3 || d.contains m) then
      (({ s1 with ecs := { s1.ecs with passDone := [] } } : State).ecsInt F.ECS_INT_PASS).ecsCnt 3
    else { s1 with ecs := { s1.ecs with passDone := d } }

/-- A scrub read of a channel's next line: it skips poisoned lines and retired pages. -/
def State.scrubLine (s : State) (n corr uncorr : Nat) : State :=
  match s.unmapAddr (s.rd R.DMC_MAP).toNat n ((s.dmc n).scrub * 64) with
  | none => (s.ecsCnt 2).scrubNext n
  | some a =>
    let line := a / 64
    let t := s.scrubNext n
    if s.dramBad.contains line ∨ (s.retiredPage a 64).isSome then t
    else if (s.dmc n).wq.any (fun w => w.line == line) then (t.ecsCnt 2).chCnt n 2
    else if uncorr ≠ 0 then (t.ecsCnt 2).freeze n 1 (some line) uncorr 0xA50 (s.genOf 0xA50) true
    else if corr ≠ 0 then ((t.ecsCnt 2).ecsCnt 4).dramCe n line corr
    else t.ecsCnt 2

/-- The array a code names (R473), with its index in the scratchpads' poison keys where it has one. -/
def arrayOf (mem : Nat) : Option (Space × Option Nat) :=
  if mem = 0 then some (.packet, none) else if mem = 1 then some (.table, none)
  else if 0x10 ≤ mem ∧ mem < 0x20 then some (.spad (mem - 0x10), some (mem - 0x10))
  else if 0x20 ≤ mem ∧ mem < 0x30 then some (.iram (mem - 0x20), none)
  else if mem = 0x30 then some (.vault, some 17) else if mem = 0x31 then some (.mgmtSpad, some 16)
  else if mem = 0x32 then some (.mgmtIram, none) else none

/-- Mark a word of an array poisoned, as the array's own rules report it (R428, R462). -/
def State.arrayUe (s : State) (mem off : Nat) : State :=
  match arrayOf mem with
  | some (_, some c) => s.spmUe c off
  | some (_, none) => s.sramUe mem off
  | none => s

/-- A corrected error in an array (R461). -/
def State.arrayCe (s : State) (mem off : Nat) : State :=
  match arrayOf mem with
  | some (_, some c) => (if c < 16 then s.count (R.CLU_SPM_CNT c 4) else s).suspect true mem (off / 1024)
  | some (_, none) =>
    ((s.ecsCnt 0).raiseLim msCyc mem (mkErr 11 0 0x5801 1 0 0 0 0 mem off)).suspect true mem (off / 1024)
  | none => s

/-- SCRUB_READ (R469): the scrubber reads the next line of channel `ch` (0 to 7), with its backlog in milliseconds, or, for
`ch` 8, a word of an SRAM array; `corr` and `uncorr` say what errors the read meets. -/
def execScrubRead (ch mem off lag corr uncorr : Nat) (s : State) : Out :=
  .next (
    if ch < 8 then (if ¬ s.scrubs ∨ s.chState ch ≠ 3 then s else (s.scrubLag ch lag).scrubLine ch (corr % 1024) (uncorr % 1024))
    else if uncorr ≠ 0 then s.arrayUe mem off
    else if corr ≠ 0 then (s.ecsCnt 4).arrayCe mem off
    else s)

/-! ## Retirement, spares, clears (R472 to R474) -/

/-- A value for ECS_RT_ENT (R472). -/
def State.rtEntWrite (s : State) (v : W32) : State :=
  let i := s.fd R.ECS_RT_IDX F.ECS_RT_IDX_INDEX
  let w := v &&& 0x8FFFFFFF
  let tab := s.ecs.retire.set (fun _ => 0) i w
  let s1 := ({ s with ecs := { s.ecs with retire := tab } } : State).raise
    (mkErr 11 0 0x5804 0 1 (w.toNat % 2 ^ 28 * 4096) 0 0 i)
  if (tab.filter (fun e => bitAt e.2.toNat 31)).length = 4096 then s1.ecsInt F.ECS_INT_RT_FULL else s1

/-- RETIRE_SET (R472). -/
def execRetireSet (mid : Nat) (gen : BitVec 8) (value : W32) (s : State) : Out :=
  .next (match s.takePair R.ECS_RT_ENT mid gen value with
    | some t => t.rtEntWrite value
    | none => s)

/-- A value for ECS_SP_ENT (R473): a valid entry starts its row's copy, clearing VALID redirects accesses back to the row. -/
def State.spEntWrite (s : State) (mid : Nat) (gen : BitVec 8) (v : W32) : State :=
  let i := s.fd R.ECS_SP_IDX F.ECS_SP_IDX_INDEX
  let mem := bitsOf v.toNat 24 6
  let row := bitsOf v.toNat 0 17
  let w := v &&& 0xBF01FFFF
  let old := s.ecs.spares.get (fun _ => 0) i
  match arrayOf mem with
  | none => s.raise (mkErr 11 0 0x5806 0 3 R.ECS_SP_ENT mid gen.toNat v.toNat)
  | some (sp, _) =>
    let back := match arrayOf (bitsOf old.toNat 24 6) with
      | some (osp, _) => if bitAt old.toNat 31 ∧ ¬ s.ecs.copying.contains i then
          s.setBytes osp (bitsOf old.toNat 0 17 * 1024) (s.ecs.spareOld.get (fun _ => []) i) else s
      | none => s
    let on := bitAt v.toNat 31
    let e : EcsSt := { back.ecs with spares := back.ecs.spares.set (fun _ => 0) i w }
    let e1 : EcsSt := { e with copying := if on then i :: e.copying.filter (fun j => j != i) else e.copying.filter (fun j => j != i) }
    let e2 : EcsSt :=
      { e1 with spareOld := if on then e1.spareOld.set (fun _ => []) i (back.bytes sp (row * 1024) 1024) else e1.spareOld.erase i }
    ({ back with ecs := e2 } : State).raise (mkErr 11 0 0x5805 0 0 0 0 0 (i + mem * 256) row)

/-- SPARE_SET (R473). -/
def execSpareSet (mid : Nat) (gen : BitVec 8) (value : W32) (s : State) : Out :=
  .next (match s.takePair R.ECS_SP_ENT mid gen value with
    | some t => t.spEntWrite mid gen value
    | none => s)

/-- SPARE_COPY_DONE (R473): the copy into spare `i` ends. -/
def execSpareCopyDone (i : Nat) (s : State) : Out :=
  .next (
    if s.ecs.copying.contains i then
      ({ s with ecs := { s.ecs with copying := s.ecs.copying.filter (fun j => j != i) } } : State).ecsCnt 5
    else s)

/-- Whether ECS takes a clear from a master (R429, R474). -/
def State.clearMay (s : State) (mid mem : Nat) : Bool :=
  decide (0x800 ≤ mid ∧ mid ≤ 0x807) || (mid == 0xA60 && !s.locked) ||
    (midIsThread mid && s.keeperMid (midCluster mid) == mid &&
      (!decide (0x10 ≤ mem ∧ mem < 0x20) || mem == 0x10 + midCluster mid))

/-- Zeros in a word of an array, no longer poisoned. -/
def State.clearWord (s : State) (mem off : Nat) : State :=
  match arrayOf mem with
  | none => s
  | some (sp, c) =>
    let a := off / 8 * 8
    let t := s.setBytes sp a (List.replicate 8 0)
    match c with
    | some c => { t with spmBad := t.spmBad.filter (fun k => k != spmKey c a) }
    | none => { t with ecs := { t.ecs with bad := t.ecs.bad.filter (fun k => k != mem * 2 ^ 32 + a / 8) } }

/-- A write to ECS_CLEAR[1] (R474): ECS_CLEAR[0] as last written says what is cleared. -/
def State.ecsClearWrite (s : State) (mid : Nat) (gen : BitVec 8) (v : W32) : State :=
  let k := (s.rd (R.ECS_CLEAR 0)).toNat
  let sram := bitAt k 31
  let mem := bitsOf k 24 6
  if ¬ s.clearMay mid (if sram then mem else 0) then s.raise (mkErr 11 0 0x5806 0 3 (R.ECS_CLEAR 1) mid gen.toNat v.toNat)
  else if sram then (s.clearWord mem v.toNat).ecsCnt 6
  else
    let line := v.toNat + k % 4 * 2 ^ 32
    ({ (s.setBytes .dram (lineAddr line) (List.replicate 64 0)) with dramBad := s.dramBad.filter (fun l => l != line) } : State).ecsCnt 6

/-- ECS_CLEAR (R474). -/
def execEcsClear (mid : Nat) (gen : BitVec 8) (value : W32) (s : State) : Out :=
  .next (s.reach (R.ECS_CLEAR 1) mid gen value (fun t => t.ecsClearWrite mid gen value))

/-- ECS_RT_ENT and ECS_SP_ENT as reads return them, and ECS_SUS. -/
def State.rtEntRead (s : State) : W32 := s.ecs.retire.get (fun _ => 0) (s.fd R.ECS_RT_IDX F.ECS_RT_IDX_INDEX)
def State.spEntRead (s : State) : W32 := s.ecs.spares.get (fun _ => 0) (s.fd R.ECS_SP_IDX F.ECS_SP_IDX_INDEX)
def State.susRead (s : State) (w : Nat) : W32 :=
  match s.ecs.suspects[s.fd R.ECS_SUS_IDX F.ECS_SUS_IDX_INDEX]? with
  | none => 0
  | some e => if w = 0 then BitVec.ofNat 32 (2 ^ 31 + b2n e.sram * 2 ^ 30 + e.mem * 2 ^ 24 + e.count) else BitVec.ofNat 32 e.loc

end Sys2Proof.Machine
end

