-- ==== Sys2Proof/Machine/MlkOps.lean ====
section
/-! DEFINITION. The Molma link's frames (18_molma_link, R573 to R579): sides, headers, replay, credits, flooding, votes. -/
namespace Sys2Proof.Machine
open Sys2Proof

/-! ## The link's state -/

/-- Change MLK's state. -/
def State.setMlk (s : State) (x : MlkSt) : State := { s with mlk := x }

/-- A side of the link: 0 A, 1 B. -/
def State.mside (s : State) (i : Nat) : MlkSide := s.mlk.sides.get (fun _ => {}) i

/-- Set a side. -/
def State.setMside (s : State) (i : Nat) (x : MlkSide) : State :=
  s.setMlk { s.mlk with sides := s.mlk.sides.set (fun _ => {}) i x }

/-- Count one of MLK's events (R596). -/
def State.mlkCnt (s : State) (k : Nat) : State := s.count (R.MLK_CNT k)

/-- A record of MLK (R594). -/
def mlkRec (code sev : Nat) (d0 d1 : Nat := 0) (inst : Nat := 0xF) : ErrRec := mkErr 16 inst code sev 0 0 0 0 d0 d1

/-- Set a bit of MLK_INT (R595): PAIR asks for vector 4, every other bit for vector 6. -/
def State.mlkInt (s : State) (bit : Nat) : State :=
  let on (t : State) : Bool := decide ((t.rd R.MLK_INT &&& t.rd R.MLK_INT_EN &&& 0x7B#32) ≠ 0)
  let t := s.orBits R.MLK_INT (2 ^ bit)
  if bit = 2 then t.irqIf (bitAt (s.rd R.MLK_INT_EN).toNat 2 && !bitAt (s.rd R.MLK_INT).toNat 2) 4
  else t.irqIf (on t && !on s) 6

/-- MLK_STATUS.STATE: 0 OFF, 1 TRAINING, 2 HELLO, 3 ELECTING, 4 SYNC, 5 RUN, 6 ALONE. -/
def State.mlkState (s : State) : Nat := s.fd R.MLK_STATUS F.MLK_STATUS_STATE

/-- Set MLK_STATUS.STATE. -/
def State.setMlkState (s : State) (x : Nat) : State := s.wf R.MLK_STATUS F.MLK_STATUS_STATE x

/-- MLK_SIDE.STATE: 0 DOWN, 1 TRAIN, 2 HELLO, 3 UP, 4 LOST. -/
def State.sideState (s : State) (i : Nat) : Nat := s.fd (R.MLK_SIDE i) F.MLK_SIDE_STATE

/-- Set MLK_SIDE.STATE; a change between UP and another state is a SIDE_CHG. -/
def State.setSide (s : State) (i x : Nat) : State :=
  let t := s.wf (R.MLK_SIDE i) F.MLK_SIDE_STATE x
  if (s.sideState i = 3) = (x = 3) then t else t.mlkInt 0

/-- The topology's sides (R570): none under a reserved TOPO. -/
def State.mlkSides (s : State) : List Nat :=
  match s.fd R.MLK_CFG F.MLK_CFG_TOPO with
  | 0 => [0]
  | 1 => [0, 1]
  | _ => []

/-- The side of a lane (R570). -/
def State.laneSide (s : State) (lane : Nat) : Nat := if s.fd R.MLK_CFG F.MLK_CFG_TOPO = 1 then lane / 2 % 2 else 0

/-- The lanes of a side that hold block lock. -/
def State.sideLanes (s : State) (i : Nat) : List Nat :=
  (List.range 4).filter (fun l => s.laneSide l == i && bitAt (s.fd R.MLK_STATUS F.MLK_STATUS_LANES) l)

/-- Whether the link is enabled and may run: EN = 1, no reserved TOPO, the device in L0 or L1. -/
def State.mlkRuns (s : State) : Bool :=
  s.flag R.MLK_CFG F.MLK_CFG_EN && decide (s.mlkSides ≠ []) && decide (s.powerStep ≤ 1)

/-- Whether a side carries frames: it is in HELLO or UP. -/
def State.sideOn (s : State) (i : Nat) : Bool :=
  s.mlkRuns && s.mlkSides.contains i && (s.sideState i == 2 || s.sideState i == 3)

/-- The serial of this device. -/
def State.serial (s : State) : W64 := s.rd64 (R.MGT_SERIAL 0)

/-- This member's chip index, and whether it has one. -/
def State.chip (s : State) : Nat := s.fd R.MLK_STATUS F.MLK_STATUS_CHIP
def State.hasChip (s : State) : Bool := decide (s.fd R.MLK_STATUS F.MLK_STATUS_MEMBERS ≠ 0)

/-- The pair state (R587): 0 NONE, 1 ACTIVE, 2 STANDBY, 3 TAKING, 4 ALONE, 5 CONFLICT, 6 RELINQUISHED. -/
def State.pairState (s : State) : Nat := s.fd R.MLK_PAIR_STATUS F.MLK_PAIR_STATUS_STATE

/-- The side that joins this member to its pair partner (R572). -/
def State.partnerSide (s : State) : Option Nat :=
  if ¬ s.mode F.GLB_MODE_PAIR then none
  else match s.fd R.MLK_CFG F.MLK_CFG_TOPO with
    | 0 => some 0
    | 1 => some (s.fd R.MLK_PAIR_STATUS F.MLK_PAIR_STATUS_ROLE_PIN)
    | _ => none

/-! ## Frames (R573) -/

/-- The longest payload and the multiple of a type; none for a reserved TYPE. -/
def frameLimit (typ : Nat) : Option (Nat × Nat × Nat) :=
  match typ with
  | 1 => some (60, 9728, 1) | 2 => some (16, 960, 16) | 3 => some (32, 32, 1) | 4 => some (32, 32, 1)
  | 5 => some (16, 128, 16) | 6 => some (16, 16, 1) | 7 => some (8, 8, 1) | 8 => some (16, 16, 1)
  | 9 => some (8, 8, 1) | 10 => some (16, 16, 1) | 11 => some (32, 32, 1)
  | _ => none

/-- Whether a type is replayed (R574). -/
def replayed (typ : Nat) : Bool := typ == 2 || decide (4 ≤ typ ∧ typ ≤ 10)

/-- Whether a header is one that a receiver takes: a defined TYPE, LEN within its limit, no reserved bit. -/
def headerOk (h0 h1 : Nat) : Bool :=
  match frameLimit (h0 % 16) with
  | none => false
  | some (lo, hi, m) =>
    let len := bitsOf h0 40 14
    decide (lo ≤ len ∧ len ≤ hi ∧ len % m = 0) && !bitAt h0 15 && decide (h1 / 2 ^ 11 = 0)

/-- The frame of a header and a payload. -/
def mlkParse (h0 h1 : Nat) (payload : List Byte) : MlkFrame :=
  { typ := h0 % 16, src := bitsOf h0 4 3, srcV := bitAt h0 7, dst := bitsOf h0 8 3, bcast := bitAt h0 11,
    hops := bitsOf h0 12 3, seq := bitsOf h0 16 12, cls := bitsOf h1 8 3, payload := payload }

/-- The bytes of a frame: header, payload, CRC-32C. -/
def mlkBytes (f : MlkFrame) (ack credit epoch : Nat) : List Byte :=
  let h0 := f.typ + f.src * 2 ^ 4 + b2n f.srcV * 2 ^ 7 + f.dst * 2 ^ 8 + b2n f.bcast * 2 ^ 11 + f.hops * 2 ^ 12
    + f.seq * 2 ^ 16 + ack * 2 ^ 28 + f.payload.length * 2 ^ 40 + credit * 2 ^ 54
  let body := toLe 8 h0 ++ toLe 8 (epoch + f.cls * 2 ^ 8) ++ f.payload
  body ++ toLe 4 (crc32c body)

/-- The DATA credits that a frame of `len` payload bytes takes (R575). -/
def mlkCredits (len : Nat) : Nat := (len + 20 + 255) / 256

/-- The credits of a side's frames in the receive buffer. -/
def State.rxCredits (s : State) (i : Nat) : Nat :=
  (((s.port 144).rxq.filter (fun r => r.side == i)).map (fun r => mlkCredits r.bytes.length)).sum

/-- A frame leaves on a side, with the acknowledgement and the credits to return. -/
def State.mlkPut (s : State) (i : Nat) (f : MlkFrame) : State :=
  let x := s.mside i
  let back := min 1023 (x.owed - s.rxCredits i)
  (s.setMside i { x with owed := x.owed - back, wire := mlkBytes f x.rxSeq back s.odsEpoch.toNat }).mlkCnt 0

/-- A replayed frame is sent on a side, or waits for one of the 64 places (R574). -/
def State.mlkCtl (s : State) (i : Nat) (f : MlkFrame) : State :=
  if ¬ s.sideOn i then s
  else
    let x := s.mside i
    let g := { f with seq := x.txSeq }
    let t := s.setMside i { x with txSeq := (x.txSeq + 1) % 4096, unacked := x.unacked ++ [g],
                                   ackFrom := if x.unacked = [] then s.time.clock else x.ackFrom }
    if x.unacked.length < 64 then t.mlkPut i g else t

/-- The sides on which an originator floods (R579). -/
def State.floodSides (s : State) : List Nat := if s.flag R.MLK_STATUS F.MLK_STATUS_RING then [0] else s.mlkSides

/-- A frame of this member's own. -/
def State.mlkOwn (s : State) (typ : Nat) (payload : List Byte) : MlkFrame :=
  { typ := typ, src := s.chip, srcV := s.hasChip, bcast := true, hops := 7, payload := payload }

/-- Flood a frame. -/
def State.mlkFlood (s : State) (f : MlkFrame) : State := s.floodSides.foldl (fun t i => t.mlkCtl i f) s

/-- Forward a frame out of the other side (R579). -/
def State.mlkForward (s : State) (i : Nat) (f : MlkFrame) : State :=
  if s.mlkSides = [0, 1] ∧ f.hops ≠ 0 then s.mlkCtl (1 - i) { f with hops := f.hops - 1 } else s

/-- The frames that an ACK acknowledges. -/
def ackedBy (ack : Nat) (q : List MlkFrame) : Nat :=
  match q.findIdx? (fun f => f.seq == ack) with
  | some n => if n < 64 then n + 1 else 0
  | none => 0

/-- A header's ACK and CREDIT act (R574, R575); frames that waited for a place are sent. -/
def State.mlkAck (s : State) (i ack credit : Nat) : State :=
  let x := s.mside i
  let n := ackedBy ack x.unacked
  let y := { x with credits := min 512 (x.credits + credit), unacked := x.unacked.drop n,
                    resends := if n = 0 then x.resends else 0, ackFrom := if n = 0 then x.ackFrom else s.time.clock }
  ((y.unacked.drop (64 - n)).take n).foldl (fun t f => t.mlkPut i f) (s.setMside i y)

/-- A frame whose header a receiver does not take is counted with the frames received, and recorded (R573). -/
def State.frameBad (s : State) (h0 : Nat) : State := (s.mlkCnt 1).raise (mlkRec 0x800B 0 (h0 % 2 ^ 32))

/-- A good frame of a type arrives on a side: what its header says acts, then `f`. A replayed frame is taken only as the next
one expected; a frame without room in its queue is held by its sender. -/
def State.mlkRx (s : State) (typ i h0 h1 : Nat) (payload : List Byte) (room : State → Bool) (f : State → MlkFrame → State) :
    Out :=
  .next (
    let x := s.mside i
    let fr := mlkParse h0 h1 payload
    if ¬ s.sideOn i ∨ h0 % 16 ≠ typ then s
    else if ¬ headerOk h0 h1 ∨ bitsOf h0 40 14 ≠ payload.length then s.frameBad h0
    else if replayed typ ∧ (fr.seq ≠ (x.rxSeq + 1) % 4096 ∨ ¬ room s) then s
    else
      let t := (s.mlkCnt 1).mlkAck i (bitsOf h0 28 12) (bitsOf h0 54 10)
      f (if replayed typ then t.setMside i { (t.mside i) with rxSeq := fr.seq } else t) fr)

/-- A flooded or addressed control frame (R579): dropped where SRC is this member's index or HOPS is 0; forwarded unless it is
addressed to this member; consumed where it is for every member or for this one. -/
def State.mlkTake (s : State) (i : Nat) (fr : MlkFrame) (f : State → State) : State :=
  let mine := !fr.bcast && s.hasChip && fr.dst == s.chip
  if (fr.srcV ∧ s.hasChip ∧ fr.src = s.chip) ∨ fr.hops = 0 then s
  else
    let t := if mine then s else s.mlkForward i fr
    if fr.bcast ∨ mine then f t else t

/-! ## Chained transactions: the frames (R583 to R585) -/

/-- The chip index of the coordinator. -/
def State.coordChip (s : State) : Nat :=
  ((s.mlk.members.find? (fun m => m.serial == s.rd64 (R.MLK_COORD 0))).map (·.chip)).getD 0

/-- A payload's number and its fifth byte. -/
def numAnd (payload : List Byte) : W32 × Nat := (BitVec.ofNat 32 (leNat (payload.take 4)), leNat ((payload.drop 4).take 1))

/-- A VOTE to the coordinator: verdict 1 READY with reason 0, or 0 REFUSE with 1 NOT_STAGED, 2 DRAINING, 3 CHECK_FAIL, 4
EPOCH_MISMATCH. -/
def State.sendVote (s : State) (num : W32) (reason : Nat) : State :=
  s.mlkFlood { s.mlkOwn 7 (toLe 4 num.toNat ++ toLe 4 (b2n (reason == 0) + reason * 2 ^ 8)) with
    bcast := false, dst := s.coordChip }

/-- The vote READY is cast (R583). -/
def State.voteReady (s : State) (num : W32) : State :=
  ((s.setMlk { s.mlk with voted := some (num, s.time.clock), asked := none, doubt := false }).mlkCnt 11).sendVote num 0

/-- A PREPARE that waited for the end of CHECKING or LOADING is answered (R620). -/
def State.answerAsked (s : State) : State :=
  match s.mlk.asked with
  | none => s
  | some (num, _) =>
    let st := s.fd R.MGT_TXN_STATUS F.MGT_TXN_STATUS_STATE
    if st = 2 ∨ st = 3 then s
    else if st = 4 ∧ s.rd R.MGT_TXN_NUM = num then s.voteReady num
    else
      let r := s.fd R.MGT_TXN_STATUS F.MGT_TXN_STATUS_RESULT
      (s.setMlk { s.mlk with asked := none }).sendVote num (if r = 5 then 2 else if r = 2 ∨ st = 7 then 3 else 1)

end Sys2Proof.Machine
end

