-- ==== Sys2Proof/Machine/Txn.lean ====
section
/-! DEFINITION. Modes and the transaction engine (19_modes_transactions): GLB_MODE, staging, the phases' transitions, the
injection of MARK and ABORT. CHECK, LOADING and the commit point, which reach every register, stand in TxnRun. -/
namespace Sys2Proof.Machine
open Sys2Proof

/-! ## Starting threads (R347, R558, R600, R638) -/

/-- A thread that is OFF starts in RUN at a bundle index, with no transfer pending. -/
def State.runThread (s : State) (mid idx : Nat) : State :=
  (s.setThr mid { (s.thr mid) with st := 1, xfers := [], rfi := false }).startFetch mid idx

/-- The ENTRY half-word of a thread (R554): thread t of cluster c at 8c + t, of the management pair at 128 + t. -/
def State.entryOf (s : State) (mid : Nat) : Nat := s.boot.entries.get (fun _ => 0) (midCluster mid * 8 + mid % 8)

/-- Start a thread at its entry index where its ENTRY has EN = 1. -/
def State.startEntry (s : State) (mid : Nat) : State :=
  if bitAt (s.entryOf mid) 15 then s.runThread mid (s.entryOf mid % 2 ^ 14) else s

/-- The MIDs of the threads of a core. -/
def coreMids (c k : Nat) : List Nat := (List.range 8).map (threadMid c k)

/-- The spare core of a cluster (R600). -/
def State.spareCore (s : State) (c : Nat) : Nat := s.fd (R.MGT_CORE_STATE c) F.MGT_CORE_STATE_SPARE

/-- SPARE takes effect at a commit point (R600). -/
def State.spareCommit (s : State) : State :=
  let new := s.mode F.GLB_MODE_SPARE
  let s1 : State := { s with txn := { s.txn with spare := new } }
  let clus := (List.range 16).filter (fun c => !s.flag (R.MGT_CORE_STATE c) F.MGT_CORE_STATE_SPARE_USED)
  let mids := clus.flatMap (fun c => coreMids c (s.spareCore c))
  (if new ∧ ¬ s.txn.spare then mids.foldl (fun t m => t.spareOff m) s1
   else if ¬ new ∧ s.txn.spare then mids.foldl (fun t m => if (t.thr m).st = 0 then t.startEntry m else t) s1
   else s1).noteUpdate

/-! ## GLB_MODE (R597 to R599) -/

/-- The timed release that expires next over all lists: the least instant. -/
def State.nextTimed (s : State) : Option (Nat × Nat × DlEnt) :=
  let es := (List.range 16).flatMap (fun l => ((s.dlList l).filter (fun e => e.2.kind == .token)).map (fun e => (l, e.1, e.2)))
  es.find? (fun e => es.all (fun f =>
    let a := e.2.2.tick * s.dlTick e.1
    let b := f.2.2.tick * s.dlTick f.1
    decide (a < b ∨ (a = b ∧ e.2.2.order ≤ f.2.2.order))))

/-- TIMED falls: ODS releases every timed release at once, in expiry order, none of them late (R598). -/
def State.releaseTimed (s : State) : Nat → State
  | 0 => s
  | n + 1 => match s.nextTimed with
    | none => s
    | some (l, i, e) =>
      State.releaseTimed (((s.dlFree l i).setSlot e.id { (s.slot e.id) with timed := none }).releaseNow e.id) n

/-- GLB_MODE takes a value (R597 to R599). -/
def State.setMode (s : State) (v : W32) : State :=
  let was := s.mode F.GLB_MODE_TIMED
  let s1 := s.wr R.GLB_MODE (v &&& 0xFFF)
  (if was ∧ ¬ s1.mode F.GLB_MODE_TIMED then (s1.releaseTimed s1.ods.dl.length).reThrottle else s1).noteUpdate

/-- MODE_PAIR (R599): a completed pair on GLB_MODE. -/
def execModePair (mid : Nat) (gen : BitVec 8) (value : W32) (s : State) : Out :=
  .next (match s.takePair R.GLB_MODE mid gen value with
    | some t => t.setMode value
    | none => s)

/-! ## The engine's state -/

/-- Set the transaction's STATE. -/
def State.setTxn (s : State) (st : Nat) : State := s.wf R.MGT_TXN_STATUS F.MGT_TXN_STATUS_STATE st

/-- Refuse an operation: ERR set (R617, R618, R621). -/
def State.txnErr (s : State) (b : Bool) : State := s.wf R.MGT_TXN_CTRL F.MGT_TXN_CTRL_ERR (b2n b)

/-- The number of the open transaction. -/
def State.txnNum (s : State) : W32 := s.rd R.MGT_TXN_NUM

/-- An empty engine that keeps what outlives a transaction. -/
def TxnSt.cleared (x : TxnSt) : TxnSt := { lastNum := x.lastNum, spare := x.spare }

/-- The one-write transaction of a hand-over starts, where a hand-over waits for it (R623). -/
def State.handoverTxn (s : State) : State :=
  if s.mlk.taking.isSome ∧ s.txnState = 0 then
    let s1 : State := { s with txn := { s.txn.cleared with
      entries := [{ word0 := 0x80000040, value := s.rd R.GLB_MODE &&& ~~~(BitVec.ofNat 32 (2 ^ F.GLB_MODE_STANDBY.lo)) }],
      checkSince := s.time.clock } }
    ((((s1.wr R.MGT_TXN_NUM 0xFFFFFFFF).wf R.MGT_TXN_COUNT F.MGT_TXN_COUNT_COUNT 1).wf R.MGT_TXN_STATUS
      F.MGT_TXN_STATUS_RESULT 0).setTxn 2).count (R.MGT_MTX_CNT 0)
  else s

/-- A transaction ends in IDLE with a RESULT (R614): 1 COMMITTED, 2 REFUSED, 3 ABORTED, 4 BAD_ENTRY, 5 DRAINING, 6 ASLEEP, 7
RING, 8 HANDOVER, 9 MGT_RESET, 0xA CHAIN_ABORT. -/
def State.txnEnd (s : State) (r : Nat) : State :=
  let num := s.txnNum
  let s1 := (s.setTxn 0).wf R.MGT_TXN_STATUS F.MGT_TXN_STATUS_RESULT r
  let s2 : State := { s1 with
    txn := { s1.txn.cleared with lastNum := if r = 1 ∨ r = 3 ∨ r = 0xA then some num else s1.txn.lastNum },
    mlk := { s1.mlk with voted := none, doubt := false, instant := none } }
  let s3 := (s2.countIf (r == 1) (R.MGT_MTX_CNT 1)).countIf (r == 2) (R.MGT_MTX_CNT 2)
  let gone := r == 3 || r == 6 || r == 8 || r == 9 || r == 0xA
  (((s3.countIf gone (R.MGT_MTX_CNT 3)).raiseIf gone (mkErr 14 0 0x7105 0 0 0 0 0 r num.toNat)).answerAsked).handoverTxn

/-- Abort the open transaction (R617): at once in STAGING and CHECKING; by an ABORT cell on every pipeline from LOADING on.
Nothing in another state. -/
def State.txnAbort (s : State) (r : Nat) : State :=
  let st := s.txnState
  if st = 1 ∨ st = 2 then s.txnEnd r
  else if st = 3 ∨ st = 4 then
    ({ s with txn := { s.txn with inject := [0, 1, 2, 3], ender := r } } : State).setTxn 7
  else s

/-- Every viewed unit takes its stored old values back into the live state, and every unit drops what it holds pending
(R617, R619); COUNT of each port follows the L2 entries that go and come back (R152). -/
def State.txnRestore (s : State) : State :=
  let qs := ((s.l2.inUse s ++ s.oldView.l2.inUse s.oldView).eraseDups).filter s.l2Pinned
  let t := qs.foldl (fun t q => (t.adjCount (s.l2At q).2 false).adjCount (s.oldView.l2At q).2 true) s
  { t.oldView with txn := { s.txn with oldRegs := [], oldMem := [], viewNew := none, pend := [] } }

/-- A power entry to L2 or deeper aborts a transaction that is not past MARKING (R618). -/
def State.txnAsleep (s : State) : State := if 2 ≤ s.txnState ∧ s.txnState ≤ 4 then s.txnAbort 6 else s

/-- The management pair's reset meets an open transaction (R619). -/
def State.txnMgtReset (s : State) : State :=
  let st := s.txnState
  if 1 ≤ st ∧ st ≤ 4 then s.txnRestore.txnEnd 9 else s

/-! ## The transaction registers (R614, R618, R628) -/

/-- MGT takes writes of the transaction registers from the management pair, the host path and the SPI target (R628). -/
def txnMay (mid : Nat) : Bool := decide ((0x800 ≤ mid ∧ mid ≤ 0x807) ∨ mid = 0xA60 ∨ mid = 0xA90)

/-- A write discarded with a BOOT_WRITE record (R549, R628). -/
def State.bootWriteBad (s : State) (off mid : Nat) (gen : BitVec 8) (v : W32) : State :=
  s.bootErr (mkErr 14 0 0x700C 0 3 off mid gen.toNat v.toNat)

/-- Whether the device is in an entry or an exit, or above L1 (R618). -/
def State.txnAsleepNow (s : State) : Bool :=
  s.bcn.exiting || decide (1 < s.powerStep ∨ s.fd R.BCN_PWR_STATUS F.BCN_PWR_STATUS_TARGET ≠ 0)

/-- OPEN (R614, R618). -/
def State.txnOpen (s : State) (num : W32) : State :=
  if s.txnState ≠ 0 ∨ num = 0xFFFFFFFF ∨ s.txn.lastNum = some num then s.txnErr true
  else
    let s1 : State := { s with txn := s.txn.cleared }
    (((((s1.txnErr false).setTxn 1).wf R.MGT_TXN_STATUS F.MGT_TXN_STATUS_STAGE_ERR 0).wf R.MGT_TXN_STATUS
      F.MGT_TXN_STATUS_RESULT 0).wf R.MGT_TXN_COUNT F.MGT_TXN_COUNT_COUNT 0).count (R.MGT_MTX_CNT 0)

/-- CHECKING starts (R614): the pending first writes on registers that the entries name are held (R613). -/
def State.txnCheckStart (s : State) (load chain : Bool) : State :=
  let s1 := (({ s with txn := { s.txn with load := load, chain := chain, checkSince := s.time.clock } } : State).txnErr
    false).setTxn 2
  s1.guards.foldl (fun t p => if t.heldWrite p.2.off then
    (t.endPend p.1).holdDiscard p.2.off p.2.mid p.2.gen p.2.value else t) s1

/-- COMMIT (R614, R618, R620, R621). -/
def State.txnCommit (s : State) (chain : Bool) : State :=
  if s.txnState ≠ 1 ∨ s.txnAsleepNow then s.txnErr true
  else if s.flag R.MGT_TXN_STATUS F.MGT_TXN_STATUS_STAGE_ERR then (s.txnErr false).txnEnd 4
  else if (s.mlkState = 5 ∧ ¬ chain) ∨ (chain ∧ ¬ s.flag R.MLK_STATUS F.MLK_STATUS_COORD) then
    (s.txnErr true).wf R.MGT_TXN_STATUS F.MGT_TXN_STATUS_RESULT 7
  else s.txnCheckStart chain chain

/-- LOAD (R614, R618, R620). -/
def State.txnLoad (s : State) : State :=
  if s.txnState ≠ 1 ∨ s.txnAsleepNow then s.txnErr true
  else if s.flag R.MGT_TXN_STATUS F.MGT_TXN_STATUS_STAGE_ERR then (s.txnErr false).txnEnd 4
  else s.txnCheckStart true false

/-- ABORT by software (R617, R621). -/
def State.txnAbortOp (s : State) : State :=
  let st := s.txnState
  if st = 0 ∨ 5 ≤ st ∨ s.mlk.voted.isSome then s.txnErr true else (s.txnErr false).txnAbort 3

/-- A write to MGT_TXN_CTRL. -/
def State.txnCtrlWrite (s : State) (mid : Nat) (gen : BitVec 8) (v : W32) : State :=
  if ¬ txnMay mid then s.bootWriteBad R.MGT_TXN_CTRL mid gen v
  else
    let t := s.wf R.MGT_TXN_CTRL F.MGT_TXN_CTRL_CHAIN (b2n (bitAt v.toNat 8))
    match bitsOf v.toNat 0 4 with
    | 1 => t.txnOpen t.txnNum
    | 2 => t.txnCommit (bitAt v.toNat 8)
    | 3 => t.txnLoad
    | 4 => t.txnAbortOp
    | _ => t.txnErr true

/-- A write to MGT_TXN_NUM: no effect outside IDLE. -/
def State.txnNumWrite (s : State) (mid : Nat) (gen : BitVec 8) (v : W32) : State :=
  if ¬ txnMay mid then s.bootWriteBad R.MGT_TXN_NUM mid gen v
  else if s.txnState = 0 then s.wr R.MGT_TXN_NUM v else s

/-- TXN_OPEN (R614): a write of OPEN to MGT_TXN_CTRL. -/
def execTxnOpen (mid : Nat) (gen : BitVec 8) (s : State) : Out := .next (s.reach R.MGT_TXN_CTRL mid gen 1 (fun t => t.txnCtrlWrite mid gen 1))

/-- TXN_COMMIT (R614): a write of COMMIT, with CHAIN. -/
def execTxnCommit (mid : Nat) (gen : BitVec 8) (chain : Bool) (s : State) : Out :=
  .next (s.reach R.MGT_TXN_CTRL mid gen (if chain then 0x102 else 2) (fun t =>
    t.txnCtrlWrite mid gen (if chain then 0x102 else 2)))

/-- TXN_LOAD (R620): a write of LOAD. -/
def execTxnLoad (mid : Nat) (gen : BitVec 8) (s : State) : Out := .next (s.reach R.MGT_TXN_CTRL mid gen 3 (fun t => t.txnCtrlWrite mid gen 3))

/-- TXN_ABORT (R617): a write of ABORT. -/
def execTxnAbort (mid : Nat) (gen : BitVec 8) (s : State) : Out := .next (s.reach R.MGT_TXN_CTRL mid gen 4 (fun t => t.txnCtrlWrite mid gen 4))

/-! ## Staging (R608, R609) -/

/-- Whether an offset names a stageable register (R609). -/
def stageable (off : Nat) : Bool :=
  decide (off % 4 = 0) && match cardAt off with
  | none => false
  | some c =>
    c.txn || c.lock || off == R.GLB_MODE || off == R.BPM_QSEL || off == R.ODS_TSEL || off == R.REC_CFG || decide (R.REC_TRIG_CFG 0 ≤ off ∧ off < R.REC_TRIG_CFG 64)
      || decide (off ≠ R.REC_CMD ∧ cmdIface off ≠ 0)

/-- REC_CMD is stageable with OP 0x2 or 0x4 only (R609). -/
def stageableRec (off : Nat) (value : W32) : Bool :=
  if off = R.REC_CMD then bitsOf value.toNat 0 4 == 2 || bitsOf value.toNat 0 4 == 4 else stageable off

/-- A write to MGT_TXN_ENT[2] in STAGING appends the entry or refuses it (R608, R609). -/
def State.stageEntry (s : State) (mid : Nat) (gen : BitVec 8) (v : W32) : State :=
  if ¬ txnMay mid then s.bootWriteBad (R.MGT_TXN_ENT 2) mid gen v
  else
    let t := s.wr (R.MGT_TXN_ENT 2) v
    let e : TxnEnt := { word0 := t.rd (R.MGT_TXN_ENT 0), value := t.rd (R.MGT_TXN_ENT 1), mask := v }
    if t.txnState ≠ 1 then t
    else if t.txn.entries.length < 4096 ∧ stageableRec (e.word0.toNat % 2 ^ 24) e.value then
      ({ t with txn := { t.txn with entries := t.txn.entries ++ [e] } } : State).wf R.MGT_TXN_COUNT
        F.MGT_TXN_COUNT_COUNT (t.txn.entries.length + 1)
    else (t.wf R.MGT_TXN_STATUS F.MGT_TXN_STATUS_STAGE_ERR 1).raise
      (mkErr 14 0 0x7101 0 3 (e.word0.toNat % 2 ^ 24) mid gen.toNat e.word0.toNat t.txnNum.toNat)

/-- TXN_STAGE_ENTRY (R609). -/
def execTxnStageEntry (mid : Nat) (gen : BitVec 8) (value : W32) (s : State) : Out :=
  .next (s.reach (R.MGT_TXN_ENT 2) mid gen value (fun t => t.stageEntry mid gen value))

/-! ## Waiting for the drain, and the injection (R614, R615, R617) -/

/-- CHECK_TIMEOUT (R614): CHECK_TMO ms pass in CHECKING while tokens of the previous epoch remain. -/
def execCheckTimeout (s : State) : Out :=
  .next (
    if s.txnState = 2 ∧ s.oldLive ≠ 0 then
      (s.passTo (s.txn.checkSince + max 1 (s.fd R.MGT_TXN_CFG F.MGT_TXN_CFG_CHECK_TMO) * msCyc)).txnEnd 5
    else s)

/-- The epoch that an open transaction brings (R54, R622). -/
def State.newEpoch (s : State) : BitVec 8 := s.txn.viewNew.getD (s.odsEpoch + 1)

/-- MARKING starts: MGT signals the four pipelines (R615). -/
def State.signalMark (s : State) : State := ({ s with txn := { s.txn with inject := [0, 1, 2, 3] } } : State).setTxn 5

/-- The token of a MARK or an ABORT cell (R41, R615, R617). -/
def State.markTok (s : State) : Token :=
  { ctype := if s.txnState = 7 then 2 else 1, epoch := s.newEpoch, cresult := s.txnNum, inport := 0xFF, its := s.time.ptp }

/-- MARK_INJECT (R615, R617): a pipeline that MGT has signalled injects its MARK, or its ABORT cell. -/
def execMarkInject (pl : Nat) (s : State) : Out :=
  .next (
    if s.txn.inject.contains pl then
      (({ s with txn := { s.txn with inject := s.txn.inject.filter (fun p => p != pl) } } : State).injectCell 0 pl
        s.markTok).reThrottle
    else s)

end Sys2Proof.Machine
end

