-- ==== Sys2Proof/Machine/Bcn.lean ====
section
/-! DEFINITION. The Beacon (16_beacon_time_power, 22 R709, 23): what RESET_N leaves, PTP-domain time, time pins, alarms,
comparators, tamper, crossings, operating points and the adaptive core voltage. -/
namespace Sys2Proof.Machine
open Sys2Proof

/-- Change BCN's state. -/
def State.setBcn (s : State) (x : BcnSt) : State := { s with bcn := x }

/-- A record of BCN. -/
def bcnRec (code sev : Nat) (d0 d1 : Nat := 0) : ErrRec := mkErr 13 0 code sev 0 0 0 0 d0 d1

/-- Set bits of BCN_INT (R546). -/
def State.bcnInt (s : State) (bit : Nat) : State := s.intSet R.BCN_INT R.BCN_INT_EN (2 ^ bit) 5

/-- Count one of BCN's events (R547). -/
def State.bcnCnt (s : State) (k : Nat) : State := s.count (R.BCN_CNT k)

/-- BCN keeps a record in the save area; MGT delivers it after the next start. -/
def State.keep (s : State) (r : ErrRec) : State :=
  s.setBcn { s.bcn with kept := s.bcn.kept ++ [{ r with ts := s.stamp, tskind := !s.timeRuns }] }

/-! ## Resets (R516, R709, R727) -/

/-- The Beacon-held registers (R516), but for the counters. -/
def beaconHeld (off : Nat) : Bool :=
  decide ((R.BCN_BCNT 0 ≤ off ∧ off ≤ R.BCN_SLEEP_REF 3) ∨ (R.BCN_ALARM 0 0 ≤ off ∧ off ≤ R.BCN_TEMP_CFG)
    ∨ off = R.BCN_TAMPER_CFG ∨ off = R.BCN_TAMPER ∨ off = R.BCN_WAKE_CFG ∨ off = R.BCN_WAKE_CAUSE)

/-- The offsets of BCN_CNT. -/
def isBcnCnt (off : Nat) : Bool := decide (R.BCN_CNT 0 ≤ off ∧ off < R.BCN_CNT 9)

/-- The memories that outlive RESET_N: the save area, the flash, the host's. -/
def keptSpace (a : Nat) : Bool := a / 2 ^ 44 == 4 || a / 2 ^ 44 == 7 || decide (2 ^ 72 ≤ a)

/-- What RESET_N leaves (R709): every register at its reset value but the Beacon-held ones; their counts; the Beacon counter;
the save area, the flash and the fuses; and what stands outside the device (pins, rails, sensors, host memory). -/
def State.resetN (s : State) : State :=
  { State.reset with
    pending := s.pending, free := s.free,
    time := { bcnt := s.time.bcnt, phase := s.time.phase, clock := s.time.clock },
    regs := s.regs.filter (fun e => beaconHeld e.1), live := s.live.filter (fun e => isBcnCnt e.1),
    mem := s.mem.filter (fun e => keptSpace e.1), fuse := s.fuse,
    bcn := { temps := s.bcn.temps, shutdown := s.bcn.shutdown, pulsed := s.bcn.pulsed, kept := s.bcn.kept },
    boot := { low := s.boot.low, perst := s.boot.perst, role := s.boot.role, resetLow := s.boot.resetLow },
    low := { flashSize := s.low.flashSize, flashSr := s.low.flashSr, flashErase := s.low.flashErase, pins := s.low.pins } }

/-- Whether BCN drives FAULT_N high (R730). -/
def State.faultNHigh (s : State) : Bool :=
  let pair := s.fd R.MLK_PAIR_STATUS F.MLK_PAIR_STATUS_STATE
  s.boot.released && decide (s.powerStep ≤ 1) && pair != 6 && pair != 5 && s.bcn.faults == 0 && !s.inReset

/-- The device starts from the first step of start-up (R548), where nothing holds it in reset. PAIR_ROLE is sampled (R30). -/
def State.startBoot (s : State) : State :=
  if s.inReset then s
  else
    ({ s with boot := { s.boot with t0 := s.time.clock, stepAt := s.time.clock } } : State).wf R.MLK_PAIR_STATUS
      F.MLK_PAIR_STATUS_ROLE_PIN (b2n s.boot.role)

/-- BEACON_POWER_ON (R516): every register and the save area reset; the Beacon counter starts (R525). -/
def execBeaconPowerOn (s : State) : Out :=
  .next { State.reset with
    pending := s.pending, free := s.free, time := { clock := s.time.clock }, fuse := s.fuse,
    mem := s.mem.filter (fun e => keptSpace e.1 && e.1 / 2 ^ 44 != 4),
    bcn := { temps := s.bcn.temps }, boot := { low := s.boot.low, perst := s.boot.perst, role := s.boot.role },
    low := { flashSize := s.low.flashSize, flashSr := s.low.flashSr, flashErase := s.low.flashErase, pins := s.low.pins } }

/-- RESET_N_ASSERT (R727): RESET_N falls for `ns` nanoseconds or longer; below 500 it is ignored; below 1,000 it is ignored or
resets, as a free value decides. -/
def execResetNAssert (ns : Nat) (s : State) : Out :=
  .next (
    let down (t : State) := ({ t with boot := { t.boot with resetLow := true }, bcn := { t.bcn with pulsed := true } } : State).resetN
    if ns < 500 then s
    else if 1000 ≤ ns then down s
    else if s.freeWord.toNat % 2 = 0 then s.tookFree else down s.tookFree)

/-- The shutdown of R529 ends once RESET_N has been pulsed and every reading is below 110 °C. -/
def State.endShutdown (s : State) : State :=
  if s.bcn.shutdown ∧ s.bcn.pulsed ∧ ¬ s.boot.resetLow ∧ signed 8 (s.fd R.BCN_SENSE F.BCN_SENSE_TEMP) < 110 then
    (s.setBcn { s.bcn with shutdown := false }).startBoot
  else s

/-- RESET_N_RELEASE (R30, R548): RESET_N rises with PAIR_ROLE at the level given. -/
def execResetNRelease (role : Bool) (s : State) : Out :=
  .next (
    if ¬ s.boot.resetLow then s
    else
      let t : State := { s with boot := { s.boot with resetLow := false, role := role } }
      if t.bcn.shutdown then t.endShutdown else t.startBoot)

/-- SUPPLY_LOSS (R723, R734): monitored rails fall below 90 %. -/
def execSupplyLoss (rails : Nat) (s : State) : Out :=
  .next (
    let r := rails % 32
    if r = 0 ∨ s.boot.resetLow then s
    else (({ s with boot := { s.boot with low := r } } : State).resetN).keep (bcnRec 0x680D 4 r))

/-- SUPPLY_RESTORE (R723): every rail has been back in range for 1 ms. -/
def execSupplyRestore (s : State) : Out :=
  .next (
    if s.boot.low = 0 then s
    else (({ s with boot := { s.boot with low := 0 } } : State).pass msCyc).startBoot)

/-! ## PTP-domain time (R518 to R521) -/

/-- A SET or a STEP is scheduled (R519, R520). -/
def State.schedule (s : State) (x : TimeChange) : State := s.setBcn { s.bcn with changes := s.bcn.changes ++ [x] }

/-- A write to BCN_TIME_CTRL: RUN, SET, HOLD_CLR. -/
def State.timeCtrlWrite (s : State) (v : W32) : State :=
  let s1 := s.plainWrite R.BCN_TIME_CTRL v
  let s2 := if s.powerStep ≤ 2 then s1.wf R.BCN_TIME_STATUS F.BCN_TIME_STATUS_RUNNING (b2n (bitAt v.toNat 31)) else s1
  let s3 := if bitAt v.toNat 30 then
      s2.schedule (.set (BitVec.ofNat 48 ((s2.rd (R.BCN_TIME_SET 1)).toNat + (s2.rd (R.BCN_TIME_SET 2)).toNat % 2 ^ 16 * 2 ^ 32))
        ((s2.rd (R.BCN_TIME_SET 0)).toNat % 2 ^ 30))
    else s2
  if bitAt v.toNat 29 then s3.wf R.BCN_TIME_STATUS F.BCN_TIME_STATUS_HOLDOVER 0 else s3

/-- TIME_SET (R519): a write of SET. -/
def execTimeSet (mid : Nat) (gen : BitVec 8) (value : W32) (s : State) : Out :=
  .next (s.reach R.BCN_TIME_CTRL mid gen (value ||| 0x40000000) (fun t => t.timeCtrlWrite (value ||| 0x40000000)))

/-- HOLD_CLR (R521): a write of HOLD_CLR. -/
def execHoldClr (mid : Nat) (gen : BitVec 8) (value : W32) (s : State) : Out :=
  .next (s.reach R.BCN_TIME_CTRL mid gen (value ||| 0x20000000) (fun t => t.timeCtrlWrite (value ||| 0x20000000)))

/-- A write to BCN_TIME_STEP[w]: the low half is kept, the high half applies both (R519). -/
def State.timeStepWrite (s : State) (w : Nat) (v : W32) : State :=
  let s1 := s.wr (R.BCN_TIME_STEP w) v
  if w = 1 then s1.schedule (.step (signed 64 (s1.rd64 (R.BCN_TIME_STEP 0)).toNat)) else s1

/-- TIME_STEP (R519). -/
def execTimeStep (mid : Nat) (gen : BitVec 8) (value : W32) (s : State) : Out :=
  .next (s.reach (R.BCN_TIME_STEP 1) mid gen value (fun t => t.timeStepWrite 1 value))

/-- The delay list that holds an entry whose tick lies at or before its current tick (R242). -/
def State.dlPassed (s : State) : Option (Nat × Nat × DlEnt) :=
  (List.range 16).findSome? (fun l => match s.dlNext l with
    | some (i, e) => if e.tick ≤ s.dlNow l then some (l, i, e) else none
    | none => none)

/-- Every list expires what has passed (R242, R541). -/
def State.dlCatchUp (s : State) : Nat → State
  | 0 => s
  | n + 1 => match s.dlPassed with
    | some (l, i, e) => State.dlCatchUp (s.dlExpire l i e) n
    | none => s

/-- The entries that the delay lists hold. -/
def State.dlExpireAll (s : State) : State := if s.dlPassed = none then s else (s.dlCatchUp s.ods.dl.length).reThrottle

/-- PTP-domain time after a change; the fraction stays (R519). A SET to nanoseconds at or above 10^9 leaves a free number of
nanoseconds. -/
def State.changeTime (s : State) (x : TimeChange) : State :=
  match x with
  | .set secs ns =>
    if ns < 1000000000 then { s with time := { s.time with secs := secs, ns := ns } }
    else { s.tookFree with time := { s.time with secs := secs, ns := s.freeWord.toNat % 1000000000 } }
  | .step d =>
    let total := (((s.time.secs.toNat * 1000000000 + s.time.ns : Nat) : Int) + d) % (2 ^ 48 * 1000000000 : Int)
    { s with time := { s.time with secs := BitVec.ofNat 48 (total.toNat / 1000000000), ns := total.toNat % 1000000000 } }

/-- TIME_CHANGE_APPLY (R520): the scheduled instant of the next change comes; the delay lists expire what it passes. -/
def execTimeChangeApply (s : State) : Out :=
  .next (match s.bcn.changes with
    | [] => s
    | x :: rest =>
      (((s.setBcn { s.bcn with changes := rest }).changeTime x).wf R.BCN_TIME_STATUS F.BCN_TIME_STATUS_HOLDOVER
        0).dlExpireAll)

/-- A read of BCN_TIME_NS: it latches the seconds of the same instant (R519). -/
def State.timeNsRead (s : State) : State × W32 :=
  (((s.wr R.BCN_TIME_NS (BitVec.ofNat 32 s.time.ns)).wr (R.BCN_TIME_S 0) (BitVec.ofNat 32 s.time.secs.toNat)).wr
    (R.BCN_TIME_S 1) (BitVec.ofNat 32 (s.time.secs.toNat / 2 ^ 32)), BitVec.ofNat 32 s.time.ns)

/-- A read of BCN_BCNT[0]: it latches the high half (R525). -/
def State.bcntRead (s : State) : State × W32 := (s.wr64 (R.BCN_BCNT 0) s.time.bcnt, s.time.bcnt.setWidth 32)

/-- TIME_READ_LATCH (R519): a master reads BCN_TIME_NS. -/
def execTimeReadLatch (mid : Nat) (s : State) : Out :=
  .next (s.timeNsRead.1.setResp mid (s.timeNsRead.2.setWidth 40))

/-- BCNT_READ_LATCH (R525): a master reads BCN_BCNT[0]. -/
def execBcntReadLatch (mid : Nat) (s : State) : Out := .next (s.bcntRead.1.setResp mid (s.bcntRead.2.setWidth 40))

/-! ## Time pins (R522 to R524) -/

/-- PPS_CAPTURE (R522): a rising edge of PPS_IN, `off` nanoseconds into the BCN cycle. An edge less than 0.5 s after the
previous capture is ignored. -/
def execPpsCapture (off : Nat) (s : State) : Out :=
  .next (
    if ¬ s.flag R.BCN_PPS_CFG F.BCN_PPS_CFG_IN_EN
        ∨ (s.fd (R.BCN_PPS_IN 2) ⟨16, 16⟩ ≠ 0 ∧ s.time.clock < s.bcn.ppsFrom + secCyc / 2 ∧ ¬ s.bcn.ppsMissed) then s
    else
      let adj := signed 16 (s.fd R.BCN_PPS_ADJ F.BCN_PPS_ADJ_IN_ADJ)
      let t := ((((s.time.secs.toNat * 1000000000 + s.time.ns + off % 4 : Nat) : Int) + adj) % (2 ^ 48 * 1000000000 : Int)).toNat
      let seq := (s.fd (R.BCN_PPS_IN 2) ⟨16, 16⟩ + 1) % 2 ^ 16
      (((s.wr (R.BCN_PPS_IN 0) (BitVec.ofNat 32 (t % 1000000000))).wr (R.BCN_PPS_IN 1)
        (BitVec.ofNat 32 (t / 1000000000))).wr (R.BCN_PPS_IN 2)
        (BitVec.ofNat 32 (t / 1000000000 / 2 ^ 32 + seq * 2 ^ 16))).setBcn
        { s.bcn with ppsFrom := s.time.clock, ppsMissed := false })

/-- PPS_MISS (R522): 1.5 s pass without a capture; once before the next capture. -/
def execPpsMiss (s : State) : Out :=
  .next (
    if ¬ s.flag R.BCN_PPS_CFG F.BCN_PPS_CFG_IN_EN ∨ s.bcn.ppsMissed then s
    else
      let t := s.passTo (s.bcn.ppsFrom + secCyc / 2 * 3)
      ((t.setBcn { t.bcn with ppsMissed := true }).bcnInt 4).raise (bcnRec 0x6807 0))

/-- Whether PPS_OUT is held low (R523). -/
def State.ppsLow (s : State) : Bool :=
  !s.flag R.BCN_PPS_CFG F.BCN_PPS_CFG_OUT_EN || !s.timeRuns
    || (s.flag R.BCN_PPS_CFG F.BCN_PPS_CFG_OUT_QUAL && s.flag R.BCN_TIME_STATUS F.BCN_TIME_STATUS_HOLDOVER)
    || decide (3 ≤ s.powerStep)

/-- The level of PPS_OUT (R523). -/
def State.ppsOut (s : State) : Bool := !s.ppsLow && decide (s.time.clock < s.bcn.ppsHigh)

/-- PPS_OUT_EDGE (R523): time plus OUT_ADJ passes the next whole second by counting; PPS_OUT rises for WIDTH ms. -/
def execPpsOutEdge (s : State) : Out :=
  .next (
    if s.ppsLow then s
    else
      let adj := signed 16 (s.fd R.BCN_PPS_ADJ F.BCN_PPS_ADJ_OUT_ADJ)
      let now : Int := s.time.ptp.toNat
      let next := ((now + adj) / 1000000000 + 1) * 1000000000 - adj
      let t := s.until next.toNat
      t.setBcn { t.bcn with ppsHigh := t.time.clock + max 1 (s.fd R.BCN_PPS_CFG F.BCN_PPS_CFG_WIDTH) * msCyc })

/-- REF10M_SECOND (R524): a PTP second ends with `count` edges on REF10M, the first edge after it at `phase` ns modulo 100. -/
def execRef10mSecond (count phase : Nat) (s : State) : Out :=
  .next (
    if s.fd R.BCN_REF_CFG F.BCN_REF_CFG_MODE ≠ 2 ∨ ¬ s.timeRuns then s
    else
      let t := s.until ((s.time.ptp.toNat / 1000000000 + 1) * 1000000000)
      t.wr R.BCN_REF_STATUS (BitVec.ofNat 32 (2 ^ 31 + phase % 100 * 2 ^ 24 + count % 2 ^ 24)))

/-! ## Wake causes (R540) -/

/-- The steps in which a cause is latched, least and greatest (R540). -/
def causeSteps (i : Nat) : Nat × Nat :=
  if i ≤ 4 ∨ i = 8 then (1, 5) else if i = 5 ∨ i = 9 then (1, 1) else if i = 6 then (2, 2)
  else if i = 7 ∨ i = 10 then (1, 2) else (6, 5)

/-- Whether an entry runs. -/
def State.entering (s : State) : Bool := s.fd R.BCN_PWR_STATUS F.BCN_PWR_STATUS_TARGET != 0

/-- A cause occurs: latched in the steps of R540 while it is enabled, TAMPER always; it starts the exit. During an entry from
L0 the device counts as in L1. -/
def State.latchCause (s : State) (i : Nat) : State :=
  let st := if s.powerStep = 0 ∧ s.entering then 1 else s.powerStep
  if (causeSteps i).1 ≤ st ∧ st ≤ (causeSteps i).2
      ∧ (i = 4 ∨ bitAt (s.fd R.BCN_WAKE_CFG F.BCN_WAKE_CFG_EN) i) then
    ((s.orBits R.BCN_WAKE_CAUSE (2 ^ i)).wf R.BCN_PWR_STATUS F.BCN_PWR_STATUS_TARGET 0).setBcn
      { s.bcn with exiting := true, draining := false }
  else s

/-! ## Alarms and comparators (R525 to R529) -/

/-- The BCN cycles until the Beacon counter has ticked `n` times more (R525). -/
def State.cyclesToTick (s : State) (n : Nat) : Nat := (n * 1953125 - s.time.phase + 255) / 256

/-- ALARM_FIRE (R526): the counter reaches an armed alarm; one already passed fires at the next tick. -/
def execAlarmFire (a : Nat) (s : State) : Out :=
  .next (
    if 2 ≤ a ∨ ¬ bitAt (s.fd R.BCN_ALARM_CTRL F.BCN_ALARM_CTRL_ARM) a then s
    else
      let n := max 1 ((s.rd64 (R.BCN_ALARM a 0)).toNat - s.time.bcnt.toNat)
      let t := (s.pass (s.cyclesToTick n))
      let t1 := (t.wr R.BCN_ALARM_CTRL (t.rd R.BCN_ALARM_CTRL &&& ~~~(BitVec.ofNat 32 (2 ^ a)))).latchCause a
      if s.powerStep = 0 then t1.bcnInt 5 else t1)

/-- VSENSE_EVENT (R527): the VSENSE pin takes a level in mV. -/
def execVsenseEvent (mv : Nat) (s : State) : Out :=
  .next (
    if ¬ s.flag R.BCN_VSENSE_CFG F.BCN_VSENSE_CFG_EN then s
    else
      let lo := s.fd R.BCN_VSENSE_CFG F.BCN_VSENSE_CFG_VTH * 5
      let hi := lo + s.fd R.BCN_VSENSE_CFG F.BCN_VSENSE_CFG_HYST * 5
      let was := s.flag R.BCN_SENSE F.BCN_SENSE_VSENSE
      let now := if hi < mv then true else if mv < lo then false else was
      let s1 := s.wf R.BCN_SENSE F.BCN_SENSE_VSENSE (b2n now)
      if was ≠ now ∧ now = s.flag R.BCN_VSENSE_CFG F.BCN_VSENSE_CFG_POL then s1.latchCause 2 else s1)

/-- The highest sensor reading and its island; 0 where no sensor has read. -/
def State.hottest (s : State) : Nat × Nat :=
  s.bcn.temps.foldl (fun b e => match e.2 with
    | some t => if signed 8 b.1 < signed 8 t ∨ b.2 = 255 then (t, e.1) else b
    | none => b) (0, 255)

/-- A sensor reads. -/
def State.senseTemp (s : State) (island reading : Nat) : State :=
  let s1 := s.setBcn { s.bcn with temps := s.bcn.temps.set (fun _ => none) island (some (reading % 256)) }
  (s1.wf R.BCN_SENSE F.BCN_SENSE_TEMP s1.hottest.1).wf R.BCN_SENSE F.BCN_SENSE_ISLAND (s1.hottest.2 % 256)

/-- The shutdown of R529: FAULT_N asserted, every island but BCN held in reset, a THERM_CRIT record kept. -/
def State.thermalShutdown (s : State) : State :=
  if s.bcn.shutdown then s
  else
    let t := s.setBcn { s.bcn with shutdown := true, pulsed := false }
    let sense := s.rd R.BCN_SENSE
    (t.resetN.wr R.BCN_SENSE sense).keep (bcnRec 0x6805 4 (s.hottest.1 + s.hottest.2 % 256 * 256))

/-- The comparators of R528 and the limit of R529 act on the readings. -/
def State.tempActs (s : State) : State :=
  let hot := signed 8 s.hottest.1
  if 125 ≤ hot then s.thermalShutdown
  else
    let hi := signed 8 (s.fd R.BCN_TEMP_CFG F.BCN_TEMP_CFG_HI)
    let s1 := if s.bcn.hotOff ∧ hot < hi - 5 then s.setBcn { s.bcn with hotOff := false } else s
    let s2 := if s1.flag R.BCN_TEMP_CFG F.BCN_TEMP_CFG_EN_HI ∧ hi ≤ hot ∧ ¬ s1.bcn.hotOff then
        (((s1.setBcn { s1.bcn with hotOff := true }).bcnInt 2).raise
          (bcnRec 0x6804 0 (s.hottest.1 + s.hottest.2 % 256 * 256))).latchCause 3
      else s1
    s2.endShutdown

/-- TEMP_EVENT (R528): an island's sensor reads, signed °C in 8 bits. -/
def execTempEvent (island reading : Nat) (s : State) : Out :=
  .next (
    if 45 ≤ island then s
    else
      let t := (s.senseTemp island reading).tempActs
      if s.flag R.BCN_TEMP_CFG F.BCN_TEMP_CFG_EN_LO
          ∧ signed 8 reading ≤ signed 8 (s.fd R.BCN_TEMP_CFG F.BCN_TEMP_CFG_LO) then t.latchCause 3 else t)

/-- THERMAL_SHUTDOWN (R529): an island's sensor reads 125 °C or above. -/
def execThermalShutdown (island reading : Nat) (s : State) : Out :=
  .next (if 45 ≤ island ∨ signed 8 reading < 125 then s else (s.senseTemp island reading).tempActs)

/-! ## Tamper (R530, R531) -/

/-- A write to BCN_TAMPER_CFG sets bits (R530). -/
def State.tamperCfgWrite (s : State) (v : W32) : State := s.orBits R.BCN_TAMPER_CFG (v.toNat % 16)

/-- TAMPER (R531): a detector fires. In L5 it is latched and sets its cause only; in L4 the vault loses its retention supply
(R434). -/
def execTamper (d : Nat) (s : State) : Out :=
  .next (
    if 4 ≤ d ∨ ¬ bitAt (s.fd R.BCN_TAMPER_CFG F.BCN_TAMPER_CFG_EN) d then s
    else
      let st := s.powerStep
      let t := ((s.orBits R.BCN_TAMPER (2 ^ d)).bcnCnt 8).latchCause 4
      if st = 5 ∧ ¬ s.bcn.exiting then t
      else
        let t1 := if st = 4 ∧ ¬ s.bcn.exiting then (t.zero .vault 0 0x40000).vaultCause 6 else t.vaultCause 2
        (t1.bcnInt 1).raise (bcnRec 0x6801 2 (2 ^ d + st * 16)))

/-! ## Crossings (R532 to R534) -/

/-- Whether a pair of islands, the first the lower row of R532, is joined. -/
def joinedTo (a b : Nat) : Bool :=
  if a < 16 then b == 30 || b == 31 || decide (32 ≤ b ∧ b ≤ 42)
  else if a < 28 then b == 28 || b == 30 || b == 31 || b == 41 || b == 44
  else if a = 28 then b == 30 || b == 31 || b == 40 || b == 41 || b == 43
  else if a = 29 then b == 30 || b == 31 || b == 41 || b == 43
  else if a = 30 then b == 31 || decide (32 ≤ b ∧ b ≤ 39) || b == 41
  else if a = 31 then b == 40 || b == 41 || b == 42 || b == 43
  else if a < 40 then b == 40 || b == 41 || b == 42
  else if a = 40 then b == 41 || b == 42
  else if a = 41 then b == 42 || b == 43 || b == 44
  else if a = 42 ∨ a = 43 then b == 44
  else false

/-- Whether two islands are neighbours (R532). -/
def neighbours (a b : Nat) : Bool := joinedTo a b || joinedTo b a

/-- Whether an island's clock runs (R536). -/
def State.islandRuns (s : State) (i : Nat) : Bool :=
  let st := s.powerStep
  if i = 44 then true
  else if st ≤ 1 then true
  else if st = 2 then decide (16 ≤ i ∧ i ≠ 28 ∧ i ≠ 29)
  else decide (st = 3 ∧ i = 41)

/-- BCN_XING_HELD shows the islands with a held crossing (R534). -/
def State.showXings (s : State) : State :=
  let held := s.bcn.xings.foldl (fun n x => Nat.lor n (Nat.lor (2 ^ x.1) (2 ^ x.2))) 0
  (s.wr (R.BCN_XING_HELD 0) (BitVec.ofNat 32 held)).wr (R.BCN_XING_HELD 1) (BitVec.ofNat 32 (held / 2 ^ 32))

/-- CROSSING_HOLD (R534): the monitor of an island finds its crossing to a neighbour beyond a limit (1 ratio, 2 voltage, 3
temperature). -/
def execCrossingHold (island other limit : Nat) (s : State) : Out :=
  .next (
    if ¬ neighbours island other ∨ ¬ s.islandRuns island ∨ ¬ s.islandRuns other ∨ s.xingHeld island other then s
    else
      ((s.setBcn { s.bcn with xings := s.bcn.xings ++ [(island, other)] }).showXings.bcnCnt 7).raise
        (bcnRec 0x0009 2 other (island + limit % 8 * 256)))

/-- CROSSING_RESUME (R534): a held crossing has stayed within its limits for 10 µs. -/
def execCrossingResume (island other : Nat) (s : State) : Out :=
  .next (
    if ¬ s.xingHeld island other then s
    else
      let t := s.pass 2500
      (t.setBcn { t.bcn with xings := t.bcn.xings.filter (fun x => x != (island, other) && x != (other, island)) }).showXings)

/-! ## Operating points and the core voltage (R535, R724, R725, R733) -/

/-- A point of an island's curve. -/
def State.curvePoint (s : State) (i p : Nat) : Option (Nat × Nat × Nat) := s.bcn.curve.get (fun _ => none) (i * 8 + p)

/-- The point an island runs at; none before one is set. -/
def State.pointOf (s : State) (i : Nat) : Option Nat :=
  match s.bcn.point.get (fun _ => 0) i with
  | 0 => none
  | n + 1 => some n

/-- VDD_CORE's set point as the islands' limit takes it (R725). -/
def State.setMv (s : State) : Nat := s.fd R.MGT_AVS_STATUS F.MGT_AVS_STATUS_SET_MV

/-- The margin in mV. -/
def State.avsMargin (s : State) : Nat := s.fd R.MGT_AVS_CFG F.MGT_AVS_CFG_MARGIN

/-- Whether MGT may hold an island at a point: the rail carries its voltage, and its sensor does not bar it (R725, R733). -/
def State.pointOk (s : State) (i p : Nat) : Bool :=
  match s.curvePoint i p with
  | none => false
  | some (_, mv, bar) =>
    decide (mv + s.avsMargin ≤ s.setMv) && (match s.bcn.temps.get (fun _ => none) i with
      | some t => decide (signed 8 t ≤ signed 8 bar)
      | none => true)

/-- The highest point still allowed for an island, at or below a point. -/
def State.bestPoint (s : State) (i : Nat) : Nat → Option Nat
  | 0 => if s.pointOk i 0 then some 0 else none
  | p + 1 => if s.pointOk i (p + 1) then some (p + 1) else State.bestPoint s i p

/-- An island moves to a point. -/
def State.movePoint (s : State) (i p : Nat) : State :=
  s.setBcn { s.bcn with point := s.bcn.point.set (fun _ => 0) i (p + 1) }

/-- DVFS_CHANGE (R535, R724): MGT wants an island at a point; it moves down at once, and up once the rail carries the point. -/
def execDvfsChange (island point : Nat) (s : State) : Out :=
  .next (
    if 45 ≤ island ∨ (s.curvePoint island point).isNone then s
    else
      let t := s.setBcn { s.bcn with want := s.bcn.want.set (fun _ => 0) island (point + 1) }
      if t.pointOk island point then t.movePoint island point else t)

/-- THERMAL_POINT_BAR (R733): an island has passed the temperature that bars its point; it moves to its highest point still
allowed. -/
def execThermalPointBar (island : Nat) (s : State) : Out :=
  .next (match s.pointOf island with
    | none => s
    | some p =>
      if s.pointOk island p then s
      else match s.bestPoint island p with
        | some q => s.movePoint island q
        | none => s)

/-- The rail's target in mV (R724): the highest point's voltage among the islands that run, plus MARGIN, rounded up to 5 mV,
within 700 to 850. -/
def State.avsTarget (s : State) : Nat :=
  let mvs := (List.range 45).filterMap (fun i =>
    if s.islandRuns i then (match s.bcn.want.get (fun _ => 0) i with
      | 0 => none
      | p + 1 => (s.curvePoint i p).map (fun c => c.2.1)) else none)
  max 700 (min 850 ((mvs.foldl max 0 + s.avsMargin + 4) / 5 * 5))

/-- Whether MGT may use I2C0 (R724). -/
def State.avsRuns (s : State) : Bool :=
  s.flag R.MGT_AVS_CFG F.MGT_AVS_CFG_EN && !s.bcn.avsStop && !s.flag (R.HIF_I2C_CMD 0) F.HIF_I2C_CMD_BUSY

/-- Every island whose point the rail no longer carries moves down (R725). -/
def State.capPoints (s : State) : State :=
  (List.range 45).foldl (fun t i => match t.pointOf i with
    | some p => if t.pointOk i p then t else (match t.bestPoint i p with | some q => t.movePoint i q | none => t)
    | none => t) s

/-- A regulator transfer fails (R725): 1 VOUT_MODE, 2 NACK, 3 TIMEOUT, 4 STUCK. -/
def State.avsFail (s : State) (kind : Nat) : State :=
  let t := (s.wf R.MGT_AVS_STATUS F.MGT_AVS_STATUS_FAIL 1).wf R.MGT_AVS_STATUS F.MGT_AVS_STATUS_OK 0
  ((t.setBcn { t.bcn with avsStop := true }).capPoints).raise (mkErr 14 0 0x7401 2 0 0 0 0 kind t.setMv)

/-- A write to MGT_AVS_CFG: EN = 1 clears FAIL and starts with VOUT_MODE; EN = 0 takes SET_MV as 750 (R724, R725). -/
def State.avsCfgWrite (s : State) (v : W32) : State :=
  let t := s.plainWrite R.MGT_AVS_CFG v
  if bitAt v.toNat 31 then
    (t.wf R.MGT_AVS_STATUS F.MGT_AVS_STATUS_FAIL 0).setBcn { t.bcn with vmodeDue := true, avsStop := false }
  else ((t.wf R.MGT_AVS_STATUS F.MGT_AVS_STATUS_SET_MV 750).setBcn { t.bcn with vmodeDue := false }).capPoints

/-- MGT reads VOUT_MODE: a mode other than LINEAR16 fails (R724). -/
def State.avsMode (s : State) (vmode : BitVec 8) : State :=
  if vmode.toNat / 32 = 0 then s.setBcn { s.bcn with vmodeDue := false } else s.avsFail 1

/-- AVS_ENABLE (R724): a write of EN to MGT_AVS_CFG, and the read of VOUT_MODE that follows while I2C0 is free. -/
def execAvsEnable (mid : Nat) (gen : BitVec 8) (value : W32) (vmode : BitVec 8) (s : State) : Out :=
  .next (s.reach R.MGT_AVS_CFG mid gen (value ||| 0x80000000) (fun t =>
    let t1 := t.avsCfgWrite (value ||| 0x80000000)
    if t1.avsRuns then t1.avsMode vmode else t1))

/-- AVS_STEP (R724): MGT's next regulator transfer succeeds: VOUT_MODE where it is due, else a step of at most 10 mV toward the
target, 50 µs after the last one. Islands that wait for the rail then move up. -/
def execAvsStep (vmode : BitVec 8) (s : State) : Out :=
  .next (
    if ¬ s.avsRuns then s
    else if s.bcn.vmodeDue then s.avsMode vmode
    else
      let cur := s.setMv
      let t := (s.wf R.MGT_AVS_STATUS F.MGT_AVS_STATUS_OK 1).wf R.MGT_AVS_STATUS F.MGT_AVS_STATUS_SET_MV
        (if cur < s.avsTarget then min s.avsTarget (cur + 10) else max s.avsTarget (cur - 10))
      (List.range 45).foldl (fun u i => match u.bcn.want.get (fun _ => 0) i with
        | 0 => u
        | p + 1 => if u.pointOk i p then u.movePoint i p else u) (t.pass 12500))

/-- AVS_FAIL (R725): a regulator transfer ends with 2 NACK, 3 TIMEOUT or 4 STUCK. -/
def execAvsFail (kind : Nat) (s : State) : Out :=
  .next (if ¬ s.avsRuns ∨ kind < 2 ∨ 4 < kind then s else s.avsFail kind)

end Sys2Proof.Machine
end

