-- ==== Sys2Proof/Machine/Mlk.lean ====
section
/-! DEFINITION. The Molma link (18_molma_link; 19 R620 to R623): training, sides, discovery and election, chained commits, the
pair and its hand-over, time alignment. Payload layouts that the spec leaves open are a marked choice. -/
namespace Sys2Proof.Machine
open Sys2Proof

/-! ## Chained commit at the coordinator (R583 to R585) -/

/-- The members' chip indices but this one's. -/
def State.otherChips (s : State) : List Nat :=
  (List.range 8).filter (fun c => bitAt (s.fd R.MLK_STATUS F.MLK_STATUS_MEMBERS) c && c != s.chip)

/-- COMMIT (R584): the decision, its instant, and the coordinator's own wait for it. -/
def State.chainCommit (s : State) (num : W32) (e : BitVec 8) : State :=
  let at_ := s.time.ptp.toNat + s.settled.fd R.MLK_TIMING F.MLK_TIMING_LEAD * 25000
  ((s.setMlk { s.mlk with prepared := none, ready := [], instant := some at_, decided := some (num, e, true) }).mlkFlood
    (s.mlkOwn 8 (toLe 4 num.toNat ++ toLe 4 e.toNat ++ toLe 8 at_))).mlkCnt 12

/-- ABORT (R584): the decision; the coordinator runs R617 (R620). -/
def State.chainAbort (s : State) (num : W32) (e : BitVec 8) (reason : Nat) : State :=
  let retry := if s.mlkState = 4 then some s.time.clock else s.mlk.retryFrom
  let x : MlkSt := { s.mlk with prepared := none, ready := [], decided := some (num, e, false), retryFrom := retry }
  let t := ((s.setMlk x).mlkFlood (s.mlkOwn 9 (toLe 4 num.toNat ++ toLe 4 reason))).mlkCnt 13
  if t.txnNum = num then t.txnAbort 0xA else t

/-- Every member but the coordinator has voted READY. -/
def State.allReady (s : State) : Bool := s.otherChips.all (fun c => s.mlk.ready.contains c)

/-- The coordinator is LOADED: it floods PREPARE, counting its own vote as READY (R583, R620). -/
def State.chainPrepare (s : State) : State :=
  let num := s.txnNum
  let e := s.odsEpoch + 1
  let tmo := s.settled.fd R.MLK_TIMING F.MLK_TIMING_VOTE_TMO
  let t := ((s.setMlk { s.mlk with prepared := some (num, e, s.time.clock + tmo * msCyc), ready := [] }).mlkFlood
    (s.mlkOwn 6 (toLe 4 num.toNat ++ toLe 4 e.toNat ++ toLe 8 tmo))).mlkCnt 11
  if t.allReady then t.chainCommit num e else t

/-- The coordinator repeats its decision (R585). -/
def State.repeatDecision (s : State) (num : W32) (e : BitVec 8) (yes : Bool) : State :=
  if yes then s.mlkFlood (s.mlkOwn 8 (toLe 4 num.toNat ++ toLe 4 e.toNat ++ toLe 8 (s.mlk.instant.getD s.time.ptp.toNat)))
  else s.mlkFlood (s.mlkOwn 9 (toLe 4 num.toNat ++ toLe 4 0))

/-- VOTE_RECEIVE (R584, R585). A REFUSE decides ABORT at once. -/
def execVoteReceive (side h0 h1 : Nat) (payload : List Byte) (s : State) : Out :=
  s.mlkRx 7 side h0 h1 payload (fun _ => true) (fun t fr => t.mlkTake side fr (fun u =>
    let num := (numAnd fr.payload).1
    let reason := leNat ((fr.payload.drop 5).take 1)
    match u.mlk.prepared with
    | some (n, e, _) =>
      if n ≠ num then u
      else if (numAnd fr.payload).2 = 1 then
        let v := u.setMlk { u.mlk with ready := fr.src :: u.mlk.ready }
        if v.allReady then v.chainCommit n e else v
      else (u.raise (mlkRec 0x8006 0 num.toNat (fr.src + reason * 16))).chainAbort n e reason
    | none => match u.mlk.decided with
      | some (n, e, yes) => if n = num ∧ u.flag R.MLK_STATUS F.MLK_STATUS_COORD then u.repeatDecision n e yes else u
      | none => u))

/-- VOTE_TIMEOUT (R584): the deadline passes. -/
def execVoteTimeout (s : State) : Out :=
  .next (match s.mlk.prepared with
    | none => s
    | some (num, e, dl) =>
      let t := s.passTo dl
      let late := (t.otherChips.find? (fun c => !t.mlk.ready.contains c)).getD 0
      (t.raise (mlkRec 0x8006 0 num.toNat late)).chainAbort num e 0)

/-! ## Chained commit at a member (R583 to R586, R620 to R622) -/

/-- A member answers PREPARE. -/
def State.prepared (s : State) (num : W32) (e : BitVec 8) : State :=
  let st := s.txnState
  if s.mlk.voted.isSome ∧ s.mlk.voted.map (·.1) ≠ some num then s.sendVote num 2
  else if e ≠ s.odsEpoch + 1 ∧ s.mlkState ≠ 4 then s.sendVote num 4
  else
    let t : State := if s.mlkState = 4 ∧ 1 ≤ st ∧ st ≤ 4 ∧ s.txnNum = num then
        { s with txn := { s.txn with viewNew := some e, anyOld := true } } else s
    if st = 4 ∧ s.txnNum = num then t.voteReady num
    else if (st = 2 ∨ st = 3) ∧ s.txnNum = num then t.setMlk { t.mlk with asked := some (num, e) }
    else if st = 5 ∨ st = 6 then s.sendVote num 2
    else if st = 0 ∧ s.flag R.MGT_TXN_CFG F.MGT_TXN_CFG_AUTO_EMPTY ∧ ¬ s.txnAsleepNow then
      let u := (s.wr R.MGT_TXN_NUM num).txnOpen num
      if u.txnState ≠ 1 then s.sendVote num 1
      else
        let v : State := if s.mlkState = 4 then { u with txn := { u.txn with viewNew := some e, anyOld := true } } else u
        (v.txnCheckStart true false).setMlk { v.mlk with asked := some (num, e) }
    else s.sendVote num 1

/-- PREPARE_RECEIVE (R583). -/
def execPrepareReceive (side h0 h1 : Nat) (payload : List Byte) (s : State) : Out :=
  s.mlkRx 6 side h0 h1 payload (fun _ => true) (fun t fr => t.mlkTake side fr (fun u =>
    u.prepared (numAnd fr.payload).1 (BitVec.ofNat 8 (numAnd fr.payload).2)))

/-- COMMIT_RECEIVE (R584): the MARK is scheduled for the instant; a COMMIT after it counts late. -/
def execCommitReceive (side h0 h1 : Nat) (payload : List Byte) (s : State) : Out :=
  s.mlkRx 8 side h0 h1 payload (fun _ => true) (fun t fr => t.mlkTake side fr (fun u =>
    let num := (numAnd fr.payload).1
    let at_ := leNat ((fr.payload.drop 8).take 8)
    if u.txnState = 4 ∧ u.txnNum = num ∧ u.mlk.instant.isNone then
      let v := (u.setMlk { u.mlk with decided := some (num, BitVec.ofNat 8 (numAnd fr.payload).2, true),
                                      instant := some at_ }).mlkCnt 12
      if at_ < u.time.ptp.toNat then (v.mlkCnt 14).signalMark else v
    else u))

/-- COMMIT_INSTANT (R584): the instant comes, and the member injects its MARK. -/
def execCommitInstant (s : State) : Out :=
  .next (match s.mlk.instant with
    | none => s
    | some i => if s.txnState = 4 then (s.until i).signalMark else s)

/-- ABORT_RECEIVE (R584, R620). -/
def execAbortReceive (side h0 h1 : Nat) (payload : List Byte) (s : State) : Out :=
  s.mlkRx 9 side h0 h1 payload (fun _ => true) (fun t fr => t.mlkTake side fr (fun u =>
    let num := (numAnd fr.payload).1
    if u.txnNum = num ∧ 1 ≤ u.txnState ∧ u.txnState ≤ 4 then
      ((u.setMlk { u.mlk with decided := some (num, u.odsEpoch + 1, false), asked := none }).mlkCnt 13).txnAbort 0xA
    else u))

/-- TXN_DOUBT (R585): TXN_TMO ms pass after the vote without a decision. -/
def execTxnDoubt (s : State) : Out :=
  .next (match s.mlk.voted with
    | none => s
    | some (num, at_) =>
      if s.mlk.instant.isSome ∨ s.txnState ≠ 4 then s
      else
        let t := s.passTo (at_ + s.settled.fd R.MLK_TIMING F.MLK_TIMING_TXN_TMO * msCyc)
        let u := if s.mlk.doubt then t else (t.mlkInt 3).raise (mlkRec 0x8007 2 num.toNat)
        (u.setMlk { u.mlk with voted := some (num, u.time.clock), doubt := true }).sendVote num 0)

/-! ## Members (R581, R582) -/

/-- The remote entries of a chip are deleted, as a FLUSH with CHIP_EN would (R582). -/
def State.dropRemote (s : State) (chip : Nat) : State :=
  s.l2DelAll ((s.l2.inUse s).filter (fun q => e1Remote (s.l2At q).2 && e1Chip (s.l2At q).2 == chip))

/-- This member's own entry. -/
def State.selfMember (s : State) : Member :=
  { serial := s.serial, chip := if s.hasChip then s.chip else 0xFF,
    sides := ((s.mlkSides.filter (fun i => s.sideState i == 3)).map (fun i => 2 ^ i)).sum }

/-- The list with an entry merged into it, and whether it grew. -/
def mergeMember (l : List Member) (m : Member) : List Member × Bool :=
  if l.any (fun x => x.serial == m.serial) then
    (l.map (fun x => if x.serial = m.serial then { m with chip := if m.chip = 0xFF then x.chip else m.chip } else x), false)
  else (l ++ [m], true)

/-- Merge several; this member's own entry stays its own. -/
def State.mergeAll (s : State) (ms : List Member) : List Member × Bool :=
  ms.foldl (fun a m => if m.serial = s.serial then a else
    let r := mergeMember a.1 m
    (r.1, a.2 || r.2)) ((mergeMember s.mlk.members s.selfMember).1, false)

/-- The 16 bytes of an entry (the layout is a marked choice). -/
def Member.bytes (m : Member) : List Byte := toLe 8 m.serial.toNat ++ toLe 8 (m.chip + m.sides * 2 ^ 8)

/-- The entries of an ELECT payload. -/
def memberList (bs : List Byte) : List Member :=
  (List.range (bs.length / 16)).map (fun k =>
    let e := bs.drop (16 * k)
    { serial := BitVec.ofNat 64 (leNat (e.take 8)), chip := leNat ((e.drop 8).take 1), sides := leNat ((e.drop 9).take 1) })

/-- Flood the list, this member's entry first. -/
def State.floodElect (s : State) : State :=
  let others := s.mlk.members.filter (fun m => m.serial != s.serial)
  s.mlkFlood (s.mlkOwn 5 (((s.selfMember :: others).take 8).flatMap Member.bytes))

/-- An election starts (R581); a transaction that the coordinator has not decided is aborted (R586). -/
def State.startElection (s : State) : State :=
  let t := match s.mlk.prepared with
    | some (num, e, _) => s.chainAbort num e 0
    | none => s
  ((t.setMlk { t.mlk with members := (t.mergeAll []).1, electing := true, grewAt := t.time.clock }).setMlkState 3).floodElect

/-- Put a member into its place by serial. -/
def memberInsert (m : Member) : List Member → List Member
  | [] => [m]
  | x :: l => if m.serial.toNat < x.serial.toNat then m :: x :: l else x :: memberInsert m l

/-- Members by rising serial. -/
def memberSort (l : List Member) : List Member := l.foldr memberInsert []

/-- The lowest index that a list of indices leaves free. -/
def freeIndex (used : List Nat) : Nat := ((List.range 9).find? (fun i => !used.contains i)).getD 8

/-- The indices that members keep: each its own, unless one of lower serial holds it. -/
def keptIndices (l : List Member) : List Nat :=
  l.foldl (fun u m => if m.chip = 0xFF ∨ u.contains m.chip then u else u ++ [m.chip]) []

/-- Chip indices after an election (R581, R582): a member without an index, or whose index one of lower serial holds, takes
the lowest free one, by rising serial. -/
def assignChips (kept : List Nat) : List Member → List Nat → List Nat → List Member
  | [], _, _ => []
  | m :: l, seen, given =>
    if m.chip ≠ 0xFF ∧ ¬ seen.contains m.chip then m :: assignChips kept l (seen ++ [m.chip]) given
    else
      let c := freeIndex (kept ++ given)
      { m with chip := c } :: assignChips kept l seen (given ++ [c])

/-- A member's learning synchronisation starts: every local dynamic entry goes out as LEARN (R592). -/
def State.sendLocals (s : State) : State :=
  ((s.l2.inUse s).filter (fun q => e1Local (s.l2At q).2)).foldl (fun t q =>
    let r := s.l2At q
    t.fteSend (s.learnMsg 1 (r.1 % 2 ^ 48) (bitsOf r.1 48 12) (e1Dest r.2) 0)) s

/-- Set the pair state, with MLK_INT.PAIR. -/
def State.setPair (s : State) (x : Nat) : State :=
  if s.pairState = x then s else (s.wf R.MLK_PAIR_STATUS F.MLK_PAIR_STATUS_STATE x).mlkInt 2

/-- The indices are fixed. -/
def State.fixIndices (s : State) (ms : List Member) : State :=
  let me := ((ms.find? (fun m => m.serial == s.serial)).map (·.chip)).getD 0
  let coord := (ms.head?.map (·.serial)).getD s.serial
  let mask := (ms.map (fun m => 2 ^ m.chip)).sum
  let moved := s.mlk.members.filter (fun m => m.chip ≠ 0xFF ∧ m.serial ≠ s.serial
    ∧ ms.any (fun x => x.serial = m.serial ∧ x.chip ≠ m.chip))
  let t := moved.foldl (fun t m => t.dropRemote m.chip) s
  let t := t.raiseIf (s.hasChip && s.chip != me) (mlkRec 0x800C 0 (s.chip + me * 16))
  let t := (((t.wf R.MLK_STATUS F.MLK_STATUS_CHIP me).wf R.MLK_STATUS F.MLK_STATUS_MEMBERS mask).wf R.MLK_STATUS
    F.MLK_STATUS_COORD (b2n (coord == s.serial))).wr64 (R.MLK_COORD 0) coord
  ((t.wf R.FTE_CFG F.FTE_CFG_CHIP me).setMlk { t.mlk with members := ms, electing := false }).mlkInt 1

/-- A new coordinator decides a transaction that it holds staged without a decision (R585). -/
def State.inherit (s : State) : State :=
  match s.mlk.voted with
  | none => s
  | some (num, _) =>
    if ¬ s.flag R.MLK_STATUS F.MLK_STATUS_COORD ∨ s.mlk.instant.isSome then s
    else if s.mlkSides.any (fun i => (s.mside i).hello && (s.mside i).peer.epoch == s.odsEpoch + 1) then
      s.chainCommit num (s.odsEpoch + 1)
    else s.chainAbort num (s.odsEpoch + 1) 0

/-- The election ends (R581, R582, R585, R592). -/
def State.endElection (s : State) : State :=
  let ms := memberSort s.mlk.members
  if 8 < ms.length then
    let t := (s.raise (mlkRec 0x8004 2 ms.length)).setMlk { s.mlk with electing := false }
    ((t.mlkSides.filter (fun i => t.sideState i == 3)).foldl (fun u i => u.setSide i 2) t).setMlkState 2
  else
    let t := (s.fixIndices (assignChips (keptIndices ms) ms [] [])).inherit
    if ms.length ≤ 1 then
      let u := t.setMlkState 6
      if u.mode F.GLB_MODE_PAIR ∧ u.pairState = 0 ∧ ¬ u.flag R.MLK_PAIR_STATUS F.MLK_PAIR_STATUS_ROLE_PIN then u.setPair 4
      else u
    else if t.mlk.synced then t.setMlkState 5
    else ((t.setMlkState 4).setMlk { t.mlk with syncFrom := t.time.clock }).sendLocals

/-- ELECTION_END (R581): no list has grown for 20 ms. -/
def execElectionEnd (s : State) : Out :=
  .next (if s.mlk.electing then (s.passTo (s.mlk.grewAt + 20 * msCyc)).endElection else s)

/-- ELECT_RECEIVE (R581, R582): the list is merged, and flooded again where it grew; the coordinator's list replaces it. This
member's own frame back closes the ring. -/
def execElectReceive (side h0 h1 : Nat) (payload : List Byte) (s : State) : Out :=
  s.mlkRx 5 side h0 h1 payload (fun _ => true) (fun t fr =>
    let ms := memberList fr.payload
    let from_ := (ms.head?.map (·.serial)).getD 0
    if from_ = t.serial then (if t.mlkSides = [0, 1] then t.wf R.MLK_STATUS F.MLK_STATUS_RING 1 else t)
    else t.mlkTake side fr (fun u =>
      let known := u.mlk.members
      let replaces := decide (from_ = u.rd64 (R.MLK_COORD 0)) && !u.mlk.electing && u.hasChip
      let gone := if replaces then known.filter (fun m => m.serial ≠ u.serial ∧ ¬ ms.any (fun x => x.serial = m.serial)) else []
      let v := gone.foldl (fun v m => if m.chip = 0xFF ∨ v.partnerSide.map (fun i => (v.mside i).peer.serial) = some m.serial
        then v else v.dropRemote m.chip) u
      let near := if from_.toNat ≤ (v.rd64 (R.MLK_COORD 0)).toNat ∨ ¬ v.hasChip then side else v.mlk.coordSide
      let v := v.setMlk
        { v.mlk with members := known.filter (fun m => !gone.contains m), coordSide := near }
      let r := v.mergeAll ms
      let w := v.setMlk { v.mlk with members := r.1 }
      if r.2 then
        (if w.mlk.electing then (w.setMlk { w.mlk with grewAt := w.time.clock }).floodElect else w.startElection)
      else if gone ≠ [] then w.startElection
      else w))

/-! ## The pair (R587 to R590) -/

/-- The peer GPIO reads low (R589). -/
def State.peerLow (s : State) : Bool :=
  !bitAt (s.rd R.HIF_GPIO_IN).toNat (s.settled.fd R.MLK_PAIR_CFG F.MLK_PAIR_CFG_PEER_GPIO)

/-- Every port leaves UP, to a link state; the spec gives these departures no reason code of R97 (log entry 3). -/
def State.portsTo (s : State) (tgt : Nat) : State :=
  (List.range 144).foldl (fun t n =>
    if t.up n then t.tookFree.portDown n (t.freeWord.toNat % 16) tgt else if t.link n = 0 then t else t.setLink n tgt) s

/-- The standby takes the active role (R588, R623). -/
def State.takeRole (s : State) (c : Nat) : State :=
  let t := ((s.setPair 3).wf R.MLK_PAIR_STATUS F.MLK_PAIR_STATUS_CAUSE c).setMlk
    { (s.setPair 3).mlk with taking := some c, woke := false, holdFrom := none }
  if 1 ≤ t.txnState ∧ t.txnState ≤ 4 then t.txnAbort 8 else t.handoverTxn

/-- STANDBY has cleared at the commit point: the partner's remote entries turn local, and the member is ALONE (R588). -/
def State.handoverDone (s : State) : State :=
  let chip := ((s.partnerSide.map (fun i => (s.mside i).peer.chip)).getD 0xFF)
  let qs := (s.l2.inUse s).filter (fun q => e1Remote (s.l2At q).2 && e1Chip (s.l2At q).2 == chip)
  let t := qs.foldl (fun t q =>
    let r := t.l2At q
    let e := e1Make (e1Dest r.2) t.fteNow 0
    (t.l2Put q r.1 e).adjCount e true) s
  (((t.setPair 4).setMlk { (t.setPair 4).mlk with taking := none }).mlkCnt 15).raise
    (mlkRec 0x8009 0 (s.mlk.taking.getD 0))

/-- A PAIR frame to the partner. -/
def State.sendPair (s : State) (state cause : Nat) : State :=
  match s.partnerSide with
  | none => s
  | some i => s.mlkCtl i { s.mlkOwn 10 (toLe 8 (state + cause * 2 ^ 8 + s.odsEpoch.toNat * 2 ^ 16) ++ toLe 8 s.serial.toNat) with
      bcast := false, dst := s.fd (R.MLK_SIDE i) F.MLK_SIDE_PCHIP }

/-- A member gives the active role up (R588): 1 planned, 2 MGT has not returned, 3 a chip fault. The transmitters are held
idle, as R92's release shows it in RELINQUISHED. -/
def State.relinquish (s : State) (c : Nat) : State :=
  ((((s.portsTo 0).sendPair 6 c).setPair 6)).wf R.MLK_PAIR_STATUS F.MLK_PAIR_STATUS_CAUSE c

/-- MLK_PAIR_CTRL takes a value (R588): SWAP on the active member relinquishes; on the standby it asks the partner to. -/
def State.pairCtrlWrite (s : State) (v : W32) : State :=
  if ¬ bitAt v.toNat 0 then s
  else if s.pairState = 1 then s.relinquish 1
  else if s.pairState = 2 then s.sendPair 2 1
  else s

/-- PAIR_SWAP (R588). -/
def execPairSwap (mid : Nat) (gen : BitVec 8) (value : W32) (s : State) : Out :=
  .next (match s.takePair R.MLK_PAIR_CTRL mid gen value with
    | some t => t.pairCtrlWrite value
    | none => s)

/-- PAIR_FRAME_RECEIVE (R588): RELINQUISHED at the standby; the standby's wish for a swap at the active member. -/
def execPairFrameReceive (side h0 h1 : Nat) (payload : List Byte) (s : State) : Out :=
  s.mlkRx 10 side h0 h1 payload (fun _ => true) (fun t fr => t.mlkTake side fr (fun u =>
    let state := leNat (fr.payload.take 1)
    let cause := leNat ((fr.payload.drop 1).take 1) % 16
    if u.partnerSide ≠ some side then u
    else if state = 6 ∧ u.pairState = 2 then u.takeRole cause
    else if state = 2 ∧ u.pairState = 1 then u.relinquish 1
    else u))

/-- HOLDOFF_EXPIRE (R589): HOLDOFF ms after the partner's loss under TAKE_ON_LOSS. -/
def execHoldoffExpire (s : State) : Out :=
  .next (match s.mlk.holdFrom with
    | none => s
    | some c =>
      let t := s.passTo (c + s.settled.fd R.MLK_PAIR_CFG F.MLK_PAIR_CFG_HOLDOFF * msCyc)
      if t.pairState = 2 then t.takeRole 5 else t.setMlk { t.mlk with holdFrom := none })

/-- The start as STANDBY: the standby has GLB_MODE.STANDBY set (R28). -/
def State.startStandby (s : State) : State :=
  (s.setPair 2).setMode (s.rd R.GLB_MODE ||| BitVec.ofNat 32 (2 ^ F.GLB_MODE_STANDBY.lo))

/-- Both members sampled the same strap (R31, R587). -/
def State.pairConflict (s : State) : State :=
  let t := ((s.setPair 5).raise (mlkRec 0x800A 2)).wf R.GLB_MODE_NOTE F.GLB_MODE_NOTE_PAIR_CONFLICT 1
  (t.irq 2).portsTo 0

/-- What the partner's HELLO or BUOY says of the pair acts (R587, R590, R647). -/
def State.pairSees (s : State) (b : Buoy) (hello : Bool) : State :=
  let mine := s.pairState
  if mine = 0 then
    (if ¬ hello then s
     else if b.pair = 1 ∨ b.pair = 4 then s.startStandby
     else if b.role = s.flag R.MLK_PAIR_STATUS F.MLK_PAIR_STATUS_ROLE_PIN then s.pairConflict
     else if b.role then s.setPair 1 else s.startStandby)
  else if (mine = 3 ∨ mine = 4) ∧ b.pair = 2 ∧ s.mlk.taking.isNone then s.setPair 1
  else if mine = 2 ∧ b.pair = 6 ∧ s.mlk.woke then s.takeRole 6
  else s

/-! ## Buoys, HELLO and the sides (R570 to R580) -/

/-- The payload of a BUOY or HELLO (R576). -/
def State.buoyBytes (s : State) (i : Nat) : List Byte :=
  let coord := if s.hasChip then (s.rd64 (R.MLK_COORD 0)).toNat else 0
  let num := match s.mlk.decided with | some (n, _, _) => n.toNat % 65536 | none => (s.txn.lastNum.getD 0).toNat % 65536
  toLe 8 s.serial.toNat ++ toLe 8 coord
    ++ toLe 8 ((if s.hasChip then s.chip else 0xFF) + s.fd R.MLK_STATUS F.MLK_STATUS_MEMBERS * 2 ^ 8 + s.odsEpoch.toNat * 2 ^ 16
        + (s.pairState + s.fd R.MLK_PAIR_STATUS F.MLK_PAIR_STATUS_ROLE_PIN * 8 + i * 16) * 2 ^ 24
        + (s.rd R.GLB_MODE).toNat % 4096 * 2 ^ 32 + num * 2 ^ 48)
    ++ toLe 8 0

/-- What such a payload tells. -/
def buoyOf (bs : List Byte) : Buoy :=
  let w := leNat ((bs.drop 16).take 8)
  { serial := BitVec.ofNat 64 (leNat (bs.take 8)), coord := BitVec.ofNat 64 (leNat ((bs.drop 8).take 8)), chip := w % 256,
    members := bitsOf w 8 8, epoch := BitVec.ofNat 8 (w / 2 ^ 16), pair := bitsOf w 24 3, role := bitAt w 27,
    side := bitsOf w 28 1, mode := bitsOf w 32 12, num := bitsOf w 48 16 }

/-- The buoy interval in BCN cycles (R577). -/
def State.buoyCyc (s : State) : Nat := max 1 (s.settled.fd R.MLK_TIMING F.MLK_TIMING_BUOY) * 2500

/-- What a neighbour tells is recorded and shown. -/
def State.notePeer (s : State) (i : Nat) (b : Buoy) : State :=
  let t := s.setMside i { (s.mside i) with peer := b, hello := true, lastBuoy := s.time.clock }
  (t.wf (R.MLK_SIDE i) F.MLK_SIDE_PCHIP b.chip).wr64 (R.MLK_PEER i 0) b.serial

/-- BUOY_SEND (R577): on each side that is up. -/
def execBuoySend (s : State) : Out :=
  .next ((s.mlkSides.filter (fun i => s.sideOn i && s.sideState i == 3)).foldl (fun t i =>
    (t.mlkPut i (s.mlkOwn 3 (s.buoyBytes i))).mlkCnt 6) s)

/-- Intervals that pass without a buoy are counted. -/
def State.missed (s : State) (i n : Nat) : State :=
  (s.countN (R.MLK_CNT 7) n).wf (R.MLK_SIDE i) F.MLK_SIDE_MISSES (min 65535 (s.fd (R.MLK_SIDE i) F.MLK_SIDE_MISSES + n))

/-- The coordinator commits the ring's first common epoch, an empty transaction; its number is open (log entry 3). -/
def State.emptyCommit (s : State) : State :=
  if ¬ s.flag R.MLK_STATUS F.MLK_STATUS_COORD ∨ s.txnState ≠ 0 ∨ s.txnAsleepNow then s
  else
    let num := BitVec.ofNat 32 (s.freeWord.toNat % 0xFFFFFFFF)
    let t := (s.tookFree.wr R.MGT_TXN_NUM num).txnOpen num
    if t.txnState = 1 then (t.txnCheckStart true true).setMlk { t.mlk with retryFrom := none } else t

/-- The first common commit, from SYNC (R592). -/
def State.firstCommit (s : State) : State := if s.mlkState ≠ 4 then s else s.emptyCommit

/-- The learning synchronisation has ended as far as the coordinator sees: what it sent is acknowledged (R592). -/
def State.syncDone (s : State) : State :=
  if s.fte.tx = [] ∧ s.mlk.retryFrom.isNone ∧ s.mlkSides.all (fun i => (s.mside i).unacked == []) then s.firstCommit else s

/-- BUOY_RECEIVE (R577, R540, R586, R592). -/
def execBuoyReceive (side h0 h1 : Nat) (payload : List Byte) (s : State) : Out :=
  s.mlkRx 3 side h0 h1 payload (fun _ => true) (fun t fr =>
    if t.sideState side ≠ 3 then t
    else
      let b := buoyOf fr.payload
      let t1 := (t.missed side ((t.time.clock - (t.mside side).lastBuoy - 1) / t.buoyCyc)).notePeer side b
      let x := t1.mside side
      let t2 := t1.setMside side { x with
        splitFrom := if b.epoch = t1.odsEpoch then none else some (x.splitFrom.getD t1.time.clock),
        split := x.split && b.epoch != t1.odsEpoch }
      (if t2.partnerSide = some side then (t2.pairSees b false).latchCause 9 else t2).syncDone)

/-- The neighbour of a side leaves the member list (R582); a pair partner's entries stay (R588). -/
def State.neighbourGone (s : State) (i : Nat) : State :=
  let ser := (s.mside i).peer.serial
  let m := s.mlk.members.find? (fun m => m.serial == ser)
  let t := s.setMlk { s.mlk with members := s.mlk.members.filter (fun m => m.serial != ser) }
  let u := match m with
    | some m => if m.chip = 0xFF ∨ s.partnerSide = some i then t else t.dropRemote m.chip
    | none => t
  (u.wf R.MLK_STATUS F.MLK_STATUS_RING 0).startElection

/-- A side goes down (R571): 1 lanes, 2 replay, 3 buoys. -/
def State.sideDown (s : State) (i why tgt : Nat) : State :=
  let was := s.sideState i
  let x := s.mside i
  let t := ((s.setMside i { x with unacked := [], txSeq := 0, rxSeq := 4095, resends := 0, credits := 512, owed := 0 }).setSide i
    tgt).raise (mlkRec 0x8002 2 (i + why * 2))
  if was = 3 then t.neighbourGone i else t

/-- MLK_LANE_TRAINED (R570): a lane reaches block lock; a side in TRAIN goes on to HELLO. -/
def execMlkLaneTrained (lane : Nat) (s : State) : Out :=
  .next (
    let i := s.laneSide lane
    if 4 ≤ lane ∨ ¬ s.mlkRuns ∨ s.sideState i = 0 ∨ s.sideState i = 4 then s
    else
      let t := s.wf R.MLK_STATUS F.MLK_STATUS_LANES (s.fd R.MLK_STATUS F.MLK_STATUS_LANES ||| 2 ^ lane)
      if t.sideState i ≠ 1 then t
      else
        let u := (t.setSide i 2).setMside i { peer := (t.mside i).peer, helloFrom := t.time.clock, lastBuoy := t.time.clock }
        if u.mlkState = 1 then u.setMlkState 2 else u)

/-- MLK_TRAIN_RETRY (R570): training starts again on the sides that are down. -/
def execMlkTrainRetry (s : State) : Out :=
  .next (if s.mlkRuns then
      (s.mlkSides.filter (fun i => s.sideState i == 0 || s.sideState i == 4)).foldl (fun t i => t.setSide i 1) s
    else s)

/-- LANE_DOWN (R571). -/
def execLaneDown (lane : Nat) (s : State) : Out :=
  .next (
    let lanes := s.fd R.MLK_STATUS F.MLK_STATUS_LANES
    if 4 ≤ lane ∨ ¬ bitAt lanes lane then s
    else
      let i := s.laneSide lane
      let t := (s.wf R.MLK_STATUS F.MLK_STATUS_LANES (lanes - 2 ^ lane)).raise (mlkRec 0x8001 0 0 0 lane)
      if t.sideLanes i = [] ∧ (t.sideState i = 2 ∨ t.sideState i = 3) then t.sideDown i 1 0 else t)

/-- REPLAY_TIMEOUT (R574): 20 µs without progress. -/
def execReplayTimeout (side : Nat) (s : State) : Out :=
  .next (
    let x := s.mside side
    if ¬ s.sideOn side ∨ x.unacked = [] then s
    else
      let t := s.passTo (x.ackFrom + 5000)
      if 8 ≤ x.resends then (t.mlkInt 6).sideDown side 2 0
      else (x.unacked.take 64).foldl (fun u f => u.mlkPut side f)
        ((t.setMside side { x with resends := x.resends + 1, ackFrom := t.time.clock }).mlkCnt 5))

/-- BUOY_LOST (R577, R582, R589): MISS intervals pass without a buoy. -/
def execBuoyLost (side : Nat) (s : State) : Out :=
  .next (
    let x := s.mside side
    if ¬ s.mlkRuns ∨ ¬ x.hello ∨ ¬ s.mlkSides.contains side ∨ s.sideState side = 2 then s
    else
      let miss := max 1 (s.settled.fd R.MLK_TIMING F.MLK_TIMING_MISS)
      let t := s.passTo (x.lastBuoy + miss * s.buoyCyc)
      let ser := x.peer.serial.toNat % 2 ^ 32
      let t := ((t.missed side miss).mlkInt 5).raise (mlkRec 0x8003 2 side ser)
      let t := t.setMside side { (t.mside side) with hello := false }
      let t := if t.sideState side = 3 then t.sideDown side 3 4 else t
      if t.partnerSide ≠ some side then t
      else
        let u := t.raise (mlkRec 0x800D 2 0 ser)
        if u.pairState ≠ 2 then u
        else if u.settled.flag R.MLK_PAIR_CFG F.MLK_PAIR_CFG_PEER_EN then (if u.peerLow then u.takeRole 4 else u)
        else if u.settled.flag R.MLK_PAIR_CFG F.MLK_PAIR_CFG_TAKE_ON_LOSS then
          u.setMlk { u.mlk with holdFrom := some u.time.clock }
        else u)

/-- FRAME_BAD (R573, R574): a frame whose CRC is bad is counted; one whose header no receiver takes is counted and recorded. -/
def execFrameBad (side h0 h1 : Nat) (crcOk : Bool) (s : State) : Out :=
  .next (if ¬ s.sideOn side then s else if ¬ crcOk then s.mlkCnt 4 else if headerOk h0 h1 then s else s.frameBad h0)

/-- HELLO_SEND (R580): from step 10 of start-up, until the neighbour's HELLO has come. -/
def execHelloSend (side : Nat) (s : State) : Out :=
  .next (if s.boot.released ∧ s.sideOn side ∧ s.sideState side = 2 then
      s.mlkCtl side { s.mlkOwn 4 (s.buoyBytes side) with bcast := false, hops := 0 } else s)

/-- HELLO_RECEIVE (R580, R581, R587): the side is up, and election begins. -/
def execHelloReceive (side h0 h1 : Nat) (payload : List Byte) (s : State) : Out :=
  s.mlkRx 4 side h0 h1 payload (fun _ => true) (fun t fr =>
    let b := buoyOf fr.payload
    let t := if (t.mside side).txSeq = 0 then
        t.mlkCtl side { t.mlkOwn 4 (t.buoyBytes side) with bcast := false, hops := 0 } else t
    let t := (t.notePeer side b).setSide side 3
    let t := t.setMlk { t.mlk with members := (t.mergeAll [{ serial := b.serial, chip := b.chip }]).1,
                                   holdFrom := if t.partnerSide = some side then none else t.mlk.holdFrom }
    (if t.partnerSide = some side then t.pairSees b true else t).startElection)

/-- HELLO_TMO (R580, R590): HELLO_TMO × 100 ms pass. With no neighbour on any side the device runs ALONE with index 0. -/
def execHelloTmo (side : Nat) (s : State) : Out :=
  .next (
    let x := s.mside side
    if ¬ s.mlkRuns ∨ ¬ s.boot.released ∨ ¬ s.mlkSides.contains side ∨ s.sideState side = 3 ∨ x.helloTmo then s
    else
      let t := s.passTo (x.helloFrom + s.settled.fd R.MLK_PAIR_CFG F.MLK_PAIR_CFG_HELLO_TMO * 100 * msCyc)
      let t := (t.raise (mlkRec 0x8005 0 side)).setMside side { x with helloTmo := true }
      let t := if t.mlkSides.all (fun i => (t.mside i).helloTmo && t.sideState i != 3) then
          (t.setMlk { t.mlk with members := [t.selfMember] }).endElection
        else t
      if t.partnerSide = some side ∧ t.mlk.woke ∧ t.pairState = 2 ∧ t.settled.flag R.MLK_PAIR_CFG F.MLK_PAIR_CFG_PEER_EN
          ∧ t.peerLow then t.takeRole 4
      else t)

/-- EPOCH_SPLIT (R586, R623): the epochs of two neighbours have differed for TXN_TMO ms. -/
def execEpochSplit (side : Nat) (s : State) : Out :=
  .next (
    let x := s.mside side
    match x.splitFrom with
    | none => s
    | some c =>
      if x.split ∨ s.sideState side ≠ 3 ∨ (s.partnerSide = some side ∧ (x.peer.pair = 6 ∨ s.pairState = 6)) then s
      else
        let t := s.passTo (c + s.settled.fd R.MLK_TIMING F.MLK_TIMING_TXN_TMO * msCyc)
        let u := ((t.setMside side { x with split := true }).mlkInt 4).raise
          (mlkRec 0x8008 3 (t.odsEpoch.toNat + x.peer.epoch.toNat * 256))
        if u.flag R.MLK_STATUS F.MLK_STATUS_COORD then u.emptyCommit
        else if side = u.mlk.coordSide then
          ((u.setMlk { u.mlk with synced := false, syncFrom := u.time.clock }).setMlkState 4).raise
            (mkErr 14 0 0x7207 3 0 0 0 0 (u.odsEpoch.toNat + x.peer.epoch.toNat * 256))
        else u)

/-! ## Synchronisation (R592) -/

/-- SYNC_TIMEOUT (R592): 500 ms pass; the coordinator proceeds. -/
def execSyncTimeout (s : State) : Out :=
  .next (if s.mlkState = 4 ∧ s.flag R.MLK_STATUS F.MLK_STATUS_COORD then
      ((s.passTo (s.mlk.syncFrom + 500 * msCyc)).raise (mlkRec 0x8005 0 2)).firstCommit
    else s)

/-- EPOCH_COMMIT_RETRY (R592): every 100 ms after an aborted first commit. -/
def execEpochCommitRetry (s : State) : Out :=
  .next (match s.mlk.retryFrom with
    | none => s
    | some c =>
      let t := s.passTo (c + 100 * msCyc)
      (t.setMlk { t.mlk with retryFrom := some t.time.clock }).firstCommit)

/-! ## Packets and learning (R575, R578, R579) -/

/-- MLK releases its claim on a buffer (R578). -/
def State.mlkComplete (s : State) (t : Token) : State :=
  if hIdx t.handle = 0 then s else (s.bpmOp 0xFF 9 0xA80 (s.genOf 0xA80) t.handle 0).1

/-- The side that carries DATA (R578). -/
def State.dataSide (s : State) : Nat :=
  if s.fd R.MLK_CFG F.MLK_CFG_TOPO = 1 then s.fd R.MLK_CFG F.MLK_CFG_DATA_SIDE else 0

/-- DATA_FRAME_SEND (R575, R578): the head of the MLK member's release list, under the credits the side holds. -/
def execDataFrameSend (s : State) : Out :=
  .next (match s.relList 144 with
    | [] => s
    | e :: _ =>
      let i := s.dataSide
      let x := s.mside i
      let n := max 60 e.tok.length.toNat
      if (s.slot e.id).cut.isSome then s
      else if ¬ s.sideOn i ∨ s.sideState i ≠ 3 then
        ((((s.relPop 144).relDone e.id).mlkComplete e.tok).mlkCnt 10).reThrottle
      else if x.credits < mlkCredits n then s
      else
        let bs := s.packetBytes e.tok e.tok.length.toNat
        let f : MlkFrame := { typ := 1, src := s.chip, srcV := s.hasChip, dst := s.fd (R.MLK_SIDE i) F.MLK_SIDE_PCHIP,
                              cls := e.tok.cls.toNat, payload := bs ++ List.replicate (60 - bs.length) 0 }
        let t := (s.setMside i { x with credits := x.credits - mlkCredits n }).mlkPut i f
        (((((t.relPop 144).relDone e.id).mlkComplete e.tok).countN (R.MLK_CNT 2) n)).reThrottle)

/-- DATA_FRAME_RECEIVE (R578): the frame stands before PRS pipeline 3; one without room is dropped. -/
def execDataFrameReceive (side h0 h1 : Nat) (payload : List Byte) (s : State) : Out :=
  s.mlkRx 1 side h0 h1 payload (fun _ => true) (fun t fr =>
    let n := mlkCredits fr.payload.length
    if t.sideState side ≠ 3 ∨ 512 < t.rxCredits side + n then t.mlkCnt 10
    else
      let p := t.port 144
      let x := t.mside side
      ((t.setPort 144 { p with rxq := p.rxq ++ [{ bytes := fr.payload, its := t.time.ptp, side := side }] }).setMside side
        { x with owed := x.owed + n }).countN (R.MLK_CNT 3) fr.payload.length)

/-- The messages of a LEARN payload. -/
def learnMsgs (bs : List Byte) : List (W64 × W64) :=
  (List.range (bs.length / 16)).map (fun k =>
    (BitVec.ofNat 64 (leNat ((bs.drop (16 * k)).take 8)), BitVec.ofNat 64 (leNat ((bs.drop (16 * k + 8)).take 8))))

/-- LEARN_FRAME_RECEIVE (R579): the messages go to FTE; without room there the frame is not acknowledged. -/
def execLearnFrameReceive (side h0 h1 : Nat) (payload : List Byte) (s : State) : Out :=
  s.mlkRx 2 side h0 h1 payload
    (fun t => decide (t.fte.mlkRx = []) || decide (t.fte.mlkRx.length + payload.length / 16 ≤ Config.mlkQueue))
    (fun t fr => t.mlkTake side fr (fun u =>
      ({ u with fte := { u.fte with mlkRx := u.fte.mlkRx ++ learnMsgs fr.payload } } : State).countN (R.MLK_CNT 9)
        (fr.payload.length / 16)))

/-- LEARN_PACK_TIMEOUT (R579): 60 messages wait, or 10 µs have passed since the first. -/
def execLearnPackTimeout (s : State) : Out :=
  .next (
    if s.fte.tx = [] then s
    else
      let t := if 60 ≤ s.fte.tx.length then s else s.passTo (s.fte.txSince + 2500)
      let ms := t.fte.tx.take 60
      let u : State := { t with fte := { t.fte with tx := t.fte.tx.drop 60, txSince := t.time.clock } }
      if (u.floodSides.filter u.sideOn) = [] then u
      else (u.mlkFlood (u.mlkOwn 2 (ms.flatMap (fun m => toLe 8 m.1.toNat ++ toLe 8 m.2.toNat)))).countN (R.MLK_CNT 8) ms.length)

/-! ## Time alignment (R591) -/

/-- TIME_REQUEST_SEND (R591): every 1 ms on each side that is up. -/
def execTimeRequestSend (s : State) : Out :=
  .next ((s.mlkSides.filter (fun i => s.sideOn i && s.sideState i == 3)).foldl (fun t i =>
    (t.setMside i { (t.mside i) with t1 := s.time.ptp }).mlkPut i
      { t.mlkOwn 11 (toLe 8 s.time.ptp.toNat ++ toLe 24 0) with bcast := false, hops := 0 }) s)

/-- Whether this member follows a side's time: TFOLLOW; not the coordinator, nor ACTIVE or ALONE; the partner's side on a
STANDBY, else the side nearer to the coordinator. -/
def State.follows (s : State) (i : Nat) : Bool :=
  s.flag R.MLK_CFG F.MLK_CFG_TFOLLOW && !s.flag R.MLK_STATUS F.MLK_STATUS_COORD && s.pairState != 1 && s.pairState != 4
    && (if s.pairState = 2 then s.partnerSide == some i else s.mlk.coordSide == i)

/-- The rate that removes an eighth of an offset in a millisecond, saturated (R519). -/
def followRate (off : Int) : Int := max (-0x04000000) (min 0x04000000 (off * 2 ^ 32 / 8 / 250000))

/-- TIME_FRAME_RECEIVE (R591): a request (t2 and t3 zero) is answered; an answer yields offset and delay. -/
def execTimeFrameReceive (side h0 h1 : Nat) (payload : List Byte) (s : State) : Out :=
  s.mlkRx 11 side h0 h1 payload (fun _ => true) (fun t fr =>
    let w (k : Nat) : Int := leNat ((fr.payload.drop (8 * k)).take 8)
    let now : Int := t.time.ptp.toNat
    if t.sideState side ≠ 3 then t
    else if w 1 = 0 ∧ w 2 = 0 then
      t.mlkPut side { t.mlkOwn 11 (fr.payload.take 8 ++ toLe 8 now.toNat ++ toLe 8 now.toNat ++ toLe 8 0) with
        bcast := false, hops := 0 }
    else if w 0 ≠ (t.mside side).t1.toNat then t
    else
      let delay := ((now - w 0) - (w 2 - w 1)) / 2
      let off := ((w 1 - w 0) - (now - w 2)) / 2
      let u := (t.wr (R.MLK_TIME side 0) (BitVec.ofInt 32 off)).wr (R.MLK_TIME side 1) (BitVec.ofInt 32 delay)
      if ¬ u.follows side then u
      else if off < -1000 ∨ 1000 < off then u.schedule (.step off)
      else u.wr R.BCN_TIME_RATE (BitVec.ofInt 32 (followRate off)))

/-! ## The register MLK_CFG (R570), and power (R538, R541, R590) -/

/-- The sides leave for a state without a fault: the link is switched, or its lanes rest. -/
def State.mlkRest (s : State) (tgt : Nat) : State :=
  let t := [0, 1].foldl (fun t i => if t.sideState i = 0 ∧ tgt = 0 then t
    else (t.setSide i (if t.mlkSides.contains i then tgt else 0)).setMside i
      { peer := (t.mside i).peer, helloFrom := t.time.clock, lastBuoy := t.time.clock }) s
  t.wf R.MLK_STATUS F.MLK_STATUS_LANES 0

/-- A write to MLK_CFG: EN or TOPO changes start or stop the link. -/
def State.mlkCfgWrite (s : State) (v : W32) : State :=
  let t := s.plainWrite R.MLK_CFG v
  if (v &&& 0xB0000000) = (s.rd R.MLK_CFG &&& 0xB0000000) then t.noteUpdate
  else if t.mlkRuns then ((t.mlkRest 1).setMlkState 1).noteUpdate
  else ((t.mlkRest 0).setMlkState 0).noteUpdate

/-- Stage E2 (R538): the lanes go to receive-detect. -/
def State.mlkSleep (s : State) : State :=
  if s.mlkState = 0 then s else (s.mlkRest 0).setMlkState 1

/-- The exit (R541, R590): the lanes begin training; a standby looks for a hand-over it missed. -/
def State.mlkWake (s : State) : State :=
  if s.mlkState = 0 then s
  else
    let t := s.mlkRest 1
    t.setMlk { t.mlk with woke := decide (t.pairState = 2) }

end Sys2Proof.Machine
end

