-- ==== Sys2Proof/Machine/Power.lean ====
section
/-! DEFINITION. The power ladder (16_beacon_time_power, R536 to R545): requests, entry stages, wake causes, exits, remote
wake. -/
namespace Sys2Proof.Machine
open Sys2Proof

/-! ## Requests (R537) -/

/-- The masters whose request BCN accepts. -/
def pwrMay (mid : Nat) : Bool := decide ((0x800 ≤ mid ∧ mid ≤ 0x807) ∨ mid = 0xA60 ∨ mid = 0xA90)

/-- Why BCN refuses a step now, as FAIL codes it; 0 where it does not. -/
def State.pwrRefuses (s : State) (t : Nat) : Nat :=
  let pair := s.mode F.GLB_MODE_PAIR
  let base := s.fd R.BCN_PWR_CFG F.BCN_PWR_CFG_IMG_BASE
  if 5 < t then 1
  else if 2 ≤ t ∧ pair ∧ ¬ s.mode F.GLB_MODE_STANDBY then 2
  else if 3 ≤ t ∧ (List.range 8).any (fun n => s.chState n == 4) then 3
  else if 4 ≤ t ∧ (base = 0 ∨ s.dramSize < base * 65536 + 2 ^ 27) then 4
  else if 3 ≤ t ∧ pair ∧ (¬ s.flag R.BCN_VSENSE_CFG F.BCN_VSENSE_CFG_EN ∨ s.flag R.BCN_VSENSE_CFG F.BCN_VSENSE_CFG_POL) then 9
  else if s.fd R.BCN_WAKE_CAUSE F.BCN_WAKE_CAUSE_CAUSES &&& s.fd R.BCN_WAKE_CFG F.BCN_WAKE_CFG_EN ≠ 0 then 5
  else if s.powerStep ≠ 0 ∨ s.entering ∨ s.bcn.exiting then 6
  else 0

/-- A refusal (R537, R538). -/
def State.pwrRefuse (s : State) (reason target stage : Nat) : State :=
  (((s.wf R.BCN_PWR_STATUS F.BCN_PWR_STATUS_FAIL reason).bcnInt 3).bcnCnt 5).raise
    (bcnRec 0x6803 0 (reason + target * 16 + stage * 256))

/-- BCN_PWR_REQ takes a value. -/
def State.pwrReqWrite (s : State) (mid : Nat) (v : W32) : State :=
  let t := bitsOf v.toNat 0 3
  if ¬ pwrMay mid then s
  else if t = 0 then s.latchCause 10
  else match s.pwrRefuses t with
    | 0 => ((s.wf R.BCN_PWR_STATUS F.BCN_PWR_STATUS_TARGET t).wf R.BCN_PWR_STATUS F.BCN_PWR_STATUS_STAGE 0).setBcn
        { s.bcn with stageAt := s.time.clock }
    | r => s.pwrRefuse r t 0

/-- POWER_REQUEST (R537). -/
def execPowerRequest (mid : Nat) (gen : BitVec 8) (value : W32) (s : State) : Out :=
  .next (match s.takePair R.BCN_PWR_REQ mid gen value with
    | some t => t.pwrReqWrite mid value
    | none => s)

/-! ## Entry stages (R538) -/

/-- A stage of an entry is reached; the entry ends at its target. -/
def State.stageDone (s : State) (n : Nat) : State :=
  let target := s.fd R.BCN_PWR_STATUS F.BCN_PWR_STATUS_TARGET
  let t := ((s.wf R.BCN_PWR_STATUS F.BCN_PWR_STATUS_STAGE n).wf R.BCN_PWR_STATUS F.BCN_PWR_STATUS_STEP n).setBcn
    { s.bcn with stageAt := s.time.clock, draining := false }
  if target = n then (t.wf R.BCN_PWR_STATUS F.BCN_PWR_STATUS_TARGET 0).bcnCnt (n - 1) else t

/-- Stage E2 begins: REC seals, ports and lanes rest, admission stops, an open transaction is aborted (R507, R618). -/
def State.drainStart (s : State) : State :=
  let t := s.sealStop
  let t := ((t.setRec { t.rcd with hold := true }).portsTo 0).mlkSleep.txnAsleep
  t.setBcn { t.bcn with draining := true, stageAt := t.time.clock }

/-- Whether the device has drained: no token in ODS, no long-unit operation but a waiting GET or t_wait, and REC's logs
written and flushed (R507). -/
def State.drained (s : State) : Bool :=
  s.ods.slots.all (fun e => !e.2.used)
    && s.threads.all (fun e => e.2.longs.all (fun o => (o.unit == 0x340 && o.op == 0) || (o.unit == 0x380 && o.op == 0)))
    && s.rcd.sealed == [] && s.rcd.fly == [] && s.rcd.ios == [] && s.rcd.dirty == []

/-- The pools of packet memory. -/
def State.packetPools (s : State) : List Nat := (List.range 8).filter (fun p => s.poolOn p && s.poolSpace p == .packet)

/-- Ports that may train begin to. -/
def State.trainAll (s : State) : State :=
  (List.range 144).foldl (fun t n =>
    if t.link n = 0 ∧ ¬ (t.port n).hold ∧ t.trainOrDown n = 1 then t.setLink n 1 else t) s

/-- What stage E2 stopped goes on. -/
def State.unrest (s : State) : State :=
  if s.rcd.hold then ((s.setRec { s.rcd with hold := false }).trainAll).mlkWake else s

/-- An entry refused after E1 returns the device to L0. -/
def State.entryBack (s : State) (reason : Nat) : State :=
  let t := s.pwrRefuse reason (s.fd R.BCN_PWR_STATUS F.BCN_PWR_STATUS_TARGET) (s.fd R.BCN_PWR_STATUS F.BCN_PWR_STATUS_STAGE)
  (((t.wf R.BCN_PWR_STATUS F.BCN_PWR_STATUS_TARGET 0).wf R.BCN_PWR_STATUS F.BCN_PWR_STATUS_STEP 0).setBcn
    { t.bcn with draining := false }).unrest

/-- The next crystal tick comes. -/
def State.toTick (s : State) : State := s.pass (s.cyclesToTick 1)

/-- Stage E3: BCN_SLEEP_REF is written, and PTP-domain time stops at a crystal tick. -/
def State.sleepRef (s : State) : State :=
  let t := s.toTick
  ((t.wr64 (R.BCN_SLEEP_REF 0) t.time.ptp).wr64 (R.BCN_SLEEP_REF 2) t.time.bcnt).wf R.BCN_TIME_STATUS
    F.BCN_TIME_STATUS_RUNNING 0

/-- Stage E5: the vault is wiped with cause 4. -/
def State.wipeOff (s : State) : State :=
  let n := s.fd R.MGT_VAULT_STATUS F.MGT_VAULT_STATUS_WIPES
  (((s.vaultZero.wf R.MGT_VAULT_STATUS F.MGT_VAULT_STATUS_CAUSE 4).wf R.MGT_VAULT_STATUS F.MGT_VAULT_STATUS_WIPING 0).wf
    R.MGT_VAULT_STATUS F.MGT_VAULT_STATUS_WIPES (min 255 (n + 1))).raise (mkErr 8 0x10 0x4006 0 0 0 0 0 4)

/-- POWER_ENTRY_STAGE (R538): the next stage of an entry, or the end of stage E2 once the device has drained. -/
def execPowerEntryStage (s : State) : Out :=
  .next (
    let target := s.fd R.BCN_PWR_STATUS F.BCN_PWR_STATUS_TARGET
    if ¬ s.entering ∨ s.bcn.exiting then s
    else if s.bcn.draining then
      (if ¬ s.drained then s
       else if 4 ≤ target ∧ s.packetPools.any (fun p => s.poolBusy p) then s.entryBack 8
       else s.stageDone 2)
    else match s.fd R.BCN_PWR_STATUS F.BCN_PWR_STATUS_STAGE with
      | 0 => s.stageDone 1
      | 1 => s.drainStart
      | 2 => s.sleepRef.stageDone 3
      | 3 => s.stageDone 4
      | _ => s.wipeOff.stageDone 5)

/-- ENTRY_DRAIN_TIMEOUT (R538): DRAIN_TMO passes in stage E2. -/
def execEntryDrainTimeout (s : State) : Out :=
  .next (
    if ¬ s.bcn.draining ∨ s.drained then s
    else (s.passTo (s.bcn.stageAt + max 1 (s.fd R.BCN_PWR_CFG F.BCN_PWR_CFG_DRAIN_TMO) * msCyc)).entryBack 7)

/-! ## Wakes and exits (R540, R541) -/

/-- WAKE_CAUSE (R540): a frame in L1 (5), a signal in L2 (6), an ODS timer (7), the host's lanes (8; from L3 on PERST_N only), a
buoy of the partner (9). The other causes come with their own commands. -/
def execWakeCause (cause : Nat) (s : State) : Out :=
  .next (if cause < 5 ∨ 9 < cause ∨ (cause = 8 ∧ 3 ≤ s.powerStep) then s else s.latchCause cause)

/-- PTP-domain time restarts at a crystal tick (R541); the fraction of a nanosecond is open (log entry 3). -/
def State.timeBack (s : State) : State :=
  let t := s.toTick
  if ¬ t.flag R.BCN_TIME_CTRL F.BCN_TIME_CTRL_RUN then t
  else
    let x := (t.rd64 (R.BCN_SLEEP_REF 0)).toNat + (t.time.bcnt - t.rd64 (R.BCN_SLEEP_REF 2)).toNat * 1000000000 / 32768
    let u : State := { t.tookFree with
      time := { t.time with secs := BitVec.ofNat 48 (x / 1000000000), ns := x % 1000000000, frac := t.freeWord.toNat % 2 ^ 32 } }
    ((u.wf R.BCN_TIME_STATUS F.BCN_TIME_STATUS_RUNNING 1).wf R.BCN_TIME_STATUS F.BCN_TIME_STATUS_HOLDOVER 1).dlExpireAll

/-- The exit from L4 and L5 fills packet memory with zeros, and BPM rebuilds its pools there (R541). -/
def State.packetBack (s : State) : State :=
  let t : State := { s with
    mem := s.mem.filter (fun c => c.1 / 2 ^ 44 != 1),
    ecs := { s.ecs with bad := s.ecs.bad.filter (fun k => (arrayOf (k / 2 ^ 32)).map (·.1) != some .packet) } }
  t.packetPools.foldl (fun u p => u.poolBuild p) t

/-- The exit from L5 writes the fuse-derived contents of the vault (R541, R433). -/
def State.page0Back (s : State) : State :=
  (s.setBytes .vault 0 s.fuse.page0).orBits (R.MGT_VAULT_HIDE 0) 1

/-- Causes latched, and those that assert WAKE_N. -/
def State.causes (s : State) : Nat := s.fd R.BCN_WAKE_CAUSE F.BCN_WAKE_CAUSE_CAUSES

/-- The PCIe link to the host is up. -/
def State.hostUp (s : State) : Bool := s.flag R.HIF_PCIE_STATUS F.HIF_PCIE_STATUS_LINK_UP

/-- L0 is reached: remote wake (R542, R543). `begins` says that the host begins its retraining in that cycle. -/
def State.remoteWake (s : State) (begins : Bool) : State :=
  if s.causes &&& s.fd R.BCN_WAKE_CFG F.BCN_WAKE_CFG_HOST = 0 ∨ s.hostUp then s
  else if begins then s.orBits R.BCN_WAKE_CAUSE (2 ^ 17)
  else (s.orBits R.BCN_WAKE_CAUSE (2 ^ 16)).setBcn { s.bcn with wakeN := true, wakeSince := s.time.clock }

/-- The device reaches L0. -/
def State.awake (s : State) (begins : Bool) : State :=
  let from_ := s.powerStep
  let t := (((s.unrest.wf R.BCN_PWR_STATUS F.BCN_PWR_STATUS_STEP 0).wf R.BCN_PWR_STATUS F.BCN_PWR_STATUS_TARGET 0).wf
    R.BCN_WAKE_CAUSE F.BCN_WAKE_CAUSE_FROM from_)
  let u := (((t.setBcn { t.bcn with exiting := false, draining := false }).bcnInt 0).bcnCnt 6).raise
    (bcnRec 0x6802 0 (s.causes + from_ * 2 ^ 24))
  u.remoteWake begins

/-- POWER_EXIT (R541): `image` says how the state image read, in L4 and L5: 0 its digest matches, 1 it does not, 2 a read met
an uncorrectable error. `hostBegins` as R543 has it. -/
def execPowerExit (image : Nat) (hostBegins : Bool) (s : State) : Out :=
  .next (
    let st := s.powerStep
    if ¬ s.bcn.exiting then s
    else if 4 ≤ st ∧ image ≠ 0 then (s.keep (bcnRec 0x6806 4 st (b2n (image != 1)))).resetN.startBoot
    else
      let t := if st = 5 then s.page0Back else s
      let t := if 4 ≤ st then t.packetBack else t
      (if 3 ≤ st then t.timeBack else t).awake hostBegins)

/-! ## Remote wake (R542, R543) -/

/-- WAKE_TIMEOUT (R542): WAKE_TMO × 100 ms pass with WAKE_N low. -/
def execWakeTimeout (s : State) : Out :=
  .next (
    let tmo := s.fd R.BCN_PWR_CFG F.BCN_PWR_CFG_WAKE_TMO
    if ¬ s.bcn.wakeN ∨ tmo = 0 then s
    else
      let t := s.passTo (s.bcn.wakeSince + tmo * 100 * msCyc)
      (t.setBcn { t.bcn with wakeN := false }).raise (bcnRec 0x6808 0 t.causes))

/-- WAKE_WITHDRAWN (R543): the host begins retraining while WAKE_N is low. -/
def execWakeWithdrawn (s : State) : Out :=
  .next (
    if ¬ s.bcn.wakeN then s
    else ((s.setBcn { s.bcn with wakeN := false }).orBits R.BCN_WAKE_CAUSE (2 ^ 17)).raise (bcnRec 0x6809 0 s.causes))

end Sys2Proof.Machine
end

