-- ==== Sys2Proof/Machine/ThreadCtl.lean ====
section
/-! DEFINITION. The commands of a cluster's threads (10_pipeline_threads, R356 to R362) and what the device takes back from a
thread that is reset or revoked (R361, R634). -/
namespace Sys2Proof.Machine
open Sys2Proof

/-! ## What is taken back (R361, R634, R440) -/

/-- A token that a thread holds returns to the head of the queue of its node in the ODS copy, with its epoch, its SEQ and its
lock; or it is discarded (R634 step 2). -/
def State.takeToken (s : State) (mid slot : Nat) : State :=
  match (s.thr mid).tokenIn slot with
  | none => s
  | some id =>
    let t := s.emptySlot mid slot
    if t.flag R.MGT_FAULT_CFG F.MGT_FAULT_CFG_TOKENS then t.discardToken id
    else
      let x := t.slot id
      let q := nodeQueue (t.tokView x.tok) x.tok.node.toNat x.tok.flow
      (t.setSlot id { x with tok := { x.tok with owner := 0, gen := 0 }, fromQ := q }).enqueueHead id

/-- ODS takes back every token that a thread holds, the highest slot first, so that the lowest slot's token is served next. -/
def State.takeTokens (s : State) (mid : Nat) : State :=
  ((List.range 8).reverse.foldl (fun t i => t.takeToken mid i) s).reThrottle

/-- The timers with target bit 1 that a thread armed are cancelled (R361, R634). -/
def State.cancelTimers (s : State) (mid : Nat) : State :=
  (s.ods.dl.filter (fun e => e.2.kind == .timer && e.2.target && e.2.mid == mid)).foldl
    (fun t e => t.cancel (e.1 / 65536) (e.1 % 65536)) s

/-- Whether an operation is a register load of the SEM block. -/
def LongOp.isSemLoad (o : LongOp) : Bool :=
  o.unit == 0x280 && o.op == 0 && decide (0xFE00050000 ≤ (o.o0 + o.t).toNat ∧ (o.o0 + o.t).toNat < 0xFE00080000)

/-- The waiting reads of semaphores that a thread has in progress get no response (R440). -/
def State.dropSemReads (s : State) (mid : Nat) : State :=
  let x := s.thr mid
  s.setThr mid { x with longs := x.longs.filter (fun o => !(o.isSemLoad && o.res.isNone)) }

/-- The operations of a thread that wait at ODS, at SEM, at an accelerator or for an event go, at its reset: none of these
answers it any more (R361, R379, R440). -/
def State.dropWaits (s : State) (mid : Nat) : State :=
  let t := s.dropGet mid
  let x := t.thr mid
  { t.setThr mid { x with longs := x.longs.filter (fun o =>
      !(o.res.isNone && (o.isTkp || o.unit == 0x3C0 || o.unit == 0x380 || o.isSemLoad))) } with
    ods := { t.ods with stalls := t.ods.stalls.filter (fun o => o.mid != mid) } }

/-- A RESET takes a thread into RESETTING (R360, R361). -/
def State.threadResetStart (s : State) (mid : Nat) : State :=
  let t := (s.setThr mid { (s.thr mid) with st := 5, step := false, cmdErr := false }).takeTokens mid
  ((((t.cancelTimers mid).dropWaits mid).accLeave mid 0).askAbandon mid 0).dropPends mid

/-- A reset thread is OFF with the state of R261; its token window keeps its bytes. -/
def State.threadOff (s : State) (mid : Nat) : State :=
  let c := midCluster mid
  let n := midCore mid * 8 + mid % 8
  let t : State := { s.setThr mid {} with evpend := s.evpend.set (fun _ => 0) mid 0 }
  if c < 16 then t.wr (R.CLU_FAULT_PEND c (n / 32)) (t.rd (R.CLU_FAULT_PEND c (n / 32)) &&& ~~~(BitVec.ofNat 32 (2 ^ (n % 32))))
  else t

/-- A thread's reset is complete once no long-unit operation is in progress and SEM has acted. -/
def State.resetReady (s : State) (mid : Nat) : Bool :=
  (s.thr mid).st == 5 && (s.thr mid).longs == [] && s.abandons.all (fun a => a.1 != mid)

/-! ## CLU_THR_CTRL (R360) -/

/-- A command outside its allowed states. -/
def State.thrRefused (s : State) (mid : Nat) : State := s.setThr mid { (s.thr mid) with cmdErr := true }

/-- A write to CLU_THR_CTRL[k][t] of cluster c. -/
def State.thrCtrlWrite (s : State) (c k t : Nat) (v : W32) : State :=
  let mid := threadMid c k t
  let pc := v.toNat % 2 ^ 14
  let s := s.wr (R.CLU_THR_CTRL c k t) (BitVec.ofNat 32 pc)
  let x := s.thr mid
  let halted := decide (2 ≤ x.st ∧ x.st ≤ 4)
  let ok (y : ThreadSt) : State := s.setThr mid { y with cmdErr := false }
  match bitsOf v.toNat 29 3 with
  | 0 => s
  | 1 => if x.st = 1 then ok { x with st := 3, step := false } else s.thrRefused mid
  | 2 =>
    if halted then (ok { x with st := 1, skipBrk := x.st == 4 }).refetch mid
    else if x.st = 0 then (ok x).runThread mid pc
    else s.thrRefused mid
  | 3 => if halted ∨ x.st = 0 then (ok { x with skipBrk := x.st == 4 }).runThread mid pc else s.thrRefused mid
  | 4 => if x.st = 5 then s.thrRefused mid else s.threadResetStart mid
  | 5 =>
    if halted ∧ s.flag (R.CLU_DBG c) F.CLU_DBG_EN ∧ ¬ s.locked then
      (ok { x with st := 1, step := true, skipBrk := x.st == 4 }).refetch mid
    else s.thrRefused mid
  | _ => s.thrRefused mid

/-- A write of a command to CLU_THR_CTRL comes from a master. -/
def State.thrCommand (s : State) (mid : Nat) (gen : BitVec 8) (c k t cmd pc : Nat) : State :=
  if 16 ≤ c ∨ 9 ≤ k ∨ 8 ≤ t then s
  else
    let v := BitVec.ofNat 32 (cmd * 2 ^ 29 + pc % 2 ^ 14)
    s.reach (R.CLU_THR_CTRL c k t) mid gen v (fun u => u.thrCtrlWrite c k t v)

/-- THREAD_HALT (R360). -/
def execThreadHalt (mid : Nat) (gen : BitVec 8) (c k t : Nat) (s : State) : Out := .next (s.thrCommand mid gen c k t 1 0)

/-- THREAD_RESUME (R360). -/
def execThreadResume (mid : Nat) (gen : BitVec 8) (c k t pc : Nat) (s : State) : Out := .next (s.thrCommand mid gen c k t 2 pc)

/-- THREAD_RESUME_AT (R360). -/
def execThreadResumeAt (mid : Nat) (gen : BitVec 8) (c k t pc : Nat) (s : State) : Out := .next (s.thrCommand mid gen c k t 3 pc)

/-- THREAD_RESET (R360, R361). -/
def execThreadReset (mid : Nat) (gen : BitVec 8) (c k t : Nat) (s : State) : Out := .next (s.thrCommand mid gen c k t 4 0)

/-- THREAD_STEP (R360). -/
def execThreadStep (mid : Nat) (gen : BitVec 8) (c k t : Nat) (s : State) : Out := .next (s.thrCommand mid gen c k t 5 0)

/-- THREAD_RESET_DONE (R360): LONG is 0, so the thread's state is reset. -/
def execThreadResetDone (mid : Nat) (s : State) : Out :=
  .next (if isThread mid ∧ s.resetReady mid then s.threadOff mid else s)

/-- CLU_THR_STATUS as a read returns it; STALL is decided by `stalled`. -/
def State.thrStatusRead (s : State) (mid : Nat) (stalled : Bool) : W32 :=
  let x := s.thr mid
  BitVec.ofNat 32 (x.st * 2 ^ 29 + b2n stalled * 2 ^ 28 + b2n x.cmdErr * 2 ^ 27 + min 2 x.xfers.length * 2 ^ 24
    + min 15 x.longs.length * 2 ^ 16 + x.pc % 2 ^ 14)

end Sys2Proof.Machine
end

