-- ==== Sys2Proof/Machine/Rcv.lean ====
section
/-! DEFINITION. Faults and recovery (20_faults_recovery): the error log, the ladder, revocation and readmission, cores, spares
and clusters, the management pair, the chip, the recovery commands. -/
namespace Sys2Proof.Machine
open Sys2Proof

/-- Set MGT's fault handling. -/
def State.setRcv (s : State) (x : RcvSt) : State := { s with rcv := x }

/-- A counter of MGT_FLT_CNT. -/
def State.fltCnt (s : State) (k : Nat) : State := s.count (R.MGT_FLT_CNT k)

/-! ## The error log (R62, R652, R653) -/

/-- Whether a record's MID names a cluster's thread; MID 0x000 with generation 0x00 names no master (R57). -/
def ErrRec.namesThread (r : ErrRec) : Bool := midIsThread r.mid.toNat && (r.mid != 0 || r.gen != 0)

/-- The island of a record's unit and instance (R59, R532). -/
def ErrRec.island (r : ErrRec) : Nat :=
  let i := r.inst.toNat
  match r.unit.toNat with
  | 1 => if 0xC0 ≤ i then 16 + (i - 0xC0) % 12 else 16 + i / 12 % 12
  | 2 => 28 | 3 => 29 | 4 => 30 | 5 => 31
  | 6 => i / 16 | 7 => i / 2 % 16
  | 8 => if i < 16 then i else 41
  | 10 => 32 + i % 8 | 12 => 40 | 13 => 44 | 15 => 42 | 16 => 43
  | _ => 41

/-- A unit has a record that MGT may take: no crossing on its way is held (R62). -/
def State.mayDeliver (s : State) (u : Nat) : Bool :=
  match (s.errOf u).q with
  | [] => false
  | r :: _ => !s.xingHeld 41 r.island

/-- The unit that MGT serves next, round robin in rising order after the one served last. -/
def State.nextUnit (s : State) : Option Nat :=
  ((List.range 17).map (fun i => (s.rcv.rr + 1 + i) % 17)).find? s.mayDeliver

/-- A record is appended to the log, or finds it full (R652). -/
def State.elogPut (s : State) (r : ErrRec) : State :=
  let x := s.rcv
  let add (l : List ErrRec) (o : Bool) (t : State) : State :=
    ((t.setRcv { t.rcv with elog := l ++ [{ r with ovf := r.ovf || o }], elogOvf := false }).fltCnt 0).irq
      (if 2 ≤ r.sev.toNat then 0 else 1)
  if x.elog.length < 4096 then add x.elog x.elogOvf s
  else
    match x.elog.findIdx? (fun e => decide (e.sev.toNat ≤ 1)), decide (2 ≤ r.sev.toNat) with
    | some i, true => add (x.elog.eraseIdx i) true (s.fltCnt 1)
    | _, _ => (s.setRcv { x with elogOvf := true }).fltCnt 1

/-- The oldest record leaves the log (R653). -/
def State.elogPop (s : State) : State := s.setRcv { s.rcv with elog := s.rcv.elog.drop 1 }

/-- A write to MGT_ELOG_CTRL. -/
def State.elogCtrlWrite (s : State) (v : W32) : State := if bitAt v.toNat 30 then s.elogPop else s

/-- ELOG_POP (R653). -/
def execElogPop (mid : Nat) (gen : BitVec 8) (s : State) : Out :=
  .next (s.reach R.MGT_ELOG_CTRL mid gen 0x40000000 (fun t => t.elogCtrlWrite 0x40000000))

/-- MGT_ELOG_CTRL and MGT_ELOG_REC as reads return them. -/
def State.elogCtrlRead (s : State) : W32 :=
  BitVec.ofNat 32 (b2n (s.rcv.elog != []) * 2 ^ 31 + s.rcv.elog.length)
def State.elogRecRead (s : State) (i : Nat) : W32 :=
  match s.rcv.elog with
  | r :: _ => r.words.getD i 0
  | [] => 0

/-! ## Recoveries (R630 to R633) -/

/-- The open recovery and the queue of a recoverer. -/
def State.openJob (s : State) (r : Nat) : Option RcvJob := s.rcv.open_.get (fun _ => none) r
def State.jobQueue (s : State) (r : Nat) : List RcvJob := s.rcv.queues.get (fun _ => []) r

/-- Set them. -/
def State.setOpen (s : State) (r : Nat) (j : Option RcvJob) : State :=
  s.setRcv { s.rcv with open_ := s.rcv.open_.set (fun _ => none) r j }
def State.setJobs (s : State) (r : Nat) (l : List RcvJob) : State :=
  s.setRcv { s.rcv with queues := s.rcv.queues.set (fun _ => []) r l }

/-- The recoverer of a recovery's rung (R630): the Keeper of the subject's cluster, or 16, the head Keeper. -/
def RcvJob.recoverer (j : RcvJob) : Nat := if j.unitPath ∨ 2 ≤ j.rung then 16 else min 16 (midCluster j.subject)

/-- The next row of a recovery's path; none where it is the chip (R630, R648). -/
def RcvJob.escalated (j : RcvJob) : Option RcvJob :=
  if j.unitPath then (if j.rung = 0 ∧ j.unit ≠ 5 then some { j with rung := 1 } else none)
  else match j.rung with
    | 0 => some { j with rung := 1, subject := threadMid (midCluster j.subject) (midCore j.subject) 0 }
    | 1 => some { j with rung := 2, subject := threadMid (midCluster j.subject) 0 0 }
    | _ => none

/-- A fault reaches rung 3 (R646). -/
def State.toChip (s : State) (code : Nat) : State :=
  if s.rcv.chipDue.isSome then s else s.setRcv { s.rcv with chipDue := some code }

/-- Put a recovery into a queue: falling severity, and arrival within one severity (R633). -/
def insertJob (j : RcvJob) : List RcvJob → List RcvJob
  | [] => [j]
  | k :: ks => if k.sev < j.sev then j :: k :: ks else k :: insertJob j ks

/-- The entry a full queue gives up goes to the next recoverer of its path. -/
def RcvJob.away (j : RcvJob) : Option RcvJob :=
  if j.recoverer = 16 then none else some { j with rung := 2, subject := threadMid (midCluster j.subject) 0 0 }

/-- A recovery opens with its recoverer, or waits in its queue; a full queue escalates its lowest entry (R633). -/
def State.placeJob (s : State) (j : RcvJob) : Nat → State
  | 0 => s
  | n + 1 =>
    let r := j.recoverer
    if (s.openJob r).isNone then s.setOpen r (some { j with since := s.time.clock })
    else if (s.jobQueue r).length < 16 then s.setJobs r (insertJob j (s.jobQueue r))
    else
      let s1 := (s.setJobs r (insertJob j (s.jobQueue r).dropLast)).fltCnt 3
      match (s.jobQueue r).getLast? with
      | none => s1
      | some low => match low.away with
        | some k => s1.placeJob k n
        | none => s1.toChip low.code

/-- The head of a recoverer's queue opens. -/
def State.openNext (s : State) (r : Nat) : State :=
  match s.openJob r, s.jobQueue r with
  | none, j :: js => (s.setJobs r js).setOpen r (some { j with since := s.time.clock })
  | _, _ => s

/-- An open recovery rises to the row `k` of its path, or to the chip. -/
def State.raiseTo (s : State) (r code : Nat) (k : Option RcvJob) : State :=
  let s1 := (s.setOpen r none).fltCnt 3
  match k with
  | none => (s1.toChip code).openNext r
  | some k => if k.recoverer = r then s1.setOpen r (some { k with since := s.time.clock }) else (s1.placeJob k 3).openNext r

/-- The rung and the subject that a record of an escalation shows. -/
def rungDetail (j : RcvJob) (k : Option RcvJob) : Nat :=
  match k with
  | some k => k.rung + k.subject % 4096 * 16
  | none => 3 + j.subject % 4096 * 16

/-- The codes of a thread's own faults (R295, R335). -/
def isThreadFault (code : Nat) : Bool := decide (0x3001 ≤ code ∧ code ≤ 0x3013)

/-- The starting rung on the unit path (R631, R648); 3 the chip. -/
def unitStart (unit inst code : Nat) : Nat :=
  match unit with
  | 1 | 7 | 10 | 12 => 0
  | 5 => if code = 0x2809 then 0 else 3
  | 6 => if inst % 16 = 0xA ∨ inst % 16 = 0xD then 0 else 1
  | 16 => if code = 0x8008 then 0 else 1
  | 2 | 3 | 4 | 11 => 3
  | _ => 1

/-- A record names a Keeper's own fault, or the loss of a Keeper's lease (R358, R631). -/
def State.keeperFault (s : State) (r : ErrRec) : Bool :=
  r.namesThread && r.mid.toNat == s.keeperMid (midCluster r.mid.toNat)
    && ((r.unit.toNat == 6 && isThreadFault r.code.toNat) || r.code == 0x4805)

/-- The recovery that a record starts (R631); none where it is only logged. -/
def State.startOf (s : State) (r : ErrRec) : Option RcvJob :=
  let inst := r.inst.toNat
  let sev := r.sev.toNat
  let j : RcvJob := { unit := r.unit.toNat, sev := sev, code := r.code.toNat }
  if r.unit = 6 ∧ (inst % 16 = 0xC ∨ inst % 16 = 0xF) ∧ (sev = 2 ∨ sev = 3) then
    some { j with rung := 2, subject := threadMid (inst / 16) 0 0 }
  else if s.keeperFault r then some { j with rung := 2, subject := threadMid (midCluster r.mid.toNat) 0 0 }
  else if sev = 2 ∧ r.namesThread then some { j with subject := r.mid.toNat }
  else if sev = 3 then some { j with rung := unitStart r.unit.toNat inst r.code.toNat, unitPath := true, subject := inst }
  else if sev = 4 then some { j with rung := 3, unitPath := true, subject := inst }
  else none

/-- A record names the subject of recoverer `c`'s open recovery, or the recovery's path (R633). -/
def State.namesJob (s : State) (r : ErrRec) (c : Nat) (j : RcvJob) : Bool :=
  let mid := r.mid.toNat
  let subject :=
    if j.unitPath then r.unit.toNat == j.unit && r.inst.toNat == j.subject
    else match j.rung with
      | 0 => r.namesThread && mid == j.subject
      | 1 => r.namesThread && mid / 8 == j.subject / 8
      | _ => (r.namesThread && midCluster mid == midCluster j.subject)
          || (r.unit == 6 && r.inst.toNat / 16 == midCluster j.subject)
  let path :=
    if c < 16 then r.namesThread && mid / 8 == s.keeperMid c / 8
    else decide (0x800 ≤ mid ∧ mid ≤ 0x808) || (r.unit == 14 && !r.namesThread)
  subject || path

/-- The recoverer whose open recovery a record concerns. -/
def State.concerned (s : State) (r : ErrRec) : Option (Nat × RcvJob) :=
  (List.range 17).findSome? (fun c => match s.openJob c with
    | some j => if s.namesJob r c j then some (c, j) else none
    | none => none)

/-- An open recovery is escalated by a fault of its subject or its path (R633, R654). -/
def State.escalateFor (s : State) (r : ErrRec) (c : Nat) (j : RcvJob) : State :=
  let k := match j.escalated with
    | some k => if s.keeperFault r ∧ k.rung = 1 ∧ ¬ k.unitPath then k.escalated else some k
    | none => none
  (s.raiseTo c r.code.toNat k).raise (mkErr 14 0 0x7201 0 0 0 0 0 (rungDetail j k) r.code.toNat)

/-! ## The management pair (R642 to R645) -/

/-- A thread of the management pair is reset at once with the pair. -/
def State.pairThreadReset (s : State) (mid : Nat) : State := (s.threadResetStart mid).threadOff mid

/-- The signals on every fault line so far. -/
def State.lineSignals (s : State) : Nat := (s.err.map (fun e => e.2.signals)).sum

/-- BCN takes the management pair down (R642); cause 1 lockstep, 2 watchdog, 3 the head Keeper. -/
def State.takedown (s : State) (cause : Nat) : State :=
  let t := (List.range 8).foldl (fun u i => u.pairThreadReset (0x800 + i)) s
  let t := ((t.txnMgtReset.setOpen 16 none).setJobs 16 []).wr R.BCN_MGT_STATUS
    (BitVec.ofNat 32 (2 ^ 31 + cause * 2 ^ 28 + s.fd R.BCN_MGT_STATUS F.BCN_MGT_STATUS_FAULT_LINES * 2 ^ 16))
  let t := t.setRcv { t.rcv with lostAt := s.time.clock, downAt := s.time.clock, restarting := false, noReturn := false,
                                 lineBase := s.lineSignals }
  let t := match cause with
    | 1 => t.keep (bcnRec 0x680A 3)
    | 2 => t.keep (bcnRec 0x680B 3)
    | _ => t
  t.irq 7

/-- MGT routes a record that it has logged while the device runs (R631, R633). -/
def State.route (s : State) (r : ErrRec) : State :=
  if s.fd R.MGT_BOOT_STATUS F.MGT_BOOT_STATUS_STATE ≠ 1 then s
  else if r.unit = 14 ∧ 0x800 ≤ r.mid.toNat ∧ r.mid.toNat ≤ 0x807 ∧ isThreadFault r.code.toNat then
    match s.openJob 16 with
    | none => s
    | some j => if r.mid = 0x807 then s.takedown 3 else s.escalateFor r 16 j
  else match s.startOf r with
    | none => s
    | some j =>
      if j.rung = 3 then (s.fltCnt 2).toChip j.code
      else match s.concerned r with
        | some (c, k) => s.escalateFor r c k
        | none => (s.fltCnt 2).placeJob j 3

/-- RECORD_DELIVERY (R62, R65, R631, R652): MGT takes the oldest record of the next unit. -/
def execRecordDelivery (s : State) : Out :=
  .next (if s.headless ∨ s.inReset then s
    else match s.nextUnit with
      | none => s
      | some u =>
        let x := s.errOf u
        match x.q with
        | [] => s
        | r0 :: rest =>
          let r : ErrRec := { r0 with ovf := x.ovf }
          let x1 : ErrUnit := { x with q := rest, ovf := false, line := false, chip := if r.sev.toNat = 4 then none else x.chip }
          let t : State := { s with err := s.err.set (fun _ => {}) u x1 }
          let t := (t.setRcv { t.rcv with
            rr := u,
            iramBad := if r.unit.toNat ≠ 6 then t.rcv.iramBad
              else if r.inst.toNat % 16 = 0xC then (t.rcv.iramBad.filter (fun c => c != r.inst.toNat / 16)) ++ [r.inst.toNat / 16]
              else t.rcv.iramBad.filter (fun c => c != r.inst.toNat / 16) }).elogPut r
          let t := if r.namesThread ∧ 2 ≤ r.sev.toNat then t.event (t.keeperMid (midCluster r.mid.toNat)) 1 else t
          t.route r)

/-- The period of RCV_TMO in clock cycles (R632). -/
def State.rcvTmo (s : State) : Nat := max 1 (s.fd R.MGT_FAULT_CFG F.MGT_FAULT_CFG_RCV_TMO) * msCyc

/-- RECOVERY_TIMEOUT (R632). -/
def execRecoveryTimeout (r : Nat) (s : State) : Out :=
  .next (if 17 ≤ r ∨ s.headless then s
    else match s.openJob r with
      | none => s
      | some j =>
        let t := s.passTo (j.since + s.rcvTmo)
        let k := j.escalated
        ((t.raiseTo r j.code k).fltCnt 4).raise (mkErr 14 0 0x7202 2 0 0 0 0 (rungDetail j k)))

/-- MGT_LOCKSTEP (R642, R654): during a restart the mismatch is a failed restart. -/
def execMgtLockstep (s : State) : Out :=
  .next (if s.inReset then s
    else if s.headless then
      (if s.rcv.restarting then s.setRcv { s.rcv with restarting := false, downAt := s.time.clock } else s)
    else s.takedown 1)

/-- MGT_WDOG (R642): PERIOD ms pass without a KICK. -/
def execMgtWdog (s : State) : Out :=
  .next (if s.inReset ∨ s.headless ∨ ¬ s.flag R.BCN_MGT_WD F.BCN_MGT_WD_EN then s
    else (s.passTo (s.rcv.kick + max 1 (s.fd R.BCN_MGT_WD F.BCN_MGT_WD_PERIOD) * msCyc)).takedown 2)

/-- BCN_MGT_WD takes a value: a KICK, or a rise of EN, starts the period. -/
def State.wdWrite (s : State) (v : W32) : State :=
  let t := s.plainWrite R.BCN_MGT_WD v
  if bitAt v.toNat 30 ∨ (bitAt v.toNat 31 ∧ ¬ s.flag R.BCN_MGT_WD F.BCN_MGT_WD_EN) then t.setRcv { t.rcv with kick := t.time.clock }
  else t

/-- WATCHDOG_KICK (R642). -/
def execWatchdogKick (mid : Nat) (gen : BitVec 8) (value : W32) (s : State) : Out :=
  .next (s.reach R.BCN_MGT_WD mid gen (value ||| 0x40000000) (fun t => t.wdWrite (value ||| 0x40000000)))

/-- MGT_RESTART (R644): 1 ms after the takedown, or after a failed restart, up to RETRIES times. -/
def execMgtRestart (s : State) : Out :=
  .next (
    let n := s.fd R.BCN_MGT_STATUS F.BCN_MGT_STATUS_ATTEMPTS
    if ¬ s.headless ∨ s.rcv.restarting ∨ s.rcv.noReturn ∨ s.inReset
        ∨ max 1 (s.fd R.BCN_MGT_WD F.BCN_MGT_WD_RETRIES) ≤ n then s
    else
      let t := (s.passTo (s.rcv.downAt + msCyc)).wf R.BCN_MGT_STATUS F.BCN_MGT_STATUS_ATTEMPTS (n + 1)
      t.setRcv { t.rcv with restarting := true })

/-- A MID's next generation (R52). -/
def State.nextGen (s : State) (mid : Nat) : BitVec 8 := if s.lastGenOf mid = 0xFF then 1 else s.lastGenOf mid + 1

/-- A master is admitted with its next generation (R52). -/
def State.readmitMid (s : State) (mid : Nat) : State :=
  let g := s.nextGen mid
  { s.setGen mid g with lastGens := s.lastGens.set genReset mid g }

/-- The fault-line signals counted while headless (R643). -/
def State.faultLines (s : State) : Nat :=
  let old := s.fd R.BCN_MGT_STATUS F.BCN_MGT_STATUS_FAULT_LINES
  if s.headless then min 255 (old + (s.lineSignals - s.rcv.lineBase)) else old

/-- HEADLESS_END (R644): the restart completes. -/
def execHeadlessEnd (s : State) : Out :=
  .next (if ¬ s.headless ∨ ¬ s.rcv.restarting ∨ s.inReset then s
    else
      let ms := min 65535 ((s.time.clock - s.rcv.lostAt) / msCyc)
      let cause := s.fd R.BCN_MGT_STATUS F.BCN_MGT_STATUS_CAUSE
      let t := (List.range 9).foldl (fun u i => u.readmitMid (0x800 + i)) s
      let t := (List.range 8).foldl (fun u i => u.startEntry (0x800 + i)) t
      let t := s.bcn.kept.foldl (fun u r => u.elogPut r) (t.setBcn { t.bcn with kept := [] })
      let t := (((t.wf R.BCN_MGT_STATUS F.BCN_MGT_STATUS_FAULT_LINES s.faultLines).wf R.BCN_MGT_STATUS
        F.BCN_MGT_STATUS_MS ms).wf R.BCN_MGT_STATUS F.BCN_MGT_STATUS_HEADLESS 0)
      let t := t.setRcv { t.rcv with restarting := false, kick := t.time.clock }
      (t.raise (mkErr 14 0 0x720A 2 0 0 0 0 (ms + cause * 65536))).irq 7)

/-- Whether this member would relinquish the active role (R645, R646): PAIR = 1, and ACTIVE or ALONE. -/
def State.holdsRole (s : State) : Bool := s.mode F.GLB_MODE_PAIR && (s.pairState == 1 || s.pairState == 4)

/-- MGT_NORETURN (R645): 500 ms after the first loss. -/
def execMgtNoreturn (s : State) : Out :=
  .next (if ¬ s.headless ∨ s.rcv.noReturn ∨ s.inReset then s
    else
      let t := s.passTo (s.rcv.lostAt + 500 * msCyc)
      let t := t.setRcv { t.rcv with noReturn := true, restarting := false }
      let t := (t.setBcn { t.bcn with faults := t.bcn.faults ||| 4 }).keep
        (bcnRec 0x680C 4 (t.fd R.BCN_MGT_STATUS F.BCN_MGT_STATUS_ATTEMPTS))
      if t.holdsRole then t.relinquish 2 else t)

/-! ## The chip (R646) -/

/-- The code of the fault that is due at rung 3: one that MGT has raised there, or, headless, a record of severity 4. -/
def State.chipCode (s : State) : Option Nat :=
  match s.rcv.chipDue with
  | some c => some c
  | none => if s.headless then s.err.findSome? (fun e => e.2.chip) else none

/-- CHIP_FAULT (R646, R654): after a hand-over in progress. -/
def execChipFault (s : State) : Out :=
  .next (if s.mlk.taking.isSome ∨ s.inReset then s
    else match s.chipCode with
      | none => s
      | some code =>
        let t := s.portsTo 0
        let t := if t.holdsRole then t.relinquish 3 else t
        let t := ((t.setBcn { t.bcn with faults := t.bcn.faults ||| 8 }).keep (mkErr 14 0 0x720B 4 0 0 0 0 0 code)).fltCnt 9
        let t : State := { t with err := t.err.map (fun e => (e.1, { e.2 with chip := none })) }
        t.setRcv { t.rcv with chipDue := none, chipAt := some t.time.clock })

/-- AUTO_RESTART (R646): 10 ms after a chip fault. -/
def execAutoRestart (s : State) : Out :=
  .next (match s.rcv.chipAt with
    | none => s
    | some c =>
      if ¬ s.flag R.MGT_FAULT_CFG F.MGT_FAULT_CFG_AUTO_RESTART ∨ s.inReset then s
      else (s.passTo (c + 10 * msCyc)).resetN.startBoot)

/-! ## Revocation and readmission (R634, R635, R52) -/

/-- Whether REVOKE accepts a MID (R634). -/
def mayRevoke (m : Nat) : Bool :=
  midIsThread m || decide ((0x800 ≤ m ∧ m ≤ 0x807) ∨ (0x900 ≤ m ∧ m ≤ 0x98F) ∨ m = 0xA60 ∨ m = 0xA70 ∨ m = 0xA90
    ∨ (0xB00 ≤ m ∧ m ≤ 0xB2F))

/-- The tokens that a thread holds. -/
def State.heldCount (s : State) (mid : Nat) : Nat := if isThread mid then s.heldBy mid else 0

/-- A master is revoked (R50, R634). -/
def State.revoke (s : State) (m : Nat) : State :=
  let n := s.heldCount m
  let g := s.lastGenOf m
  let t := s.setGen m 0
  let t := if isThread m then
      let u := if (t.thr m).st = 1 then t.setThr m { (t.thr m) with st := 3, step := false } else t
      ((u.takeTokens m).cancelTimers m).dropSemReads m
    else t
  (((((t.accLeave m 1).askAbandon m 1).dmcRevoke m).dropPends m).raise (mkErr 14 0 0x7203 0 0 0 m g.toNat n)).fltCnt 5

/-- A thread has buffers of a pool (R635). -/
def State.holdsBuffers (s : State) (m : Nat) : Bool :=
  (List.range 8).any (fun p => decide ((s.bpm.quotas.get (fun _ => {}) (m * 8 + p)).held ≠ 0))

/-- READMIT's answer (R635): 0 OK, else the RESULT. -/
def State.readmitCheck (s : State) (m : Nat) : Nat :=
  if ¬ midDefined m then 2
  else if s.genOf m ≠ 0 then 3
  else if isThread m ∧ ((s.thr m).st ≠ 0 ∨ s.holdsBuffers m) then 3
  else 0

/-- The island of a master (R52, R532). -/
def midIsland (m : Nat) : Nat :=
  if midIsThread m then midCluster m
  else if 0x900 ≤ m ∧ m ≤ 0x98F then 16 + (m - 0x900) / 12
  else if m = 0xA60 ∨ m = 0xA70 ∨ m = 0xA90 then 42
  else if 0xB00 ≤ m ∧ m ≤ 0xB1F then (m - 0xB00) / 2
  else if 0xB20 ≤ m ∧ m ≤ 0xB2F then m - 0xB20
  else 41

/-- READMISSION (R52, R635): 100 µs pass, and no crossing of the master holds a transfer. -/
def execReadmission (s : State) : Out :=
  .next (match s.rcv.readmit with
    | none => s
    | some (m, c) =>
      let t := s.passTo (c + nsCyc 100000)
      if s.headless ∨ t.bcn.xings.any (fun p => p.1 == midIsland m || p.2 == midIsland m) then s
      else
        let u := (t.readmitMid m).setRcv { t.rcv with readmit := none }
        (u.raise (mkErr 14 0 0x7204 0 0 0 m (u.genOf m).toNat)).fltCnt 6)

/-! ## Cores and clusters (R636 to R641) -/

/-- A core is fenced: all eight of its threads hold generation 0x00 (R636). -/
def State.coreFenced (s : State) (c k : Nat) : Bool := (coreMids c k).all (fun m => s.genOf m == 0)

/-- Reset the threads of a core, and note that the running command awaits them. -/
def State.coreResetStart (s : State) (c k : Nat) : State :=
  let t := (coreMids c k).foldl (fun u m => if (u.thr m).st = 5 then u else u.threadResetStart m) s
  t.setRcv { t.rcv with waits := t.rcv.waits ++ coreMids c k }

/-- CORE_RESET (R637). -/
def State.coreResetCmd (s : State) (mid c k : Nat) : State × Nat :=
  if 9 ≤ k then (s, 2)
  else if ¬ s.coreFenced c k ∨ (mid < 0x800 ∧ midCluster mid = c ∧ midCore mid = k) then (s, 3)
  else (s.coreResetStart c k, 0)

/-- CORE_SUBST (R638). -/
def State.coreSubstCmd (s : State) (c k : Nat) : State × Nat :=
  let sp := s.spareCore c
  if 9 ≤ k then (s, 2)
  else if ¬ s.coreFenced c k ∨ ¬ s.mode F.GLB_MODE_SPARE ∨ s.flag (R.MGT_CORE_STATE c) F.MGT_CORE_STATE_SPARE_USED ∨ sp = k ∨ 9 ≤ sp then
    (s, 3)
  else
    let t := (List.range 4).foldl (fun u w => u.wr (R.CLU_CORE_SLOT c sp w) (u.rd (R.CLU_CORE_SLOT c k w))) s
    let ods := (List.range 8).foldl (fun (o : OdsSt) i => { o with
      tcfg := o.tcfg.set (fun _ => 0x80000004) (threadMid c sp i) (o.tcfg.get (fun _ => 0x80000004) (threadMid c k i)),
      tgmask := o.tgmask.set (fun _ => 0xFFFFFFFFFFFFFFFF) (threadMid c sp i)
        (o.tgmask.get (fun _ => 0xFFFFFFFFFFFFFFFF) (threadMid c k i)) }) t.ods
    let t : State := { t with ods := ods }
    let t := if t.fd (R.CLU_KEEPER c) F.CLU_KEEPER_CORE = k then t.wf (R.CLU_KEEPER c) F.CLU_KEEPER_CORE sp else t
    let t := (t.wf (R.MGT_CORE_STATE c) F.MGT_CORE_STATE_SPARE_USED 1).wf (R.MGT_CORE_STATE c) F.MGT_CORE_STATE_SUBST k
    let t := (coreMids c sp).foldl (fun u m => if (u.thr m).st = 0 then u.startEntry m else u) t
    ((t.raise (mkErr 14 0 0x7205 0 0 0 0 0 (c * 16 + k + sp * 256))).fltCnt 7, 0)

/-- SPARE_RETURN (R639). -/
def execSpareReturn (c : Nat) (s : State) : Out :=
  .next (
    let k := s.fd (R.MGT_CORE_STATE c) F.MGT_CORE_STATE_SUBST
    if 16 ≤ c ∨ s.headless ∨ ¬ s.flag (R.MGT_CORE_STATE c) F.MGT_CORE_STATE_SPARE_USED
        ∨ (coreMids c k).any (fun m => s.genOf m == 0 || (s.thr m).st != 0) then s
    else (s.wf (R.MGT_CORE_STATE c) F.MGT_CORE_STATE_SPARE_USED 0).wf (R.MGT_CORE_STATE c) F.MGT_CORE_STATE_SPARE k)

/-- The threads of a cluster. -/
def cluMids (c : Nat) : List Nat := (List.range 9).flatMap (coreMids c)

/-- The masters that go out with a cluster (R640). -/
def cluMasters (c : Nat) : List Nat := cluMids c ++ [0xB00 + 2 * c, 0xB00 + 2 * c + 1, 0xB20 + c]

/-- A cluster is out of service. -/
def State.cluOut (s : State) (c : Nat) : Bool := bitAt (s.rd R.MGT_CLU_OUT).toNat c

/-- CLU_OUT (R640). -/
def State.cluOutCmd (s : State) (c : Nat) : State × Nat :=
  if s.cluOut c then (s, 3)
  else
    let t := (cluMasters c).foldl (fun u m => if u.genOf m = 0 then u else u.revoke m) (s.orBits R.MGT_CLU_OUT (2 ^ c))
    let t := t.setRcv { t.rcv with waits := t.rcv.waits ++ cluMasters c }
    (t.raise (mkErr 14 0 0x7206 2 0 0 0 0 c), 0)

/-- Write the bundles of a CODE section into an instruction RAM (R554). -/
def State.codeInto (s : State) (c first : Nat) (body : List Byte) : State := s.setBytes (iramOf c) (first * 16) body

/-- The body of a section of the running slot. -/
def State.sectionBody (s : State) (x : Section) : List Byte := s.bytes .flash (s.boot.base + x.off) x.len

/-- Rewrite a cluster's instruction RAM from the running slot (R641): none where a section's CRC fails. -/
def State.rewriteIram (s : State) (c : Nat) : Option State :=
  let secs := s.boot.sections.filter (fun x => x.typ == 2 && bitAt x.param c)
  if secs.all (fun x => (presetOf 0).value 0 (s.sectionBody x) == x.crc) then
    some (secs.foldl (fun t x => t.codeInto c x.dest (s.sectionBody x)) s)
  else none

/-- CLU_RESET (R641). -/
def State.cluResetCmd (s : State) (c : Nat) : State × Nat :=
  if ¬ s.cluOut c then (s, 3)
  else
    let t := (List.range 9).foldl (fun u k => u.coreResetStart c k) s
    let t := (List.range 4).foldl (fun u a => (u.setAcc c a {}).wr (R.CLU_CPQ_LIVE c a) 0) t
    if ¬ t.rcv.iramBad.contains c then (t, 0)
    else match t.rewriteIram c with
      | some u => (u.setRcv { u.rcv with iramBad := u.rcv.iramBad.filter (fun d => d != c) }, 0)
      | none => (t, 4)

/-- A cluster's threads whose ENTRY has EN = 1 start, but for those of a spare core (R347, R641). -/
def State.startCluster (s : State) (c : Nat) : State :=
  (cluMids c).foldl (fun u m => if u.isSpareThread m ∨ (u.thr m).st ≠ 0 then u else u.startEntry m) s

/-- CLU_IN (R641). -/
def State.cluInCmd (s : State) (c : Nat) : State × Nat :=
  if ¬ s.cluOut c ∨ (cluMids c).any (fun m => s.genOf m == 0) then (s, 3)
  else
    let t := s.startCluster c
    (t.wr R.MGT_CLU_OUT (t.rd R.MGT_CLU_OUT &&& ~~~(BitVec.ofNat 32 (2 ^ c))), 0)

/-! ## FLOW_REBUILD (R649) -/

/-- A slot leaves every place that names it, its buffer freed; its SEQ stays missing (R236, R649). -/
def State.dropLost (s : State) (id : Nat) : State :=
  if ¬ (s.slot id).used then s
  else
    let t := s.unlock id
    let t : State := { t with ods := { t.ods with
      queues := (t.ods.queues.map (fun e => (e.1, e.2.filter (fun i => i != id)))).filter (fun e => e.2 != []),
      locks := (t.ods.locks.map (fun e => (e.1, { e.2 with waiters := e.2.waiters.filter (fun i => i != id) }))).filter
        (fun e => e.2 ≠ {}),
      rel := (t.ods.rel.map (fun e => (e.1, e.2.filter (fun x => x.id != id)))).filter (fun e => e.2 != []) } }
    let t := match (t.slot id).timed with
      | some (l, i) => t.dlFree l i
      | none => t
    t.endDiscard id

/-- A flow lock's state from the slots of the tokens that hold or wait for it, in the waiting order ODS still knows. -/
def State.rebuildLock (s : State) (f : Nat) : State :=
  let mine := s.ods.slots.filter (fun e => e.2.tok.lockIdx == f)
  let holder := (mine.find? (fun e => e.2.lock)).map (·.1)
  let waits := (mine.filter (fun e => e.2.place == .lockWait f)).map (·.1)
  let old := (s.lockOf f).waiters.filter (fun i => waits.contains i)
  let t := s.setLock f { holder := holder, waiters := old ++ waits.filter (fun i => !old.contains i) }
  match holder, (t.lockOf f).waiters with
  | none, w :: ws => ((t.setLock f { holder := some w, waiters := ws }).setSlot w { (t.slot w) with lock := true }).enqueueHead w
  | _, _ => t

/-- FLOW_REBUILD: `ue` says that an uncorrectable error is met, which escalates the recovery (R633). -/
def State.flowRebuildCmd (s : State) (arg : Nat) (ue : Bool) : State × Nat :=
  if ue then
    (match s.openJob 16 with
    | some j => s.raiseTo 16 0x2809 j.escalated
    | none => s, 4)
  else if bitAt arg 31 then (s.dropLost (arg % 2 ^ 19), 0)
  else (s.rebuildLock (arg % 2 ^ 20), 0)

/-! ## The recovery commands (R651) -/

/-- The recoverer that a master is: its cluster's number for a Keeper, 16 for the head Keeper. -/
def State.recovererOf (s : State) (mid : Nat) : Option Nat :=
  if mid = 0x807 then some 16
  else if midIsThread mid ∧ mid = s.keeperMid (midCluster mid) then some (midCluster mid)
  else none

/-- Whether the table of R651 allows a command from a master. -/
def State.rcvAllowed (s : State) (mid op arg : Nat) : Bool :=
  let c := midCluster mid
  let keeper := match s.recovererOf mid with | some r => decide (r < 16) | none => false
  match op with
  | 1 =>
    let m := arg % 4096
    mid == 0x807 || (mid == 0xA60 && !s.locked)
      || (keeper && ((midIsThread m && midCluster m == c) || m == 0xB00 + 2 * c || m == 0xB00 + 2 * c + 1 || m == 0xB20 + c))
  | 3 | 4 => mid == 0x807 || (keeper && bitsOf arg 4 4 == c)
  | 2 | 5 | 6 | 7 | 8 => mid == 0x807
  | _ => true

/-- DONE and ESCALATE (R632, R633). -/
def State.rcvEnd (s : State) (mid : Nat) (escalate : Bool) : State × Nat :=
  match s.recovererOf mid with
  | none => (s, 3)
  | some r => match s.openJob r with
    | none => (s, 3)
    | some j => (if escalate then s.raiseTo r j.code j.escalated else (s.setOpen r none).openNext r, 0)

/-- A command that MGT accepts: its effect, and its RESULT. -/
def State.rcvRun (s : State) (mid op arg : Nat) (ue : Bool) : State × Nat :=
  let c := bitsOf arg 4 4
  match op with
  | 1 => if mayRevoke (arg % 4096) then
      let t := s.revoke (arg % 4096)
      (t.setRcv { t.rcv with waits := [arg % 4096] }, 0)
    else (s, 2)
  | 2 =>
    let m := arg % 4096
    (match s.readmitCheck m with
    | 0 => (s.setRcv { s.rcv with readmit := some (m, s.time.clock) }, 0)
    | r => (s, r))
  | 3 => s.coreResetCmd mid c (arg % 16)
  | 4 => s.coreSubstCmd c (arg % 16)
  | 5 => s.cluOutCmd (arg % 16)
  | 6 => s.cluResetCmd (arg % 16)
  | 7 => s.cluInCmd (arg % 16)
  | 8 => s.flowRebuildCmd arg ue
  | 9 => s.rcvEnd mid false
  | 0xA => s.rcvEnd mid true
  | _ => (s, 2)

/-- A write to MGT_RCV_CMD. -/
def State.rcvCmdWrite (s : State) (mid : Nat) (gen : BitVec 8) (v : W32) (ue : Bool) : State :=
  let op := v.toNat % 16
  let arg := (s.rd R.MGT_RCV_ARG).toNat
  if s.flag R.MGT_RCV_CMD F.MGT_RCV_CMD_BUSY then s.raise (mkErr 14 0 0x7209 0 3 R.MGT_RCV_CMD mid gen.toNat v.toNat)
  else if ¬ s.rcvAllowed mid op arg then
    (s.wr R.MGT_RCV_CMD (BitVec.ofNat 32 (2 ^ 24 + op))).raise (mkErr 14 0 0x7208 0 3 R.MGT_RCV_CMD mid gen.toNat v.toNat)
  else
    let t := s.setRcv { s.rcv with waits := [] }
    let r := t.rcvRun mid op arg ue
    (r.1.wr R.MGT_RCV_CMD (BitVec.ofNat 32 (2 ^ 31 + op))).setRes R.MGT_RCV_CMD (BitVec.ofNat 32 (r.2 * 2 ^ 24 + op))

/-- A write of a command to MGT_RCV_CMD comes from a master. -/
def State.rcvCommand (s : State) (mid : Nat) (gen : BitVec 8) (op : Nat) (ue : Bool) : State :=
  s.reach R.MGT_RCV_CMD mid gen (BitVec.ofNat 32 op) (fun t => t.rcvCmdWrite mid gen (BitVec.ofNat 32 op) ue)

/-- REVOKE (R634). -/
def execRevoke (mid : Nat) (gen : BitVec 8) (s : State) : Out := .next (s.rcvCommand mid gen 1 false)
/-- READMIT (R635). -/
def execReadmit (mid : Nat) (gen : BitVec 8) (s : State) : Out := .next (s.rcvCommand mid gen 2 false)
/-- CORE_RESET (R637). -/
def execCoreReset (mid : Nat) (gen : BitVec 8) (s : State) : Out := .next (s.rcvCommand mid gen 3 false)
/-- CORE_SUBST (R638). -/
def execCoreSubst (mid : Nat) (gen : BitVec 8) (s : State) : Out := .next (s.rcvCommand mid gen 4 false)
/-- CLU_OUT (R640). -/
def execCluOut (mid : Nat) (gen : BitVec 8) (s : State) : Out := .next (s.rcvCommand mid gen 5 false)
/-- CLU_RESET (R641). -/
def execCluReset (mid : Nat) (gen : BitVec 8) (s : State) : Out := .next (s.rcvCommand mid gen 6 false)
/-- CLU_IN (R641). -/
def execCluIn (mid : Nat) (gen : BitVec 8) (s : State) : Out := .next (s.rcvCommand mid gen 7 false)
/-- FLOW_REBUILD (R649). -/
def execFlowRebuild (mid : Nat) (gen : BitVec 8) (ue : Bool) (s : State) : Out := .next (s.rcvCommand mid gen 8 ue)
/-- RECOVERY_DONE (R633). -/
def execRecoveryDone (mid : Nat) (gen : BitVec 8) (s : State) : Out := .next (s.rcvCommand mid gen 9 false)
/-- RECOVERY_ESCALATE (R632). -/
def execRecoveryEscalate (mid : Nat) (gen : BitVec 8) (s : State) : Out := .next (s.rcvCommand mid gen 0xA false)

/-- What the running command awaits has come: no abandonment, no reset, no readmission outstanding. -/
def State.rcvDone (s : State) : Bool :=
  s.rcv.readmit.isNone && s.rcv.waits.all (fun m => (s.thr m).st != 5 && s.abandons.all (fun a => a.1 != m))

/-- RCV_COMMAND_DONE (R651). -/
def execRcvCommandDone (s : State) : Out :=
  .next (if s.headless ∨ ¬ s.flag R.MGT_RCV_CMD F.MGT_RCV_CMD_BUSY ∨ ¬ s.rcvDone then s
    else (s.wr R.MGT_RCV_CMD (s.resOf R.MGT_RCV_CMD)).setRcv { s.rcv with waits := [] })

/-! ## Registers as reads return them -/

/-- MGT_RCV_STATUS[r]. -/
def State.rcvStatusRead (s : State) (r : Nat) : W32 :=
  let n := (s.jobQueue r).length
  match s.openJob r with
  | some j => BitVec.ofNat 32 (2 ^ 31 + j.rung * 2 ^ 28 + n * 2 ^ 23 + j.unit * 2 ^ 18 + j.subject % 4096)
  | none => BitVec.ofNat 32 (n * 2 ^ 23)

/-- MGT_GEN. -/
def State.genRead (s : State) : W32 :=
  let m := s.fd R.MGT_GEN_SEL F.MGT_GEN_SEL_MID
  BitVec.ofNat 32 ((s.lastGenOf m).toNat * 256 + (s.genOf m).toNat)

/-- MGT_CORE_STATE[c], with FENCED. -/
def State.coreStateRead (s : State) (c : Nat) : W32 :=
  BitVec.ofNat 32 ((s.rd (R.MGT_CORE_STATE c)).toNat
    + ((List.range 9).map (fun k => b2n (s.coreFenced c k) * 2 ^ k)).sum)

/-- BCN_MGT_STATUS, with FAULT_LINES as counted so far. -/
def State.mgtStatusRead (s : State) : W32 := (s.wf R.BCN_MGT_STATUS F.BCN_MGT_STATUS_FAULT_LINES s.faultLines).rd R.BCN_MGT_STATUS

end Sys2Proof.Machine
end

