-- ==== Sys2Proof/Machine/Hif.lean ====
section
/-! DEFINITION. The host interface (21_host_lowspeed, R658 to R675): MSI-X, host-path resets, driver queues, the NVMe root
complex. Host accesses, which reach every register, stand in HostPath. -/
namespace Sys2Proof.Machine
open Sys2Proof

/-- Set HIF. -/
def State.setHif (s : State) (x : HifSt) : State := { s with hif := x }

/-- A record of HIF, of an instance (R59). -/
def hifRec (inst code sev : Nat) (akind addr : Nat := 0) (mid : Nat := 0) (d0 d1 : Nat := 0) : ErrRec :=
  mkErr 15 inst code sev akind addr mid 0 d0 d1

/-- A bit of HIF_INT rises (R690). -/
def State.hifInt (s : State) (bit : Nat) : State := s.intSet R.HIF_INT R.HIF_INT_EN (2 ^ bit) 8

/-- A counter of HIF. -/
def State.hifCnt (s : State) (k : Nat) : State := s.count (R.HIF_CNT k)

/-- HIF runs: not in reset, and above the power steps that switch it off (R538). -/
def State.hifOn (s : State) : Bool := !s.inReset && decide (s.powerStep < 3)

/-! ## MSI-X (R664, R665) -/

/-- What an unlisted word of the MSI-X table reads as: every vector's control word is masked (PCI Express). -/
def msixReset (k : Nat) : W32 := if k % 4 = 3 then 1 else 0

/-- A word of the MSI-X table. -/
def State.msixWord (s : State) (k : Nat) : W32 := s.hif.table.get msixReset k

/-- HIF may send a vector's message: MSI-X enabled, neither the vector nor the function masked. -/
def State.msixOpen (s : State) (v : Nat) : Bool := s.hif.msixEn && !s.hif.msixMask && !bitAt (s.msixWord (v * 4 + 3)).toNat 0

/-- MSIX_SEND (R664): what vector `v` asks for becomes a message, or its pending bit; a pending bit whose mask has cleared
becomes a message. -/
def execMsixSend (v : Nat) (s : State) : Out :=
  .next (
    let due := s.msix.get (fun _ => false) v
    let pend := s.hif.pba.get (fun _ => false) v
    if 2048 ≤ v ∨ ¬ s.hifOn ∨ (¬ due ∧ ¬ pend) then s
    else
      let t : State := { s with msix := s.msix.set (fun _ => false) v false }
      if (240 ≤ v ∧ v < 256) ∨ ¬ s.hif.msixEn then t
      else if s.msixOpen v then
        t.setHif { t.hif with pba := t.hif.pba.set (fun _ => false) v false,
                              sent := t.hif.sent.set (fun _ => 0) v (t.hif.sent.get (fun _ => 0) v + 1) }
      else t.setHif { t.hif with pba := t.hif.pba.set (fun _ => false) v true })

/-- A bell of a master that may not ring it (R665, R669). -/
def State.bellDenied (s : State) (mid : Nat) (gen : BitVec 8) : State := s.raise (mkErr 15 0 0x7807 0 0 0 mid gen.toNat)

/-- A write to HIF_KEEPER_BELL (R665). -/
def State.keeperBellWrite (s : State) (mid : Nat) (gen : BitVec 8) : State :=
  if midIsThread mid ∧ mid = s.keeperMid (midCluster mid) then s.irq (192 + midCluster mid) else s.bellDenied mid gen

/-- KEEPER_BELL (R665). -/
def execKeeperBell (mid : Nat) (gen : BitVec 8) (s : State) : Out :=
  .next (s.reach R.HIF_KEEPER_BELL mid gen 0 (fun t => t.keeperBellWrite mid gen))

/-! ## The link and host-path resets (R658, R662) -/

/-- HOST_LINK_UP (R542, R658): the link reaches L0; `width` lanes, `speed` as HIF_PCIE_STATUS codes it. -/
def execHostLinkUp (width speed : Nat) (s : State) : Out :=
  .next (if ¬ s.hifOn ∨ ¬ s.boot.perst ∨ s.fd R.MGT_BOOT_STATUS F.MGT_BOOT_STATUS_STEP < 3 then s
    else (((s.wf R.HIF_PCIE_STATUS F.HIF_PCIE_STATUS_LINK_UP 1).wf R.HIF_PCIE_STATUS F.HIF_PCIE_STATUS_WIDTH width).wf
      R.HIF_PCIE_STATUS F.HIF_PCIE_STATUS_SPEED speed).setBcn { s.bcn with wakeN := false })

/-- A host-path reset (R662, R709); cause 0 PERST_N, 1 link down, 2 hot reset, 3 function-level reset, in which the link stays. -/
def State.hostReset (s : State) (cause : Nat) : State :=
  let resets := min 65535 (s.fd R.HIF_PCIE_STATUS F.HIF_PCIE_STATUS_RESETS + 1)
  let link := if cause = 3 then (s.rd R.HIF_PCIE_STATUS).toNat / 65536 * 65536 else 0
  let t := (s.wr R.HIF_PCIE_STATUS (BitVec.ofNat 32 (link + resets))).wr R.HIF_INT 0
  let t := t.setHif { t.hif with reads := [], queues := [], msixEn := false, msixMask := false }
  (((t.askAbandon 0xA60 0).dropPends 0xA60).hifInt 7).raise (hifRec 0 0x7805 0 0 0 0 cause)

/-- HOST_RESET (R662). -/
def execHostReset (cause : Nat) (s : State) : Out :=
  .next (if s.inReset then s
    else
      let t := s.hostReset (cause % 4)
      if cause % 4 = 0 then { t with boot := { t.boot with perst := false } } else t)

/-! ## Driver queues (R666 to R670) -/

/-- A word of a queue block: 0 and 1 Q_BASE, 2 Q_CFG, 3 Q_SPAD, 4 Q_TAIL, 5 Q_HEAD, 6 Q_STATUS. -/
def State.qw (s : State) (q w : Nat) : W32 := s.hif.queues.get (fun _ => 0) (q * 8 + w)

/-- Set a word of a queue block. -/
def State.setQw (s : State) (q w : Nat) (v : W32) : State :=
  s.setHif { s.hif with queues := s.hif.queues.set (fun _ => 0) (q * 8 + w) v }

/-- Q_CFG's fields. -/
def State.qOn (s : State) (q : Nat) : Bool := bitAt (s.qw q 2).toNat 31
def State.qKind (s : State) (q : Nat) : Nat := bitsOf (s.qw q 2).toNat 28 2
def State.qLog (s : State) (q : Nat) : Nat := bitsOf (s.qw q 2).toNat 16 4
def State.qIrq (s : State) (q : Nat) : Bool := bitAt (s.qw q 2).toNat 15
def State.qMid (s : State) (q : Nat) : Nat := bitsOf (s.qw q 2).toNat 0 12

/-- The indices, modulo 2^16. -/
def State.qTail (s : State) (q : Nat) : Nat := (s.qw q 4).toNat % 65536
def State.qHead (s : State) (q : Nat) : Nat := (s.qw q 5).toNat % 65536

/-- The entries from one index to another. -/
def idxGap (from_ tgt : Nat) : Nat := (tgt + 65536 - from_) % 65536

/-- The host address of entry `i` of a ring of entries of `n` bytes. -/
def State.qHost (s : State) (q i n : Nat) : Nat :=
  ((s.qw q 0).toNat / 4096 * 4096 + (s.qw q 1).toNat * 2 ^ 32) + i % 2 ^ s.qLog q * n

/-- The device ring: its base in the thread's cluster. -/
def State.qSpad (s : State) (q : Nat) : Nat := (s.qw q 3).toNat / 64 * 64

/-- An event of a queue (R666). -/
def State.qEvent (s : State) (q : Nat) : State := s.irq (256 + q)

/-- A queue stops with a reason (R666, R670). -/
def State.qStop (s : State) (q reason : Nat) : State :=
  ((s.setQw q 2 (s.qw q 2 &&& 0x7FFFFFFF)).setQw q 6 (BitVec.ofNat 32 (2 ^ 31 + reason))).hifInt 6

/-- A host write to Q_CFG (R666). -/
def State.qCfgWrite (s : State) (q : Nat) (v : W32) : State :=
  let v := v &&& 0xB00F8FFF
  if s.qOn q then (if bitAt v.toNat 31 then s else s.setQw q 2 v)
  else if ¬ bitAt v.toNat 31 then s.setQw q 2 v
  else
    let kind := bitsOf v.toNat 28 2
    let log := bitsOf v.toNat 16 4
    let ring := decide (midIsThread (bitsOf v.toNat 0 12) ∧ s.qSpad q + 64 + 64 * 2 ^ log ≤ 0x80000)
    if kind = 0 ∨ log < 6 ∨ 12 < log ∨ (2 ≤ kind ∧ ¬ ring) then (s.setQw q 2 v).qStop q 3
    else (s.setQw q 2 v).setQw q 6 0

/-- QUEUE_ENABLE (R666): a host write that sets EN. -/
def execQueueEnable (q : Nat) (value : W32) (s : State) : Out :=
  .next (if 1792 ≤ q ∨ ¬ s.hifOn ∨ ¬ s.hostUp then s else s.qCfgWrite q (value ||| 0x80000000))

/-- Entries of a device ring go to the host ring while it has room (R669). -/
def State.d2hCopy (s : State) (q : Nat) : State :=
  let c := midCluster (s.qMid q)
  let a := s.qSpad q
  let size := 2 ^ s.qLog q
  let tail := s.ldN (spadOf c) (a + 8) 8 % 65536
  let head := s.ldN (spadOf c) a 8 % 65536
  let n := min (min (idxGap head tail) size) (size - min size (idxGap (s.qHead q) (s.qTail q)))
  if ¬ s.qOn q ∨ s.qKind q ≠ 3 ∨ n = 0 then s
  else
    let t := (List.range n).foldl (fun u i =>
      u.setBytes .host (u.qHost q (u.qTail q + i) 64) (u.bytes (spadOf c) (a + 64 + (head + i) % size * 64) 64)) s
    let t := (t.setQw q 5 (t.qw q 5)).setQw q 4 (BitVec.ofNat 32 ((t.qTail q + n) % 65536))
    let t := (t.spmWrite c a 0xA70 (toLe 8 ((head + n) % 65536))).countN (R.HIF_CNT 3) n
    if s.qIrq q then t.qEvent q else t

/-- A host write to Q_TAIL or Q_HEAD (R666): the index, where the queue's kind lets the host write it. -/
def State.qDoorbell (s : State) (q : Nat) (head : Bool) (v : W32) : State :=
  if head then (if s.qKind q = 3 then (s.setQw q 5 (BitVec.ofNat 32 (v.toNat % 65536))).d2hCopy q else s)
  else if s.qKind q = 3 then s
  else s.setQw q 4 (BitVec.ofNat 32 (v.toNat % 65536))

/-- QUEUE_DOORBELL (R666). -/
def execQueueDoorbell (q : Nat) (head : Bool) (value : W32) (s : State) : Out :=
  .next (if 1792 ≤ q ∨ ¬ s.hifOn ∨ ¬ s.hostUp then s else s.qDoorbell q head value)

/-- The claim or the buffer of a token handed to the host path goes back (R196, R667). -/
def State.hostFree (s : State) (h : W32) (shared : Bool) : State :=
  if hIdx h = 0 then s else (s.bpmOp 0xFF (if shared then 9 else 6) 0xA60 (s.genOf 0xA60) h 0).1

/-- RX_DELIVER (R667): the next token of the host receive path; `buf` and `size` are bytes 64 to 75 of the entry that the host
posted. -/
def execRxDeliver (buf size : Nat) (s : State) : Out :=
  .next (match s.relList 145 with
    | [] => s
    | e :: _ =>
      if ¬ s.hifOn then s
      else
        let k := e.tok
        let shared := (s.slot e.id).shared
        let q := s.fd R.HIF_RX_MAP F.HIF_RX_MAP_BASE + k.flow.toNat % 2 ^ s.fd R.HIF_RX_MAP F.HIF_RX_MAP_LOG
        let t := (s.relPop 145).relDone e.id
        if 1792 ≤ q ∨ ¬ s.qOn q ∨ s.qKind q ≠ 1 ∨ s.qHead q = s.qTail q then ((t.hostFree k.handle shared).hifCnt 1).reThrottle
        else
          let len := if hIdx k.handle = 0 then 0 else k.length.toNat
          let n := min len size
          let t := t.setBytes .host buf (s.packetBytes k n)
          let at_ := s.qHost q (s.qHead q) 128
          let t := (t.setBytes .host at_ k.bytes).setBytes .host (at_ + 76)
            (toLe 2 n ++ [BitVec.ofNat 8 (b2n (decide (size < len))), 0x80])
          let t := ((t.setQw q 5 (BitVec.ofNat 32 ((s.qHead q + 1) % 65536))).hostFree k.handle shared).hifCnt 0
          (if s.qIrq q then t.qEvent q else t).reThrottle)

/-- H2D_COPY (R668): `data` holds the bytes of the next posted host entries. -/
def execH2dCopy (q : Nat) (data : List Byte) (s : State) : Out :=
  .next (
    let c := midCluster (s.qMid q)
    let a := s.qSpad q
    let size := 2 ^ s.qLog q
    let head := s.ldN (spadOf c) a 8 % 65536
    let tail := s.ldN (spadOf c) (a + 8) 8 % 65536
    let n := min (min (idxGap (s.qHead q) (s.qTail q)) (data.length / 64)) (size - min size (idxGap head tail))
    if 1792 ≤ q ∨ ¬ s.hifOn ∨ ¬ s.qOn q ∨ s.qKind q ≠ 2 ∨ n = 0 then s
    else
      let t := (List.range n).foldl (fun u i =>
        u.spmWrite c (a + 64 + (tail + i) % size * 64) 0xA70 ((data.drop (i * 64)).take 64)) s
      let t := (t.spmWrite c (a + 8) 0xA70 (toLe 8 ((tail + n) % 65536))).event (s.qMid q) 12
      let t := (t.setQw q 5 (BitVec.ofNat 32 ((s.qHead q + n) % 65536))).countN (R.HIF_CNT 2) n
      if s.qIrq q ∧ t.qHead q = t.qTail q then t.qEvent q else t)

/-- A write to HIF_D2H_BELL (R669). -/
def State.d2hBellWrite (s : State) (mid : Nat) (gen : BitVec 8) (v : W32) : State :=
  let q := v.toNat % 2048
  if 1792 ≤ q ∨ s.qMid q ≠ mid then s.bellDenied mid gen else s.d2hCopy q

/-- D2H_BELL (R669). -/
def execD2hBell (mid : Nat) (gen : BitVec 8) (q : Nat) (s : State) : Out :=
  .next (s.reach R.HIF_D2H_BELL mid gen (BitVec.ofNat 32 q) (fun t => t.d2hBellWrite mid gen (BitVec.ofNat 32 q)))

/-- QUEUE_DMA_ERROR (R670): reason 1 the host's memory, 2 the scratchpad. -/
def execQueueDmaError (q reason : Nat) (s : State) : Out :=
  .next (if 1792 ≤ q ∨ ¬ s.qOn q ∨ ¬ s.hifOn then s
    else ((s.qStop q reason).qEvent q).raise (hifRec 0 0x7806 2 0 0 0 (q + reason % 16 * 4096)))

/-! ## The NVMe root complex (R671 to R675) -/

/-- RC_CFG_PAIR (R671). -/
def State.rcCfgTake (s : State) (v : W32) : State :=
  if v.toNat % 4 = 3 ∨ s.fd R.HIF_RC_CTRL F.HIF_RC_CTRL_EN ≠ 0 then s else s.wr R.HIF_RC_CFG (BitVec.ofNat 32 (v.toNat % 4))

/-- RC_CFG_PAIR (R671): refused while a root port is enabled, and for the reserved value. -/
def execRcCfgPair (mid : Nat) (gen : BitVec 8) (value : W32) (s : State) : Out :=
  .next (match s.takePair R.HIF_RC_CFG mid gen value with
    | some t => t.rcCfgTake value
    | none => s)

/-- The root ports that the bifurcation forms (R671). -/
def State.rootPorts (s : State) : Nat := match s.fd R.HIF_RC_CFG F.HIF_RC_CFG_BIFUR with | 0 => 1 | 1 => 2 | _ => 4

/-- A root port's STATE. -/
def State.rcState (s : State) (p : Nat) : Nat := s.fd (R.HIF_RC_STATUS p) F.HIF_RC_STATUS_STATE

/-- The drives of a root port are reported removed (R505, R675). -/
def State.drivesGone (s : State) (p : Nat) : State :=
  (List.range 64).foldl (fun t n => if t.fd (R.REC_NS n) F.REC_NS_PORT = p then t.memberLost n 3 else t) s

/-- A READY port goes DOWN: its commands are aborted, its drives removed (R675). -/
def State.rcDown (s : State) (p timeout : Nat) : State :=
  (((s.drivesGone p).wr (R.HIF_RC_STATUS p) 0).hifInt 5).raise (hifRec 1 0x780A 2 0 0 0 (p + timeout * 16))

/-- HIF_RC_CTRL takes a value: a port whose EN rises trains; one whose EN falls is DOWN (R672, R675). -/
def State.rcCtrlWrite (s : State) (v : W32) : State :=
  (List.range 4).foldl (fun t p =>
    let old := bitAt (s.rd R.HIF_RC_CTRL).toNat p
    let new := bitAt v.toNat p
    if new ∧ ¬ old ∧ p < s.rootPorts then (t.wr (R.HIF_RC_STATUS p) 0x20000000).hifInt 5
    else if old ∧ ¬ new then (if t.rcState p = 3 then t.rcDown p 0 else t.wr (R.HIF_RC_STATUS p) 0)
    else t) (s.plainWrite R.HIF_RC_CTRL v)

/-- ROOT_PORT_BRINGUP (R672): a write of HIF_RC_CTRL that raises EN of port `p`. -/
def execRootPortBringup (mid : Nat) (gen : BitVec 8) (p : Nat) (s : State) : Out :=
  .next (
    let v := s.rd R.HIF_RC_CTRL ||| BitVec.ofNat 32 (2 ^ (p % 4))
    s.reach R.HIF_RC_CTRL mid gen v (fun t => t.rcCtrlWrite v))

/-- ROOT_PORT_READY (R672): the bring-up ends; `step` names the step that failed, 0 where none did. -/
def execRootPortReady (p step width speed nscount : Nat) (s : State) : Out :=
  .next (if 4 ≤ p ∨ ¬ s.hifOn ∨ (s.rcState p ≠ 1 ∧ s.rcState p ≠ 2) then s
    else if step = 0 then
      (s.wr (R.HIF_RC_STATUS p) (BitVec.ofNat 32 (3 * 2 ^ 29 + width % 16 * 2 ^ 24 + speed % 8 * 2 ^ 20 + nscount % 65536))).hifInt 5
    else ((s.wr (R.HIF_RC_STATUS p) 0x80000000).hifInt 5).raise (hifRec 1 0x7808 2 0 0 0 (p + step % 16 * 16)))

/-- RC_INBOUND (R674): a controller's memory request: an MSI-X write to the root complex's doorbell, an access to installed
DRAM under 0xA70, or one that is refused. -/
def execRcInbound (p addr : Nat) (bell : Bool) (write : Option (List Byte)) (s : State) : Out :=
  .next (if 4 ≤ p ∨ ¬ s.hifOn ∨ bell then s
    else if addr + (write.getD [0]).length ≤ s.dramSize then
      (match write with
      | some bs => s.setBytes .dram addr bs
      | none => s)
    else s.raise (hifRec 1 0x7809 2 1 addr 0 p))

/-- ROOT_PORT_DOWN (R675): the link drops, or a command times out. -/
def execRootPortDown (p : Nat) (timeout : Bool) (s : State) : Out :=
  .next (if 4 ≤ p ∨ s.rcState p ≠ 3 ∨ ¬ s.hifOn then s else s.rcDown p (b2n timeout))

end Sys2Proof.Machine
end

