-- ==== Sys2Proof/Machine/Lowspeed.lean ====
section
/-! DEFINITION. The low-speed interfaces (21_host_lowspeed, R676 to R687): the boot flash, I2C, MDIO, GPIO, JTAG. The SPI target
and the JTAG debug instructions, which reach every register, stand in HostPath. -/
namespace Sys2Proof.Machine
open Sys2Proof

/-- Set the low-speed interfaces. -/
def State.setLow (s : State) (x : LowSt) : State := { s with low := x }

/-! ## The SPI boot flash (R676, R677) -/

/-- The bytes of a page of the flash, and of one PROGRAM at most. -/
def flashPage : Nat := 256

/-- An operation ends with a result. -/
def State.spifEnd (s : State) (op len res : Nat) : State :=
  (s.wr R.HIF_SPIF_CMD (BitVec.ofNat 32 (res * 2 ^ 24 + len * 256 + op))).hifInt 0

/-- Whether the arguments of an operation hold (R677). -/
def State.spifArgs (s : State) (op len addr : Nat) : Bool :=
  match op with
  | 1 => decide (1 ≤ len ∧ len ≤ 256)
  | 2 => decide (1 ≤ len ∧ len ≤ 256 ∧ addr % flashPage + len ≤ flashPage)
  | 3 => bitAt s.low.flashErase 0
  | 4 => bitAt s.low.flashErase 1
  | 5 => true
  | _ => false

/-- Boot steps 1 to 3 hold the flash (R677). -/
def State.spifBoot (s : State) : Bool :=
  s.fd R.MGT_BOOT_STATUS F.MGT_BOOT_STATUS_STATE == 0 && decide (s.fd R.MGT_BOOT_STATUS F.MGT_BOOT_STATUS_STEP < 4)

/-- A write to HIF_SPIF_CMD. -/
def State.spifWrite (s : State) (mid : Nat) (v : W32) : State :=
  let op := v.toNat % 16
  let len := bitsOf v.toNat 8 9
  let addr := s.fd R.HIF_SPIF_ADDR F.HIF_SPIF_ADDR_ADDR
  if s.flag R.HIF_SPIF_CMD F.HIF_SPIF_CMD_BUSY then s
  else if ¬ (isHostPath mid ∨ (0x800 ≤ mid ∧ mid ≤ 0x808)) then s.spifEnd op len 4
  else if s.spifBoot then s.spifEnd op len 3
  else if ¬ s.spifArgs op len addr then s.spifEnd op len 1
  else (s.wr R.HIF_SPIF_CMD (BitVec.ofNat 32 (2 ^ 31 + len * 256 + op))).setLow { s.low with spifOp := some (op, addr, len) }

/-- A write of an operation to HIF_SPIF_CMD comes from a master. -/
def State.spifCommand (s : State) (mid : Nat) (gen : BitVec 8) (op len : Nat) : State :=
  let v := BitVec.ofNat 32 (len % 512 * 256 + op)
  s.reach R.HIF_SPIF_CMD mid gen v (fun t => t.spifWrite mid v)

/-- SPIF_READ (R677). -/
def execSpifRead (mid : Nat) (gen : BitVec 8) (len : Nat) (s : State) : Out := .next (s.spifCommand mid gen 1 len)
/-- SPIF_PROGRAM (R677). -/
def execSpifProgram (mid : Nat) (gen : BitVec 8) (len : Nat) (s : State) : Out := .next (s.spifCommand mid gen 2 len)
/-- SPIF_ERASE_4K (R677). -/
def execSpifErase4k (mid : Nat) (gen : BitVec 8) (s : State) : Out := .next (s.spifCommand mid gen 3 0)
/-- SPIF_ERASE_64K (R677). -/
def execSpifErase64k (mid : Nat) (gen : BitVec 8) (s : State) : Out := .next (s.spifCommand mid gen 4 0)
/-- SPIF_READ_SR (R677). -/
def execSpifReadSr (mid : Nat) (gen : BitVec 8) (s : State) : Out := .next (s.spifCommand mid gen 5 0)

/-- The flash bytes that an operation touches. -/
def spifRange (op addr len : Nat) : Nat × Nat :=
  match op with
  | 3 => (addr / 4096 * 4096, 4096)
  | 4 => (addr / 65536 * 65536, 65536)
  | _ => (addr, len)

/-- `n` bytes that nothing constrains (log entry 3). -/
def State.freeBytes (s : State) (n : Nat) : State × List Byte :=
  ({ s with free := s.free + n }, (List.range n).map (fun i => (Config.freeValue (s.free + i)).setWidth 8))

/-- The bytes of HIF_SPIF_BUF. -/
def State.spifBuf (s : State) (n : Nat) : List Byte :=
  ((List.range 64).flatMap (fun i => toLe 4 (s.rd (R.HIF_SPIF_BUF i)).toNat)).take n

/-- Bytes go into HIF_SPIF_BUF, from its first. -/
def State.setSpifBuf (s : State) (bs : List Byte) : State :=
  let all := bs ++ (s.spifBuf 256).drop bs.length
  (List.range 64).foldl (fun t i => t.wr (R.HIF_SPIF_BUF i) (BitVec.ofNat 32 (leNat ((all.drop (4 * i)).take 4)))) s

/-- The effect of an operation that ends in time: a PROGRAM clears bits, an ERASE sets them. -/
def State.spifEffect (s : State) (op addr len : Nat) : State :=
  let r := spifRange op addr len
  match op with
  | 1 => s.setSpifBuf (s.bytes .flash addr len)
  | 2 => s.setBytes .flash addr (((s.bytes .flash addr len).zip (s.spifBuf len)).map (fun p => p.1 &&& p.2))
  | 5 => s.setSpifBuf [s.low.flashSr]
  | _ => s.setBytes .flash r.1 (List.replicate r.2 0xFF)

/-- SPIF_DONE (R677): the operation ends; a PROGRAM or an ERASE past its limit ends with TIMEOUT and leaves the bytes it touched
open (log entry 3). -/
def execSpifDone (timeout : Bool) (s : State) : Out :=
  .next (match s.low.spifOp with
    | none => s
    | some (op, addr, len) =>
      if ¬ s.hifOn then s
      else
        let t := s.setLow { s.low with spifOp := none }
        if timeout ∧ 2 ≤ op ∧ op ≤ 4 then
          let r := spifRange op addr len
          let f := t.freeBytes r.2
          (f.1.setBytes .flash r.1 f.2).spifEnd op len 2
        else (t.spifEffect op addr len).spifEnd op len 0)

/-! ## I2C (R682 to R684) -/

/-- A controller, and setting it. -/
def State.i2c (s : State) (i : Nat) : I2cSt := s.low.i2c.get (fun _ => {}) i
def State.setI2c (s : State) (i : Nat) (x : I2cSt) : State := s.setLow { s.low with i2c := s.low.i2c.set (fun _ => {}) i x }

/-- A transfer ends with a result; `lines` are SDA in bit 1 and SCL in bit 0. -/
def State.i2cEnd (s : State) (i res index lines : Nat) : State :=
  ((s.wf (R.HIF_I2C_CMD i) F.HIF_I2C_CMD_BUSY 0).wr (R.HIF_I2C_STATUS i)
    (BitVec.ofNat 32 (res * 2 ^ 28 + index % 64 * 256 + lines % 4))).hifInt 2

/-- A write to HIF_I2C_CMD (R683): discarded while BUSY; on a stuck bus the transfer ends at once (R684). -/
def State.i2cCmdWrite (s : State) (i : Nat) (v : W32) : State :=
  if s.flag (R.HIF_I2C_CMD i) F.HIF_I2C_CMD_BUSY then s
  else
    let t := s.plainWrite (R.HIF_I2C_CMD i) v
    if (s.i2c i).stuck then t.i2cEnd i 4 0 1 else t.wf (R.HIF_I2C_CMD i) F.HIF_I2C_CMD_BUSY 1

/-- I2C_TRANSFER (R683). -/
def execI2cTransfer (mid : Nat) (gen : BitVec 8) (i : Nat) (value : W32) (s : State) : Out :=
  .next (if 4 ≤ i then s else s.reach (R.HIF_I2C_CMD i) mid gen value (fun t => t.i2cCmdWrite i value))

/-- I2C_TRANSFER_DONE (R683): `nack` 0 none, 1 at the address, 2 at byte `index`; `data` the bytes of a read. -/
def execI2cTransferDone (i nack index lines : Nat) (data : List Byte) (s : State) : Out :=
  .next (if 4 ≤ i ∨ ¬ s.flag (R.HIF_I2C_CMD i) F.HIF_I2C_CMD_BUSY ∨ ¬ s.hifOn then s
    else
      let x := s.i2c i
      let n := s.fd (R.HIF_I2C_CMD i) F.HIF_I2C_CMD_NBYTES
      let rdOp := s.flag (R.HIF_I2C_CMD i) F.HIF_I2C_CMD_RD
      let sent := match nack with | 0 => n | 1 => 0 | _ => min n (index + 1)
      let fifo := if rdOp then (if nack = 0 then (x.fifo ++ data.take n).take 32 else x.fifo) else x.fifo.drop sent
      (s.setI2c i { x with fifo := fifo }).i2cEnd i (min 2 nack) (if nack = 2 then index else 0) lines)

/-- The clock-out sequence of a controller that resets (R684): SDA is high after `pulses` clock pulses, or, where none, still low
after the ninth. -/
def State.i2cSequence (s : State) (i : Nat) (pulses : Option Nat) : State :=
  match pulses with
  | some _ => ((s.setI2c i { (s.i2c i) with stuck := false }).i2cEnd i 5 0 3).hifCnt 8
  | none => ((s.setI2c i { (s.i2c i) with stuck := true }).i2cEnd i 4 0 1).raise
      (hifRec (4 + i) 0x780C 2 0 0 0 (s.fd (R.HIF_I2C_CMD i) F.HIF_I2C_CMD_ADDR))

/-- I2C_STRETCH_TIMEOUT (R683, R684): a target stretches SCL past STRETCH_TMO; with SDA high at once, TIMEOUT stands. -/
def execI2cStretchTimeout (i : Nat) (pulses : Option Nat) (s : State) : Out :=
  .next (if 4 ≤ i ∨ ¬ s.flag (R.HIF_I2C_CMD i) F.HIF_I2C_CMD_BUSY ∨ ¬ s.hifOn then s
    else
      let t := s.pass (max 1 (s.fd (R.HIF_I2C_CFG i) F.HIF_I2C_CFG_STRETCH_TMO) * msCyc)
      if pulses = some 0 then t.i2cEnd i 3 0 3 else t.i2cSequence i pulses)

/-- A write to HIF_I2C_CFG: RESET ends a transfer in progress, empties the FIFO, and, within a byte or on a stuck bus, runs the
sequence; RECOVER runs it (R684). -/
def State.i2cCfgWrite (s : State) (i : Nat) (v : W32) (pulses : Option Nat) : State :=
  let t := s.plainWrite (R.HIF_I2C_CFG i) v
  if bitAt v.toNat 31 then
    let u := t.setI2c i { (t.i2c i) with fifo := [] }
    if s.flag (R.HIF_I2C_CMD i) F.HIF_I2C_CMD_BUSY ∨ (s.i2c i).stuck then u.i2cSequence i pulses else u
  else if bitAt v.toNat 30 then t.i2cSequence i pulses
  else t

/-- A write to HIF_I2C_CFG comes from a master. -/
def State.i2cCfg (s : State) (mid : Nat) (gen : BitVec 8) (i : Nat) (v : W32) (pulses : Option Nat) : State :=
  if 4 ≤ i then s else s.reach (R.HIF_I2C_CFG i) mid gen v (fun t => t.i2cCfgWrite i v pulses)

/-- I2C_RESET (R684). -/
def execI2cReset (mid : Nat) (gen : BitVec 8) (i : Nat) (value : W32) (pulses : Option Nat) (s : State) : Out :=
  .next (s.i2cCfg mid gen i (value ||| 0x80000000) pulses)

/-- I2C_RECOVER (R684). -/
def execI2cRecover (mid : Nat) (gen : BitVec 8) (i : Nat) (value : W32) (pulses : Option Nat) (s : State) : Out :=
  .next (s.i2cCfg mid gen i (value &&& 0x7FFFFFFF ||| 0x40000000) pulses)

/-- HIF_I2C_DATA: a write pushes, into a FIFO of 32 bytes; a read pops. -/
def State.i2cPush (s : State) (i : Nat) (v : W32) : State :=
  let x := s.i2c i
  if 32 ≤ x.fifo.length then s else s.setI2c i { x with fifo := x.fifo ++ [BitVec.ofNat 8 v.toNat] }
def State.i2cPop (s : State) (i : Nat) : State × W32 :=
  let x := s.i2c i
  (s.setI2c i { x with fifo := x.fifo.drop 1 }, BitVec.ofNat 32 (x.fifo.length * 2 ^ 24 + (x.fifo.headD 0).toNat))

/-! ## MDIO (R685) -/

/-- A write to HIF_MDIO_CMD: discarded while BUSY; a defined OP starts a frame. -/
def State.mdioWrite (s : State) (m : Nat) (v : W32) : State :=
  if s.flag (R.HIF_MDIO_CMD m) F.HIF_MDIO_CMD_BUSY then s
  else
    let t := s.plainWrite (R.HIF_MDIO_CMD m) v
    if 1 ≤ bitsOf v.toNat 28 3 ∧ bitsOf v.toNat 28 3 ≤ 6 then t.wf (R.HIF_MDIO_CMD m) F.HIF_MDIO_CMD_BUSY 1 else t

/-- A write of an operation to HIF_MDIO_CMD comes from a master. -/
def State.mdioCommand (s : State) (mid : Nat) (gen : BitVec 8) (m op phy reg data : Nat) : State :=
  if 2 ≤ m then s
  else
    let v := BitVec.ofNat 32 (op * 2 ^ 28 + phy % 32 * 2 ^ 21 + reg % 32 * 2 ^ 16 + data % 65536)
    s.reach (R.HIF_MDIO_CMD m) mid gen v (fun t => t.mdioWrite m v)

/-- MDIO_C22_WRITE (R685). -/
def execMdioC22Write (mid : Nat) (gen : BitVec 8) (m phy reg data : Nat) (s : State) : Out :=
  .next (s.mdioCommand mid gen m 1 phy reg data)
/-- MDIO_C22_READ (R685). -/
def execMdioC22Read (mid : Nat) (gen : BitVec 8) (m phy reg : Nat) (s : State) : Out := .next (s.mdioCommand mid gen m 2 phy reg 0)
/-- MDIO_C45_ADDR (R685). -/
def execMdioC45Addr (mid : Nat) (gen : BitVec 8) (m phy reg data : Nat) (s : State) : Out :=
  .next (s.mdioCommand mid gen m 3 phy reg data)
/-- MDIO_C45_WRITE (R685). -/
def execMdioC45Write (mid : Nat) (gen : BitVec 8) (m phy reg data : Nat) (s : State) : Out :=
  .next (s.mdioCommand mid gen m 4 phy reg data)
/-- MDIO_C45_READ (R685). -/
def execMdioC45Read (mid : Nat) (gen : BitVec 8) (m phy reg : Nat) (s : State) : Out := .next (s.mdioCommand mid gen m 5 phy reg 0)
/-- MDIO_C45_READ_INC (R685). -/
def execMdioC45ReadInc (mid : Nat) (gen : BitVec 8) (m phy reg : Nat) (s : State) : Out :=
  .next (s.mdioCommand mid gen m 6 phy reg 0)

/-- MDIO_DONE (R685): the frame ends; `data` is what a read returned. -/
def execMdioDone (m data : Nat) (s : State) : Out :=
  .next (if 2 ≤ m ∨ ¬ s.flag (R.HIF_MDIO_CMD m) F.HIF_MDIO_CMD_BUSY ∨ ¬ s.hifOn then s
    else
      let op := s.fd (R.HIF_MDIO_CMD m) F.HIF_MDIO_CMD_OP
      let t := if op = 2 ∨ op = 5 ∨ op = 6 then s.wf (R.HIF_MDIO_CMD m) F.HIF_MDIO_CMD_DATA data else s
      (t.wf (R.HIF_MDIO_CMD m) F.HIF_MDIO_CMD_BUSY 0).hifInt 3)

/-! ## GPIO (R686) -/

/-- GPIO_EDGE (R686): the level of an input, after its debounce. -/
def execGpioEdge (p : Nat) (level : Bool) (s : State) : Out :=
  .next (
    let old := bitAt (s.rd R.HIF_GPIO_IN).toNat p
    let how := s.fd (R.HIF_GPIO_CFG p) F.HIF_GPIO_CFG_INT
    if 32 ≤ p ∨ ¬ s.hifOn ∨ old = level then s
    else
      let t := s.wf R.HIF_GPIO_IN ⟨p, 1⟩ (b2n level)
      let t := t.setLow { t.low with pins := BitVec.ofNat 32 (putBits t.low.pins.toNat p 1 (b2n level)) }
      if (level ∧ bitAt how 0) ∨ (¬ level ∧ bitAt how 1) then
        let u := t.orBits R.HIF_GPIO_INT (2 ^ p)
        if bitAt (u.rd R.HIF_GPIO_INT_EN).toNat p then u.hifInt 4 else u
      else t)

/-! ## JTAG (R687) -/

/-- JTAG_EXTEST: the boundary outputs are driven. -/
def execJtagExtest (s : State) : Out := .next (s.setLow { s.low with ir := 0x00, pinsHeld := true, pinsOff := false })

/-- JTAG_SAMPLE_PRELOAD: the boundary register is sampled, and takes the bits shifted in. -/
def execJtagSamplePreload (bits : List Bool) (s : State) : Out := .next (s.setLow { s.low with ir := 0x01, bsr := bits })

/-- JTAG_CLAMP: the boundary outputs hold; the bypass register is selected. -/
def execJtagClamp (s : State) : Out := .next (s.setLow { s.low with ir := 0x02, pinsHeld := true, pinsOff := false })

/-- JTAG_HIGHZ: the outputs float. -/
def execJtagHighz (s : State) : Out := .next (s.setLow { s.low with ir := 0x03, pinsHeld := false, pinsOff := true })

/-- JTAG_IDCODE: 0x1714_494B. -/
def execJtagIdcode (s : State) : Out := .next (s.setLow { s.low with ir := 0xFE, tdo := 0x1714494B, pinsHeld := false, pinsOff := false })

/-- JTAG_BYPASS. -/
def State.jtagBypass (s : State) (ir : Nat) : State := s.setLow { s.low with ir := ir, pinsHeld := false, pinsOff := false }

/-- JTAG_BYPASS (R687). -/
def execJtagBypass (s : State) : Out := .next (s.jtagBypass 0xFF)

end Sys2Proof.Machine
end

