-- ==== Sys2Proof/Machine/CoreBase.lean ====
section
/-! DEFINITION. What a core decides about a bundle before it issues (08_move_machine, 09_function_units, 10_pipeline_threads):
decoding, the socket space, guards and sources, stalls, holds, readiness, the accesses of LSU0. -/
namespace Sys2Proof.Machine
open Sys2Proof

/-! ## The bundle (R262 to R267) -/

/-- A move: its slot, its guard, its destination, its source socket, the value of an immediate, and EXT. -/
structure Move where
  slot : Nat
  pred : Nat
  inv : Bool
  dst : Nat
  src : Nat
  imm : Option W40
  ext : Bool
  deriving DecidableEq, Repr

/-- A slot's 30 bits. -/
def slotBits (n i : Nat) : Nat := bitsOf n (8 + 30 * i) 30

/-- Whether a slot holds the never guard (R265). -/
def neverSlot (v : Nat) : Bool := v % 16 == 8

/-- The move of one slot (R264, R266); none where it is empty. -/
def slotMove (i v : Nat) : Option Move :=
  if neverSlot v then none
  else
    let src := bitsOf v 4 12
    let ext := bitAt v 29
    some { slot := i, pred := v % 8, inv := bitAt v 3, dst := bitsOf v 16 12, src := src, ext := ext,
           imm := if bitAt v 28 then some (if ext then BitVec.ofNat 40 src else w40 (signed 12 src)) else none }

/-- The moves of a pair of slots (R267): under LIMM one long-immediate move; none where the bundle is illegal. -/
def pairMoves (limm : Bool) (i a b : Nat) : Option (List Move) :=
  if ¬ limm then some ([slotMove i a, slotMove (i + 1) b].filterMap id)
  else if neverSlot a then some []
  else if ¬ bitAt a 28 ∨ bitAt a 29 ∨ bitsOf b 28 2 ≠ 0 then none
  else some [{ slot := i, pred := a % 8, inv := bitAt a 3, dst := bitsOf a 16 12, src := 0, ext := false,
               imm := some (BitVec.ofNat 40 (bitsOf a 4 12 + bitsOf b 0 28 * 2 ^ 12)) }]

/-- The moves of a bundle (R263, R267); none for an illegal one. -/
def decodeBundle (n : Nat) : Option (List Move) :=
  if bitsOf n 3 5 ≠ 0 then none
  else match pairMoves (bitAt n 0) 0 (slotBits n 0) (slotBits n 1), pairMoves (bitAt n 1) 2 (slotBits n 2) (slotBits n 3) with
    | some l, some m => some (l ++ m)
    | _, _ => none

/-! ## The socket space (R273 to R276) -/

/-- The number of a unit's block of sockets, from 4 for ALU0 to 17 for RCP. -/
def unitNo (sock : Nat) : Nat := sock / 64

/-- A socket's place in its unit's block. -/
def sockOff (sock : Nat) : Nat := sock % 64

/-- The operand ports of a unit. -/
def opPorts (u : Nat) : Nat :=
  match u with
  | 4 | 5 | 6 | 9 | 12 | 13 | 17 => 2
  | 7 | 8 | 16 => 1
  | 10 | 11 => 3
  | 15 => 4
  | _ => 0

/-- The result ports of a unit. -/
def resPorts (u : Nat) : Nat :=
  match u with
  | 4 | 5 | 7 | 8 | 12 | 15 => 2
  | 10 => 4
  | 6 | 9 | 11 | 13 | 14 | 16 | 17 => 1
  | _ => 0

/-- Whether a unit defines a trigger's opcode. -/
def trigOk (u op : Nat) : Bool :=
  match u with
  | 4 | 5 => op ≤ 0x21
  | 6 => op ≤ 9
  | 7 => op ≤ 0x12
  | 8 | 16 => op ≤ 1
  | 9 => op ≤ 0xB || decide (0x10 ≤ op ∧ op ≤ 0x16)
  | 10 | 11 => op ≤ 5
  | 12 | 13 => op ≤ 8
  | 14 => op ≤ 4
  | 15 => op ≤ 3 || decide (8 ≤ op ∧ op ≤ 0xB)
  | 17 => op ≤ 2
  | _ => false

/-- Whether a socket is a state port: MACCFG, MACST, OVFPC, and EVP's six. -/
def statePort (sock : Nat) : Bool := decide ((0x1C8 ≤ sock ∧ sock ≤ 0x1CA) ∨ (0x388 ≤ sock ∧ sock ≤ 0x38D))

/-- Whether a socket is a loop register (R274). -/
def loopSock (sock : Nat) : Bool := decide (0x50 ≤ sock ∧ sock ≤ 0x5B ∧ sock ≠ 0x53 ∧ sock ≠ 0x57)

/-- Whether a socket is a trigger port. -/
def isTrigger (sock : Nat) : Bool := decide (0x100 ≤ sock ∧ 0x10 ≤ sockOff sock) && trigOk (unitNo sock) (sockOff sock - 0x10)

/-- Whether a socket is a result port. -/
def isResult (sock : Nat) : Bool :=
  decide (0x100 ≤ sock ∧ 4 ≤ sockOff sock ∧ sockOff sock < 4 + resPorts (unitNo sock))

/-- Whether a socket is an operand port. -/
def isOperand (sock : Nat) : Bool := decide (0x100 ≤ sock ∧ sockOff sock < opPorts (unitNo sock))

/-- Whether a move may read a socket (R276). -/
def srcOk (sock : Nat) : Bool :=
  decide (sock < 0x48) || loopSock sock || decide (0x60 ≤ sock ∧ sock ≤ 0x64) || isOperand sock || isResult sock || statePort sock

/-- Whether a move may write a socket (R276). -/
def dstOk (sock : Nat) : Bool :=
  decide (sock < 0x48) || loopSock sock || sock == 0x64 || isOperand sock || isTrigger sock
    || (statePort sock && sock != 0x389 && sock != 0x38C)

/-- Whether a unit is a long one (R299). -/
def longUnit (u : Nat) : Bool := u == 8 || u == 10 || u == 11 || decide (13 ≤ u ∧ u ≤ 17)

/-! ## Reading (R265, R266, R269, R300) -/

/-- A thread's view of a socket. -/
def State.readSock (s : State) (mid : Nat) (x : ThreadSt) (sock : Nat) : W40 :=
  if 0x40 ≤ sock ∧ sock < 0x48 then wBool (sock == 0x40 || bitAt x.preds (sock - 0x40))
  else if loopSock sock then BitVec.ofNat 40 (loopGet x.loopsSeen sock)
  else match sock with
    | 0x60 => BitVec.ofNat 40 mid
    | 0x61 => BitVec.ofNat 40 (s.genOf mid).toNat
    | 0x62 => BitVec.ofNat 40 (s.cycle (coreKey mid))
    | 0x63 => BitVec.ofNat 40 s.time.ptp.toNat
    | 0x64 => BitVec.ofNat 40 (x.preds / 2 * 2 + 1)
    | 0x304 => BitVec.ofNat 40 (x.rstack.headD 0)
    | 0x305 => BitVec.ofNat 40 x.rstack.length
    | 0x389 => (s.pendEv mid).setWidth 40
    | 0x38C => match x.tags with | t :: _ => BitVec.ofNat 40 (0x100 + t.toNat) | [] => 0
    | _ => x.port sock

/-- Whether a move's guard holds (R265). -/
def Move.holds (m : Move) (x : ThreadSt) : Bool := (m.pred == 0 || bitAt x.preds m.pred) != m.inv

/-- The value a move transports (R266). -/
def State.moveValue (s : State) (mid : Nat) (x : ThreadSt) (m : Move) : W40 :=
  match m.imm with
  | some v => v
  | none =>
    let v := s.readSock mid x m.src
    if m.ext then w40 (signed 20 (v.toNat / 2 ^ 20)) else v

/-- The moves whose guards hold. -/
def activeMoves (x : ThreadSt) (ms : List Move) : List Move := ms.filter (fun m => m.holds x)

/-! ## Writing (R270, R272, R277) -/

/-- The width a state port keeps of a value. -/
def stateWidth (sock : Nat) : Nat :=
  match sock with
  | 0x1C8 => 3 | 0x1C9 => 2 | 0x1CA => 16 | 0x388 => 32 | 0x38A => 14 | 0x38B => 1 | 0x38D => 14 | _ => 40

/-- The width of a loop register. -/
def loopWidth (sock : Nat) : Nat := if sock < 0x58 then 14 else if sock = 0x5B then 2 else 32

/-- A write of a loop register takes part in checks from the third bundle after it (R293). -/
def ThreadSt.loopWrite (x : ThreadSt) (sock v : Nat) : ThreadSt :=
  { x with loopWr := x.loopWr ++ [{ sock := sock, val := lowBits v (loopWidth sock) }] }

/-- One move writes its destination; a trigger port holds nothing. -/
def ThreadSt.moveInto (x : ThreadSt) (dst : Nat) (v : W40) : ThreadSt :=
  if dst = 0x40 ∨ isTrigger dst then x
  else if dst < 0x48 ∧ 0x40 < dst then { x with preds := putBits x.preds (dst - 0x40) 1 (b2n (v != 0)) }
  else if dst = 0x64 then { x with preds := v.toNat % 256 / 2 * 2 }
  else if loopSock dst then x.loopWrite dst v.toNat
  else x.setPort dst (BitVec.ofNat 40 (lowBits v.toNat (stateWidth dst)))

/-- A trigger of a bundle: its unit's socket base, opcode, T, slot. -/
structure Trig where
  unit : Nat
  op : Nat
  t : W40
  slot : Nat
  deriving DecidableEq, Repr

/-- A bundle whose static checks passed, about to act on a thread: the thread before it, the thread with the bundle's writes
(R271), the triggers. -/
structure Acts where
  pre : ThreadSt
  post : ThreadSt
  trigs : List Trig
  deriving DecidableEq, Repr

/-- What the moves of a bundle do: sources before any write, then the writes, the highest slot's last (R269, R272). -/
def State.actsOf (s : State) (mid : Nat) (x : ThreadSt) (ms : List Move) : Acts :=
  let vs := (activeMoves x ms).map (fun m => (m, s.moveValue mid x m))
  { pre := x, post := vs.foldl (fun y p => y.moveInto p.1.dst p.2) x,
    trigs := (vs.filter (fun p => isTrigger p.1.dst)).map (fun p =>
      { unit := unitNo p.1.dst * 64, op := sockOff p.1.dst - 0x10, t := p.2, slot := p.1.slot }) }

/-! ## LSU0 (R280 to R282, R315 to R317) -/

/-- Where an LSU0 access lies: scratchpad, token window, a packet window, or the code of the fault it meets. -/
inductive LsuAt where
  | spad (a : Nat) | twin (a : Nat) | win (slot k : Nat) | bad (code : Nat)
  deriving DecidableEq, Repr

/-- The form of an LSU0 opcode (R315). -/
def lsu0Form (op : Nat) : Nat := if op < 0x10 then op else (lsu0StoreForm op).getD 0

/-- Decide an LSU0 access of `n` bytes (R316). -/
def State.lsu0At (s : State) (mid : Nat) (x : ThreadSt) (a n : Nat) : LsuAt :=
  let c := midCluster mid
  if a + n ≤ spadSize c then .spad a
  else if 0x100000 ≤ a ∧ a + n ≤ 0x100200 then .twin (a - 0x100000)
  else if c < 16 ∧ 0x800000 ≤ a ∧ a + n ≤ 0x880000 then
    let slot := (a - 0x800000) / 0x10000
    let k := (a - 0x800000) % 0x10000
    let h := (s.winToken mid slot).handle
    if x.tokenIn slot = none then .bad 0x300D
    else if ¬ s.handleOk h ∨ s.poolBytes (hPool h) < k + n then .bad 0x300E
    else .win slot k
  else .bad 0x300B

/-- The address of an LSU access: (o0 + T) modulo 2^40. -/
def lsuAddr (o0 t : W40) : Nat := (o0 + t).toNat

/-- The lines of a packet window that an access needs. -/
def winLines (k n : Nat) : List Nat := (List.range ((k + n - 1) / 64 - k / 64 + 1)).map (fun i => k / 64 + i)

/-- A packet-window line that an LSU0 trigger needs is absent (R317). -/
def State.lineAbsent (s : State) (mid : Nat) (a : Acts) (g : Trig) : Bool :=
  g.unit == 0x240 &&
    match s.lsu0At mid a.pre (lsuAddr (a.post.port 0x240) g.t) (formBytes (lsu0Form g.op)) with
    | .win slot k => (winLines k (formBytes (lsu0Form g.op))).any (fun l => !a.pre.hasLine slot l)
    | _ => false

/-! ## Stalls and holds (R301, R302, R340) -/

/-- The operations that a thread may have in progress on a long unit (R299). -/
def outLimit (unit : Nat) : Nat := if unit = 0x280 then 8 else 1

/-- Whether an operation counts against its unit's limit: on CPQ only a fused one. -/
def counts (unit op : Nat) : Bool := unit != 0x3C0 || decide (op < 4)

/-- A trigger finds its unit's limit reached (R302). -/
def unitFull (x : ThreadSt) (g : Trig) : Bool :=
  longUnit (unitNo g.unit) && counts g.unit g.op
    && decide (outLimit g.unit ≤ (x.longs.filter (fun o => o.unit == g.unit && counts o.unit o.op)).length)

/-- A fused command finds its accelerator's queue full (R370); an ACQUIRE takes no entry. -/
def State.cpqFull (s : State) (mid : Nat) (g : Trig) : Bool :=
  g.unit == 0x3C0 && decide (g.op < 4 ∧ midCluster mid < 16 ∧ g.t.toNat % 64 ≠ 0x38 ∧ 64 ≤ (s.acc (midCluster mid) g.op).q.length)

/-- A move reads a result port for which an operation is in progress (R301). -/
def moveWaits (x : ThreadSt) (m : Move) : Bool :=
  m.imm.isNone && isResult m.src && longUnit (unitNo m.src) && x.longs.any (fun o => o.ports.contains m.src)

/-- A thread's next bundle is stalled or held (R340). -/
def State.bundleWaits (s : State) (mid : Nat) : Bool :=
  let x := s.thr mid
  match x.fq.head? with
  | some { bits := some n, .. } =>
    (match decodeBundle n with
    | none => false
    | some ms =>
      (activeMoves x ms).any (moveWaits x) ||
        (let a := s.actsOf mid x ms
         a.trigs.any (fun g => unitFull x g || s.lineAbsent mid a g || s.cpqFull mid g)))
  | _ => false

/-- An interrupt entry is due (R348). -/
def State.entryDue (s : State) (mid : Nat) : Bool :=
  let x := s.thr mid
  x.port 0x38B == 1 && x.xfers == [] && !x.rfi && decide ((s.pendEv mid).toNat &&& (x.port 0x388).toNat ≠ 0)

/-- A thread's next bundle has passed DEC (R338, R345). -/
def State.fetched (s : State) (mid : Nat) : Bool :=
  match (s.thr mid).fq.head? with
  | some f => f.bits.isSome && decide (f.due ≤ s.cycle (coreKey mid))
  | none => false

/-- A thread is ready in its core's next cycle (R345); a STEP takes no entry (R360). -/
def State.ready (s : State) (mid : Nat) : Bool :=
  (s.thr mid).st == 1 && s.fetched mid && (!s.bundleWaits mid || (s.entryDue mid && !(s.thr mid).step))

end Sys2Proof.Machine
end

