-- ==== Sys2Proof/Machine/BootOps.lean ====
section
/-! DEFINITION. What start-up shares with the register router (17_startup_finone): the steps, the fuses, MGT_BOOT_CTRL, the
life-cycle registers, the features. -/
namespace Sys2Proof.Machine
open Sys2Proof

/-- Change the start-up state. -/
def State.setBoot (s : State) (x : BootSt) : State := { s with boot := x }

/-- A record of MGT about start-up (R568). -/
def bootRec (code sev : Nat) (akind addr d0 : Nat := 0) : ErrRec := mkErr 14 0 code sev akind addr 0 0 d0

/-- The last step of start-up that completed (R548). -/
def State.bootStep (s : State) : Nat := s.fd R.MGT_BOOT_STATUS F.MGT_BOOT_STATUS_STEP

/-- MGT_BOOT_STATUS.STATE: 0 BOOTING, 1 RUNNING, 2 WAIT_IMAGE, 3 FAILED, 4 PROVISION. -/
def State.bootState (s : State) : Nat := s.fd R.MGT_BOOT_STATUS F.MGT_BOOT_STATUS_STATE

/-- A step of start-up completes. -/
def State.stepDone (s : State) (n : Nat) : State :=
  (s.setBoot { s.boot with stepAt := s.time.clock }).wf R.MGT_BOOT_STATUS F.MGT_BOOT_STATUS_STEP n

/-- Start-up enters a state. -/
def State.setBootState (s : State) (x : Nat) : State := s.wf R.MGT_BOOT_STATUS F.MGT_BOOT_STATUS_STATE x

/-- What holds FAULT_N asserted: bit 0 the reference's failure, 1 no image (R548, R566, R730). -/
def State.holdFault (s : State) (bit : Nat) (on : Bool) : State :=
  s.setBcn { s.bcn with faults := putBits s.bcn.faults bit 1 (b2n on) }

/-- The registers that show fuses (R8, R569). -/
def State.showFuses (s : State) : State :=
  let x := s.fuse
  let keys := (List.range 4).foldl (fun a i => a + b2n (x.keys.any (fun e => e.1 == i)) * 2 ^ i) 0
  ((((s.wf R.MGT_BOOT_STATUS F.MGT_BOOT_STATUS_LC x.lc).wr64 (R.MGT_SERIAL 0) x.serial).wr R.MGT_FUSE_SVN
    (BitVec.ofNat 32 x.svn)).wr R.MGT_KEY_STATE
      (BitVec.ofNat 32 (b2n (x.keys.any (fun e => e.1 == 4)) * 256 + x.revoked % 16 * 16 + keys)))

/-- Start-up goes on from a step, with a new choice of slots (R562, R566). -/
def State.restartBoot (s : State) (step : Nat) : State :=
  (((s.setBoot { s.boot with tried := [], failed := false, retry := false, sections := [], next := 0, regions := [] }).wf
    R.MGT_BOOT_STATUS F.MGT_BOOT_STATUS_FALLBACK 0).wf R.MGT_BOOT_STATUS F.MGT_BOOT_STATUS_SLOT 0).setBootState 0
      |>.stepDone step

/-- A life-cycle transition, or a revocation (R562): the vault is wiped, the fuses are programmed and verified, a record goes to
the save area, and start-up goes on from step 2. A fuse that fails its verify leaves the fuses as they were or as they were to
be, as a free value decides. -/
def State.lcChange (s : State) (target revoke : Nat) (ok : Bool) : State :=
  let t := s.vaultCause 3
  let new : FuseSt := { t.fuse with lc := target, revoked := Nat.lor t.fuse.revoked (revoke % 16) }
  if ok then
    ((({ t with fuse := new } : State).showFuses).keep (bootRec 0x700A 0 0 0 (target * 2 ^ 16))).restartBoot 1
  else
    let u : State := if t.freeWord.toNat % 2 = 0 then t.tookFree else { t.tookFree with fuse := new }
    (u.showFuses.setBootState 3).bootErr (bootRec 0x700B 4 0 0 (target * 2 ^ 16))

/-! ## MGT_BOOT_CTRL (R566, R567) -/

/-- RETRY restarts start-up from step 3, once the flash controller is idle. -/
def State.bootRetry (s : State) : State :=
  if s.low.spifOp.isSome then s.setBoot { s.boot with retry := true } else (s.restartBoot 2).holdFault 1 false

/-- A value for MGT_BOOT_CTRL. -/
def State.bootCtrlTake (s : State) (v : W32) : State :=
  if ¬ bitAt v.toNat 0 then s
  else if s.bootState = 2 then (s.wf R.MGT_BOOT_CTRL F.MGT_BOOT_CTRL_ERR 0).bootRetry
  else s.wf R.MGT_BOOT_CTRL F.MGT_BOOT_CTRL_ERR 1

/-- BOOT_RETRY (R566): a pair on MGT_BOOT_CTRL with RETRY. -/
def execBootRetry (mid : Nat) (gen : BitVec 8) (s : State) : Out :=
  .next (match s.takePair R.MGT_BOOT_CTRL mid gen 1 with
    | some t => t.bootCtrlTake 1
    | none => s)

/-! ## MGT_LC_REQ and MGT_KEY_PROG (R563) -/

/-- The hash in MGT_KEY_PROG. -/
def State.keyProg (s : State) : List Byte := (List.range 12).flatMap (fun w => toLe 4 (s.rd (R.MGT_KEY_PROG w)).toNat)

/-- A pair on MGT_LC_REQ is refused. -/
def State.lcRefuse (s : State) : State := s.wf R.MGT_LC_REQ F.MGT_LC_REQ_ERR 1

/-- A value for MGT_LC_REQ: KEY programs a slot, TARGET starts the transition; `ok` says that the fuses verify. -/
def State.lcReqTake (s : State) (v : W32) (ok : Bool) : State :=
  let slot := bitsOf v.toNat 8 2
  let target := v.toNat % 8
  let key := bitAt v.toNat 12
  let keys := if key then s.fuse.keys.set (fun _ => []) slot s.keyProg else s.fuse.keys
  if s.bootState ≠ 4 ∨ 1 < target ∨ (key ∧ s.fuse.keys.any (fun e => e.1 == slot))
      ∨ (target = 1 ∧ keys.all (fun e => decide (4 ≤ e.1))) then s.lcRefuse
  else
    let t := (({ s with fuse := { s.fuse with keys := keys } } : State).wr R.MGT_LC_REQ (v &&& 0x1307)).showFuses
    if target = 1 then t.lcChange 1 0 ok else t

/-- KEY_PROGRAM (R563): a pair with KEY and without TARGET. -/
def execKeyProgram (mid : Nat) (gen : BitVec 8) (slot : Nat) (s : State) : Out :=
  let v := BitVec.ofNat 32 (2 ^ 12 + slot % 4 * 2 ^ 8)
  .next (match s.takePair R.MGT_LC_REQ mid gen v with
    | some t => t.lcReqTake v true
    | none => s)

/-- LC_REQUEST (R563): a pair of any value with TARGET. -/
def execLcRequest (mid : Nat) (gen : BitVec 8) (value : W32) (ok : Bool) (s : State) : Out :=
  .next (match s.takePair R.MGT_LC_REQ mid gen value with
    | some t => t.lcReqTake value ok
    | none => s)

/-- A write to MGT_KEY_PROG: discarded outside BLANK. -/
def State.keyProgWrite (s : State) (off : Nat) (v : W32) : State := if s.fuse.lc = 0 then s.wr off v else s

/-! ## Features (R564) -/

/-- The features in force follow what asks for them. -/
def State.ackFeatures (s : State) (asked : W64) : State := s.wr64 (R.GLB_FEAT_ACK 0) (s.rd64 (R.GLB_DEV_FEAT 0) &&& asked)

/-- A write to GLB_DRV_FEAT[w]: the high half applies both, at step 8 where it comes before. -/
def State.drvFeatWrite (s : State) (mid w : Nat) (v : W32) : State :=
  if ¬ isHostPath mid then s
  else
    let t := s.wr (R.GLB_DRV_FEAT w) v
    if w = 0 then t
    else if 8 ≤ t.bootStep then t.ackFeatures (t.rd64 (R.GLB_DRV_FEAT 0))
    else t.setBoot { t.boot with drvFeat := true }

/-- DRIVER_FEATURES (R564): a write of the high half of GLB_DRV_FEAT. -/
def execDriverFeatures (mid : Nat) (gen : BitVec 8) (value : W32) (s : State) : Out :=
  .next (s.reach (R.GLB_DRV_FEAT 1) mid gen value (fun t => t.drvFeatWrite mid 1 value))

end Sys2Proof.Machine
end

