-- ==== Sys2Proof/Machine/Router.lean ====
section
/-! DEFINITION. The register router (22_register_map R692 to R708): guarded pairs, plain writes and reads of every block, the
tally. A block's own registers act by its own functions; every other register by its access code (R11). -/
namespace Sys2Proof.Machine
open Sys2Proof

/-- The index of an offset in `n` registers from `base` on, `stride` apart. -/
def idxOf (off base stride n : Nat) : Option Nat :=
  if base ≤ off ∧ off < base + n * stride ∧ (off - base) % stride = 0 then some ((off - base) / stride) else none

/-! ## Completed pairs (R700) -/

/-- The capacities of the namespaces that answer an operation of REC_RCTL which comes with no drives' answers of its own: free
values (the spec gives no drive's size). -/
def State.freeCaps (s : State) : List Nat → State × List (Nat × Nat)
  | [] => (s, [])
  | n :: ns =>
    let r := s.tookFree.freeCaps ns
    (r.1, (n, s.freeWord.toNat) :: r.2)

/-- A value for REC_RCTL (R503, R506). -/
def State.rctlTake (s : State) (v : W32) : State :=
  let arg := bitsOf v.toNat 8 6
  match bitsOf v.toNat 0 4 with
  | 1 =>
    let r := s.freeCaps ((List.range 64).filter (fun n => s.flag (R.REC_NS n) F.REC_NS_EN))
    if s.formatOk then r.1.formatEff r.2 else s.rctlRefuse
  | 2 => s.tookFree.joinEff arg s.freeWord.toNat
  | 3 => s.leaveEff arg
  | 4 => s.releaseEff arg
  | _ => s.rctlRefuse

/-- A value for one of a pool's layout registers (R180). -/
def State.poolTake (s : State) (off : Nat) (v : W32) : State :=
  let p := (off - R.BPM_POOL_SIZE 0) / 64
  match (off - R.BPM_POOL_SIZE 0) % 64 with
  | 0 => s.poolSizeWrite p v
  | 8 => s.poolLayoutWrite p 0 v
  | 0x10 => s.poolLayoutWrite p 1 v
  | 0x18 => s.poolLayoutWrite p 2 v
  | _ => s.poolLayoutWrite p 3 v

/-- The block that owns a G register decides a completed pair (R700). -/
def State.pairTake (s : State) (off mid : Nat) (gen : BitVec 8) (v : W32) : State :=
  if off < 0x10000 then s.setMode v
  else if off < 0x20000 then s.pwrReqWrite mid v
  else if off < 0x30000 then
    (if off = R.MGT_BOOT_CTRL then s.bootCtrlTake v
     else if off = R.MGT_LC_REQ then s.lcReqTake v true
     else s.vaultWipeWrite mid gen v)
  else if off < 0x40000 then s.rcCfgTake v
  else if off < 0x50000 then s.pairCtrlWrite v
  else if off < 0x100000 then (if off = R.ODS_STORE then s.storeWrite v else s.flowmemWrite v)
  else if off < 0x200000 then s.profWrite ((off - R.PRS_PROF_CTRL 0) / 8) v
  else if off < 0x300000 then s.layoutWrite ((off - R.FTE_LAYOUT 0) / 8) v
  else if off < 0x400000 then s.poolTake off v
  else if off < 0x500000 then s.cvuTableWrite v
  else if off < 0x600000 then (if off = R.REC_RCTL then s.rctlTake v else s.recCfgWrite off v)
  else if off < 0x700000 then
    (if off = R.DMC_MAP then s.dmcMapWrite v else s.chCtrlWrite ((off - R.DMC_CH_CTRL 0) / 0x20000) mid gen v)
  else if off < 0x800000 then (if off = R.ECS_RT_ENT then s.rtEntWrite v else s.spEntWrite mid gen v)
  else if off < 0xA40000 then s.modeWrite ((off - R.PX_PORT_MODE 0) / 0x4000) v
  else s.quadWrite ((off - R.PX_GRP_QUAD 0) / 0x1000) v

/-! ## The tally (R705 to R707) -/

/-- A write to GLB_TALLY_SNAP: GO fixes the instant and every counter's copy, or joins the snapshot in progress. -/
def State.tallySnap (s : State) (v : W32) : State :=
  if ¬ bitAt v.toNat 0 ∨ s.flag R.GLB_TALLY_STATUS F.GLB_TALLY_STATUS_BUSY then s
  else
    ({ s with snap := { instant := if s.timeRuns then s.time.ptp else s.time.bcnt + 1, beacon := !s.timeRuns,
                        counts := s.live } } : State).wf R.GLB_TALLY_STATUS F.GLB_TALLY_STATUS_BUSY 1

/-- TALLY_SNAP (R706): a write of GO. -/
def execTallySnap (mid : Nat) (gen : BitVec 8) (s : State) : Out :=
  .next (s.reach R.GLB_TALLY_SNAP mid gen 1 (fun t => t.tallySnap 1))

/-- TALLY_DONE (R706, R707): every copy is written. -/
def execTallyDone (s : State) : Out :=
  .next (
    if ¬ s.flag R.GLB_TALLY_STATUS F.GLB_TALLY_STATUS_BUSY then s
    else
      let t : State := { s with tally := s.snap.counts }
      ((((t.wf R.GLB_TALLY_STATUS F.GLB_TALLY_STATUS_BUSY 0).wf R.GLB_TALLY_STATUS F.GLB_TALLY_STATUS_SEQ
        ((t.fd R.GLB_TALLY_STATUS F.GLB_TALLY_STATUS_SEQ + 1) % 65536)).wf R.GLB_TALLY_STATUS F.GLB_TALLY_STATUS_TSKIND
          (b2n t.snap.beacon)).wr64 (R.GLB_TALLY_TIME 0) t.snap.instant).count (R.GLB_REG_CNT 3))

/-! ## Plain writes by access code (R11, R613) -/

/-- A write by access code; a value that an old-view store holds after the commit point takes it too (R613). -/
def State.codeWrite (s : State) (off : Nat) (v : W32) : State :=
  let t := s.plainWrite off v
  if 6 ≤ s.txnState then
    (match cardAt off, s.txn.oldRegs.get (fun _ => none) off with
    | some c, some old =>
      { t with txn := { t.txn with oldRegs := t.txn.oldRegs.set (fun _ => none) off (some (c.written old v)) } }
    | _, _ => t)
  else t

/-- The status register, the vector and the bits of each level that an enable register governs. -/
def enLevels (off : Nat) : List (Nat × Nat × Nat) :=
  if off = R.BCN_INT_EN then [(R.BCN_INT, 5, 0x3F)]
  else if off = R.HIF_INT_EN then [(R.HIF_INT, 8, 0xFF)]
  else if off = R.MLK_INT_EN then [(R.MLK_INT, 4, 4), (R.MLK_INT, 6, 0x7B)]
  else if off = R.ODS_INT_EN then [(R.ODS_INT, 11, 0xFF)]
  else if off = R.FTE_INT_EN then [(R.FTE_INT, 10, 0xFF)]
  else if off = R.ECS_INT_EN then [(R.ECS_INT, 9, 0xF)]
  else if off = R.REC_RGN_INT_EN then (List.range 16).map (fun r => (R.REC_RGN_INT, 224 + r, 2 ^ r + 2 ^ (16 + r)))
  else match idxOf off (R.BPM_INT_EN 0) 4 8, idxOf off (R.CVU_INT_EN 0) 0x8000 32, idxOf off (R.DMC_CH_INT_EN 0) 0x20000 8,
      idxOf off (R.PX_PORT_INT_EN 0) 0x4000 144 with
    | some p, _, _, _ => [(R.BPM_INT p, 216 + p, 0x3F)]
    | _, some n, _, _ => [(R.CVU_INT n, 160 + n, 7)]
    | _, _, some n, _ => [(R.DMC_CH_INT n, 208 + n, 0x1F)]
    | _, _, _, some n => [(R.PX_PORT_INT n, 16 + n, 0x7F)]
    | _, _, _, _ => []

/-- A write of an enable register asks for the vector of each level that it raises (R67). -/
def State.enWrite (s : State) (off : Nat) (v : W32) : State :=
  let t := s.codeWrite off v
  let up (l : Nat × Nat × Nat) : Bool :=
    decide ((t.rd l.1).toNat &&& (t.rd off).toNat &&& l.2.2 ≠ 0 ∧ (s.rd l.1).toNat &&& (s.rd off).toNat &&& l.2.2 = 0)
  (enLevels off).foldl (fun u l => u.irqIf (up l) l.2.1) t

/-- A write that leaves a register unchanged where its value is one the register does not take. -/
def State.writeIf (s : State) (ok : Bool) (off : Nat) (v : W32) : State := if ok then s.codeWrite off v else s

/-! ## Plain writes, block by block -/

/-- GLB. -/
def State.glbWrite (s : State) (off mid : Nat) (v : W32) : State :=
  if off = R.GLB_TALLY_SNAP then s.tallySnap v
  else match idxOf off (R.GLB_DRV_FEAT 0) 4 2 with
    | some w => s.drvFeatWrite mid w v
    | none => s.codeWrite off v

/-- BCN. -/
def State.bcnWrite (s : State) (off : Nat) (v : W32) : State :=
  if off = R.BCN_TIME_CTRL then s.timeCtrlWrite v
  else if off = R.BCN_TIME_STEP 0 then s.timeStepWrite 0 v
  else if off = R.BCN_TIME_STEP 1 then s.timeStepWrite 1 v
  else if off = R.BCN_TAMPER_CFG then s.tamperCfgWrite v
  else if off = R.BCN_MGT_WD then s.wdWrite v
  else s.enWrite off v

/-- MGT. -/
def State.mgtWrite (s : State) (off mid : Nat) (gen : BitVec 8) (v : W32) (ue : Bool) : State :=
  if off = R.MGT_TXN_CTRL then s.txnCtrlWrite mid gen v
  else if off = R.MGT_TXN_NUM then s.txnNumWrite mid gen v
  else if off = R.MGT_TXN_ENT 2 then s.stageEntry mid gen v
  else if off = R.MGT_TXN_ENT 0 ∨ off = R.MGT_TXN_ENT 1 ∨ off = R.MGT_TXN_CFG then
    (if txnMay mid ∨ off = R.MGT_TXN_CFG then s.codeWrite off v else s.bootWriteBad off mid gen v)
  else if off = R.MGT_PROBE then s.probeWrite v
  else if off = R.MGT_RCV_CMD then s.rcvCmdWrite mid gen v ue
  else if off = R.MGT_ELOG_CTRL then s.elogCtrlWrite v
  else if off = R.MGT_AVS_CFG then s.avsCfgWrite v
  else match idxOf off (R.MGT_VAULT_LOCK 0) 4 2, idxOf off (R.MGT_VAULT_HIDE 0) 4 2, idxOf off (R.MGT_KEY_PROG 0) 4 12 with
    | some _, _, _ => s.vaultBitsWrite off mid gen v
    | _, some _, _ => s.vaultBitsWrite off mid gen v
    | _, _, some _ => s.keyProgWrite off v
    | _, _, _ => s.codeWrite off v

/-- The pulses of a recovery that an I2C controller needs: 1 to 9, or none where SDA stays low (R684), as a free value decides. -/
def State.freePulses (s : State) : State × Option Nat :=
  (s.tookFree, if s.freeWord.toNat % 11 = 10 then none else some (s.freeWord.toNat % 11))

/-- HIF. -/
def State.hifWrite (s : State) (off mid : Nat) (gen : BitVec 8) (v : W32) : State :=
  if off = R.HIF_KEEPER_BELL then s.keeperBellWrite mid gen
  else if off = R.HIF_D2H_BELL then s.d2hBellWrite mid gen v
  else if off = R.HIF_RC_CTRL then s.rcCtrlWrite v
  else if off = R.HIF_RC_MEM then s.writeIf (s.fd R.HIF_RC_CTRL F.HIF_RC_CTRL_EN == 0) off v
  else if off = R.HIF_SPIF_CMD then s.spifWrite mid v
  else if off = R.HIF_GPIO_INT_EN then
    (let t := s.codeWrite off v
     if (t.rd R.HIF_GPIO_INT &&& t.rd off) ≠ 0 ∧ (s.rd R.HIF_GPIO_INT &&& s.rd off) = 0 then t.hifInt 4 else t)
  else match idxOf off (R.HIF_I2C_CFG 0) 0x20 4, idxOf off (R.HIF_I2C_CMD 0) 0x20 4, idxOf off (R.HIF_I2C_DATA 0) 0x20 4,
      idxOf off (R.HIF_MDIO_CMD 0) 0x10 2 with
    | some i, _, _, _ =>
      if bitsOf v.toNat 30 2 = 0 then s.i2cCfgWrite i v none else s.freePulses.1.i2cCfgWrite i v s.freePulses.2
    | _, some i, _, _ => s.i2cCmdWrite i v
    | _, _, some i, _ => s.i2cPush i v
    | _, _, _, some m => s.mdioWrite m v
    | _, _, _, _ => s.enWrite off v

/-- SEM. -/
def State.semWrite (s : State) (off mid : Nat) (gen : BitVec 8) (v : W32) : State :=
  if off = R.SEM_FORCE then s.semForceWrite mid gen v
  else match idxOf off (R.SEM_REL 0) 4 semCount with
    | some n => (s.semRel mid gen n).1
    | none => s.codeWrite off v

/-- ODS. -/
def State.odsWrite (s : State) (off : Nat) (v : W32) : State :=
  if off = R.ODS_CFG then (s.codeWrite off (v ||| (s.rd off &&& 0x80000000))).reThrottle
  else if off = R.ODS_TCFG then s.tcfgWrite v
  else match idxOf off (R.ODS_TGMASK 0) 4 2, idxOf off (R.ODS_DLIST 0) 4 16, idxOf off (R.ODS_QCFG 0) 4 1024 with
    | some j, _, _ => s.tgmaskWrite j v
    | _, some l, _ =>
      let k := if s.fd (R.ODS_DLIST l) F.ODS_DLIST_OCC = 0 then min 10 (v.toNat % 16) else s.fd (R.ODS_DLIST l) F.ODS_DLIST_K
      s.codeWrite off (BitVec.ofNat 32 (putBits v.toNat 0 4 k))
    | _, _, some q => ((s.codeWrite off v).setQueue q (s.queue q)).reThrottle
    | _, _, _ => s.enWrite off v

/-- PRS. -/
def State.prsRegWrite (s : State) (off mid : Nat) (gen : BitVec 8) (v : W32) (ue : Bool) : State :=
  if off = R.PRS_TCMD then s.prsTcmdWrite mid gen v ue
  else if cmdIface off = 1 ∧ s.prsBusy then s.prsBusyErr off v
  else s.codeWrite off v

/-- FTE. -/
def State.fteRegWrite (s : State) (off mid : Nat) (gen : BitVec 8) (v : W32) (ue : Bool) : State :=
  if off = R.FTE_TCMD then s.fteTcmdWrite mid gen v ue
  else if cmdIface off = 2 ∧ s.fteBusy then s.fteBusyErr off v
  else if off = R.FTE_LNQ_CTRL then s.lnqCtrlWrite v
  else s.enWrite off v

/-- BPM: a pool's levels follow its thresholds (R202). -/
def State.bpmRegWrite (s : State) (off mid : Nat) (v : W32) (ue : Bool) : State :=
  if off = R.BPM_CMD then s.bpmCmdWrite mid v ue
  else if off = R.BPM_QUOTA then s.quotaWrite v
  else match (List.range 8).find? (fun p => off == R.BPM_POOL_LEVEL p) with
    | some p => ((s.codeWrite off v).setFree p (s.poolFree p)).reThrottle
    | none => (s.enWrite off v).reThrottle

/-- CVU. -/
def State.cvuRegWrite (s : State) (off mid : Nat) (gen : BitVec 8) (v : W32) (ue : Bool) : State :=
  if off = R.CVU_TCMD then s.cvuTcmdWrite mid gen v ue
  else if cmdIface off = 3 ∧ s.cvuBusy then s.cvuBusyErr off v
  else s.enWrite off v

/-- REC. -/
def State.recRegWrite (s : State) (off mid : Nat) (gen : BitVec 8) (v : W32) (ue : Bool) : State :=
  if off = R.REC_CMD then s.recCmdWrite mid gen v ue
  else if cmdIface off = 4 ∧ s.recBusy then s.recBusyErr off v
  else if off = R.REC_CTRL then s.recCtrlWrite v
  else if off = R.REC_SWTRIG then s.recTrigger (v.toNat % 64)
  else s.enWrite off v

/-- ECS: ECS_CLEAR[0] keeps what it takes for the write of ECS_CLEAR[1] (R474). -/
def State.ecsRegWrite (s : State) (off mid : Nat) (gen : BitVec 8) (v : W32) : State :=
  if off = R.ECS_CLEAR 1 then s.ecsClearWrite mid gen v
  else if off = R.ECS_CLEAR 0 then s.wr off v
  else s.enWrite off v

/-- PX. -/
def State.pxRegWrite (s : State) (off : Nat) (v : W32) : State :=
  match idxOf off (R.PX_PORT_CTRL 0) 0x4000 144, idxOf off (R.PX_PORT_TSQ_TAG 0) 0x4000 144,
      idxOf off (R.PX_GRP_CTRL 0) 0x1000 12 with
  | some n, _, _ => s.portCtrlWrite n v
  | _, some n, _ => if bitAt v.toNat 30 then s.tsqPop n else s
  | _, _, some g => s.grpCtrlWrite g v
  | _, _, _ => s.enWrite off v

/-- CLU. -/
def State.cluWrite (s : State) (off mid : Nat) (gen : BitVec 8) (v : W32) : State :=
  let c := (off - 0xC00000) / 0x40000
  let rel := off - 0x40000 * c
  if rel = R.CLU_KEEPER 0 then
    s.writeIf (decide (v.toNat % 16 < 9 ∧ ¬ (s.mode F.GLB_MODE_SPARE
      ∧ ¬ s.flag (R.MGT_CORE_STATE c) F.MGT_CORE_STATE_SPARE_USED ∧ v.toNat % 16 = s.spareCore c))) off v
  else if rel = R.CLU_CPQ_CTX 0 then s.writeIf (decide (bitsOf v.toNat 8 11 * 256 < 0x80000)) off v
  else if rel = R.CLU_SPM_CFG 0 then
    s.codeWrite off (if v.toNat % 512 ≤ 440 then v else BitVec.ofNat 32 (putBits v.toNat 0 9 ((s.rd off).toNat % 512)))
  else if rel = R.CLU_SPM_CLEAR 0 then s.spmClearWrite mid gen c v
  else match idxOf rel (R.CLU_CPQ_OWN 0 0) 4 4 with
    | some a => s.ownWrite c a v
    | none =>
      let k := (rel - 0xC01000) / 0x100
      match idxOf rel (R.CLU_THR_CTRL 0 k 0) 4 8 with
      | some t => if k < 9 ∧ 0xC01000 ≤ rel then s.thrCtrlWrite c k t v else s.codeWrite off v
      | none => s.codeWrite off v

/-- A plain write takes effect in the block that owns its register; one to a reserved address has no effect (R10). `ue` says that
a read which the write starts meets an uncorrectable error. -/
def State.blockWrite (s : State) (off mid : Nat) (gen : BitVec 8) (v : W32) (ue : Bool) : State :=
  if (cardAt off).isNone then s else
  (if off < 0x10000 then s.glbWrite off mid v
   else if off < 0x20000 then s.bcnWrite off v
   else if off < 0x30000 then s.mgtWrite off mid gen v ue
   else if off < 0x40000 then s.hifWrite off mid gen v
   else if off < 0x50000 then (if off = R.MLK_CFG then s.mlkCfgWrite v else s.enWrite off v)
   else if off < 0x80000 then s.semWrite off mid gen v
   else if off < 0x100000 then s.odsWrite off v
   else if off < 0x200000 then s.prsRegWrite off mid gen v ue
   else if off < 0x300000 then s.fteRegWrite off mid gen v ue
   else if off < 0x400000 then s.bpmRegWrite off mid v ue
   else if off < 0x500000 then s.cvuRegWrite off mid gen v ue
   else if off < 0x600000 then s.recRegWrite off mid gen v ue
   else if off < 0x700000 then s.enWrite off v
   else if off < 0x800000 then s.ecsRegWrite off mid gen v
   else if off < 0xC00000 then s.pxRegWrite off v
   else s.cluWrite off mid gen v).noteUpdate

/-! ## The router's writes (R692 to R704) -/

/-- Whether an offset is a G register's address A, or its A + 4. -/
def isFirst (off : Nat) : Bool := match cardAt off with | some c => c.guard | none => false
def isSecond (off : Nat) : Bool := (cardAt off).isNone && (complementCard off).isSome

/-- The first write of a pair becomes the pending write of its guarded instance (R700). -/
def State.pairFirst (s : State) (off mid : Nat) (gen : BitVec 8) (v : W32) : State :=
  s.reach off mid gen v (fun t =>
    let p : GuardPend := { off := off, value := v, mid := mid, gen := gen, since := t.time.clock }
    ({ t with guards := t.guards.insert (guardInst off) p } : State))

/-- A write to A + 4 meets what is pending (R701); `off` is A. -/
def State.pairSecond (s : State) (off mid : Nat) (gen : BitVec 8) (v : W32) : State :=
  match s.pendOf (guardInst off) with
  | none => s.guardFail (off + 4) mid gen v 4
  | some p =>
    if p.off = off ∧ p.mid = mid ∧ p.gen = gen ∧ s.inTime p then
      let t := s.endPend (guardInst off)
      if v = ~~~p.value then (t.pairTake off mid gen p.value).noteUpdate else t.guardFail off mid gen p.value 2
    else (s.arrive off).guardFail (off + 4) mid gen v 4

/-- A write comes to the register router. -/
def State.routeWrite (s : State) (off mid : Nat) (gen : BitVec 8) (v : W32) (ue : Bool) : State :=
  if isFirst off then s.pairFirst off mid gen v
  else if isSecond off then
    (match s.turnedAway mid gen off true v with
    | some t => t
    | none =>
      if s.heldWrite off then s.holdDiscard off mid gen v
      else if s.locked ∧ lockMarked off then (s.endOther off).lockDiscard off mid gen v
      else s.pairSecond (off - 4) mid gen v)
  else s.reach off mid gen v (fun t => t.blockWrite off mid gen v ue)

/-- Whether an access that the router turns away is lost or waits, without an answer: nothing is reached in reset, past the host
path's power step, and while a crossing is held. -/
def State.noAnswer (s : State) (mid off : Nat) : Bool :=
  s.inReset || (isHostPath mid && decide (3 ≤ s.fd R.BCN_PWR_STATUS F.BCN_PWR_STATUS_STEP)) || s.xingHeld 41 (islandOf off)

/-- Whether a thread's register store meets an error response (R439, R695, R698). -/
def State.writeErr (s : State) (off mid : Nat) (gen : BitVec 8) (v : W32) : Bool :=
  ((s.turnedAway mid gen off true v).isSome && !s.noAnswer mid off) ||
    (match idxOf off (R.SEM_REL 0) 4 semCount with
     | some n => (s.turnedAway mid gen off true v).isNone && (s.semRel mid gen n).2
     | none => false)

/-- A write of a master comes to the router, and its LSU1 store is answered. -/
def State.writeFrom (s : State) (off mid : Nat) (gen : BitVec 8) (v : W32) (ue : Bool) : State :=
  (s.routeWrite off mid gen v ue).answer mid (LongOp.isRegStore off) [] (s.writeErr off mid gen v)

/-- REGISTER_WRITE (R11): a write to a register. -/
def execRegisterWrite (mid : Nat) (gen : BitVec 8) (off : Nat) (value : W32) (ue : Bool) (s : State) : Out :=
  .next (s.writeFrom off mid gen value ue)

/-- GUARD_FIRST_WRITE (R700). -/
def execGuardFirstWrite (mid : Nat) (gen : BitVec 8) (off : Nat) (value : W32) (s : State) : Out :=
  .next (if isFirst off then s.writeFrom off mid gen value false else s)

/-- GUARD_TIMEOUT (R701): 64 cycles pass without the complement for an instance that holds an offset. -/
def execGuardTimeout (off : Nat) (s : State) : Out :=
  .next (match s.pendOf (guardInst off) with
    | some p => ((s.passTo (p.since + pairCyc)).endPend (guardInst off)).guardFail p.off p.mid p.gen p.value 1
    | none => s)

/-- GUARD_COMPLEMENT_BAD (R701): a write to A + 4 of a G register that completes no pair; `off` is A. -/
def execGuardComplementBad (mid : Nat) (gen : BitVec 8) (off : Nat) (value : W32) (s : State) : Out :=
  .next (if isFirst off ∧ s.takePair off mid gen (~~~value) = none then s.writeFrom (off + 4) mid gen value false else s)

/-- LOCK_WRITE (R704): a write to an L register, or to its A + 4, under LOCK. -/
def execLockWrite (mid : Nat) (gen : BitVec 8) (off : Nat) (value : W32) (s : State) : Out :=
  .next (if s.locked ∧ lockMarked off then s.writeFrom off mid gen value false else s)

/-! ## Reads -/

/-- What a read comes to: a value, an error response, or no answer yet. -/
inductive RdAns where
  | value (v : W32) | error | waits
  deriving DecidableEq, Repr

/-- A register with one field as it stands now. -/
def State.rdWith (s : State) (off : Nat) (f : Fld) (x : Nat) : W32 := (s.wf off f x).rd off

/-- MGT's registers as reads return them. -/
def State.mgtRead (s : State) (off : Nat) : W32 :=
  if off = R.MGT_GEN then s.genRead
  else if off = R.MGT_ELOG_CTRL then s.elogCtrlRead
  else match idxOf off (R.MGT_ELOG_REC 0) 4 8, idxOf off (R.MGT_RCV_STATUS 0) 4 17, idxOf off (R.MGT_CORE_STATE 0) 4 16 with
    | some i, _, _ => s.elogRecRead i
    | _, some r, _ => s.rcvStatusRead r
    | _, _, some c => s.coreStateRead c
    | _, _, _ => s.readValue off

/-- ODS's registers as reads return them. -/
def State.odsRead (s : State) (off : Nat) : W32 :=
  if off = R.ODS_STATUS then s.rdWith off F.ODS_STATUS_FREE s.freeSlots
  else if off = R.ODS_OLD_LIVE then BitVec.ofNat 32 s.oldLive
  else if off = R.ODS_TUSE then s.tuseRead
  else if off = R.ODS_TCFG then (match s.tsel with | some m => BitVec.ofNat 32 (s.tcfg m) | none => 0)
  else match idxOf off (R.ODS_TGMASK 0) 4 2 with
    | some j => (match s.tsel with | some m => BitVec.ofNat 32 (s.tgmask m / 2 ^ (32 * j)) | none => 0)
    | none => s.readValue off

/-- CLU's registers as reads return them. -/
def State.cluRead (s : State) (off : Nat) : W32 :=
  let c := (off - 0xC00000) / 0x40000
  let rel := off - 0x40000 * c
  if rel = R.CLU_DBG 0 ∧ s.locked then 0
  else match idxOf rel (R.CLU_CPQ_OWN 0 0) 4 4 with
    | some a => s.ownRead c a
    | none =>
      let k := (rel - 0xC01000) / 0x100
      match idxOf rel (R.CLU_THR_STATUS 0 k 0) 4 8 with
      | some t =>
        let m := threadMid c k t
        if k < 9 ∧ 0xC01000 ≤ rel then s.thrStatusRead m ((s.thr m).st == 1 && s.bundleWaits m) else s.readValue off
      | none => s.readValue off

/-- A register as a read returns it that changes nothing. -/
def State.readNow (s : State) (off : Nat) : W32 :=
  if off < 0x10000 then s.readValue off
  else if off < 0x20000 then (if off = R.BCN_MGT_STATUS then s.mgtStatusRead else s.readValue off)
  else if off < 0x30000 then s.mgtRead off
  else if off < 0x40000 then s.readValue off
  else if off < 0x50000 then
    (if off = R.MLK_PAIR_STATUS then s.rdWith off F.MLK_PAIR_STATUS_PEER_FAULT (b2n s.peerLow) else s.readValue off)
  else if off < 0x80000 then
    (if off = R.SEM_STATUS then s.semStatusRead
     else match idxOf off (R.SEM_STATE 0) 4 semCount with | some n => s.semStateRead n | none => s.readValue off)
  else if off < 0x100000 then s.odsRead off
  else if off < 0x200000 then s.readValue off
  else if off < 0x300000 then
    (if off = R.FTE_STATUS then s.rdWith off F.FTE_STATUS_AGE_NOW s.fteNow else s.readValue off)
  else if off < 0x400000 then
    (if off = R.BPM_QUOTA then s.quotaRead else if off = R.BPM_QUSE then s.quseRead else s.readValue off)
  else if off < 0x700000 then s.readValue off
  else if off < 0x800000 then
    (if off = R.ECS_RT_ENT then s.rtEntRead else if off = R.ECS_SP_ENT then s.spEntRead
     else match idxOf off (R.ECS_SUS 0) 4 2 with | some w => s.susRead w | none => s.readValue off)
  else if off < 0xC00000 then s.readValue off
  else s.cluRead off

/-- A read takes effect in the block that owns its register: the reads that act are those of the time, of SEM and of an I2C
FIFO. -/
def State.blockRead (s : State) (off mid : Nat) (gen : BitVec 8) : State × RdAns :=
  let ans (r : State × Option W32) : State × RdAns := (r.1, match r.2 with | some w => .value w | none => .waits)
  if off = R.BCN_TIME_NS then (s.timeNsRead.1, .value s.timeNsRead.2)
  else if off = R.BCN_BCNT 0 then (s.bcntRead.1, .value s.bcntRead.2)
  else match idxOf off (R.HIF_I2C_DATA 0) 0x20 4, idxOf off (R.SEM_ACQ 0) 4 semCount, idxOf off (R.SEM_TRY 0) 4 semCount,
      idxOf off (R.SEM_RENEW 0) 4 64 with
    | some i, _, _, _ => ((s.i2cPop i).1, .value (s.i2cPop i).2)
    | _, some n, _, _ => ans (s.semRead mid gen n false)
    | _, _, some n, _ => ans (s.semRead mid gen n true)
    | _, _, _, some j => ((s.leaseRead mid gen j).1, .value (s.leaseRead mid gen j).2)
    | _, _, _, _ => (s, .value (s.readNow off))

/-- A read comes to the register router. A headless device answers the host path's reads of the blocks it does not reach with
ones (R643). -/
def State.routeRead (s : State) (off mid : Nat) (gen : BitVec 8) : State × RdAns :=
  match s.turnedAway mid gen off false 0 with
  | some t =>
    (t, if s.noAnswer mid off then .waits else if s.headless ∧ isHostPath mid then .value 0xFFFFFFFF else .error)
  | none => s.blockRead off mid gen

/-- REG_DENIED (R695): a thread's access outside the rights of R694 ends with an error response. -/
def execRegDenied (mid : Nat) (gen : BitVec 8) (off : Nat) (write : Bool) (value : W32) (s : State) : Out :=
  .next (
    if ¬ midDefined mid ∨ s.noAnswer mid off ∨ s.headless ∨ s.pathRights mid off write then s
    else if write then s.writeFrom off mid gen value false
    else (s.routeRead off mid gen).1.answer mid (LongOp.isRegLoad off) [] true)

end Sys2Proof.Machine
end

