-- ==== Sys2Proof/Machine/TxnRun.lean ====
section
/-! DEFINITION. The transaction engine where it reaches every register (19_modes_transactions): CHECK, LOADING, the arrival of
MARK and ABORT at ODS, the commit point, the end of the drain. -/
namespace Sys2Proof.Machine
open Sys2Proof

/-! ## Entries (R608) -/

/-- The offset, and the marks GUARD and VERIFY, of an entry. -/
def TxnEnt.off (e : TxnEnt) : Nat := e.word0.toNat % 2 ^ 24
def TxnEnt.guard (e : TxnEnt) : Bool := bitAt e.word0.toNat 31
def TxnEnt.verify (e : TxnEnt) : Bool := bitAt e.word0.toNat 30

/-- The MID under which MGT writes registers itself. -/
def mgtMid : Nat := 0x808

/-- A command that MGT started runs to its end. -/
def State.finishCmd (s : State) (off : Nat) : State :=
  let past (o : Out) : State := match o with | .next t => t | _ => s
  if off = R.PRS_TCMD then past (execPrsCommandDone s)
  else if off = R.FTE_TCMD then past (execFteCommandDone s)
  else s

/-- MGT writes an entry, whatever LOCK holds (R606, R609): a guarded pair as value, then complement; a first write alone fails
(R701). -/
def State.mgtDeliver (s : State) (e : TxnEnt) : State :=
  let gen := s.genOf mgtMid
  if isFirst e.off then
    (if e.guard then s.pairTake e.off mgtMid gen e.value else s.guardFail e.off mgtMid gen e.value 1)
  else
    let was := s.fd R.GLB_MODE F.GLB_MODE_LOCK
    let t := (s.wf R.GLB_MODE F.GLB_MODE_LOCK 0).blockWrite e.off mgtMid gen e.value false
    let u := if e.guard then t.blockWrite (e.off + 4) mgtMid gen (~~~e.value) false else t
    u.wf R.GLB_MODE F.GLB_MODE_LOCK was

/-- The result of the table command that was delivered last: 0 is OK. -/
def State.cmdFailed (s : State) (off : Nat) : Nat :=
  if off = R.PRS_TCMD then s.fd R.PRS_TSTAT F.PRS_TSTAT_RESULT
  else if off = R.FTE_TCMD then s.fd R.FTE_TSTAT F.FTE_TSTAT_RESULT else 0

/-! ## CHECK (R606, R614, R625) -/

/-- The records by which a unit refuses a write (R70, R71, R124, R173, R180, R211, R414, R452, R466, R473, R512). -/
def refusalCodes : List Nat :=
  [0x0801, 0x0802, 0x1008, 0x1806, 0x200B, 0x280B, 0x3804, 0x5007, 0x5009, 0x5806, 0x600F]

/-- Whether MGT itself refuses an entry: one that clears LOCK in PRODUCTION, or EN of a pool. -/
def State.mgtRefuses (s : State) (e : TxnEnt) : Bool :=
  (decide (e.off = R.GLB_MODE ∧ s.fuse.lc = 2) && s.locked && !bitAt e.value.toNat F.GLB_MODE_LOCK.lo)
    || (List.range 8).any (fun p => decide (e.off = R.BPM_POOL_SIZE p) && s.flag (R.BPM_POOL_SIZE p) F.BPM_POOL_SIZE_EN
          && !bitAt e.value.toNat F.BPM_POOL_SIZE_EN.lo)

/-- The code with which an entry is refused after the earlier ones, and the device as it would then be. -/
def State.checkOne (s : State) (e : TxnEnt) : Option Nat × State :=
  if s.mgtRefuses e then (some 0, s)
  else
    let t := (({ s with err := [] } : State).mgtDeliver e).finishCmd e.off
    let seen := (t.err.flatMap (fun u => u.2.q)).map (fun r => r.code.toNat)
    (seen.find? (fun c => refusalCodes.contains c), t)

/-- The first refusal among entries from index `i` on. -/
def State.checkAll (s : State) (i : Nat) : List TxnEnt → Option (Nat × Nat × TxnEnt)
  | [] => none
  | e :: es => match s.checkOne e with
    | (some c, _) => some (i, c, e)
    | (none, t) => State.checkAll t (i + 1) es

/-- Show the entry at which a transaction is refused (R614). -/
def State.failAt (s : State) (code sev i c : Nat) (e : TxnEnt) : State :=
  (s.wf R.MGT_TXN_STATUS F.MGT_TXN_STATUS_FAIL_INDEX i).raise
    (mkErr 14 0 code sev 3 e.off 0 0 (i + c * 2 ^ 16) s.txnNum.toNat)

/-- TXN_CHECK (R614): the previous epoch has drained, and MGT presents each entry to its unit. -/
def execTxnCheck (s : State) : Out :=
  .next (
    if s.txnState ≠ 2 ∨ s.oldLive ≠ 0 then s
    else match s.checkAll 0 s.txn.entries with
      | some (i, c, e) => (s.failAt 0x7102 0 i c e).txnEnd 2
      | none => s.setTxn 3)

/-! ## LOADING (R610, R611, R614, R619) -/

/-- Whether the L2 command that FTE_TCMD's value names concerns a STATIC entry. -/
def State.staticCmd (s : State) (op : Nat) : Bool :=
  if op = 4 then
    (match s.l2Find (leNat (s.fteStaged 8)) with | some (_, e) => e1Static e | none => false)
  else (op == 2 || op == 3 || op == 8) && bitAt (s.rd (R.FTE_TBUF 3)).toNat 30

/-- Whether an entry is viewed (R611), as the entries before it leave the units. -/
def State.viewedEnt (s : State) (e : TxnEnt) : Bool :=
  let t := bitsOf e.value.toNat 8 5
  if e.off = R.PRS_TCMD then decide (t ≤ 12)
  else if e.off = R.FTE_TCMD then decide (1 ≤ t ∧ t ≤ 9) || (t == 0 && s.staticCmd (bitsOf e.value.toNat 0 4))
  else match cardAt e.off with
    | none => false
    | some c =>
      c.txn && !c.guard && (decide (0x100000 ≤ e.off ∧ e.off < 0x300000)
        || (idxOf e.off (R.ODS_NODE_A 0) 4 64).isSome || (idxOf e.off (R.ODS_NODE_B 0) 4 64).isSome
        || (idxOf e.off (R.ODS_NODE_C 0) 4 64).isSome || (idxOf e.off (R.ODS_QCFG 0) 4 1024).isSome)

/-- Whether an entry writes a data register of a table command of PRS or FTE, which the command behind it reads. -/
def dataEnt (e : TxnEnt) : Bool :=
  (cmdIface e.off == 1 && e.off != R.PRS_TCMD) || (cmdIface e.off == 2 && e.off != R.FTE_TCMD)

/-- The data registers of FTE's command interface as entries, for a command that waits for the commit point. -/
def State.fteData (s : State) : List TxnEnt :=
  (R.FTE_TIDX :: (List.range 32).map (fun i => R.FTE_TBUF i)).map (fun o => { word0 := BitVec.ofNat 32 o, value := s.rd o })

/-- The registers that an old-view store keeps of an entry at an offset: its own, and the short masks that its command moves. -/
def storedRegs (off : Nat) : List Nat :=
  if off = R.FTE_TCMD then [R.FTE_LPM4_SHORT, R.FTE_LPM6_SHORT 0, R.FTE_LPM6_SHORT 1]
  else if off = R.PRS_TCMD then [] else [off]

/-- What a delivery from `s` to `t` replaces enters the old-view store, unless the store holds it already (R610). -/
def State.keepOld (s t : State) (off : Nat) : State :=
  let regs := (storedRegs off).filter (fun o => s.rd o != t.rd o && !t.txn.oldRegs.any (fun p => p.1 == o))
  let keys := ((s.mem.map (·.1)) ++ (t.mem.map (·.1))).eraseDups.filter (fun k =>
    SMap.get memDefault s.mem k != SMap.get memDefault t.mem k && !t.txn.oldMem.any (fun p => p.1 == k))
  { t with txn := { t.txn with
      oldRegs := regs.foldl (fun m o => SMap.insert m o (some (s.rd o))) t.txn.oldRegs,
      oldMem := keys.foldl (fun m k => SMap.insert m k (some (SMap.get memDefault s.mem k))) t.txn.oldMem } }

/-- Hold entries pending until the commit point (R611). -/
def State.holdEnts (s : State) (es : List TxnEnt) : State := { s with txn := { s.txn with pend := s.txn.pend ++ es } }

/-- One entry of LOADING: delivered, or held pending; `some` code where its command ends other than OK. -/
def State.loadOne (s : State) (e : TxnEnt) : State × Option Nat :=
  let s1 := s.count (R.MGT_MTX_CNT 5)
  if dataEnt e then (s1.mgtDeliver e, none)
  else if s1.viewedEnt e then
    let t := s1.keepOld ((s1.mgtDeliver e).finishCmd e.off) e.off
    (t, if t.cmdFailed e.off = 0 then none else some (t.cmdFailed e.off))
  else if e.off = R.FTE_TCMD then (s1.holdEnts (s1.fteData ++ [e]), none)
  else (s1.holdEnts [e], none)

/-- Deliver the entries from index `i` on; a failure stops it. `ue` is the index of an entry that meets an uncorrectable error. -/
def State.loadAll (s : State) (ue : Option Nat) (i : Nat) : List TxnEnt → State × Option (Nat × Nat × TxnEnt)
  | [] => (s, none)
  | e :: es =>
    if ue = some i then (s, some (i, 5, e))
    else match s.loadOne e with
      | (t, some c) => (t, some (i, c, e))
      | (t, none) => State.loadAll t ue (i + 1) es

/-- The first VERIFY entry, of those delivered, whose register does not read back as it must. -/
def State.verifyBad (s : State) : Option (Nat × Nat × TxnEnt) :=
  (s.txn.entries.zipIdx.find? (fun p => p.1.verify && !s.txn.pend.contains p.1
    && decide ((s.readNow p.1.off ^^^ p.1.value) &&& p.1.mask ≠ 0))).map (fun p => (p.2, 0, p.1))

/-- LOADING has failed: the ABORT cell is on its way (R617, R619). -/
def State.loadFailed (s : State) (i c : Nat) (e : TxnEnt) : State :=
  let t := s.failAt 0x7103 2 i c e
  (({ t with txn := { t.txn with inject := [0, 1, 2, 3], ender := 2 } } : State).setTxn 7).answerAsked

/-- LOADING has succeeded: the MARK is signalled, or the transaction waits for the decision of a chained commit. -/
def State.loadedOk (s : State) : State :=
  if ¬ s.txn.load then s.signalMark
  else
    let t := s.setTxn 4
    if t.txn.chain then t.chainPrepare else t.answerAsked

/-- TXN_LOADING_DONE (R614): every entry is delivered. It waits for the command interfaces of PRS and FTE. -/
def execTxnLoadingDone (ue : Option Nat) (s : State) : Out :=
  .next (
    if s.txnState ≠ 3 ∨ s.prsBusy ∨ s.fteBusy then s
    else
      let s1 : State := { s with txn := { s.txn with viewNew := some s.newEpoch } }
      match s1.loadAll ue 0 s.txn.entries with
      | (t, some (i, c, e)) => t.loadFailed i c e
      | (t, none) => match t.verifyBad with
        | some (i, c, e) => t.loadFailed i c e
        | none => t.loadedOk)

/-! ## The commit point (R251, R615 to R617) -/

/-- Every unit applies its pending commit entries in staging order (R616). -/
def State.applyPend (s : State) : State :=
  s.txn.pend.foldl (fun t e => (t.mgtDeliver e).finishCmd e.off) { s with txn := { s.txn with pend := [] } }

/-- What the commit point means for the Molma link: a first common commit completes SYNC (R622), and a hand-over ends (R588). -/
def State.linkCommit (s : State) : State :=
  let t := if s.mlkState = 4 ∧ s.txn.load then (s.setMlk { s.mlk with synced := true, retryFrom := none }).setMlkState 5 else s
  if t.txnNum = 0xFFFFFFFF ∧ t.mlk.taking.isSome then t.handoverDone else t

/-- The commit point (R616): the MARK's epoch is current, pending entries apply, event 11 and vector 3 are raised, SPARE acts. -/
def State.commitPoint (s : State) (e : BitVec 8) : State :=
  let s1 : State := { s with epoch := e, ods := { s.ods with liveNew := none } }
  let s2 := ((s1.wf R.ODS_STATUS F.ODS_STATUS_EPOCH e.toNat).setTxn 6).applyPend
  ((((s2.eventAll 11).irq 3).spareCommit).linkCommit).reThrottle

/-- The ABORT cell ends: every unit has restored its live state (R617). -/
def State.abortEnd (s : State) : State :=
  let s1 : State := { s with ods := { s.ods with liveNew := none } }
  (((s1.txnRestore).txnEnd s.txn.ender).irq 3).noteUpdate.reThrottle

/-- The copies of a MARK or an ABORT that stand at ODS for a cell. -/
def State.copiesOf (s : State) (f : Flight) : List Flight :=
  s.ods.marks.filter (fun g => g.tok.ctype == f.tok.ctype && g.tok.epoch == f.tok.epoch && g.tok.cresult == f.tok.cresult)

/-- All four copies have arrived: ODS ends the cell, which frees its slots (R41, R251). -/
def State.cellEnd (s : State) (f : Flight) : State :=
  let cs := s.copiesOf f
  let rest := s.ods.marks.filter (fun g => !cs.contains g)
  let t := cs.foldl (fun t g => t.dropSlot g.tok.id.toNat) ({ s with ods := { s.ods with marks := rest } } : State)
  if f.tok.ctype = 1 ∧ t.txnState = 5 then t.commitPoint f.tok.epoch
  else if f.tok.ctype = 2 ∧ t.txnState = 7 then t.abortEnd
  else t

/-- A copy of a MARK or ABORT reaches ODS. -/
def State.markTake (s : State) (f : Flight) : State :=
  let live := if f.tok.ctype = 1 then some f.tok.epoch else s.ods.liveNew
  let t : State := { s with ods := { s.ods with marks := s.ods.marks ++ [f], liveNew := live } }
  if 4 ≤ (t.copiesOf f).length then t.cellEnd f else t

/-- MARK_ARRIVE (R251): the head of what stands before ODS on a pipeline is a MARK or an ABORT. -/
def execMarkArrive (pl : Nat) (s : State) : Out :=
  .next (match (s.pipe pl).toOds with
    | f :: rest =>
      if 4 ≤ pl ∨ (f.tok.ctype ≠ 1 ∧ f.tok.ctype ≠ 2) then s
      else (s.setPipe pl { (s.pipe pl) with toOds := rest }).markTake f
    | [] => s)

/-- EPOCH_DRAINED (R251, R614): no token of the old epoch remains; the stores empty and the transaction is COMMITTED. -/
def execEpochDrained (s : State) : Out :=
  .next (
    if s.txnState ≠ 6 ∨ s.oldLive ≠ 0 then s
    else ({ s with txn := { s.txn with oldRegs := [], oldMem := [], viewNew := none } } : State).txnEnd 1)

end Sys2Proof.Machine
end

