-- ==== Sys2Proof/Machine/Boot.lean ====
section
/-! DEFINITION. Start-up (17_startup_finone): the ten steps, the choice and the checks of a slot, authentication, the
application of sections, the release of the clusters, and what happens when a slot fails. -/
namespace Sys2Proof.Machine
open Sys2Proof

/-- CRC-32 of this chapter: preset 0 of R396 with seed 0 (R552). -/
def imgCrc (bs : List Byte) : Nat := (presetOf 0).value 0 bs

/-- Start-up goes on: STATE is BOOTING, nothing holds the device in reset or failed its first step, and the slot stands. -/
def State.booting (s : State) : Bool := !s.inReset && s.bootState == 0 && s.bcn.faults % 2 == 0 && !s.boot.failed

/-- The start fails for good. -/
def State.bootFailed (s : State) : State := s.setBootState 3

/-! ## Steps 1 to 3 (R548, R728) -/

/-- PERST_N_RISE (R728). -/
def execPerstNRise (s : State) : Out := .next (s.setBoot { s.boot with perst := true })

/-- BEACON_UP (R548). -/
def execBeaconUp (s : State) : Out := .next (if s.booting ∧ s.bootStep = 0 then s.stepDone 1 else s)

/-- FUSE_SENSE (R548); `ok` says that the fuses pass their check. -/
def execFuseSense (ok : Bool) (s : State) : Out :=
  .next (
    if ¬ s.booting ∨ s.bootStep ≠ 1 then s
    else if ok then s.showFuses.stepDone 2 else s.bootFailed)

/-- The memories that the fill of R467 writes with zeros. -/
def sramSpace (a : Nat) : Bool :=
  let k := a / 2 ^ 44
  k == 1 || k == 2 || k == 5 || k == 6 || decide (16 ≤ k ∧ k < 48)

/-- The SRAM fill starts (R467): the arrays read zeros with valid ECC. -/
def State.sramFill (s : State) : State :=
  ({ s with mem := s.mem.filter (fun c => !sramSpace c.1), spmBad := s.spmBad.filter (fun k => decide (17 * 2 ^ 20 ≤ k)),
            ecs := { s.ecs with bad := [] } } : State).wf R.ECS_STATUS F.ECS_STATUS_SRAM_DONE 0

/-- Step 3: the boot ROM writes vault page 0 from fuses and hides it; in BLANK start-up stops here (R563). -/
def State.romEntry (s : State) : State :=
  let t := (s.sramFill.page0Back).stepDone 3
  if t.fuse.lc = 0 then t.setBootState 4 else t

/-- BOOT_ROM_ENTRY (R548): step 3, or a RETRY that waited for the flash controller (R567). -/
def execBootRomEntry (s : State) : Out :=
  .next (
    if s.boot.retry ∧ s.low.spifOp.isNone ∧ ¬ s.inReset then ((s.restartBoot 2).holdFault 1 false).romEntry
    else if s.booting ∧ s.bootStep = 2 then s.romEntry else s)

/-! ## Headers (R550 to R552) -/

/-- Byte fields of the flash. -/
def State.fl (s : State) (a n : Nat) : Nat := s.ldN .flash a n

/-- The flash byte at which a slot starts: 1 for A, 2 for B. -/
def State.slotBase (s : State) (k : Nat) : Nat := if k = 1 then 0 else s.low.flashSize / 2

/-- FLAGS.SINGLE of slot A's header. -/
def State.slotSingle (s : State) : Bool := bitAt (s.fl 14 2) 0

/-- Whether a slot's header is valid (R551). -/
def State.headerOk (s : State) (k : Nat) : Bool :=
  let b := s.slotBase k
  let room := if k = 1 ∧ s.slotSingle then s.low.flashSize else s.low.flashSize / 2
  decide (64 ≤ room) && s.fl b 4 == 0x4E494E46 && s.fl (b + 4) 2 == 1 && s.fl (b + 6) 2 == 64
    && s.fl (b + 60) 4 == imgCrc (s.bytes .flash b 60) && decide (s.fl (b + 8) 4 ≤ room ∧ s.fl (b + 8) 4 ≤ 234881024)

/-- The slots whose headers the boot ROM reads: B only where a valid A does not fill the flash (R550). -/
def State.slotsSeen (s : State) : List Nat := if s.headerOk 1 && s.slotSingle then [1] else [1, 2]

/-- The slots that may be tried, the one to try first at the head (R551). -/
def State.slotsValid (s : State) : List Nat :=
  let l := s.slotsSeen.filter (fun k => s.headerOk k && !s.boot.tried.contains k)
  if l.length = 2 ∧ s.fl 16 4 < s.fl (s.slotBase 2 + 16) 4 then [2, 1] else l

/-! ## Failures (R566) -/

/-- A slot fails with a record; SLOT_FAIL follows. -/
def State.slotFails (s : State) (r : ErrRec) : State :=
  let t := s.bootErr r
  t.setBoot { t.boot with failed := true }

/-- No image starts: WAIT_IMAGE (R566). -/
def State.noImage (s : State) : State :=
  ((((s.wf R.MGT_BOOT_STATUS F.MGT_BOOT_STATUS_SLOT 0).bootErr (bootRec 0x7009 4)).setBootState 2).holdFault 1 true).setBoot
    { s.boot with failed := false, sections := [], next := 0, regions := [] }

/-- The registers that a slot's failure leaves: those of BCN's and MGT's islands, and the endpoint's status. -/
def failKeeps (off : Nat) : Bool := islandOf off == 44 || islandOf off == 41 || off == R.HIF_PCIE_STATUS

/-- Every island but BCN and MGT is reset, with the endpoint and the SPI target left open, and SRAM is refilled (R566). -/
def State.resetIslands (s : State) : State :=
  ({ State.reset with
    pending := s.pending, free := s.free, time := s.time, err := s.err, rate := s.rate, gens := s.gens, lastGens := s.lastGens,
    guards := s.guards.filter (fun e => failKeeps e.1), regs := s.regs.filter (fun e => failKeeps e.1),
    live := s.live.filter (fun e => failKeeps e.1), tally := s.tally, msix := s.msix, sems := s.sems, wipes := s.wipes,
    mem := s.mem.filter (fun c => decide (2 ^ 44 ≤ c.1)), spmBad := s.spmBad, ecs := s.ecs, bcn := { s.bcn with curve := [], point := [], want := [] }, fuse := s.fuse,
    boot := s.boot, rcv := s.rcv, hif := s.hif, low := s.low } : State).sramFill

/-- SLOT_FAIL (R566): a slot that failed. -/
def execSlotFail (s : State) : Out :=
  .next (
    if ¬ s.boot.failed ∨ s.inReset ∨ s.bootState ≠ 0 then s
    else
      let k := s.fd R.MGT_BOOT_STATUS F.MGT_BOOT_STATUS_SLOT
      let b : BootSt := { s.boot with
        failed := false, tried := s.boot.tried ++ [k], sections := [], next := 0, regions := [], entries := [], txRel := [],
        coded := 0 }
      let t := (s.setBoot b).resetIslands
      if t.slotsValid = [] then t.noImage
      else (t.wf R.MGT_BOOT_STATUS F.MGT_BOOT_STATUS_FALLBACK 1).stepDone 3)

/-! ## Step 4 (R553 to R555) -/

/-- An entry of the section table at flash byte `a`. -/
def State.sectionAt (s : State) (a : Nat) : Section :=
  { typ := s.fl a 2, off := s.fl (a + 4) 4, len := s.fl (a + 8) 4, dest := s.fl (a + 12) 8, crc := s.fl (a + 20) 4,
    param := s.fl (a + 24) 8 }

/-- The section table of an image at flash byte `b`. -/
def State.sectionsAt (s : State) (b : Nat) : List Section :=
  (List.range (s.fl (b + 12) 2)).map (fun i => s.sectionAt (b + 64 + 32 * i))

/-- The index of the first section that does not lie as R553 and R554 say, behind `from_`. -/
def placedBad (last : Nat) : Nat → Nat → List Section → Option Nat
  | _, _, [] => none
  | i, from_, x :: xs =>
    if x.off % 64 ≠ 0 ∨ x.off < from_ ∨ last < x.off + x.len ∨ x.typ = 0 ∨ 9 < x.typ then some i
    else placedBad last (i + 1) (x.off + x.len) xs

/-- A section's failure (R568). -/
def sectionRec (code i : Nat) (x : Section) (more : Nat := 0) : ErrRec := bootRec code 2 5 i (x.typ + more * 2 ^ 16)

/-- The failure of a slot's image in step 4: its record. `n` stands for a check that the spec does not number. -/
def State.imageBad (s : State) (b n : Nat) : Option ErrRec :=
  let len := s.fl (b + 8) 4
  let secs := s.sectionsAt b
  if secs.length = 0 ∨ 4096 < secs.length ∨ len % 64 ≠ 0 ∨ len < 64 + 32 * secs.length + 256 then
    some (bootRec 0x7002 2 0 0 (n % 256 * 2 ^ 16))
  else if s.fl (b + 40) 4 ≠ imgCrc (s.bytes .flash (b + 64) (32 * secs.length)) then some (bootRec 0x7003 2)
  else match placedBad (len - 256) 0 (64 + 32 * secs.length) secs with
    | some i => some (sectionRec 0x7002 i (secs.getD i {}) (n % 256))
    | none => ((secs.zipIdx).find? (fun p => imgCrc (s.bytes .flash (b + p.1.off) p.1.len) != p.1.crc)).map
        (fun p => sectionRec 0x7003 p.2 p.1)

/-- Write bytes into the staging space from a staging byte on (R555). -/
def State.stage (s : State) (a : Nat) (bs : List Byte) : State :=
  let n := 2 ^ 27 - a
  (s.setBytes .packet a (bs.take n)).setBytes .table (a + min n bs.length - 2 ^ 27) (bs.drop n)

/-- A byte of the staging space. -/
def State.staged (s : State) (a : Nat) : Byte := if a < 2 ^ 27 then s.byte .packet a else s.byte .table (a - 2 ^ 27)

/-- The chosen slot's image goes into staging, with its checks. -/
def State.readSlot (s : State) (k : Nat) : State :=
  let b := s.slotBase k
  let t := s.wf R.MGT_BOOT_STATUS F.MGT_BOOT_STATUS_SLOT k
  match t.imageBad b t.freeWord.toNat with
  | some r => t.tookFree.slotFails r
  | none =>
    let x : BootSt := { t.boot with
      base := b, imgLen := t.fl (b + 8) 4, sections := t.sectionsAt b, next := 0, featReq := BitVec.ofNat 64 (t.fl (b + 24) 8),
      imgSvn := t.fl (b + 20) 1, svnCommit := bitAt (t.fl (b + 14) 2) 1, keySlot := t.fl (b + 21) 1,
      serialBind := BitVec.ofNat 64 (t.fl (b + 32) 8), regions := [] }
    ((t.setBoot x).stage 0 (t.bytes .flash b x.imgLen)).stepDone 4

/-- Headers that are read and are not valid leave IMG_HDR records. -/
def State.headersRead (s : State) : State :=
  (s.slotsSeen.filter (fun k => !s.headerOk k && !s.boot.tried.contains k)).foldl (fun t k =>
    (t.wf R.MGT_BOOT_STATUS F.MGT_BOOT_STATUS_SLOT k).tookFree.bootErr (bootRec 0x7002 2 0 0 (t.freeWord.toNat % 256 * 2 ^ 16))) s

/-- IMAGE_READ (R555): SFDP shows a flash of `size` bytes (0: none) with the erase types given; a slot is chosen and read. -/
def execImageRead (size erase : Nat) (s : State) : Out :=
  .next (
    if ¬ s.booting ∨ s.bootStep ≠ 3 ∨ ¬ s.flag R.ECS_STATUS F.ECS_STATUS_SRAM_DONE then s
    else
      let t : State := { s with low := { s.low with flashSize := size, flashErase := erase % 4 } }
      if size = 0 then (t.bootErr (bootRec 0x7001 2)).noImage
      else
        let u := t.headersRead
        match u.slotsValid with
        | k :: _ => u.readSlot k
        | [] => u.noImage)

/-! ## Step 5 (R559 to R562) -/

/-- The transitions that an LC section may make (R561), and a revocation in the same state. -/
def lcAllowed (from_ tgt : Nat) : Bool :=
  (from_ == tgt && from_ != 0) || (from_ == 1 && (tgt == 2 || tgt == 4)) || (from_ == 2 && (tgt == 3 || tgt == 4)) || (from_ == 3 && tgt == 4)

/-- Target state and revocations of an LC section. -/
def State.lcBody (s : State) (x : Section) : Nat × Nat :=
  let b := s.sectionBody x
  ((b.getD 0 0).toNat, (b.getD 1 0).toNat % 16)

/-- Whether R559 check 7 allows an LC section. -/
def State.lcOk (s : State) (x : Section) : Bool :=
  let (t, r) := s.lcBody x
  x.len == 16 && lcAllowed s.fuse.lc t && !(s.boot.keySlot < 4 && bitAt r s.boot.keySlot) && Nat.lor s.fuse.revoked r % 16 != 15
    && s.boot.serialBind != 0

/-- Whether an LC section changes anything (R562). -/
def State.lcActs (s : State) (x : Section) : Bool :=
  let (t, r) := s.lcBody x
  t != s.fuse.lc || Nat.lor s.fuse.revoked r != s.fuse.revoked

/-- The owner slot or return key that KEY_SLOT names, where R559 check 2 allows it. -/
def State.keyNamed (s : State) : Option Nat :=
  let k := s.boot.keySlot
  let has (i : Nat) := s.fuse.keys.any (fun e => e.1 == i)
  if (s.fuse.lc = 1 ∨ s.fuse.lc = 2) ∧ k < 4 ∧ has k ∧ ¬ bitAt s.fuse.revoked k then some k
  else if s.fuse.lc = 3 ∧ k = 0x80 ∧ has 4 then some 4 else none

/-- The first check of R559 that fails: its number. `hashOk` and `sigOk` are the outcomes of checks 3 and 4. -/
def State.authFails (s : State) (hashOk sigOk : Bool) : Option Nat :=
  if ¬ (1 ≤ s.fuse.lc ∧ s.fuse.lc ≤ 3) then some 1
  else if s.keyNamed.isNone then some 2
  else if ¬ hashOk then some 3
  else if ¬ sigOk then some 4
  else if s.boot.imgSvn < s.fuse.svn then some 5
  else if s.boot.serialBind ≠ 0 ∧ s.boot.serialBind ≠ s.fuse.serial then some 6
  else if (s.boot.sections.filter (fun x => x.typ == 9)).any (fun x => !s.lcOk x) then some 7
  else none

/-- The record of a failed check (R559, R568). -/
def State.authRec (s : State) (n : Nat) : ErrRec :=
  if n ≤ 4 then bootRec 0x7004 2 0 0 (n * 2 ^ 16)
  else if n = 5 then bootRec 0x7005 2 0 0 (s.boot.imgSvn * 2 ^ 16)
  else bootRec 0x7006 2 0 0 (n * 2 ^ 16)

/-- What MGT_IMG_INFO shows of an accepted image. -/
def State.showImage (s : State) : State :=
  (s.wr (R.MGT_IMG_INFO 0) (BitVec.ofNat 32 (s.fl (s.boot.base + 16) 4))).wr (R.MGT_IMG_INFO 1)
    (BitVec.ofNat 32 (s.boot.imgSvn % 256 + s.boot.keySlot % 256 * 2 ^ 8 + s.boot.sections.length % 4096 * 2 ^ 16))

/-- The populated channels begin training (R450). -/
def State.startTraining (s : State) (populated : Nat) : State :=
  (chansOf populated).foldl (fun t n => t.setCh n 1) s

/-- IMAGE_AUTH (R559): the key's hash equals the fused one or not, the signature verifies or not, the fuses that R562 programs
verify or not, and the DRAM channels that carry DIMMs. -/
def execImageAuth (hashOk sigOk fuseOk : Bool) (populated : Nat) (s : State) : Out :=
  .next (
    if ¬ s.booting ∨ s.bootStep ≠ 4 then s
    else match s.authFails hashOk sigOk with
      | some n => s.slotFails (s.authRec n)
      | none =>
        let t := s.showImage.stepDone 5
        match (t.boot.sections.filter (fun x => x.typ == 9)).find? t.lcActs with
        | some x => t.lcChange (t.lcBody x).1 (t.lcBody x).2 fuseOk
        | none => t.startTraining populated)

/-! ## Timeouts (R548) -/

/-- The timeout of a step in milliseconds; 0 for none. -/
def stepTmo (n : Nat) : Nat := match n with | 1 => 10 | 2 => 5 | 3 => 10 | 4 => 3000 | 5 => 100 | 7 => 4000 | _ => 0

/-- BOOT_TMO (R548): the step in progress overruns its timeout. -/
def execBootTmo (s : State) : Out :=
  .next (
    let n := s.bootStep + 1
    if ¬ s.booting ∨ stepTmo n = 0 then s
    else
      let r := bootRec 0x7008 2 0 0 (n * 2 ^ 16)
      let t := s.passTo (s.boot.stepAt + stepTmo n * msCyc)
      if n = 1 then (t.bootErr r).holdFault 0 true
      else if n = 4 ∨ n = 5 then t.slotFails r
      else (t.bootErr r).bootFailed)

/-! ## Step 7: regions (R556) -/

/-- Whether a region of the staging space meets the body of a section still to come. -/
def State.hitsStaged (s : State) (r : Nat × Nat) : Bool :=
  (s.boot.sections.drop (s.boot.next + 1)).any (fun x => decide (r.1 < x.off + x.len ∧ x.off < r.1 + r.2 ∧ 0 < x.len ∧ 0 < r.2))

/-- The regions that an accepted pair on an offset names, in staging bytes. -/
def State.pairRegions (s : State) (off : Nat) : List (Nat × Nat) :=
  let tab (r : Nat × Nat) : Nat × Nat := (2 ^ 27 + r.1, r.2)
  match (List.range 8).find? (fun p => off == R.BPM_POOL_SIZE p || off == R.BPM_POOL_BASE p || off == R.BPM_POOL_META p),
      idxOf off (R.PRS_PROF_CTRL 0) 8 8, idxOf off (R.FTE_LAYOUT 0) 8 10 with
  | some p, _, _ =>
    if s.poolSpace p = .packet then [(s.poolBase p, s.poolCount p * s.poolBytes p), (s.metaAddr p 0, s.poolCount p * 4)] else []
  | _, some p, _ => [tab (profRange (s.rd (R.PRS_PROF_CTRL p)).toNat)]
  | _, _, some k => [tab (fteRange k (s.rd (R.FTE_LAYOUT k)).toNat)]
  | _, _, _ =>
    let log := s.fd R.ODS_STORE F.ODS_STORE_LOG
    if off = R.ODS_STORE then [(bitsOf (s.rd R.ODS_STORE).toNat 20 7 * 2 ^ 20, 2 ^ log * 64)]
    else if off = R.ODS_FLOWMEM then [tab (s.fd R.ODS_FLOWMEM F.ODS_FLOWMEM_BASE * 65536, 2 ^ 24 + 2 ^ log * 16)]
    else []

/-- Keep regions for R558. -/
def State.addRegions (s : State) (rs : List (Nat × Nat)) : State := s.setBoot { s.boot with regions := s.boot.regions ++ rs }

/-! ## Step 7: sections (R554 to R557). `inl i` is a failure at entry `i` -/

/-- A PRESET entry: `none` where R557 stops. LOCK, where an earlier preset has set it, holds for it as for a plain write. -/
def State.presetOne (s : State) (e : TxnEnt) : Option State :=
  let rel := (List.range 12).find? (fun g => e.off == R.PX_GRP_CTRL g && bitAt e.value.toNat F.PX_GRP_CTRL_TX_RELEASE.lo)
  let e : TxnEnt := { e with value := if rel.isSome then e.value &&& 0x7FFFFFFF else e.value,
                             mask := if rel.isSome then e.mask &&& 0x7FFFFFFF else e.mask }
  let gen := s.genOf mgtMid
  if s.locked ∧ lockMarked e.off then some (s.lockDiscard e.off mgtMid gen e.value)
  else
    let probe := ((({ s with err := [] } : State).mgtDeliver e).err.flatMap (fun u => u.2.q)).map (fun r => r.code.toNat)
    let t := (s.mgtDeliver e).finishCmd e.off
    let u := t.setBoot { t.boot with txRel := t.boot.txRel ++ rel.toList }
    let rs := if isFirst e.off then u.pairRegions e.off else []
    if (isFirst e.off && probe.any (fun c => refusalCodes.contains c)) || rs.any u.hitsStaged
        || (e.verify && decide ((u.readNow e.off ^^^ e.value) &&& e.mask ≠ 0)) then none
    else some (u.addRegions rs)

/-- The entries of a PRESET body. -/
def presetEnts (bs : List Byte) : List TxnEnt :=
  (List.range (bs.length / 12)).map (fun i =>
    let w (k : Nat) : W32 := BitVec.ofNat 32 (leNat ((bs.drop (12 * i + 4 * k)).take 4))
    { word0 := w 0, value := w 1, mask := w 2 })

/-- PRESET. -/
def State.presets (s : State) (i : Nat) : List TxnEnt → Nat ⊕ State
  | [] => .inr s
  | e :: es => match s.presetOne e with
    | some t => State.presets t (i + 1) es
    | none => .inl i

/-- CODE: whole bundles into each instruction RAM that PARAM names. -/
def State.codeSection (s : State) (x : Section) (body : List Byte) : Nat ⊕ State :=
  let cs := (List.range 17).filter (bitAt x.param)
  let n := body.length / 16
  match cs.find? (fun c => decide (lastIdx c + 1 < x.dest + n)) with
  | some c => .inl (lastIdx c + 1 - x.dest)
  | none =>
    let t := cs.foldl (fun t c => t.codeInto c x.dest (body.take (16 * n))) s
    .inr (t.setBoot { t.boot with coded := Nat.lor t.boot.coded (x.param % 2 ^ 16) })

/-- ENTRY. -/
def State.entrySection (s : State) (body : List Byte) : Nat ⊕ State :=
  let h (i : Nat) : Nat := leNat ((body.drop (2 * i)).take 2)
  let named := Nat.lor s.boot.coded (s.boot.sections.foldl (fun m x => if x.typ = 2 then Nat.lor m (x.param % 2 ^ 16) else m) 0)
  match (List.range 16).find? (fun c => bitAt named c && !bitAt (h (8 * c + 7)) 15) with
  | some c => .inl (8 * c + 7)
  | none => .inr (s.setBoot { s.boot with entries := (List.range 136).foldl (fun m i => SMap.set (fun _ => 0) m i (h i)) s.boot.entries })

/-- The bytes of an entry of a table code (R132, R170, R413, R508). -/
def codeBytes (code : Nat) : Nat :=
  if code < 8 then 48 else if code ≤ 12 then (prsTab code).2.1
  else if 0x10 ≤ code ∧ code < 0x1A then fteEntB (code - 0x10)
  else if code = 0x20 then 32 else if code = 0x30 then 16 else if code = 0x31 then 8 else 0

/-- Stage bytes into word registers from an offset on. -/
def State.stageWords (s : State) (off n : Nat) (bs : List Byte) : State :=
  (List.range n).foldl (fun t k => t.wr (off + 4 * k) (BitVec.ofNat 32 (leNat ((bs.drop (4 * k)).take 4)))) s

/-- Run one entry of a TABLE or INSERT section: its command's result, 0 for OK. -/
def State.tabEntry (s : State) (code op idx : Nat) (e : List Byte) : State × Nat :=
  let place (n : Nat) : Nat := if n = 0 then idx else idx / n * 2 ^ 20 + idx % n
  let res (t : State) (off : Nat) : Nat := (t.resOf off).toNat / 2 ^ 28
  if code ≤ 12 then
    let t := (s.stageWords (R.PRS_TBUF 0) 16 e).wr R.PRS_TIDX (BitVec.ofNat 32 (if code < 8 then place (s.waySlots code) else idx))
    let u := (t.wr R.PRS_TCMD (BitVec.ofNat 32 (code * 256 + op))).prsRun op false
    (u.finishCmd R.PRS_TCMD, res u R.PRS_TSTAT)
  else if code < 0x1A then
    let k := code - 0x10
    let t := (s.stageWords (R.FTE_TBUF 0) 32 e).wr R.FTE_TIDX (BitVec.ofNat 32 (if fteHashed k then place (s.fteSize k) else idx))
    let u := (t.wr R.FTE_TCMD (BitVec.ofNat 32 (k * 256 + op))).fteRun op false
    (u.finishCmd R.FTE_TCMD, res u R.FTE_TSTAT)
  else if code = 0x20 then
    let u := ((s.stageWords (R.CVU_TBUF 0) 8 e).wr R.CVU_TIDX (BitVec.ofNat 32 idx)).cvuCmd op false
    ((u.wf R.CVU_TCMD F.CVU_TCMD_BUSY 0).setRes R.CVU_TSTAT 0, if 2 ^ 18 ≤ idx then 3 else res u R.CVU_TSTAT)
  else
    let t := (s.wr (R.REC_ARG 0) (BitVec.ofNat 32 idx)).stageWords (R.REC_ARG 2) 4 e
    let u := if code = 0x30 then t.sigWrite else t.curveWrite
    let past := code = 0x30 ∧ 2 ^ 24 ≤ idx ∨ code = 0x31 ∧ 2048 ≤ idx
    ((u.wf R.REC_CMD F.REC_CMD_BUSY 0).setRes R.REC_CMD 0, if past then 5 else (u.resOf R.REC_CMD).toNat)

/-- The entries of a TABLE or INSERT section from the `i`-th on. -/
def State.tabEntries (s : State) (code op dest i : Nat) : List (List Byte) → Nat ⊕ State
  | [] => .inr s
  | e :: es =>
    match s.tabEntry code op (dest + i) e with
    | (t, 0) => State.tabEntries t code op dest (i + 1) es
    | _ => .inl i

/-- The registers of the command interfaces through which MGT applies tables; they end as they were. -/
def ifaceRegs : List Nat :=
  [R.PRS_TCMD, R.PRS_TIDX, R.PRS_TSTAT, R.FTE_TCMD, R.FTE_TIDX, R.FTE_TSTAT, R.CVU_TCMD, R.CVU_TIDX, R.REC_CMD]
    ++ (List.range 16).map (fun i => R.PRS_TBUF i) ++ (List.range 32).map (fun i => R.FTE_TBUF i)
    ++ (List.range 8).map (fun i => R.CVU_TBUF i) ++ (List.range 16).map (fun i => R.REC_ARG i)

/-- TABLE or INSERT. A TABLE section of the parse tables keeps what it writes out of R558's zeros. -/
def State.tabSection (s : State) (x : Section) (body : List Byte) : Nat ⊕ State :=
  let code := x.param % 256
  let n := codeBytes code
  let ins := x.typ = 5
  if n = 0 ∨ (ins ∧ ¬ (code < 8 ∨ (0x10 ≤ code ∧ code < 0x13))) then .inl 0
  else
    let es := (List.range (body.length / n)).map (fun i => (body.drop (n * i)).take n)
    match s.tabEntries code (if ins then 3 else 2) x.dest 0 es with
    | .inl i => .inl i
    | .inr t =>
      let u := ifaceRegs.foldl (fun u o => u.wr o (s.rd o)) t
      .inr (if 8 ≤ code ∧ code ≤ 12 then
        u.addRegions ((List.range 4).map (fun pl => (2 ^ 27 + prsEntAt pl code x.dest, es.length * n))) else u)

/-- The memory that a DATA section names, its bytes, and where it lies in the staging space. -/
def State.dataSpace (s : State) (code : Nat) : Option (Space × Nat × Option Nat) :=
  if code = 0 then some (.packet, 128 * 2 ^ 20, some 0)
  else if code = 1 then some (.table, 96 * 2 ^ 20, some (2 ^ 27))
  else if 0x10 ≤ code ∧ code < 0x20 then some (spadOf (code - 0x10), spadSize (code - 0x10), none)
  else if code = 0x20 then some (spadOf 16, spadSize 16, none)
  else if code = 0x40 then some (.dram, s.dramSize, none) else none

/-- DATA. -/
def State.dataSection (s : State) (x : Section) (body : List Byte) : Nat ⊕ State :=
  match s.dataSpace (x.param % 256) with
  | none => .inl 0
  | some (sp, size, st) =>
    let rs := match st with | some b => [(b + x.dest, body.length)] | none => []
    if size < x.dest + body.length ∨ rs.any s.hitsStaged then .inl 0
    else .inr ((s.setBytes sp x.dest body).addRegions rs)

/-- VAULT. -/
def State.vaultSection (s : State) (x : Section) (body : List Byte) : Nat ⊕ State :=
  if x.dest % 4096 ≠ 0 ∨ x.dest < 4096 ∨ 64 * 4096 < x.dest + body.length then .inl 0
  else
    let pages := (List.range 64).filter (fun p => decide (x.dest / 4096 ≤ p ∧ p * 4096 < x.dest + body.length))
    let setBits (t : State) (base : Nat) : State := pages.foldl (fun t p => t.orBits (base + p / 32 * 4) (2 ^ (p % 32))) t
    let t := s.setBytes .vault x.dest body
    let u := if bitAt x.param 0 then setBits t (R.MGT_VAULT_LOCK 0) else t
    .inr (if bitAt x.param 1 then setBits u (R.MGT_VAULT_HIDE 0) else u)

/-- Whether an island's points rise strictly in frequency and voltage. -/
def State.curveRises (s : State) (isl : Nat) : Bool :=
  let ps := (List.range 8).filterMap (fun p => s.bcn.curve.get (fun _ => none) (isl * 8 + p))
  (ps.zip ps.tail).all (fun q => decide (q.1.1 < q.2.1 ∧ q.1.2.1 < q.2.2.1))

/-- CURVE, from the `i`-th point on. -/
def State.curveEnts (s : State) (i : Nat) : List (List Byte) → Nat ⊕ State
  | [] => .inr s
  | e :: es =>
    let b (k : Nat) : Nat := (e.getD k 0).toNat
    let v := (b 2 + 256 * b 3, b 4 + 256 * b 5, b 6)
    let t := s.setBcn { s.bcn with curve := s.bcn.curve.set (fun _ => none) (b 0 * 8 + b 1) (some v) }
    if 45 ≤ b 0 ∨ 8 ≤ b 1 ∨ ¬ t.curveRises (b 0) then .inl i else State.curveEnts t (i + 1) es

/-- A section takes effect; its body lies in the staging space. -/
def State.applySection (s : State) (x : Section) : Nat ⊕ State :=
  let body := (List.range x.len).map (fun i => s.staged (x.off + i))
  match x.typ with
  | 1 => s.presets 0 (presetEnts body)
  | 2 => s.codeSection x body
  | 3 => s.entrySection body
  | 4 | 5 => s.tabSection x body
  | 6 => s.dataSection x body
  | 7 => s.vaultSection x body
  | 8 => s.curveEnts 0 ((List.range (body.length / 8)).map (fun i => (body.drop (8 * i)).take 8))
  | _ => if s.lcOk x then .inr s else .inl 0

/-- Whether the effects of earlier sections are still to complete (R556). -/
def State.loadWaits (s : State) : Bool :=
  s.prsBusy || s.fteBusy || s.cvuBusy || s.recBusy || s.flag R.BPM_CMD F.BPM_CMD_BUSY
    || s.fd R.BPM_STATUS F.BPM_STATUS_INIT != 0 || s.fd R.PRS_STATUS F.PRS_STATUS_CLEARING != 0
    || s.fd R.FTE_STATUS F.FTE_STATUS_CLEARING != 0

/-- Whether a channel is in a state. -/
def State.anyCh (s : State) (x : Nat) : Bool := (List.range 8).any (fun n => s.chState n == x)

/-- Whether a section writes DRAM. -/
def Section.inDram (x : Section) : Bool :=
  (x.typ == 6 && x.param % 256 == 0x40) || (x.typ == 4 && (x.param % 256 == 0x20 || x.param % 256 == 0x30))

/-- Step 6 has ended once no channel trains. -/
def State.trained (s : State) : State := if s.bootStep = 5 then s.stepDone 6 else s

/-- The slot fails in step 7 (R557). -/
def State.loadStop (s : State) (x : Section) (i : Nat) : State := s.slotFails (sectionRec 0x7007 s.boot.next x (i % 256))

/-- SECTION_APPLY (R556): the next section. -/
def execSectionApply (s : State) : Out :=
  .next (
    if ¬ s.booting ∨ (s.bootStep ≠ 5 ∧ s.bootStep ≠ 6) ∨ s.anyCh 1 ∨ s.loadWaits then s
    else
      let t := s.trained
      match t.boot.sections[t.boot.next]? with
      | none => t
      | some x =>
        if x.inDram ∧ t.anyCh 2 then t
        else match t.applySection x with
          | .inl i => t.loadStop x i
          | .inr u =>
            let last := t.boot.next + 1 = t.boot.sections.length
            if last ∧ u.fd R.ODS_FLOWMEM F.ODS_FLOWMEM_BASE < 32 then t.loadStop x 0
            else u.setBoot { u.boot with next := t.boot.next + 1 })

/-! ## Steps 8 to 10 (R558, R560, R564) -/

/-- FEATURE_NEGOTIATION (R564): step 7 has ended with every section applied and every fill done. Stepping A1 offers none. -/
def execFeatureNegotiation (s : State) : Out :=
  .next (
    if ¬ s.booting ∨ s.bootStep ≠ 6 ∨ s.boot.next < s.boot.sections.length ∨ s.loadWaits ∨ s.anyCh 1 ∨ s.anyCh 2 then s
    else
      let t := (s.stepDone 7).wr64 (R.GLB_DEV_FEAT 0) 0
      (t.ackFeatures (if t.boot.drvFeat then t.rd64 (R.GLB_DRV_FEAT 0) else t.boot.featReq)).stepDone 8)

/-- Zeros over every staging byte outside the named regions (R558). -/
def State.wipeStaging (s : State) : State :=
  let out (a : Nat) : Bool := s.boot.regions.all (fun r => decide (¬ (r.1 ≤ a ∧ a < r.1 + r.2)))
  { s with mem := s.mem.filter (fun c =>
      !((c.1 / 2 ^ 44 == 1 && out (c.1 - 2 ^ 44)) || (c.1 / 2 ^ 44 == 2 && out (c.1 - 2 * 2 ^ 44 + 2 ^ 27)))) }

/-- The spare core of a cluster at cluster release (R600). -/
def State.setSpare (s : State) (c : Nat) : State :=
  s.wf (R.MGT_CORE_STATE c) F.MGT_CORE_STATE_SPARE (if s.fd (R.CLU_KEEPER c) F.CLU_KEEPER_CORE = 8 then 7 else 8)

/-- The fused SVN count rises to the image's (R560). -/
def State.commitSvn (s : State) : State :=
  if s.boot.svnCommit ∧ s.fuse.svn < s.boot.imgSvn then
    let t : State := { s with fuse := { s.fuse with svn := s.boot.imgSvn } }
    t.wr R.MGT_FUSE_SVN (BitVec.ofNat 32 s.boot.imgSvn)
  else s

/-- The records of the save area reach the log. -/
def State.deliverKept (s : State) : State :=
  s.bcn.kept.foldl (fun u r => u.elogPut r) (s.setBcn { s.bcn with kept := [] })

/-- What MGT carries out at cluster release, in R558's order. -/
def State.release (s : State) : State :=
  let t := s.wipeStaging.deliverKept
  let t := if t.fuse.lc = 2 then t.wf R.GLB_MODE F.GLB_MODE_LOCK 1 else t
  let t := (t.wf R.ODS_CFG F.ODS_CFG_RUN 1).wf R.DMC_GSTATUS F.DMC_GSTATUS_LIVE 1
  let t := (List.range 16).foldl State.setSpare t
  let t := (List.range 16).foldl State.startCluster t
  let t := (List.range 8).foldl (fun u k => u.startEntry (0x800 + k)) t
  t.boot.txRel.foldl (fun u g => u.grpCtrlWrite g (u.rd (R.PX_GRP_CTRL g) ||| 0x80000000)) t

/-- CLUSTER_RELEASE (R558, R560): the device runs. -/
def execClusterRelease (s : State) : Out :=
  .next (
    if ¬ s.booting ∨ s.bootStep ≠ 8 then s
    else
      let t := s.release.commitSvn
      let ms := (t.time.clock - t.boot.t0) / msCyc
      let u := ((t.setBoot { t.boot with released := true }).wf R.MGT_BOOT_MS F.MGT_BOOT_MS_MS (min 65535 ms)).setBootState 1
      u.noteUpdate.stepDone 10)

/-- BOOT_WRITE (R549): a write by the host or the SPI target before cluster release to another register. -/
def execBootWrite (mid : Nat) (gen : BitVec 8) (off : Nat) (value : W32) (s : State) : Out :=
  .next (if isHostPath mid ∧ ¬ s.boot.released ∧ ¬ bootReg off then s.writeFrom off mid gen value false else s)

end Sys2Proof.Machine
end

