-- ==== Sys2Proof/Machine/CoreExec.lean ====
section
/-! DEFINITION. A core at work (08_move_machine to 10_pipeline_threads): the results of short and long units, instruction-RAM
writes, the faults a bundle meets, the start of every unit, interrupt entry, issue. -/
namespace Sys2Proof.Machine
open Sys2Proof

/-! ## Cores and threads -/

/-- The generation a thread's requests carry: the one it was admitted with (R49, R52). -/
def State.stampGen (s : State) (mid : Nat) : BitVec 8 := if s.genOf mid = 0 then s.lastGenOf mid else s.genOf mid

/-- The scratchpad refuses a request of a revoked thread (R51, R636). -/
def State.spadRefuse (s : State) (mid cls : Nat) : Option State :=
  if s.genOf mid = s.stampGen mid then none
  else some (s.raiseGenStale 8 (midCluster mid) mid (s.stampGen mid) 0 0 cls)

/-- A thread reads its scratchpad: the state, and the bytes, or none for an error response. -/
def State.spadRead (s : State) (mid a n : Nat) (ue : Bool) : State × Option (List Byte) :=
  match s.spadRefuse mid 1 with
  | some t => (t, none)
  | none => s.spmRead (midCluster mid) a n ue

/-- A thread writes its scratchpad: the state, and whether an error response came. -/
def State.spadWrite (s : State) (mid a : Nat) (bs : List Byte) : State × Bool :=
  match s.spadRefuse mid 2 with
  | some t => (t, true)
  | none => (s.spmWrite (midCluster mid) a mid bs, false)

/-- Whether a number names a core: core k of cluster c, or the management pair as core 0 of cluster 16. -/
def isCore (c k : Nat) : Bool := decide ((c < 16 ∧ k < 9) ∨ (c = 16 ∧ k = 0))

/-- Whether a core's clock runs: outside reset, in the power steps that keep its island powered (R536). -/
def State.coreRuns (s : State) (c k : Nat) : Bool :=
  isCore c k && !s.inReset && (if c = 16 then decide (s.powerStep ≤ 3) && !s.headless else decide (s.powerStep ≤ 1))

/-- Count one of a core's events (R365); the management pair has no counters. -/
def State.coreCnt (s : State) (c k j : Nat) : State := if c < 16 then s.count (R.CLU_CORE_CNT c k j) else s

/-- A core's cycle ends: its bundle counts in ISSUED, or the cycle in IDLE (R365). -/
def State.coreTick (s : State) (c k : Nat) (issued : Bool) : State :=
  let key := coreKey (threadMid c k 0)
  (s.coreCnt c k (if issued then 0 else 2)).setCycle key (s.cycle key + 1)

/-! ## Result ports (R300, R325) -/

/-- Results reach result ports, which lose their poison. -/
def ThreadSt.deliver (x : ThreadSt) (outs : List (Nat × W40)) : ThreadSt :=
  outs.foldl (fun y o => { y.setPort o.1 o.2 with poison := y.poison.filter (fun p => p != o.1) }) x

/-- Result ports become poisoned. -/
def ThreadSt.poisonAll (x : ThreadSt) (ports : List Nat) : ThreadSt :=
  { x with poison := (x.poison ++ ports).eraseDups }

/-- MAC sets OVFn, and with `ev` on a first overflow raises event 2 and fills an OVFPC that is not VALID (R310, R312). -/
def State.macOvf (s : State) (mid n pc : Nat) (ev : Bool) : State :=
  let x := s.thr mid
  let was := bitAt (x.port 0x1C9).toNat n
  let y := x.setPort 0x1C9 (BitVec.ofNat 40 (putBits (x.port 0x1C9).toNat n 1 1))
  if ev ∧ ¬ was then
    let z := if bitAt (x.port 0x1CA).toNat 15 then y else y.setPort 0x1CA (BitVec.ofNat 40 (0x8000 + n * 0x4000 + pc % 2 ^ 14))
    (s.setThr mid z).event mid 2
  else s.setThr mid y

/-- An operation on a short unit ends (R300, R319, R325). -/
def State.shortEnd (s : State) (mid : Nat) (o : ShortOp) (ue : Bool) : State :=
  match o.eff with
  | .ports outs => s.setThr mid ((s.thr mid).deliver outs)
  | .load f a =>
    (match s.spadRead mid a (formBytes f) ue with
    | (t, some bs) => t.setThr mid ((t.thr mid).deliver [(0x244, formLoad f bs)])
    | (t, none) => t.setThr mid ((t.thr mid).poisonAll [0x244]))
  | .store a bs => (s.spadWrite mid a bs).1
  | .ovf n pc ev => s.macOvf mid n pc ev

/-- The short operations of a thread whose latency has ended take effect in trigger order. -/
def State.shortsDue (s : State) (mid : Nat) : State :=
  let x := s.thr mid
  let cyc := s.cycle (coreKey mid)
  (x.shorts.filter (fun o => decide (o.due ≤ cyc))).foldl (fun t o => t.shortEnd mid o false)
    (s.setThr mid { x with shorts := x.shorts.filter (fun o => decide (cyc < o.due)) })

/-- SHORT_UNIT_RESULT (R300): the first operation of a unit whose latency has ended takes effect; `ue` says that a load meets an
uncorrectable error. -/
def execShortUnitResult (mid unit : Nat) (ue : Bool) (s : State) : Out :=
  .next (
    let x := s.thr mid
    match x.shorts.find? (fun o => o.unit == unit && decide (o.due ≤ s.cycle (coreKey mid))) with
    | some o => if isThread mid then (s.setThr mid { x with shorts := x.shorts.erase o }).shortEnd mid o ue else s
    | none => s)

/-! ## Writes of instruction RAM (R354 to R356) -/

/-- The bundles whose read an instruction fence holds are read once none of the thread's writes is on its way (R355). -/
def State.fenceEnd (s : State) (mid : Nat) : State :=
  if s.iramq.any (fun w => w.mid == mid) then s
  else
    let x := s.thr mid
    let cyc := s.cycle (coreKey mid)
    let fill := fun (p : Fetch × Nat) =>
      if p.1.bits.isNone then { p.1 with bits := some (s.bundleAt (midCluster mid) p.1.idx), due := cyc + 2 + p.2 } else p.1
    if x.fq.all (fun f => f.bits.isSome) then s else s.setThr mid { x with fq := x.fq.zipIdx.map fill }

/-- A write reaches an instruction RAM. -/
def State.iramLand (s : State) (w : IramWr) : State :=
  let s1 : State := { s with iramq := s.iramq.erase w }
  (s1.setBytes (iramOf w.c) w.addr w.bytes).fenceEnd w.mid

/-- The writes of a core's threads whose time has come reach the RAM. -/
def State.iramDue (s : State) (key : Nat) : State :=
  (s.iramq.filter (fun w => coreKey w.mid == key && decide (w.due ≤ s.cycle key))).foldl (fun t w => t.iramLand w) s

/-- IRAM_WRITE_LAND (R354): the due writes to a cluster's RAM land, a higher core's last (R356). -/
def execIramWriteLand (c : Nat) (s : State) : Out :=
  .next (if c = 16 then s.iramDue 144 else if c < 16 then (List.range 9).foldl (fun t k => t.iramDue (c * 9 + k)) s else s)

/-! ## Interrupt entry (R349) -/

/-- A thread enters its interrupt. -/
def State.enterIrq (s : State) (mid : Nat) : State :=
  let x := s.thr mid
  let y := (x.setPort 0x38D (BitVec.ofNat 40 (x.pc % 2 ^ 14))).setPort 0x38B 0
  (s.setThr mid { y with resv := none }).startFetch mid ((x.port 0x38A).toNat % 2 ^ 14)

/-! ## The slot table (R344 to R347) -/

/-- The owner of an entry of a core's slot table; the management pair's threads take turns. -/
def State.slotOwner (s : State) (c k e : Nat) : Option Nat :=
  if c = 16 then some (e % 8)
  else
    let n := bitsOf (s.rd (R.CLU_CORE_SLOT c k (e / 8))).toNat (4 * (e % 8)) 4
    if 8 ≤ n then some (n % 8) else none

/-- The thread that a core's next cycle selects, and whether the cycle is donated (R346). -/
def State.pick (s : State) (c k : Nat) : Option (Nat × Bool) :=
  let cyc := s.cycle (coreKey (threadMid c k 0))
  (List.range 32).findSome? (fun i => match s.slotOwner c k ((cyc + i) % 32) with
    | some t => if s.ready (threadMid c k t) then some (threadMid c k t, i != 0) else none
    | none => none)

/-- What is due at the start of a core's cycle takes effect. -/
def State.cycleStart (s : State) (c k : Nat) : State :=
  ((List.range 8).foldl (fun t i => t.shortsDue (threadMid c k i)) s).iramDue (coreKey (threadMid c k 0))

/-- Cycles pass in a core while none of its threads is ready. -/
def State.idleCycles (c k : Nat) : Nat → State → State
  | 0, s => s
  | n + 1, s =>
    let t := s.cycleStart c k
    if (t.pick c k).isSome then t else State.idleCycles c k n (t.coreTick c k false)

/-- INTERRUPT_ENTRY (R349): a core's next cycle selects a thread with an entry due. -/
def execInterruptEntry (c k : Nat) (s : State) : Out :=
  .next (
    let t := s.cycleStart c k
    match t.pick c k with
    | some (mid, _) =>
      if s.coreRuns c k ∧ t.entryDue mid ∧ ¬ (t.thr mid).step then ((t.enterIrq mid).coreCnt c k 3).coreTick c k false else s
    | none => s)

/-! ## The faults a bundle meets (R294, R295, R335) -/

/-- The return stack as the transfers that are pending will leave it (R289). -/
def ThreadSt.heldStack (x : ThreadSt) : List Nat :=
  x.xfers.foldl (fun st t => match t.kind with | .call r => r :: st | .ret => st.drop 1 | _ => st) x.rstack

/-- The fault of a CU trigger (R289, R290). -/
def cuFault (a : Acts) (g : Trig) : Option Nat :=
  let st := a.pre.heldStack
  if g.unit ≠ 0x300 then none
  else match g.op with
    | 2 => if 8 ≤ st.length then some 0x3006 else none
    | 3 => if st = [] then some 0x3007 else none
    | 4 =>
      if g.t.toNat % 2 ^ 32 = 0 then none
      else if 3 ≤ loopGet a.pre.loopsSeen 0x5B then some 0x3005
      else if (a.post.port 0x301).toNat % 2 ^ 14 < (a.post.port 0x300).toNat % 2 ^ 14 then some 0x3009
      else none
    | 7 => if 8 ≤ st.length ∨ 8 ≤ a.pre.rstack.length then some 0x3006 else none
    | 8 => if a.pre.rstack = [] then some 0x3007 else none
    | _ => none

/-- The slot of the first trigger of a unit that an earlier trigger of the bundle starts already (R272). -/
def dualSlot : List Trig → Option Nat
  | [] => none
  | g :: gs => match gs.find? (fun h => h.unit == g.unit) with | some h => some h.slot | none => dualSlot gs

/-- The regions of LSU1 (R280, R281). -/
inductive Lsu1At where
  | spad | iram (a : Nat) | packet (a : Nat) | table (a : Nat) | vault (a : Nat) | reg (off : Nat)
  deriving DecidableEq, Repr

/-- The region of a local access of `n` bytes; none outside every region (R280, R281, R693). -/
def lsu1At (c a n : Nat) : Option Lsu1At :=
  if a / 2 ^ 32 = 0xFE then (if bitsOf a 24 8 = 0 ∧ a % 4 = 0 then some (.reg (a % 2 ^ 24)) else none)
  else if a + n ≤ spadSize c then some .spad
  else if 0x1000000 ≤ a ∧ a + n ≤ 0x1000000 + (lastIdx c + 1) * 16 then some (.iram (a - 0x1000000))
  else if 0x10000000 ≤ a ∧ a + n ≤ 0x18000000 then some (.packet (a - 0x10000000))
  else if 0x20000000 ≤ a ∧ a + n ≤ 0x26000000 then some (.table (a - 0x20000000))
  else if c = 16 ∧ 0x2000000 ≤ a ∧ a + n ≤ 0x2040000 then some (.vault (a - 0x2000000))
  else none

/-- Whether an access crosses an aligned 64-byte line (R285). -/
def crossesLine (a n : Nat) : Bool := decide (a / 64 ≠ (a + n - 1) / 64)

/-- The form of an LSU1 operation (R320). -/
def lsu1Form (o2 : W40) : Nat := bitsOf o2.toNat 2 4

/-- The fault of an LSU1 trigger (R320, R322, R693). -/
def State.lsu1Fault (s : State) (mid : Nat) (a : Acts) (g : Trig) : Option FaultRec :=
  let ad := lsuAddr (a.post.port 0x280) g.t
  let f := lsu1Form (a.post.port 0x282)
  let n := formBytes f
  let loc (code : Nat) : Option FaultRec := some { code := code, slot := g.slot, unit := 0x280, loc := some ad }
  let phys (code : Nat) : Option FaultRec := some { code := code, slot := g.slot, unit := 0x280, phys := some ad }
  if g.op < 2 then
    if 12 ≤ f then loc 0x300B
    else match lsu1At (midCluster mid) ad n with
      | none => loc 0x300B
      | some (.reg _) => if f = 4 ∨ f = 5 then none else loc 0x300B
      | some (.iram _) => if g.op = 1 then loc 0x300B else none
      | some (.table _) => if g.op = 1 then loc 0x300B else if crossesLine ad n then loc 0x300C else none
      | some (.packet _) => if crossesLine ad n then loc 0x300C else none
      | some _ => none
  else if g.op < 4 then
    if 12 ≤ f ∨ s.dramSize < ad + n then phys 0x300B else if crossesLine ad n then phys 0x300C else none
  else none

/-- The fault of a unit's trigger (R335). -/
def State.unitFault (s : State) (mid : Nat) (a : Acts) (g : Trig) : Option FaultRec :=
  let at_ (code : Nat) (loc : Option Nat) : Option FaultRec := some { code := code, slot := g.slot, unit := g.unit, loc := loc }
  let ok := a.post
  match g.unit with
  | 0x200 => if g.t = 0 then at_ 0x300A none else none
  | 0x240 =>
    (match s.lsu0At mid a.pre (lsuAddr (ok.port 0x240) g.t) (formBytes (lsu0Form g.op)) with
    | .bad code => at_ code (some (lsuAddr (ok.port 0x240) g.t))
    | _ => none)
  | 0x280 => s.lsu1Fault mid a g
  | 0x2C0 => if spadSize (midCluster mid) ≤ g.t.toNat ∨ g.t.toNat % 8 ≠ 0 then at_ 0x300F (some g.t.toNat) else none
  | 0x400 =>
    let o := (ok.port 0x400).toNat
    if g.op = 0 ∧ (2 ^ 18 ≤ o ∨ o % 4 ≠ 0) then at_ 0x3010 none
    else if g.op = 1 ∧ 2 ^ 14 ≤ o then at_ 0x3010 none
    else if g.op = 1 ∧ spadSize (midCluster mid) < g.t.toNat + 16 then at_ 0x3010 (some g.t.toNat)
    else if s.locked ∧ mid ≠ s.keeperOf mid then at_ 0x3011 none
    else none
  | _ => none

/-- The moves of a bundle that read poisoned result ports (R325). -/
def dataErrs (x : ThreadSt) (ms : List Move) : List FaultRec :=
  ((activeMoves x ms).filter (fun m => m.imm.isNone && isResult m.src && x.poison.contains m.src)).map
    (fun m => { code := 0x3012, slot := m.slot, unit := m.src / 64 * 64 })

/-- Whether no bundle follows the last index of an instruction RAM (R286), or the bundle itself lies beyond it (R281). -/
def ThreadSt.wraps (x : ThreadSt) (last : Nat) : Bool :=
  match x.fq with
  | f :: g :: _ => decide (f.idx = last ∧ g.idx = last + 1) && x.xfers.all (fun t => t.left != 1)
  | _ => false

/-- Whether the word of a bundle is poisoned in its instruction RAM. -/
def State.iramBad (s : State) (c i : Nat) : Bool :=
  let mem := if c = 16 then 0x32 else 0x20 + c
  s.ecs.bad.contains (mem * 2 ^ 32 + 2 * i) || s.ecs.bad.contains (mem * 2 ^ 32 + 2 * i + 1)

/-- What a thread's next bundle comes to: the fault it meets, the first in the order of R295 and R335, or its moves. -/
def State.judge (s : State) (mid : Nat) (ue : Bool) : FaultRec ⊕ List Move :=
  let x := s.thr mid
  let c := midCluster mid
  match x.fq.head? with
  | none => .inl { code := 0x3004 }
  | some f =>
    if lastIdx c < f.idx then .inl { code := 0x3004 }
    else if ue ∨ s.iramBad c f.idx then .inl { code := 0x3008 }
    else match decodeBundle (f.bits.getD 0) with
      | none => .inl { code := 0x3001 }
      | some ms =>
        let a := s.actsOf mid x ms
        match ms.find? (fun m => !dstOk m.dst || (m.imm.isNone && !srcOk m.src)), dualSlot a.trigs,
            a.trigs.findSome? (fun g => (cuFault a g).map (fun code => (code, g.slot))) with
        | some m, _, _ => .inl { code := 0x3002, slot := m.slot }
        | none, some i, _ => .inl { code := 0x3003, slot := i }
        | none, none, some (code, i) => .inl { code := code, slot := i }
        | none, none, none =>
          if x.wraps (lastIdx c) then .inl { code := 0x3004 }
          else
            let fs := a.trigs.filterMap (s.unitFault mid a) ++ dataErrs x ms
            match (List.range 9).findSome? (fun i => fs.find? (fun f => f.code == 0x300A + i)) with
            | some r => .inl r
            | none => .inr ms

/-! ## Short units (R303 to R319) -/

/-- A thread gains an operation on a short unit. -/
def ThreadSt.addShort (x : ThreadSt) (unit due : Nat) (eff : ShortEff) : ThreadSt :=
  { x with shorts := x.shorts ++ [{ unit := unit, due := due, eff := eff }] }

/-- ALU0 or ALU1 starts: its result stands from the next cycle (R303, R304). -/
def ThreadSt.startAlu (x : ThreadSt) (cyc : Nat) (g : Trig) : ThreadSt :=
  match aluOp g.op (x.port g.unit) (x.port (g.unit + 1)) g.t ((x.port (g.unit + 5)).toNat % 2) with
  | some (r, rb) => x.addShort g.unit (cyc + 1) (.ports [(g.unit + 4, r), (g.unit + 5, rb)])
  | none => x

/-- BFU starts (R305). -/
def ThreadSt.startBfu (x : ThreadSt) (cyc : Nat) (g : Trig) : ThreadSt :=
  match bfuOp g.op (x.port 0x180) (x.port 0x181) g.t with
  | some r => x.addShort 0x180 (cyc + 1) (.ports [(0x184, r)])
  | none => x

/-- MAC starts: the accumulators take their value in trigger order, ports and flags after the latency (R308 to R313). -/
def ThreadSt.startMac (x : ThreadSt) (cyc cfg pc : Nat) (g : Trig) : ThreadSt :=
  match macOp g.op (x.port 0x1C0) g.t x.acc0 x.acc1 cfg with
  | none => x
  | some r =>
    let y := match r.acc with | some (0, v) => { x with acc0 := v } | some (_, v) => { x with acc1 := v } | none => x
    let z := match r.out with | some (p, q) => y.addShort 0x1C0 (cyc + 3) (.ports [(0x1C4, p), (0x1C5, q)]) | none => y
    match r.ovf with | some n => z.addShort 0x1C0 (cyc + 3) (.ovf n pc (bitAt cfg 2)) | none => z

/-- A thread's window cache after a use of a line: the line comes first (R318). -/
def ThreadSt.touch (x : ThreadSt) (slot line : Nat) : ThreadSt :=
  x.setCache slot ((x.cache slot).filter (fun l => l.line == line) ++ (x.cache slot).filter (fun l => l.line != line))

/-- Byte `k` of a packet window. -/
def ThreadSt.winByte (x : ThreadSt) (slot k : Nat) : Byte :=
  match (x.cache slot).find? (fun l => l.line == k / 64) with | some l => l.data.getD (k % 64) 0 | none => 0

/-- Write byte `k` of a packet window. -/
def ThreadSt.winPut (x : ThreadSt) (slot k : Nat) (b : Byte) : ThreadSt :=
  x.setCache slot ((x.cache slot).map (fun l =>
    if l.line = k / 64 then { l with data := l.data.set (k % 64) b, dirty := Nat.lor l.dirty (2 ^ (k % 64)) } else l))

/-- A store into a thread's token window: a slot whose HANDLE changes first has its lines written back and dropped (R318). -/
def State.twinStore (s : State) (mid a : Nat) (bs : List Byte) : State :=
  let t := s.setBytes (.twin mid) a bs
  let changed := (List.range 8).filter (fun i => (t.winToken mid i).handle != (s.winToken mid i).handle)
  let u := (changed.foldl (fun v i => v.writeBack mid i) s).setBytes (.twin mid) a bs
  u.setThr mid (changed.foldl (fun x i => x.setCache i []) (u.thr mid))

/-- LSU0 starts (R315 to R319): the windows act at once and deliver after the latency, the scratchpad acts as it ends. -/
def State.startLsu0 (s : State) (mid cyc : Nat) (pre : ThreadSt) (g : Trig) : State :=
  let x := s.thr mid
  let f := lsu0Form g.op
  let n := formBytes f
  let load := decide (g.op < 0x10)
  let bs := formStore f (x.port 0x241)
  let done (y : ThreadSt) (got : List Byte) : ThreadSt := y.addShort 0x240 (cyc + 3) (.ports [(0x244, formLoad f got)])
  match s.lsu0At mid pre (lsuAddr (x.port 0x240) g.t) n with
  | .spad a => s.setThr mid (x.addShort 0x240 (cyc + 3) (if load then .load f a else .store a bs))
  | .twin a => if load then s.setThr mid (done x (s.bytes (.twin mid) a n)) else s.twinStore mid a bs
  | .win slot k =>
    let y := (winLines k n).foldl (fun z l => z.touch slot l) x
    if load then s.setThr mid (done y ((List.range n).map (fun i => y.winByte slot (k + i))))
    else s.setThr mid (bs.zipIdx.foldl (fun z p => z.winPut slot (k + p.2) p.1) y)
  | .bad _ => s

/-! ## Long units at issue -/

/-- A thread gains an operation on a long unit, with its operands as they stand. -/
def ThreadSt.addLong (x : ThreadSt) (g : Trig) (ports : List Nat) (res : Option (List W40)) : ThreadSt :=
  { x with longs := x.longs ++ [{ unit := g.unit, op := g.op, o0 := x.port g.unit, o1 := x.port (g.unit + 1),
                                   o2 := x.port (g.unit + 2), o3 := x.port (g.unit + 3), t := g.t, ports := ports, res := res }] }

/-- Add a long operation to a thread. -/
def State.addLong (s : State) (mid : Nat) (g : Trig) (ports : List Nat) (res : Option (List W40)) : State :=
  s.setThr mid ((s.thr mid).addLong g ports res)

/-- The lowest enabled pending event of a thread (R329, R330). -/
def State.lowEvent (s : State) (mid mask : Nat) : Option Nat :=
  (List.range 32).find? (fun e => bitAt (s.pendEv mid).toNat e && bitAt mask e)

/-- t_ack (R330): event 4 gives up its oldest completion, and stays pending while another is queued. -/
def State.ackEvent (s : State) (mid e : Nat) : State :=
  let x := s.thr mid
  let tags := if e = 4 then x.tags.drop 1 else x.tags
  let keep := e == 4 && tags != []
  { s.setThr mid { x with tags := tags } with
    evpend := if keep then s.evpend else s.evpend.set (fun _ => 0) mid (BitVec.ofNat 32 (putBits (s.pendEv mid).toNat e 1 0)) }

/-- EVP starts (R330); `mask` is EVMASK before the bundle. -/
def State.startEvp (s : State) (mid mask : Nat) (g : Trig) : State :=
  match g.op with
  | 0 => s.addLong mid g [0x384] none
  | 1 => s.addLong mid g [0x384] (some [BitVec.ofNat 40 ((s.lowEvent mid mask).getD 0x3F)])
  | 2 => (s.ackEvent mid (g.t.toNat % 32)).addLong mid g [0x384] (some [0])
  | 3 =>
    let tgt := g.t.toNat % 4096
    if isThread tgt ∧ midCluster tgt = midCluster mid then (s.event tgt 7).addLong mid g [0x384] (some [0])
    else s.addLong mid g [0x384] (some [1])
  | _ => s.addLong mid g [0x384] (some [0])

/-- TKP starts (R328): ODS answers, but for an operation that never reaches it. -/
def State.startTkp (s : State) (mid : Nat) (g : Trig) : State :=
  let bad := decide ((2 ≤ g.op ∧ g.op ≤ 7 ∧ g.t.toNat / 8 ≠ 0) ∨ (g.op = 7 ∧ ((s.thr mid).port 0x341).toNat / 32 ≠ 0))
  if bad then s.tookFree.addLong mid g [0x344] (some [BitVec.ofNat 40 (0xA * 2 ^ 32 + s.freeWord.toNat % 2 ^ 24)])
  else s.addLong mid g [0x344] none

/-- The command that a CPQ trigger assembles (R332). -/
def State.cpqCmd (s : State) (mid : Nat) (g : Trig) : AccCmd :=
  let x := s.thr mid
  { mid := mid, gen := s.stampGen mid, fused := decide (g.op < 4), t := g.t, o0 := x.port 0x3C0, o1 := x.port 0x3C1,
    o2 := x.port 0x3C2, o3 := x.port 0x3C3 }

/-- CPQ starts (R332, R370 to R372, R378). The management pair has no accelerators and owns none. -/
def State.startCpq (s : State) (mid : Nat) (g : Trig) : State :=
  let c := midCluster mid
  let a := g.op % 4
  let cmd := s.cpqCmd mid g
  let acq := decide (g.op < 4 ∧ cmd.op = 0x38)
  let r : State × Nat :=
    if 16 ≤ c then (s, 2)
    else if s.genOf mid ≠ s.stampGen mid then (s.accRefused c a mid cmd.gen g.t 2, 2)
    else if acq then (let st := s.cpqCheck c a cmd; if st = 0 then (s, 0) else (s.accRefused c a mid cmd.gen g.t st, st))
    else s.cpqIssue c a cmd
  if g.op < 4 then r.1.addLong mid g [0x3C4, 0x3C5] (if r.2 = 0 then none else some (fusedRes 0 0 r.2))
  else r.1.addLong mid g [0x3C4] (some [BitVec.ofNat 40 (r.2 * 2 ^ 32 + cmd.tag % 256)])

/-- Whether a thread's core is fenced (R636). -/
def State.fencedThread (s : State) (mid : Nat) : Bool := decide (midCluster mid < 16) && s.coreFenced (midCluster mid) (midCore mid)

/-- IWP starts (R333, R354): its write is on its way. A fenced core's write is discarded (R636); what a source answered with an
error response holds is open (log entry 3). -/
def State.startIwp (s : State) (mid cyc : Nat) (g : Trig) : State :=
  let x := s.thr mid
  let c := midCluster mid
  let o := (x.port 0x400).toNat
  let put (t : State) (addr due : Nat) (bs : List Byte) : State :=
    if (lastIdx c + 1) * 16 ≤ addr then t
    else { t with iramq := t.iramq ++ [{ c := c, mid := mid, addr := addr, bytes := bs, due := due }] }
  let u :=
    if s.fencedThread mid then s.fltCnt 8
    else if g.op = 0 then put s o (cyc + 4) (toLe 4 g.t.toNat)
    else match s.spadRead mid g.t.toNat 16 false with
      | (t, some bs) => put t (o * 16) (cyc + 12) bs
      | (t, none) => put t.tookFree (o * 16) (cyc + 12) (toLe 8 t.freeWord.toNat ++ toLe 8 (t.freeWord.toNat / 2 ^ 7))
  u.addLong mid g [0x404] none

/-- RCP starts (R334, R479): it offers its records, or raises a trigger. -/
def State.startRcp (s : State) (mid : Nat) (g : Trig) : State :=
  let x := s.thr mid
  let o1 := (x.port 0x441).toNat
  let port := if midCluster mid = 16 then 20 else 4 + midCluster mid
  let time := if bitAt o1 4 then (s.winToken mid (bitsOf o1 5 3)).its else s.time.ptp
  let rec_ (sig smp : Nat) : SigRec :=
    { sig := BitVec.ofNat 24 sig, sample := BitVec.ofNat 20 smp, qual := BitVec.ofNat 4 o1, time := time }
  let sig := (x.port 0x440).toNat
  if g.op = 2 then (s.raiseTrigger (g.t.toNat % 64)).addLong mid g [0x444] (some [0])
  else if s.fencedThread mid then (s.fltCnt 8).addLong mid g [0x444] (some [0])
  else
    let p := s.recOffer port (rec_ sig g.t.toNat)
    if g.op = 0 then p.1.addLong mid g [0x444] (some [wBool (!p.2)])
    else
      let q := p.1.recOffer port (rec_ (sig + 1) (g.t.toNat / 2 ^ 20))
      q.1.addLong mid g [0x444] (some [BitVec.ofNat 40 (b2n (!p.2) + 2 * b2n (!q.2))])

/-- A trigger starts its unit. `pre` is the thread before the bundle, `pc` the bundle's index. -/
def State.startUnit (s : State) (mid cyc pc : Nat) (pre : ThreadSt) (g : Trig) : State :=
  let x := s.thr mid
  match g.unit with
  | 0x100 | 0x140 => s.setThr mid (x.startAlu cyc g)
  | 0x180 => s.setThr mid (x.startBfu cyc g)
  | 0x1C0 => s.setThr mid (x.startMac cyc (pre.port 0x1C8).toNat pc g)
  | 0x200 => s.addLong mid g [0x204, 0x205] ((divOp g.op (x.port 0x200) g.t).map (fun p => [p.1, p.2]))
  | 0x240 => s.startLsu0 mid cyc pre g
  | 0x280 =>
    s.addLong mid g (if g.op = 1 ∨ g.op = 3 then [] else if g.op = 5 then [0x284] else [0x284 + (x.port 0x282).toNat % 4]) none
  | 0x2C0 => s.addLong mid g [0x2C4] none
  | 0x340 => s.startTkp mid g
  | 0x380 => s.startEvp mid (pre.port 0x388).toNat g
  | 0x3C0 => s.startCpq mid g
  | 0x400 => s.startIwp mid cyc g
  | 0x440 => s.startRcp mid g
  | _ => s

/-! ## Control flow (R286 to R293, R351) -/

/-- The transfer that a trigger of the bundle at index `i` starts: its target and kind. -/
def xferOf (i : Nat) (a : Acts) (g : Trig) : Option Xfer :=
  if g.unit = 0x380 ∧ g.op = 4 then some { target := (a.pre.port 0x38D).toNat % 2 ^ 14, kind := .rfi }
  else if g.unit ≠ 0x300 then none
  else match g.op with
    | 0 => some { target := g.t.toNat % 2 ^ 14 }
    | 1 => some { target := (i + g.t.toNat) % 2 ^ 14 }
    | 2 => some { target := g.t.toNat % 2 ^ 14, kind := .call ((i + 3) % 2 ^ 14) }
    | 3 => some { target := a.pre.heldStack.headD 0, kind := .ret }
    | 4 => if g.t.toNat % 2 ^ 32 = 0 then some { target := ((a.post.port 0x301).toNat + 1) % 2 ^ 14 } else none
    | _ => none

/-- What a CU trigger does to loops and the return stack in its own bundle (R289, R290, R292). -/
def ThreadSt.cuAct (x : ThreadSt) (a : Acts) (g : Trig) : ThreadSt :=
  let d := loopGet a.pre.loopsSeen 0x5B
  if g.unit ≠ 0x300 then x
  else match g.op with
    | 4 =>
      if g.t.toNat % 2 ^ 32 = 0 then x
      else (((x.loopWrite (0x50 + d) (x.port 0x300).toNat).loopWrite (0x54 + d) (x.port 0x301).toNat).loopWrite (0x58 + d)
        g.t.toNat).loopWrite 0x5B (d + 1)
    | 5 => if d = 0 then x else (x.loopWrite 0x5B (d - 1)).loopWrite (0x57 + d) 0
    | 7 => { x with rstack := g.t.toNat % 2 ^ 14 :: x.rstack }
    | 8 => { x with rstack := x.rstack.drop 1 }
    | _ => x

/-- A transfer takes effect on the return stack (R289). -/
def stackAfter (st : List Nat) (t : Xfer) : List Nat :=
  match t.kind with | .call r => (r :: st).take 8 | .ret => st.drop 1 | _ => st

/-- The index of the bundle three after the one that issues, where no transfer of it decides (R287, R291, R338). -/
def ThreadSt.aheadIdx (x : ThreadSt) : Nat :=
  let i := (x.fq.map (·.idx)).getD 0 0
  let j := (x.fq.map (·.idx)).getD 1 0
  let l := (x.fq.map (·.idx)).getD 2 0
  let r0 := loopStep i x.loops x.loopWr
  let r1 := loopStep j r0.1.1 r0.1.2
  (loopStep l r1.1.1 r1.1.2).2.getD (l + 1)

/-- The thread's control state after a bundle issues: loops, transfers, return stack, IE (R287 to R293, R351). `x` is the
thread with the bundle's writes, `new` the transfers it starts. -/
def ThreadSt.flow (x : ThreadSt) (a : Acts) (new : List Xfer) (setsIe : Bool) : ThreadSt :=
  let i := a.pre.pc
  let r := loopStep i a.pre.loops a.pre.loopWr
  let moved := a.pre.xfers.map (fun t => { t with left := t.left - 1 })
  let now := moved.filter (fun t => t.left == 0)
  let y := if a.pre.rfi ∧ ¬ setsIe then x.setPort 0x38B 1 else x
  { y with
    loops := r.1.1
    loopWr := r.1.2 ++ x.loopWr.drop a.pre.loopWr.length
    xfers := moved.filter (fun t => t.left != 0) ++ new
    rstack := now.foldl stackAfter x.rstack
    rfi := now.any (fun t => t.kind == .rfi) }

/-- The fetch of the bundle three ahead of the one that issues in cycle `cyc` (R338, R355). -/
def State.fetchAhead (s : State) (mid cyc idx : Nat) (fence : Bool) : State :=
  let x := s.thr mid
  let fq := x.fq.drop 1
  let waits := (fence && s.iramq.any (fun w => w.mid == mid)) || fq.any (fun f => f.bits.isNone)
  let f : Fetch :=
    if waits then { idx := idx } else { idx := idx, bits := some (s.bundleAt (midCluster mid) idx), due := cyc + 2 }
  s.setThr mid { x with fq := fq ++ [f] }

/-- The set of a MACST or OVFPC bit wins over a move's write in the same cycle (R313): the bits set as the cycle starts stay. -/
def ThreadSt.macWins (x : ThreadSt) (st pc : W40) : ThreadSt :=
  let y := if st = 0 then x else x.setPort 0x1C9 (x.port 0x1C9 ||| st)
  if bitAt pc.toNat 15 then y.setPort 0x1CA pc else y

/-- A thread's next bundle issues in cycle `cyc`. `before` is the thread before what the cycle delivered. -/
def State.issue (s : State) (mid : Nat) (ms : List Move) (before : ThreadSt) : State :=
  let x := s.thr mid
  let cyc := s.cycle (coreKey mid)
  let a := s.actsOf mid x ms
  let i := x.pc
  let newSt := x.port 0x1C9 &&& ~~~(before.port 0x1C9)
  let newPc := if bitAt (before.port 0x1CA).toNat 15 then 0 else x.port 0x1CA
  let post := (a.trigs.foldl (fun y g => y.cuAct a g) a.post).macWins newSt newPc
  let s1 := a.trigs.foldl (fun t g => t.startUnit mid cyc i x g) (s.setThr mid post)
  let new := a.trigs.filterMap (xferOf i a)
  let s2 := if 1 < new.length then s1.tookFree else s1
  let target := match new with
    | [] => x.aheadIdx
    | [t] => t.target
    | t :: u :: _ => if bitAt s1.freeWord.toNat 0 then u.target else t.target
  let setsIe := (activeMoves x ms).any (fun m => m.dst == 0x38B)
  let s3 := s2.setThr mid ((s2.thr mid).flow a new setsIe)
  let s4 := s3.fetchAhead mid cyc target (a.trigs.any (fun g => g.unit == 0x300 && g.op == 6))
  let y := s4.thr mid
  s4.setThr mid { y with skipBrk := false, st := if x.step then 4 else y.st, step := false }

/-- A thread that a core's cycle selects enters its interrupt, halts at a break, faults, or issues its bundle (R345 to R363). -/
def State.turn (s : State) (c k mid : Nat) (donated ue : Bool) (before : ThreadSt) : State :=
  let x := s.thr mid
  let brk : Bool := (match x.fq.head? with | some f => bitAt (f.bits.getD 0) 2 | none => false)
  if s.entryDue mid ∧ ¬ x.step then ((s.enterIrq mid).coreCnt c k 3).coreTick c k false
  else match x.storeErr with
    | some (a, phys) =>
      ((s.setThr mid { x with storeErr := none }).threadFault mid
        { code := 0x3013, unit := 0x280, phys := if phys then some a else none, loc := if phys then none else some a }).coreTick
        c k false
    | none =>
      if c < 16 ∧ brk ∧ s.flag (R.CLU_DBG c) F.CLU_DBG_EN ∧ ¬ s.locked ∧ ¬ x.skipBrk then
        (s.setThr mid { x with st := 4, step := false }).coreTick c k false
      else match s.judge mid ue with
        | .inl f => (s.threadFault mid f).coreTick c k false
        | .inr ms =>
          let t := (s.issue mid ms before).coreTick c k true
          if donated then t.coreCnt c k 1 else t

/-- BUNDLE_ISSUE (R258, R269, R346): a core's cycle, after at most `idle` cycles in which none of its threads is ready; the thread
selected issues its bundle. `ue` says that the bundle's fetch met an uncorrectable error. -/
def execBundleIssue (c k idle : Nat) (ue : Bool) (s : State) : Out :=
  .next (
    if ¬ s.coreRuns c k then s
    else
      let s0 := State.idleCycles c k idle s
      let t := s0.cycleStart c k
      match t.pick c k with
      | some (mid, donated) => t.turn c k mid donated ue (s0.thr mid)
      | none => t.coreTick c k false)

/-! ## Long units at work -/

/-- A word of packet or table memory that a range touches is poisoned. -/
def State.sramBad (s : State) (mem a n : Nat) : Bool :=
  s.ecs.bad.any (fun w => decide (mem * 2 ^ 32 + a / 8 ≤ w ∧ w ≤ mem * 2 ^ 32 + (a + n - 1) / 8))

/-- What a unit answers: results, an error response, or nothing yet. -/
inductive UnitAns where
  | done (rs : List W40) | error | waits
  deriving DecidableEq, Repr

/-- A load's answer from bytes. -/
def loadAns (f : Nat) (r : State × Option (List Byte)) : State × UnitAns :=
  (r.1, match r.2 with | some bs => .done [formLoad f bs] | none => .error)

/-- A load from packet or table memory, or from an instruction RAM. -/
def State.sramLoad (s : State) (sp : Space) (mem a f : Nat) (ue : Bool) : State × UnitAns :=
  let n := formBytes f
  if s.sramBad mem a n then (s, .error)
  else if ue then (s.sramUe mem a, .error)
  else (s, .done [formLoad f (s.bytes sp a n)])

/-- Whether the last response word sent to a master is an error response. -/
def State.respErr (s : State) (mid : Nat) : Bool := bitAt (s.resps.get (fun _ => 0) mid).toNat 39

/-- What a memory answers to a read: bytes, an error response, or nothing yet. -/
inductive MemAns where
  | bytes (bs : List Byte) | error | waits
  deriving DecidableEq, Repr

/-- A read within one DRAM line (R284, R456, R459, R463 to R465); `corr` and `uncorr` are the devices in error at the read. -/
def State.dramGet (s : State) (mid : Nat) (gen : BitVec 8) (a n corr uncorr : Nat) : State × MemAns :=
  let line := a / 64
  match s.dmcRefuse mid gen line 1 with
  | some t => (t, .error)
  | none =>
    let ch := ((s.chanOf (lineAddr line)).map (·.1)).getD 0
    if s.chState ch ≠ 3 then (s, .waits)
    else
      let t := s.chCnt ch 0
      let got (u : State) : State × MemAns := (u, .bytes (s.bytes .dram a n))
      if (s.dmc ch).wq.any (fun w => w.line == line) then got (t.chCnt ch 2)
      else if s.dramBad.contains line then (t.poisonRead ch line mid gen, .error)
      else if uncorr ≠ 0 then (t.freeze ch 1 (some line) uncorr mid gen false, .error)
      else if corr ≠ 0 then got (t.dramCe ch line corr)
      else got t

/-- A far load (R284). -/
def State.dramLoad (s : State) (mid a f corr uncorr : Nat) : State × UnitAns :=
  let r := s.dramGet mid (s.stampGen mid) a (formBytes f) corr uncorr
  (r.1, match r.2 with | .bytes bs => .done [formLoad f bs] | .error => .error | .waits => .waits)

/-- A far store (R284, R455, R460). -/
def State.dramStore (s : State) (mid a : Nat) (bs : List Byte) (corr uncorr : Nat) : State × UnitAns :=
  let line := a / 64
  let gen := s.stampGen mid
  match s.dmcRefuse mid gen line 2 with
  | some t => (t, .error)
  | none =>
    let n := ((s.chanOf (lineAddr line)).map (·.1)).getD 0
    let x := s.dmc n
    if s.chTakes n = 1 ∨ (¬ x.wq.any (fun w => w.line == line) ∧
        64 ≤ (x.wq.filter (fun w => lineSub w.line == lineSub line)).length) then (s, .waits)
    else
      let t := s.dmcWrite n line mid gen ((2 ^ bs.length - 1) * 2 ^ (a % 64)) (List.replicate (a % 64) 0 ++ bs) corr uncorr
      (t, if t.respErr mid then .error else .done [])

/-- Whether a thread waits already at the semaphore whose SEM_ACQ an offset names. -/
def State.semWaits (s : State) (mid off : Nat) : Bool :=
  (List.range semCount).any (fun n => off == R.SEM_ACQ n && (s.sem n).waiters.any (fun w => w.mid == mid))

/-- A register access of LSU1 (R693); `ue` as in REGISTER_WRITE. -/
def State.regRun (s : State) (mid off : Nat) (o : LongOp) (ue : Bool) : State × UnitAns :=
  let gen := s.stampGen mid
  if o.op = 1 then
    let v : W32 := o.o1.setWidth 32
    if s.noAnswer mid off then (s, .waits)
    else (s.routeWrite off mid gen v ue, if s.writeErr off mid gen v then .error else .done [])
  else if s.semWaits mid off then (s, .waits)
  else match s.routeRead off mid gen with
    | (t, .value v) => (t, .done [if lsu1Form o.o2 = 5 then w40 (signed 32 v.toNat) else v.setWidth 40])
    | (t, .error) => (t, .error)
    | (t, .waits) => (t, .waits)

/-- A local access of LSU1 (R320). -/
def State.localRun (s : State) (mid : Nat) (o : LongOp) (ue : Bool) : State × UnitAns :=
  let a := lsuAddr o.o0 o.t
  let f := lsu1Form o.o2
  let c := midCluster mid
  let bs := formStore f o.o1
  match lsu1At c a (formBytes f), decide (o.op = 1) with
  | some (.reg off), _ => s.regRun mid off o ue
  | some .spad, false => loadAns f (s.spadRead mid a (formBytes f) ue)
  | some .spad, true => let r := s.spadWrite mid a bs; (r.1, if r.2 then .error else .done [])
  | some (.iram i), _ => s.sramLoad (iramOf c) (if c = 16 then 0x32 else 0x20 + c) i f ue
  | some (.packet i), false => s.sramLoad .packet 0 i f ue
  | some (.packet i), true => (s.setBytes .packet i bs, .done [])
  | some (.table i), _ => s.sramLoad .table 1 i f ue
  | some (.vault i), false => loadAns f (s.vaultAccess mid (s.stampGen mid) i (formBytes f) none ue)
  | some (.vault i), true =>
    let r := s.vaultAccess mid (s.stampGen mid) i (formBytes f) (some bs) ue
    (r.1, if r.2.isNone then .error else .done [])
  | none, _ => (s, .error)

/-- The bytes an LSU1 operation touches: whether they are far, their address, their number; none for BPM and fences. -/
def LongOp.range (o : LongOp) : Option (Bool × Nat × Nat) :=
  if o.op < 4 then some (decide (2 ≤ o.op), lsuAddr o.o0 o.t, formBytes (lsu1Form o.o2)) else none

/-- Whether an LSU1 operation waits for an earlier one of the thread: on the same bytes (R323), or for all under a fence
(R324). -/
def LongOp.follows (o e : LongOp) : Bool :=
  e.unit == 0x280 &&
    (o.op == 5 ||
      (match o.range, e.range with
      | some (f, a, n), some (g, b, m) => f == g && e.res.isNone && decide (a < b + m ∧ b < a + n)
      | _, _ => false))

/-- Whether BPM holds an operation of a thread for a frozen pool (R200). -/
def State.bpmHolds (s : State) (mid : Nat) : Bool := (List.range 8).any (fun p => (s.pool p).held.any (fun h => h.mid == mid))

/-- LSU1 carries out an operation. -/
def State.lsu1Run (s : State) (mid : Nat) (o : LongOp) (before : List LongOp) (corr uncorr : Nat) (ue : Bool) : State × UnitAns :=
  let a := lsuAddr o.o0 o.t
  let f := lsu1Form o.o2
  if before.any (fun e => o.follows e) then (s, .waits)
  else match o.op with
    | 0 | 1 => s.localRun mid o ue
    | 2 => s.dramLoad mid a f corr uncorr
    | 3 => s.dramStore mid a (formStore f o.o1) corr uncorr
    | 5 =>
      if (s.thr mid).shorts.any (fun e => match e.eff with | .store .. => true | _ => false) then (s, .waits) else (s, .done [0])
    | _ => (s, .waits)

/-- ATU carries out an operation at the bank (R326, R327, R428). -/
def State.atuRun (s : State) (mid : Nat) (o : LongOp) (ue : Bool) : State × UnitAns :=
  let a := o.t.toNat
  let n := if bitAt o.o2.toNat 0 then 4 else 5
  let cut (v : Nat) : Nat := v % 2 ^ (8 * n)
  let cyc := s.cycle (coreKey mid)
  match s.spadRead mid a n ue with
  | (t, none) => (t, .error)
  | (t, some bs) =>
    let old := leNat bs
    let put (v : Nat) (r : Nat) : State × UnitAns := ((t.spadWrite mid a (toLe n v)).1, .done [BitVec.ofNat 40 r])
    let resv (r : Option (Nat × Nat)) : State := t.setThr mid { t.thr mid with resv := r }
    match o.op with
    | 0 => (resv (some (a / 8, cyc + 1024)), .done [BitVec.ofNat 40 old])
    | 1 =>
      (match (t.thr mid).resv with
      | some (b, e) =>
        if b = a / 8 ∧ cyc < e then (((resv none).spadWrite mid a (toLe n o.o1.toNat)).1, .done [0]) else (resv none, .done [1])
      | none => (t, .done [1]))
    | 2 => put 1 old
    | 3 => put (old + o.o1.toNat) old
    | 4 => put o.o1.toNat old
    | _ => if cut o.o0.toNat = old then put o.o1.toNat old else (t, .done [BitVec.ofNat 40 old])

/-- The answer of the unit of a thread's operation `n`, which is not answered yet. ODS, BPM and the accelerators answer in their
own rows. -/
def State.unitRun (s : State) (mid : Nat) (o : LongOp) (before : List LongOp) (corr uncorr : Nat) (ue : Bool) : State × UnitAns :=
  match o.unit with
  | 0x280 => s.lsu1Run mid o before corr uncorr ue
  | 0x2C0 => s.atuRun mid o ue
  | 0x380 =>
    (match s.lowEvent mid ((s.thr mid).port 0x388).toNat with
    | some e => (s, .done [BitVec.ofNat 40 e])
    | none => (s, .waits))
  | 0x400 => if s.iramq.any (fun w => w.mid == mid) then (s, .waits) else (s, .done [0])
  | _ => (s, .waits)

/-- Set the answer of a thread's operation `n`. -/
def State.setLong (s : State) (mid n : Nat) (f : LongOp → LongOp) : State :=
  s.setThr mid { s.thr mid with longs := (s.thr mid).longs.modify n f }

/-- A thread's operation `n` is asked of its unit. -/
def State.longAsk (s : State) (mid n corr uncorr : Nat) (ue : Bool) : State :=
  match (s.thr mid).longs[n]? with
  | none => s
  | some o =>
    if o.res.isSome then s
    else if o.isBpm then
      (if s.bpmHolds mid then s
       else match s.bpmThread mid (s.stampGen mid) (bitsOf o.o2.toNat 6 4) o.t.toNat (o.o1.toNat % 4096) with
        | .next t => t
        | _ => s)
    else match s.unitRun mid o ((s.thr mid).longs.take n) corr uncorr ue with
      | (t, .done rs) => t.setLong mid n (fun p => { p with res := some rs })
      | (t, .error) => t.setLong mid n (fun p => { p with res := some [], err := true })
      | (t, .waits) => t

/-- The answer of a thread's operation `n` reaches its ports, in trigger order for each port (R301, R325). -/
def State.longDeliver (s : State) (mid n : Nat) : State :=
  let x := s.thr mid
  match x.longs[n]? with
  | some { res := some rs, ports := ps, err := err, op := op, o0 := o0, t := t, .. } =>
    if (x.longs.take n).any (fun e => e.ports.any (fun p => ps.contains p)) then s
    else
      let y := { x with longs := x.longs.eraseIdx n }
      if ¬ err then s.setThr mid (y.deliver (ps.zip rs))
      else if ps = [] then s.setThr mid { y with storeErr := y.storeErr.or (some (lsuAddr o0 t, decide (2 ≤ op))) }
      else s.setThr mid (y.poisonAll ps)
  | _ => s

/-- LONG_UNIT_RESULT (R341): the unit of a thread's operation `n` answers where it can, and the answer reaches its ports. `corr`
and `uncorr` are the devices in error at a DRAM read, `ue` an uncorrectable error of another memory. -/
def execLongUnitResult (mid n corr uncorr : Nat) (ue : Bool) (s : State) : Out :=
  .next (
    if ¬ isThread mid ∨ ¬ s.coreRuns (midCluster mid) (midCore mid) then s
    else (s.longAsk mid n (corr % 1024) (uncorr % 1024) ue).longDeliver mid n)

/-! ## Window lines and reservations -/

/-- Whether a thread's next bundle is held for a line of a packet window (R317). -/
def State.wantsLine (s : State) (mid slot line : Nat) : Bool :=
  let x := s.thr mid
  match x.fq.head? with
  | some { bits := some n, .. } =>
    (match decodeBundle n with
    | some ms =>
      let a := s.actsOf mid x ms
      a.trigs.any (fun g => g.unit == 0x240 &&
        (match s.lsu0At mid x (lsuAddr (a.post.port 0x240) g.t) (formBytes (lsu0Form g.op)) with
        | .win sl k => sl == slot && (winLines k (formBytes (lsu0Form g.op))).contains line && !x.hasLine slot line
        | _ => false))
    | none => false)
  | _ => false

/-- WINDOW_LINE_FETCH (R318): a line that a thread's next bundle needs arrives. -/
def execWindowLineFetch (mid slot line : Nat) (s : State) : Out :=
  .next (if isThread mid ∧ s.wantsLine mid slot line then s.fetchLine mid slot line else s)

/-- RESERVATION_EXPIRE (R327): a thread's reservation is 1,024 cycles old. -/
def execReservationExpire (mid : Nat) (s : State) : Out :=
  .next (match (s.thr mid).resv with
    | some (_, e) =>
      if isThread mid ∧ e ≤ s.cycle (coreKey mid) then s.setThr mid { s.thr mid with resv := none } else s
    | none => s)

end Sys2Proof.Machine
end

