-- ==== Sys2Proof/Machine/HostPath.lean ====
section
/-! DEFINITION. The accesses of the host path (21_host_lowspeed): host reads and writes through the BARs, the debug window, the
SPI target, the JTAG debug instructions. -/
namespace Sys2Proof.Machine
open Sys2Proof

/-! ## Completions (R660, R661) -/

/-- The host path's MID, and its generation. -/
def hostMid : Nat := 0xA60
def State.hostGen (s : State) : BitVec 8 := s.genOf hostMid

/-- A host read completes; a read of the same place that waited is answered by it. -/
def State.complete (s : State) (bar off : Nat) (c : Completion) : State :=
  s.setHif { s.hif with reads := s.hif.reads.filter (fun r => r.off != off || r.bar != bar), last := some c }

/-- A host read waits for its unit. -/
def State.hostWaits (s : State) (bar off : Nat) : State :=
  if s.hif.reads.any (fun r => r.off == off && r.bar == bar) then s
  else s.setHif { s.hif with reads := s.hif.reads ++ [{ bar := bar, off := off, since := s.time.clock }] }

/-- HOST_ACC_BAD (R660). -/
def State.accBad (s : State) (bar off be : Nat) : State := s.raise (hifRec 0 0x7801 0 3 off hostMid (bar + be % 256 * 16))

/-- A request that HIF refuses: a read completes with Unsupported Request, a write is discarded. -/
def State.hostRefuse (s : State) (bar off be : Nat) (write : Bool) : State :=
  let t := s.accBad bar off be
  if write then t else t.setHif { t.hif with last := some .unsupported }

/-- A unit answers a host read with an error response (R660). -/
def State.hostRdErr (s : State) (bar off code : Nat) : State :=
  (s.complete bar off .abort).raise (hifRec 0 0x7803 0 3 off hostMid code)

/-- A write meets an error response (R661). -/
def State.hostWrErr (s : State) (off v : Nat) : State := s.raise (hifRec 0 0x7804 0 3 off hostMid v)

/-- Whether a request is one aligned 32-bit word with all its byte enables. -/
def oneWord (off len be : Nat) : Bool := decide (off % 4 = 0 ∧ len = 4 ∧ be = 15)

/-! ## BAR0 -/

/-- Whether a write of the host path or the SPI target meets an error response; discards under R549 and R643 are none. -/
def State.pathWriteErr (s : State) (mid off : Nat) (v : W32) : Bool :=
  s.writeErr off mid (s.genOf mid) v && !s.headless && (s.boot.released || bootReg off)

/-- A host read of a register. -/
def State.bar0Read (s : State) (off : Nat) : State :=
  if s.semWaits hostMid off then s
  else match s.routeRead off hostMid s.hostGen with
    | (t, .value v) => t.complete 0 off (.data (toLe 4 v.toNat))
    | (t, .error) => t.hostRdErr 0 off 0x7301
    | (t, .waits) => t.hostWaits 0 off

/-- A host write of a register. -/
def State.bar0Write (s : State) (off : Nat) (v : W32) (ue : Bool) : State :=
  let t := s.routeWrite off hostMid s.hostGen v ue
  if s.pathWriteErr hostMid off v then t.hostWrErr off v.toNat else t

/-! ## BAR2 (R659, R664, R666) -/

/-- The queue and the word of a queue block that an offset of BAR2 names. -/
def queueWord (off : Nat) : Option (Nat × Nat) :=
  if 0x10000 ≤ off ∧ off < 0x10000 + 1792 * 0x40 ∧ (off - 0x10000) % 0x40 < 0x1C then
    some ((off - 0x10000) / 0x40, (off - 0x10000) % 0x40 / 4)
  else none

/-- The bytes of the MSI-X table and of the pending-bit array. -/
def State.msixByte (s : State) (a : Nat) : Byte :=
  if a < 0x8000 then BitVec.ofNat 8 ((s.msixWord (a / 4)).toNat / 2 ^ (8 * (a % 4)))
  else BitVec.ofNat 8 ((List.range 8).map (fun i => b2n (s.hif.pba.get (fun _ => false) ((a - 0x8000) * 8 + i)) * 2 ^ i)).sum

/-- A write of one byte of the MSI-X table; a vector's control word keeps its mask bit only. -/
def State.msixPut (s : State) (a : Nat) (b : Byte) : State :=
  let k := a / 4
  let v := putBits (s.msixWord k).toNat (8 * (a % 4)) 8 b.toNat
  s.setHif { s.hif with table := s.hif.table.set msixReset k (BitVec.ofNat 32 (if k % 4 = 3 then v % 2 else v)) }

/-- A write to a register of a queue block. -/
def State.queueWrite (s : State) (q w : Nat) (v : W32) : State :=
  match w with
  | 2 => s.qCfgWrite q v
  | 4 => s.qDoorbell q false v
  | 5 => s.qDoorbell q true v
  | 6 => s
  | 0 => if s.qOn q then s else s.setQw q 0 (v &&& 0xFFFFF000)
  | _ => if s.qOn q then s else s.setQw q w v

/-- Whether a range of BAR2 lies in the MSI-X table or the pending-bit array. -/
def msixRange (off len : Nat) : Bool := decide (off + len ≤ 0x8000 ∨ (0x8000 ≤ off ∧ off + len ≤ 0x8100))

/-- A host read of BAR2. -/
def State.bar2Read (s : State) (off len be : Nat) : State :=
  match queueWord (off / 4 * 4) with
  | some (q, w) =>
    if oneWord off len be then s.complete 2 off (.data (toLe 4 (s.qw q w).toNat)) else s.hostRefuse 2 off be false
  | none =>
    if msixRange off len then s.complete 2 off (.data ((List.range len).map (fun i => s.msixByte (off + i))))
    else s.hostRefuse 2 off be false

/-- A host write of BAR2; the pending-bit array is read only. -/
def State.bar2Write (s : State) (off be : Nat) (data : List Byte) : State :=
  match queueWord (off / 4 * 4) with
  | some (q, w) =>
    if oneWord off data.length be then s.queueWrite q w (BitVec.ofNat 32 (leNat data)) else s.hostRefuse 2 off be true
  | none =>
    if ¬ msixRange off data.length then s.hostRefuse 2 off be true
    else if 0x8000 ≤ off then s
    else data.zipIdx.foldl (fun t p => t.msixPut (off + p.2) p.1) s

/-! ## BAR4 (R663) -/

/-- Whether debug is open: LOCK is 0, and the life-cycle state is BLANK, DEVELOP or RETURN. -/
def State.debugOpen (s : State) : Bool := !s.locked && (s.fuse.lc == 0 || s.fuse.lc == 1 || s.fuse.lc == 3)

/-- What BAR4 reaches: DRAM from a physical address, or a cluster's scratchpad. -/
inductive Bar4At where
  | dram (base : Nat) | spad (c : Nat)
  deriving DecidableEq, Repr

/-- What HIF_BAR4_WIN.TARGET selects; none while BAR4 is closed. -/
def State.bar4At (s : State) : Option Bar4At :=
  let t := s.fd R.HIF_BAR4_WIN F.HIF_BAR4_WIN_TARGET
  if ¬ s.debugOpen then none
  else if t = 0 then some (.dram (s.fd R.HIF_BAR4_WIN F.HIF_BAR4_WIN_BASE * 2 ^ 24))
  else if 0x10 ≤ t ∧ t < 0x20 then some (.spad (t - 0x10))
  else none

/-- A range cut into the parts of 64-byte lines: address and length. -/
def lineParts (a n : Nat) : List (Nat × Nat) :=
  (List.range ((a + n + 63) / 64 - a / 64)).map (fun i =>
    let lo := max a ((a / 64 + i) * 64)
    (lo, min (a + n) ((a / 64 + i + 1) * 64) - lo))

/-- The parts of a DRAM read, one line after another; the devices in error concern the first line. -/
def State.hostGet (s : State) (corr uncorr : Nat) : List (Nat × Nat) → State × MemAns
  | [] => (s, .bytes [])
  | (a, n) :: ps =>
    match s.dramGet hostMid s.hostGen a n corr uncorr with
    | (t, .bytes bs) =>
      (match State.hostGet t 0 0 ps with
      | (u, .bytes cs) => (u, .bytes (bs ++ cs))
      | r => r)
    | r => r

/-- A read through BAR4. -/
def State.bar4Read (s : State) (off len be corr uncorr : Nat) (ue : Bool) : State :=
  match s.bar4At with
  | none => s.hostRefuse 4 off be false
  | some at_ =>
    if 512 < len ∨ len = 0 then s.hostRefuse 4 off be false
    else match at_ with
      | .dram base =>
        if s.dramSize < base + off + len then s.complete 4 off .abort
        else (match s.hostGet corr uncorr (lineParts (base + off) len) with
          | (t, .bytes bs) => t.complete 4 off (.data bs)
          | (t, .error) => t.hostRdErr 4 off (if uncorr ≠ 0 then 0x5002 else 0x5005)
          | (t, .waits) => t.hostWaits 4 off)
      | .spad c =>
        if 0x80000 < off + len then s.complete 4 off .unsupported
        else (match s.spmRead c off len ue with
          | (t, some bs) => t.complete 4 off (.data bs)
          | (t, none) => t.hostRdErr 4 off 0x4002)

/-- A line of a write through BAR4 reaches DRAM: whether it met an error response. -/
def State.hostPut (s : State) (a : Nat) (bs : List Byte) (corr uncorr : Nat) : State × Bool :=
  match s.dramStore hostMid a bs corr uncorr with
  | (t, .error) => (t, true)
  | (t, _) => (t, false)

/-- A write through BAR4: its lines within installed DRAM, with one record where a line is discarded or fails. -/
def State.bar4Write (s : State) (off be : Nat) (data : List Byte) (corr uncorr : Nat) : State :=
  match s.bar4At with
  | none => s.hostRefuse 4 off be true
  | some at_ =>
    if 512 < data.length ∨ data = [] then s.hostRefuse 4 off be true
    else match at_ with
      | .dram base =>
        let a := base + off
        let parts := lineParts a data.length
        let ok := parts.filter (fun p => decide (p.1 / 64 * 64 + 64 ≤ s.dramSize))
        let r := ok.foldl (fun (r : State × Bool) p =>
          let u := r.1.hostPut p.1 ((data.drop (p.1 - a)).take p.2) corr uncorr
          (u.1, r.2 || u.2)) (s, false)
        if r.2 ∨ ok.length ≠ parts.length then r.1.hostWrErr off (leNat (data.take 4)) else r.1
      | .spad c => if 0x80000 < off + data.length then s else s.spmWrite c off 0xA60 data

/-- BAR4_ACCESS (R663): a read of `len` bytes, or a write of `data`. `corr` and `uncorr` are the devices in error at a DRAM read,
`ue` an uncorrectable error of a scratchpad. -/
def execBar4Access (off len be : Nat) (data : Option (List Byte)) (corr uncorr : Nat) (ue : Bool) (s : State) : Out :=
  .next (if ¬ s.hifOn ∨ ¬ s.hostUp ∨ 2 ^ 24 < off + max len (data.getD []).length then s
    else match data with
      | none => s.bar4Read off len be (corr % 1024) (uncorr % 1024) ue
      | some bs => s.bar4Write off be bs (corr % 1024) (uncorr % 1024))

/-! ## Host requests -/

/-- The size of a BAR; 0 where the function has none. -/
def barSize (bar : Nat) : Nat := match bar with | 0 | 4 => 2 ^ 24 | 2 => 0x40000 | _ => 0

/-- HOST_READ (R659, R660): a read of `len` bytes at an offset of a BAR, with its byte enables. -/
def execHostRead (bar off len be : Nat) (s : State) : Out :=
  .next (if ¬ s.hifOn ∨ ¬ s.hostUp ∨ len = 0 ∨ barSize bar < off + len then s
    else match bar with
      | 0 => if oneWord off len be then s.bar0Read off else s.hostRefuse 0 off be false
      | 2 => s.bar2Read off len be
      | _ => s.bar4Read off len be 0 0 false)

/-- HOST_WRITE (R661): a write of `data` at an offset of a BAR. `bar` 7 is a configuration write of MSI-X Message Control, whose
bits 15 and 14 enable and mask the function. `ue` as in REGISTER_WRITE. -/
def execHostWrite (bar off be : Nat) (data : List Byte) (ue : Bool) (s : State) : Out :=
  .next (if ¬ s.hifOn ∨ ¬ s.hostUp then s
    else if bar = 7 then
      s.setHif { s.hif with msixEn := bitAt (leNat data) 15, msixMask := bitAt (leNat data) 14 }
    else if data = [] ∨ barSize bar < off + data.length then s
    else match bar with
      | 0 =>
        if oneWord off data.length be then s.bar0Write off (BitVec.ofNat 32 (leNat data)) ue else s.hostRefuse 0 off be true
      | 2 => s.bar2Write off be data
      | _ => s.bar4Write off be data 0 0)

/-- The limit of a read in clock cycles, and in µs (R660). -/
def State.rdTmo (s : State) : Nat := max 1 (s.settled.fd R.HIF_HOST_CFG F.HIF_HOST_CFG_RD_TMO)

/-- HOST_RD_TMO (R660, R680): the oldest host read, or with `spi` the SPI target's, stays unanswered past RD_TMO. -/
def execHostRdTmo (spi : Bool) (s : State) : Out :=
  .next (
    let due (since off : Nat) (f : State → State) : State :=
      ((f (s.passTo (since + s.rdTmo * 250))).hifCnt 4).raise
        (hifRec (if spi then 3 else 0) 0x7802 2 3 off (if spi then 0xA90 else hostMid) s.rdTmo)
    if ¬ s.hifOn then s
    else if spi then
      (match s.low.spitBusy with
      | some (off, since) =>
        due since off (fun t => t.setLow { t.low with spitBusy := none, spit := { t.low.spit with status := 4, data := 0 } })
      | none => s)
    else match s.hif.reads with
      | r :: rs => due r.since r.off (fun t => t.setHif { t.hif with reads := rs, last := some .abort })
      | [] => s)

/-! ## The SPI target (R678 to R681, R703) -/

/-- The SPI target's MID. -/
def spitMid : Nat := 0xA90

/-- What the MISO of the next frame answers: BUSY with the SEQ of the frame that runs, or the held result. -/
def State.spitAnswer (s : State) : SpitRes :=
  match s.low.spitBusy, s.low.spitHeld with
  | some _, _ => { status := 1, seq := s.low.spit.seq }
  | none, some (_, _, seq) => { status := 1, seq := seq }
  | none, none => s.low.spit

/-- The target's result. -/
def State.setSpit (s : State) (status seq : Nat) (data : W32 := 0) : State :=
  s.setLow { s.low with spit := { status := status, seq := seq, data := data } }

/-- A complete frame: it counts, and its MISO answers the last one. -/
def State.spitFrame (s : State) : State := (s.setLow { s.low with spitMiso := s.spitAnswer }).hifCnt 5

/-- A framing fault (R681): its bit, its count, its record. -/
def State.spitFault (s : State) (bit : Nat) : State :=
  let t := ((s.orBits R.HIF_SPIT_ERR (2 ^ bit)).hifInt 1).hifCnt 6
  t.raiseLim msCyc 3 (hifRec 3 0x780B 0 0 0 0 ((t.rd R.HIF_SPIT_ERR).toNat % 32)) (fun k e => { e with d1 := BitVec.ofNat 32 k })

/-- The STATUS of a write of the SPI target: DENIED under R15 or R549, ERROR on an error response, or OK. -/
def State.spitWrStatus (s : State) (off : Nat) (v : W32) : Nat :=
  if (¬ s.boot.released ∧ ¬ bootReg off) ∨ (s.locked ∧ lockMarked off) then 7
  else if s.pathWriteErr spitMid off v then 4 else 0

/-- A held first write that no complement follows is delivered alone and fails with kind 1 (R703). -/
def State.spitFlush (s : State) : State :=
  match s.low.spitHeld with
  | none => s
  | some (off, v, seq) =>
    let st := s.spitWrStatus off v
    let t := (s.setLow { s.low with spitHeld := none }).routeWrite off spitMid (s.genOf spitMid) v false
    let u := match t.pendOf (guardInst off) with
      | some p =>
        if p.off = off ∧ p.mid = spitMid then
          ((t.passTo (p.since + pairCyc)).endPend (guardInst off)).guardFail off spitMid p.gen v 1
        else t
      | none => t
    u.setSpit st seq

/-- SPIT_READ (R680): a complete READ frame. -/
def execSpitRead (off seq : Nat) (s : State) : Out :=
  .next (if ¬ s.hifOn then s
    else
      let off := off % 2 ^ 24
      let seq := seq % 256
      let f := s.spitFrame
      if s.low.spitBusy.isSome then f.spitFault 4
      else
        let t := f.spitFlush
        match t.routeRead off spitMid (t.genOf spitMid) with
        | (u, .value v) => u.setSpit 0 seq v
        | (u, .error) => u.setSpit 4 seq
        | (u, .waits) => let w := u.setSpit 1 seq; w.setLow { w.low with spitBusy := some (off, w.time.clock) })

/-- SPIT_WRITE (R680, R703): a complete WRITE frame. -/
def execSpitWrite (off : Nat) (value : W32) (seq : Nat) (ue : Bool) (s : State) : Out :=
  .next (if ¬ s.hifOn then s
    else
      let off := off % 2 ^ 24
      let seq := seq % 256
      let f := s.spitFrame
      let gen := s.genOf spitMid
      if s.low.spitBusy.isSome then f.spitFault 4
      else match s.low.spitHeld with
        | some (a, v, first) =>
          if off = a + 4 then
            let st := s.spitWrStatus a v
            (((f.setLow { f.low with spitHeld := none }).routeWrite a spitMid gen v ue).routeWrite off spitMid gen value ue).setSpit
              st first
          else
            let t := f.spitFlush
            if isFirst off then t.setLow { t.low with spitHeld := some (off, value, seq) }
            else (t.routeWrite off spitMid gen value ue).setSpit (t.spitWrStatus off value) seq
        | none =>
          if isFirst off then f.setLow { f.low with spitHeld := some (off, value, seq) }
          else (f.routeWrite off spitMid gen value ue).setSpit (s.spitWrStatus off value) seq)

/-- SPIT_NOP (R680): a NOP frame collects the result of the last frame; while one runs, its result is kept for the next. -/
def execSpitNop (seq : Nat) (s : State) : Out :=
  .next (if ¬ s.hifOn then s
    else if s.low.spitBusy.isSome then s.spitFrame
    else if s.low.spitHeld.isSome then s.spitFrame.spitFlush
    else s.spitFrame.setSpit 0 (seq % 256))

/-- SPIT_FRAME_FAULT (R681): kind 0 PARTIAL, 1 SHORT, 2 CRC, 3 BAD_OP, 4 BUSY_DROP; or 5, SCK edges after word 9, `edges` of
them, in a frame that stands. -/
def execSpitFrameFault (kind edges : Nat) (s : State) : Out :=
  .next (if ¬ s.hifOn then s
    else if kind = 5 then s.countN (R.HIF_CNT 7) edges
    else if 5 < kind ∨ (kind = 4 ∧ s.low.spitBusy.isNone) then s
    else
      let t := (if 2 ≤ kind then s.spitFrame else s).spitFault kind
      let st := match kind with | 2 => 2 | 3 => 3 | _ => 5
      if kind = 4 ∨ s.low.spitBusy.isSome then t else t.setSpit st t.low.spit.seq)

/-! ## JTAG (R687) -/

/-- JTAG_DBG_REG (R687): while debug is open the instruction reads or writes a register as the host path does, and shows what it
reads; else it acts as BYPASS. -/
def execJtagDbgReg (off : Nat) (write : Option W32) (s : State) : Out :=
  .next (if ¬ s.debugOpen ∨ ¬ s.hifOn then s.jtagBypass 0x10
    else
      let t := s.jtagBypass 0x10
      let off := off % 2 ^ 24 / 4 * 4
      match write with
      | some v => t.routeWrite off hostMid t.hostGen v false
      | none =>
        match t.routeRead off hostMid t.hostGen with
        | (u, .value v) => u.setLow { u.low with tdo := v }
        | (u, _) => u)

/-- JTAG_DBG_MEM (R687): while debug is open the instruction reads or writes a word of what BAR4 reaches; else it acts as
BYPASS. -/
def execJtagDbgMem (off : Nat) (write : Option W32) (corr uncorr : Nat) (ue : Bool) (s : State) : Out :=
  .next (
    let t := s.jtagBypass 0x11
    let off := off % 2 ^ 24 / 4 * 4
    if ¬ s.hifOn then t
    else match s.bar4At with
      | none => t
      | some (.dram base) =>
        if s.dramSize < base + off + 4 then t
        else (match write with
          | some v => (t.hostPut (base + off) (toLe 4 v.toNat) (corr % 1024) (uncorr % 1024)).1
          | none =>
            match t.dramGet hostMid t.hostGen (base + off) 4 (corr % 1024) (uncorr % 1024) with
            | (u, .bytes bs) => u.setLow { u.low with tdo := BitVec.ofNat 32 (leNat bs) }
            | (u, _) => u)
      | some (.spad c) =>
        if 0x80000 < off + 4 then t
        else match write with
          | some v => t.spmWrite c off hostMid (toLe 4 v.toNat)
          | none =>
            match t.spmRead c off 4 ue with
            | (u, some bs) => u.setLow { u.low with tdo := BitVec.ofNat 32 (leNat bs) }
            | (u, none) => u)

end Sys2Proof.Machine
end

