-- ==== Sys2Proof/Machine/Dispatch.lean ====
section
/-! DEFINITION. One arm per command: the dispatch of a command to its meaning. -/
namespace Sys2Proof.Machine
open Sys2Proof

def exec (i : Instr) (s : State) : Host.Outcome State Fault Refusal :=
  match i with
  | .registerWrite mid gen off value ue => Sys2Proof.Machine.execRegisterWrite mid gen off value ue s
  | .guardFirstWrite mid gen off value => Sys2Proof.Machine.execGuardFirstWrite mid gen off value s
  | .guardTimeout off => Sys2Proof.Machine.execGuardTimeout off s
  | .guardComplementBad mid gen off value => Sys2Proof.Machine.execGuardComplementBad mid gen off value s
  | .lockWrite mid gen off value => Sys2Proof.Machine.execLockWrite mid gen off value s
  | .tallySnap mid gen => Sys2Proof.Machine.execTallySnap mid gen s
  | .tallyDone => Sys2Proof.Machine.execTallyDone s
  | .regDenied mid gen off write value => Sys2Proof.Machine.execRegDenied mid gen off write value s
  | .beaconPowerOn => Sys2Proof.Machine.execBeaconPowerOn s
  | .resetNAssert ns => Sys2Proof.Machine.execResetNAssert ns s
  | .resetNRelease role => Sys2Proof.Machine.execResetNRelease role s
  | .supplyLoss rails => Sys2Proof.Machine.execSupplyLoss rails s
  | .supplyRestore => Sys2Proof.Machine.execSupplyRestore s
  | .perstNRise => Sys2Proof.Machine.execPerstNRise s
  | .beaconUp => Sys2Proof.Machine.execBeaconUp s
  | .fuseSense ok => Sys2Proof.Machine.execFuseSense ok s
  | .bootRomEntry => Sys2Proof.Machine.execBootRomEntry s
  | .imageRead size erase => Sys2Proof.Machine.execImageRead size erase s
  | .imageAuth hashOk sigOk fuseOk populated => Sys2Proof.Machine.execImageAuth hashOk sigOk fuseOk populated s
  | .slotFail => Sys2Proof.Machine.execSlotFail s
  | .bootTmo => Sys2Proof.Machine.execBootTmo s
  | .sectionApply => Sys2Proof.Machine.execSectionApply s
  | .featureNegotiation => Sys2Proof.Machine.execFeatureNegotiation s
  | .clusterRelease => Sys2Proof.Machine.execClusterRelease s
  | .bootWrite mid gen off value => Sys2Proof.Machine.execBootWrite mid gen off value s
  | .bootRetry mid gen => Sys2Proof.Machine.execBootRetry mid gen s
  | .keyProgram mid gen slot => Sys2Proof.Machine.execKeyProgram mid gen slot s
  | .lcRequest mid gen value ok => Sys2Proof.Machine.execLcRequest mid gen value ok s
  | .driverFeatures mid gen value => Sys2Proof.Machine.execDriverFeatures mid gen value s
  | .sramFillDone => Sys2Proof.Machine.execSramFillDone s
  | .ddrTrainingDone ch step speed dimms ranks density cap => Sys2Proof.Machine.execDdrTrainingDone ch step speed dimms ranks density cap s
  | .dramFillDone ch failAt => Sys2Proof.Machine.execDramFillDone ch failAt s
  | .frameReceive port bytes fcsOk whole sfd fecCorr fecUncorr => Sys2Proof.Machine.execFrameReceive port bytes fcsOk whole sfd fecCorr fecUncorr s
  | .cutFrameEnd port rest fcsOk => Sys2Proof.Machine.execCutFrameEnd port rest fcsOk s
  | .macControlReceive port bytes => Sys2Proof.Machine.execMacControlReceive port bytes s
  | .pauseQuantaExpire port classes => Sys2Proof.Machine.execPauseQuantaExpire port classes s
  | .pauseFrameSend port => Sys2Proof.Machine.execPauseFrameSend port s
  | .pauseRepeat port => Sys2Proof.Machine.execPauseRepeat port s
  | .transmitFrame port sfd => Sys2Proof.Machine.execTransmitFrame port sfd s
  | .transmitDone port => Sys2Proof.Machine.execTransmitDone port s
  | .tsqPop port => Sys2Proof.Machine.execTsqPop port s
  | .portModePair mid gen port value => Sys2Proof.Machine.execPortModePair mid gen port value s
  | .quadPair mid gen grp value => Sys2Proof.Machine.execQuadPair mid gen grp value s
  | .anRestart mid gen port value => Sys2Proof.Machine.execAnRestart mid gen port value s
  | .linkUp port lpHalfDuplex lpPause speed => Sys2Proof.Machine.execLinkUp port lpHalfDuplex lpPause speed s
  | .linkDown port reason => Sys2Proof.Machine.execLinkDown port reason s
  | .downHoldExpire port => Sys2Proof.Machine.execDownHoldExpire port s
  | .laneFault port lane reason => Sys2Proof.Machine.execLaneFault port lane reason s
  | .faultRetry port => Sys2Proof.Machine.execFaultRetry port s
  | .parseFrame pl ueVisit ueMatch => Sys2Proof.Machine.execParseFrame pl ueVisit ueMatch s
  | .tapOffer pl cutPort => Sys2Proof.Machine.execTapOffer pl cutPort s
  | .controlCellPass unit_ pl => Sys2Proof.Machine.execControlCellPass unit_ pl s
  | .prsRead mid gen table ue => Sys2Proof.Machine.execPrsRead mid gen table ue s
  | .prsWrite mid gen table => Sys2Proof.Machine.execPrsWrite mid gen table s
  | .prsInsert mid gen table => Sys2Proof.Machine.execPrsInsert mid gen table s
  | .prsUpdate mid gen table => Sys2Proof.Machine.execPrsUpdate mid gen table s
  | .prsDelete mid gen table => Sys2Proof.Machine.execPrsDelete mid gen table s
  | .prsSearch mid gen table ue => Sys2Proof.Machine.execPrsSearch mid gen table ue s
  | .prsBadOp mid gen table op => Sys2Proof.Machine.execPrsBadOp mid gen table op s
  | .prsCommandDone => Sys2Proof.Machine.execPrsCommandDone s
  | .profCtrlPair mid gen p value => Sys2Proof.Machine.execProfCtrlPair mid gen p value s
  | .profClearDone p => Sys2Proof.Machine.execProfClearDone p s
  | .ingressAlloc pl => Sys2Proof.Machine.execIngressAlloc pl s
  | .allocLen mid gen n => Sys2Proof.Machine.execAllocLen mid gen n s
  | .allocPool mid gen p => Sys2Proof.Machine.execAllocPool mid gen p s
  | .share mid gen h k => Sys2Proof.Machine.execShare mid gen h k s
  | .release mid gen h => Sys2Proof.Machine.execRelease mid gen h s
  | .give mid gen h tgt => Sys2Proof.Machine.execGive mid gen h tgt s
  | .free mid gen h => Sys2Proof.Machine.execFree mid gen h s
  | .freeLater mid gen h => Sys2Proof.Machine.execFreeLater mid gen h s
  | .freeAddr mid gen addr packet => Sys2Proof.Machine.execFreeAddr mid gen addr packet s
  | .complete mid gen h => Sys2Proof.Machine.execComplete mid gen h s
  | .bpmOpRange mid gen op arg => Sys2Proof.Machine.execBpmOpRange mid gen op arg s
  | .ringRefill p => Sys2Proof.Machine.execRingRefill p s
  | .ringSpill p => Sys2Proof.Machine.execRingSpill p s
  | .poolUe p meta_ addr => Sys2Proof.Machine.execPoolUe p meta_ addr s
  | .poolLayoutPair mid gen p reg value => Sys2Proof.Machine.execPoolLayoutPair mid gen p reg value s
  | .poolEnable mid gen p value => Sys2Proof.Machine.execPoolEnable mid gen p value s
  | .poolDisable mid gen p value => Sys2Proof.Machine.execPoolDisable mid gen p value s
  | .poolBuildDone p => Sys2Proof.Machine.execPoolBuildDone p s
  | .metaRead mid ue => Sys2Proof.Machine.execMetaRead mid ue s
  | .reclaim mid => Sys2Proof.Machine.execReclaim mid s
  | .audit mid => Sys2Proof.Machine.execAudit mid s
  | .forceFree mid => Sys2Proof.Machine.execForceFree mid s
  | .bpmCommandDone => Sys2Proof.Machine.execBpmCommandDone s
  | .fteResolve pl ue => Sys2Proof.Machine.execFteResolve pl ue s
  | .learnMessage => Sys2Proof.Machine.execLearnMessage s
  | .recentFilterExpire pl => Sys2Proof.Machine.execRecentFilterExpire pl s
  | .agePass => Sys2Proof.Machine.execAgePass s
  | .ageDelete => Sys2Proof.Machine.execAgeDelete s
  | .fteFlushCell pl => Sys2Proof.Machine.execFteFlushCell pl s
  | .portFlush => Sys2Proof.Machine.execPortFlush s
  | .mlkLearnApply => Sys2Proof.Machine.execMlkLearnApply s
  | .lnqPop => Sys2Proof.Machine.execLnqPop s
  | .fteRead mid gen table ue => Sys2Proof.Machine.execFteRead mid gen table ue s
  | .fteWrite mid gen table => Sys2Proof.Machine.execFteWrite mid gen table s
  | .fteInsert mid gen table => Sys2Proof.Machine.execFteInsert mid gen table s
  | .fteDelete mid gen table => Sys2Proof.Machine.execFteDelete mid gen table s
  | .fteSearch mid gen table ue => Sys2Proof.Machine.execFteSearch mid gen table ue s
  | .ageStep mid gen => Sys2Proof.Machine.execAgeStep mid gen s
  | .fteFlush mid gen => Sys2Proof.Machine.execFteFlush mid gen s
  | .fteUpdate mid gen table => Sys2Proof.Machine.execFteUpdate mid gen table s
  | .fteBadOp mid gen table op => Sys2Proof.Machine.execFteBadOp mid gen table op s
  | .fteCommandDone => Sys2Proof.Machine.execFteCommandDone s
  | .layoutPair mid gen k value => Sys2Proof.Machine.execLayoutPair mid gen k value s
  | .layoutClearDone k => Sys2Proof.Machine.execLayoutClearDone k s
  | .admitCell pl => Sys2Proof.Machine.execAdmitCell pl s
  | .heldCellAdmit => Sys2Proof.Machine.execHeldCellAdmit s
  | .tokenEntry pl ue => Sys2Proof.Machine.execTokenEntry pl ue s
  | .dispatch c ue => Sys2Proof.Machine.execDispatch c ue s
  | .tkpGet mid gen => Sys2Proof.Machine.execTkpGet mid gen s
  | .tkpGetNb mid gen ue => Sys2Proof.Machine.execTkpGetNb mid gen ue s
  | .tkpPut mid gen slot => Sys2Proof.Machine.execTkpPut mid gen slot s
  | .tkpPutAt mid gen slot instant => Sys2Proof.Machine.execTkpPutAt mid gen slot instant s
  | .tkpUnlock mid gen slot => Sys2Proof.Machine.execTkpUnlock mid gen slot s
  | .tkpDiscard mid gen slot => Sys2Proof.Machine.execTkpDiscard mid gen slot s
  | .tkpSoft mid gen slot => Sys2Proof.Machine.execTkpSoft mid gen slot s
  | .tkpTimer mid gen slot list delay target => Sys2Proof.Machine.execTkpTimer mid gen slot list delay target s
  | .tkpCancel mid gen handle => Sys2Proof.Machine.execTkpCancel mid gen handle s
  | .orderTimeout id => Sys2Proof.Machine.execOrderTimeout id s
  | .releaseHandoff n => Sys2Proof.Machine.execReleaseHandoff n s
  | .dlistExpire l => Sys2Proof.Machine.execDlistExpire l s
  | .tokenSpill id => Sys2Proof.Machine.execTokenSpill id s
  | .tokenUnspill id ue => Sys2Proof.Machine.execTokenUnspill id ue s
  | .putStallEnd ix => Sys2Proof.Machine.execPutStallEnd ix s
  | .markArrive pl => Sys2Proof.Machine.execMarkArrive pl s
  | .epochDrained => Sys2Proof.Machine.execEpochDrained s
  | .odsFlushCell pl => Sys2Proof.Machine.execOdsFlushCell pl s
  | .drainTmo n => Sys2Proof.Machine.execDrainTmo n s
  | .probeInject pipe flow => Sys2Proof.Machine.execProbeInject pipe flow s
  | .odsStorePair mid gen value => Sys2Proof.Machine.execOdsStorePair mid gen value s
  | .odsFlowmemPair mid gen value => Sys2Proof.Machine.execOdsFlowmemPair mid gen value s
  | .bundleIssue c k idle ue => Sys2Proof.Machine.execBundleIssue c k idle ue s
  | .shortUnitResult mid unit ue => Sys2Proof.Machine.execShortUnitResult mid unit ue s
  | .longUnitResult mid n corr uncorr ue => Sys2Proof.Machine.execLongUnitResult mid n corr uncorr ue s
  | .interruptEntry c k => Sys2Proof.Machine.execInterruptEntry c k s
  | .iramWriteLand c => Sys2Proof.Machine.execIramWriteLand c s
  | .windowLineFetch mid slot line => Sys2Proof.Machine.execWindowLineFetch mid slot line s
  | .reservationExpire mid => Sys2Proof.Machine.execReservationExpire mid s
  | .threadHalt mid gen c k t => Sys2Proof.Machine.execThreadHalt mid gen c k t s
  | .threadResume mid gen c k t pc => Sys2Proof.Machine.execThreadResume mid gen c k t pc s
  | .threadResumeAt mid gen c k t pc => Sys2Proof.Machine.execThreadResumeAt mid gen c k t pc s
  | .threadReset mid gen c k t => Sys2Proof.Machine.execThreadReset mid gen c k t s
  | .threadResetDone mid => Sys2Proof.Machine.execThreadResetDone mid s
  | .threadStep mid gen c k t => Sys2Proof.Machine.execThreadStep mid gen c k t s
  | .accAcquire mid gen a => Sys2Proof.Machine.execAccAcquire mid gen a s
  | .acquireTimeout mid a => Sys2Proof.Machine.execAcquireTimeout mid a s
  | .accRelease c a => Sys2Proof.Machine.execAccRelease c a s
  | .ctxSave c a ue => Sys2Proof.Machine.execCtxSave c a ue s
  | .ctxClear c a ue => Sys2Proof.Machine.execCtxClear c a ue s
  | .accFence c a => Sys2Proof.Machine.execAccFence c a s
  | .accCommandDone c a => Sys2Proof.Machine.execAccCommandDone c a s
  | .accForce c a => Sys2Proof.Machine.execAccForce c a s
  | .smxFir c ue => Sys2Proof.Machine.execSmxFir c ue s
  | .smxFirStream c ue => Sys2Proof.Machine.execSmxFirStream c ue s
  | .smxRms c ue => Sys2Proof.Machine.execSmxRms c ue s
  | .smxMinmax c ue => Sys2Proof.Machine.execSmxMinmax c ue s
  | .smxSum c ue => Sys2Proof.Machine.execSmxSum c ue s
  | .smxLimit c ue => Sys2Proof.Machine.execSmxLimit c ue s
  | .hashxEm c ue => Sys2Proof.Machine.execHashxEm c ue s
  | .hashxL2 c ue => Sys2Proof.Machine.execHashxL2 c ue s
  | .hashxLpm4 c ue => Sys2Proof.Machine.execHashxLpm4 c ue s
  | .hashxLpm6 c ue => Sys2Proof.Machine.execHashxLpm6 c ue s
  | .hashxRead c ue => Sys2Proof.Machine.execHashxRead c ue s
  | .verify c a ue => Sys2Proof.Machine.execVerify c a ue s
  | .calc c a ue => Sys2Proof.Machine.execCalc c a ue s
  | .sStart c a ue => Sys2Proof.Machine.execSStart c a ue s
  | .sData c a ue => Sys2Proof.Machine.execSData c a ue s
  | .sEnd c a ue => Sys2Proof.Machine.execSEnd c a ue s
  | .cvuDescRead mid gen ue => Sys2Proof.Machine.execCvuDescRead mid gen ue s
  | .cvuDescWrite mid gen => Sys2Proof.Machine.execCvuDescWrite mid gen s
  | .resetState mid gen => Sys2Proof.Machine.execResetState mid gen s
  | .invalidate mid gen => Sys2Proof.Machine.execInvalidate mid gen s
  | .cvuCommandDone => Sys2Proof.Machine.execCvuCommandDone s
  | .cvuTablePair mid gen value => Sys2Proof.Machine.execCvuTablePair mid gen value s
  | .dmaStarved c bank => Sys2Proof.Machine.execDmaStarved c bank s
  | .mailbox mid c addr bytes => Sys2Proof.Machine.execMailbox mid c addr bytes s
  | .spmClear mid gen c addr => Sys2Proof.Machine.execSpmClear mid gen c addr s
  | .vaultAccess mid gen addr n data ue => Sys2Proof.Machine.execVaultAccess mid gen addr n data ue s
  | .vaultLockSet mid gen j pages => Sys2Proof.Machine.execVaultLockSet mid gen j pages s
  | .vaultHideSet mid gen j pages => Sys2Proof.Machine.execVaultHideSet mid gen j pages s
  | .vaultWipeCmd mid gen value => Sys2Proof.Machine.execVaultWipeCmd mid gen value s
  | .vaultWipe => Sys2Proof.Machine.execVaultWipe s
  | .vaultWipeDone => Sys2Proof.Machine.execVaultWipeDone s
  | .semAcquire mid gen n => Sys2Proof.Machine.execSemAcquire mid gen n s
  | .semTry mid gen n => Sys2Proof.Machine.execSemTry mid gen n s
  | .semWaitTimeout n mid => Sys2Proof.Machine.execSemWaitTimeout n mid s
  | .semRelease mid gen n => Sys2Proof.Machine.execSemRelease mid gen n s
  | .semForce mid gen n => Sys2Proof.Machine.execSemForce mid gen n s
  | .semAbandon => Sys2Proof.Machine.execSemAbandon s
  | .leaseRenew mid gen j => Sys2Proof.Machine.execLeaseRenew mid gen j s
  | .leaseExpire j => Sys2Proof.Machine.execLeaseExpire j s
  | .dramRead mid gen addr => Sys2Proof.Machine.execDramRead mid gen addr s
  | .dramWrite mid gen addr mask data corr uncorr => Sys2Proof.Machine.execDramWrite mid gen addr mask data corr uncorr s
  | .dramReadComplete ch ix corr uncorr => Sys2Proof.Machine.execDramReadComplete ch ix corr uncorr s
  | .caParityError ch dimm => Sys2Proof.Machine.execCaParityError ch dimm s
  | .freezeTimeout ch => Sys2Proof.Machine.execFreezeTimeout ch s
  | .thaw mid gen ch => Sys2Proof.Machine.execThaw mid gen ch s
  | .retire mid gen ch thaw => Sys2Proof.Machine.execRetire mid gen ch thaw s
  | .dmcMapPair mid gen value => Sys2Proof.Machine.execDmcMapPair mid gen value s
  | .dramRefresh ch => Sys2Proof.Machine.execDramRefresh ch s
  | .scrubRead ch mem off lag corr uncorr => Sys2Proof.Machine.execScrubRead ch mem off lag corr uncorr s
  | .retireSet mid gen value => Sys2Proof.Machine.execRetireSet mid gen value s
  | .spareSet mid gen value => Sys2Proof.Machine.execSpareSet mid gen value s
  | .spareCopyDone ix => Sys2Proof.Machine.execSpareCopyDone ix s
  | .ecsClear mid gen value => Sys2Proof.Machine.execEcsClear mid gen value s
  | .recordCompress miss ue => Sys2Proof.Machine.execRecordCompress miss ue s
  | .logSeal cause => Sys2Proof.Machine.execLogSeal cause s
  | .logWrite ue => Sys2Proof.Machine.execLogWrite ue s
  | .nvmeCompletion ix status => Sys2Proof.Machine.execNvmeCompletion ix status s
  | .raftFlush => Sys2Proof.Machine.execRaftFlush s
  | .raftResume drives => Sys2Proof.Machine.execRaftResume drives s
  | .recTrigger => Sys2Proof.Machine.execRecTrigger s
  | .swtrig src => Sys2Proof.Machine.execSwtrig src s
  | .freezeCellReturn => Sys2Proof.Machine.execFreezeCellReturn s
  | .freezeCellTimeout r => Sys2Proof.Machine.execFreezeCellTimeout r s
  | .regionClose r => Sys2Proof.Machine.execRegionClose r s
  | .raftFormat mid gen caps => Sys2Proof.Machine.execRaftFormat mid gen caps s
  | .raftJoin mid gen n cap => Sys2Proof.Machine.execRaftJoin mid gen n cap s
  | .raftLeave mid gen n => Sys2Proof.Machine.execRaftLeave mid gen n s
  | .regionRelease mid gen r => Sys2Proof.Machine.execRegionRelease mid gen r s
  | .rctlDone => Sys2Proof.Machine.execRctlDone s
  | .memberLost n cause => Sys2Proof.Machine.execMemberLost n cause s
  | .nvmeIoTimeout n => Sys2Proof.Machine.execNvmeIoTimeout n s
  | .sigRead mid gen ue => Sys2Proof.Machine.execSigRead mid gen ue s
  | .sigWrite mid gen => Sys2Proof.Machine.execSigWrite mid gen s
  | .curveRead mid gen => Sys2Proof.Machine.execCurveRead mid gen s
  | .curveWrite mid gen => Sys2Proof.Machine.execCurveWrite mid gen s
  | .findTime mid gen => Sys2Proof.Machine.execFindTime mid gen s
  | .findLsn mid gen => Sys2Proof.Machine.execFindLsn mid gen s
  | .readLog mid gen => Sys2Proof.Machine.execReadLog mid gen s
  | .recCommandDone blocks ioErr => Sys2Proof.Machine.execRecCommandDone blocks ioErr s
  | .recCfgPair mid gen reg value => Sys2Proof.Machine.execRecCfgPair mid gen reg value s
  | .timeSet mid gen value => Sys2Proof.Machine.execTimeSet mid gen value s
  | .timeStep mid gen value => Sys2Proof.Machine.execTimeStep mid gen value s
  | .timeChangeApply => Sys2Proof.Machine.execTimeChangeApply s
  | .holdClr mid gen value => Sys2Proof.Machine.execHoldClr mid gen value s
  | .timeReadLatch mid => Sys2Proof.Machine.execTimeReadLatch mid s
  | .bcntReadLatch mid => Sys2Proof.Machine.execBcntReadLatch mid s
  | .ppsCapture off => Sys2Proof.Machine.execPpsCapture off s
  | .ppsMiss => Sys2Proof.Machine.execPpsMiss s
  | .ppsOutEdge => Sys2Proof.Machine.execPpsOutEdge s
  | .ref10mSecond count phase => Sys2Proof.Machine.execRef10mSecond count phase s
  | .alarmFire a => Sys2Proof.Machine.execAlarmFire a s
  | .vsenseEvent mv => Sys2Proof.Machine.execVsenseEvent mv s
  | .tempEvent island reading => Sys2Proof.Machine.execTempEvent island reading s
  | .thermalShutdown island reading => Sys2Proof.Machine.execThermalShutdown island reading s
  | .thermalPointBar island => Sys2Proof.Machine.execThermalPointBar island s
  | .tamper d => Sys2Proof.Machine.execTamper d s
  | .crossingHold island other limit => Sys2Proof.Machine.execCrossingHold island other limit s
  | .crossingResume island other => Sys2Proof.Machine.execCrossingResume island other s
  | .dvfsChange island point => Sys2Proof.Machine.execDvfsChange island point s
  | .powerRequest mid gen value => Sys2Proof.Machine.execPowerRequest mid gen value s
  | .powerEntryStage => Sys2Proof.Machine.execPowerEntryStage s
  | .entryDrainTimeout => Sys2Proof.Machine.execEntryDrainTimeout s
  | .wakeCause cause => Sys2Proof.Machine.execWakeCause cause s
  | .powerExit image hostBegins => Sys2Proof.Machine.execPowerExit image hostBegins s
  | .wakeTimeout => Sys2Proof.Machine.execWakeTimeout s
  | .wakeWithdrawn => Sys2Proof.Machine.execWakeWithdrawn s
  | .mlkLaneTrained lane => Sys2Proof.Machine.execMlkLaneTrained lane s
  | .mlkTrainRetry => Sys2Proof.Machine.execMlkTrainRetry s
  | .laneDown lane => Sys2Proof.Machine.execLaneDown lane s
  | .replayTimeout side => Sys2Proof.Machine.execReplayTimeout side s
  | .dataFrameReceive side h0 h1 payload => Sys2Proof.Machine.execDataFrameReceive side h0 h1 payload s
  | .dataFrameSend => Sys2Proof.Machine.execDataFrameSend s
  | .learnFrameReceive side h0 h1 payload => Sys2Proof.Machine.execLearnFrameReceive side h0 h1 payload s
  | .learnPackTimeout => Sys2Proof.Machine.execLearnPackTimeout s
  | .buoySend => Sys2Proof.Machine.execBuoySend s
  | .buoyReceive side h0 h1 payload => Sys2Proof.Machine.execBuoyReceive side h0 h1 payload s
  | .buoyLost side => Sys2Proof.Machine.execBuoyLost side s
  | .frameBad side h0 h1 crcOk => Sys2Proof.Machine.execFrameBad side h0 h1 crcOk s
  | .helloSend side => Sys2Proof.Machine.execHelloSend side s
  | .helloReceive side h0 h1 payload => Sys2Proof.Machine.execHelloReceive side h0 h1 payload s
  | .helloTmo side => Sys2Proof.Machine.execHelloTmo side s
  | .electReceive side h0 h1 payload => Sys2Proof.Machine.execElectReceive side h0 h1 payload s
  | .electionEnd => Sys2Proof.Machine.execElectionEnd s
  | .prepareReceive side h0 h1 payload => Sys2Proof.Machine.execPrepareReceive side h0 h1 payload s
  | .voteReceive side h0 h1 payload => Sys2Proof.Machine.execVoteReceive side h0 h1 payload s
  | .voteTimeout => Sys2Proof.Machine.execVoteTimeout s
  | .commitReceive side h0 h1 payload => Sys2Proof.Machine.execCommitReceive side h0 h1 payload s
  | .commitInstant => Sys2Proof.Machine.execCommitInstant s
  | .abortReceive side h0 h1 payload => Sys2Proof.Machine.execAbortReceive side h0 h1 payload s
  | .txnDoubt => Sys2Proof.Machine.execTxnDoubt s
  | .epochSplit side => Sys2Proof.Machine.execEpochSplit side s
  | .pairFrameReceive side h0 h1 payload => Sys2Proof.Machine.execPairFrameReceive side h0 h1 payload s
  | .pairSwap mid gen value => Sys2Proof.Machine.execPairSwap mid gen value s
  | .holdoffExpire => Sys2Proof.Machine.execHoldoffExpire s
  | .timeRequestSend => Sys2Proof.Machine.execTimeRequestSend s
  | .timeFrameReceive side h0 h1 payload => Sys2Proof.Machine.execTimeFrameReceive side h0 h1 payload s
  | .syncTimeout => Sys2Proof.Machine.execSyncTimeout s
  | .modePair mid gen value => Sys2Proof.Machine.execModePair mid gen value s
  | .txnOpen mid gen => Sys2Proof.Machine.execTxnOpen mid gen s
  | .txnStageEntry mid gen value => Sys2Proof.Machine.execTxnStageEntry mid gen value s
  | .txnCommit mid gen chain => Sys2Proof.Machine.execTxnCommit mid gen chain s
  | .txnLoad mid gen => Sys2Proof.Machine.execTxnLoad mid gen s
  | .txnAbort mid gen => Sys2Proof.Machine.execTxnAbort mid gen s
  | .txnCheck => Sys2Proof.Machine.execTxnCheck s
  | .checkTimeout => Sys2Proof.Machine.execCheckTimeout s
  | .txnLoadingDone ue => Sys2Proof.Machine.execTxnLoadingDone ue s
  | .markInject pl => Sys2Proof.Machine.execMarkInject pl s
  | .recordDelivery => Sys2Proof.Machine.execRecordDelivery s
  | .recoveryTimeout r => Sys2Proof.Machine.execRecoveryTimeout r s
  | .revoke mid gen => Sys2Proof.Machine.execRevoke mid gen s
  | .readmit mid gen => Sys2Proof.Machine.execReadmit mid gen s
  | .readmission => Sys2Proof.Machine.execReadmission s
  | .coreReset mid gen => Sys2Proof.Machine.execCoreReset mid gen s
  | .coreSubst mid gen => Sys2Proof.Machine.execCoreSubst mid gen s
  | .cluOut mid gen => Sys2Proof.Machine.execCluOut mid gen s
  | .cluReset mid gen => Sys2Proof.Machine.execCluReset mid gen s
  | .cluIn mid gen => Sys2Proof.Machine.execCluIn mid gen s
  | .flowRebuild mid gen ue => Sys2Proof.Machine.execFlowRebuild mid gen ue s
  | .recoveryDone mid gen => Sys2Proof.Machine.execRecoveryDone mid gen s
  | .recoveryEscalate mid gen => Sys2Proof.Machine.execRecoveryEscalate mid gen s
  | .rcvCommandDone => Sys2Proof.Machine.execRcvCommandDone s
  | .spareReturn c => Sys2Proof.Machine.execSpareReturn c s
  | .mgtLockstep => Sys2Proof.Machine.execMgtLockstep s
  | .mgtWdog => Sys2Proof.Machine.execMgtWdog s
  | .watchdogKick mid gen value => Sys2Proof.Machine.execWatchdogKick mid gen value s
  | .mgtRestart => Sys2Proof.Machine.execMgtRestart s
  | .headlessEnd => Sys2Proof.Machine.execHeadlessEnd s
  | .mgtNoreturn => Sys2Proof.Machine.execMgtNoreturn s
  | .chipFault => Sys2Proof.Machine.execChipFault s
  | .autoRestart => Sys2Proof.Machine.execAutoRestart s
  | .elogPop mid gen => Sys2Proof.Machine.execElogPop mid gen s
  | .hostRead bar off len be => Sys2Proof.Machine.execHostRead bar off len be s
  | .hostWrite bar off be data ue => Sys2Proof.Machine.execHostWrite bar off be data ue s
  | .hostRdTmo spi => Sys2Proof.Machine.execHostRdTmo spi s
  | .bar4Access off len be data corr uncorr ue => Sys2Proof.Machine.execBar4Access off len be data corr uncorr ue s
  | .hostReset cause => Sys2Proof.Machine.execHostReset cause s
  | .msixSend v => Sys2Proof.Machine.execMsixSend v s
  | .keeperBell mid gen => Sys2Proof.Machine.execKeeperBell mid gen s
  | .queueEnable q value => Sys2Proof.Machine.execQueueEnable q value s
  | .queueDoorbell q head value => Sys2Proof.Machine.execQueueDoorbell q head value s
  | .rxDeliver buf size => Sys2Proof.Machine.execRxDeliver buf size s
  | .h2dCopy q data => Sys2Proof.Machine.execH2dCopy q data s
  | .d2hBell mid gen q => Sys2Proof.Machine.execD2hBell mid gen q s
  | .queueDmaError q reason => Sys2Proof.Machine.execQueueDmaError q reason s
  | .rcCfgPair mid gen value => Sys2Proof.Machine.execRcCfgPair mid gen value s
  | .rootPortBringup mid gen p => Sys2Proof.Machine.execRootPortBringup mid gen p s
  | .rcInbound p addr bell write => Sys2Proof.Machine.execRcInbound p addr bell write s
  | .rootPortDown p timeout => Sys2Proof.Machine.execRootPortDown p timeout s
  | .spifRead mid gen len => Sys2Proof.Machine.execSpifRead mid gen len s
  | .spifProgram mid gen len => Sys2Proof.Machine.execSpifProgram mid gen len s
  | .spifErase4k mid gen => Sys2Proof.Machine.execSpifErase4k mid gen s
  | .spifErase64k mid gen => Sys2Proof.Machine.execSpifErase64k mid gen s
  | .spifReadSr mid gen => Sys2Proof.Machine.execSpifReadSr mid gen s
  | .spifDone timeout => Sys2Proof.Machine.execSpifDone timeout s
  | .spitRead off seq => Sys2Proof.Machine.execSpitRead off seq s
  | .spitWrite off value seq ue => Sys2Proof.Machine.execSpitWrite off value seq ue s
  | .spitNop seq => Sys2Proof.Machine.execSpitNop seq s
  | .spitFrameFault kind edges => Sys2Proof.Machine.execSpitFrameFault kind edges s
  | .i2cTransfer mid gen ix value => Sys2Proof.Machine.execI2cTransfer mid gen ix value s
  | .i2cTransferDone ix nack index lines data => Sys2Proof.Machine.execI2cTransferDone ix nack index lines data s
  | .i2cStretchTimeout ix pulses => Sys2Proof.Machine.execI2cStretchTimeout ix pulses s
  | .i2cReset mid gen ix value pulses => Sys2Proof.Machine.execI2cReset mid gen ix value pulses s
  | .i2cRecover mid gen ix value pulses => Sys2Proof.Machine.execI2cRecover mid gen ix value pulses s
  | .mdioC22Write mid gen m phy reg data => Sys2Proof.Machine.execMdioC22Write mid gen m phy reg data s
  | .mdioC22Read mid gen m phy reg => Sys2Proof.Machine.execMdioC22Read mid gen m phy reg s
  | .mdioC45Addr mid gen m phy reg data => Sys2Proof.Machine.execMdioC45Addr mid gen m phy reg data s
  | .mdioC45Write mid gen m phy reg data => Sys2Proof.Machine.execMdioC45Write mid gen m phy reg data s
  | .mdioC45Read mid gen m phy reg => Sys2Proof.Machine.execMdioC45Read mid gen m phy reg s
  | .mdioC45ReadInc mid gen m phy reg => Sys2Proof.Machine.execMdioC45ReadInc mid gen m phy reg s
  | .mdioDone m data => Sys2Proof.Machine.execMdioDone m data s
  | .gpioEdge p level => Sys2Proof.Machine.execGpioEdge p level s
  | .jtagExtest => Sys2Proof.Machine.execJtagExtest s
  | .jtagSamplePreload bits => Sys2Proof.Machine.execJtagSamplePreload bits s
  | .jtagClamp => Sys2Proof.Machine.execJtagClamp s
  | .jtagHighz => Sys2Proof.Machine.execJtagHighz s
  | .jtagDbgReg off write => Sys2Proof.Machine.execJtagDbgReg off write s
  | .jtagDbgMem off write corr uncorr ue => Sys2Proof.Machine.execJtagDbgMem off write corr uncorr ue s
  | .jtagIdcode => Sys2Proof.Machine.execJtagIdcode s
  | .jtagBypass => Sys2Proof.Machine.execJtagBypass s
  | .avsEnable mid gen value vmode => Sys2Proof.Machine.execAvsEnable mid gen value vmode s
  | .avsStep vmode => Sys2Proof.Machine.execAvsStep vmode s
  | .avsFail kind => Sys2Proof.Machine.execAvsFail kind s
  | .hostLinkUp width speed => Sys2Proof.Machine.execHostLinkUp width speed s
  | .rootPortReady p step width speed nscount => Sys2Proof.Machine.execRootPortReady p step width speed nscount s
  | .epochCommitRetry => Sys2Proof.Machine.execEpochCommitRetry s

end Sys2Proof.Machine
end

