-- ==== Sys2Proof/Machine/Tick.lean ====
section
/-! DEFINITION. What happens when no command waits: one cycle of the MGT clock passes. -/
namespace Sys2Proof.Machine
open Sys2Proof

/-- One cycle of 4 ns passes (R518, R525), and each running DRAM channel issues one queued write (R451). -/
def State.tick (s : State) : State := (s.pass 1).issueWrites

end Sys2Proof.Machine
end

