-- ==== Sys2Proof/Safety.lean ====
section
/-! DEFINITION. What counts as a legal state of the device, and the terms in which the claims speak of commands. -/
namespace Sys2Proof.Machine
open Sys2Proof

/-! ## Legal states -/

/-- The generations are legal (R49, R52): the last admitted generation of a defined MID is never 0x00, and its current
generation is 0x00 (revoked) or the last admitted one. -/
def State.GensLegal (s : State) : Prop :=
  ∀ mid, midDefined mid = true → s.lastGenOf mid ≠ 0 ∧ (s.genOf mid = 0 ∨ s.genOf mid = s.lastGenOf mid)

/-- The memories stand in their canonical form. -/
def State.MemCanonical (s : State) : Prop := Memory.wf s.mem = true

/-- The nanoseconds of PTP-domain time stay below one second (R518). -/
def State.TimeNormal (s : State) : Prop := s.time.ns < 1000000000

/-- No unit's error queue holds more than its 16 records (R62). -/
def State.QueuesBounded (s : State) : Prop := ∀ u, (s.errOf u).q.length ≤ 16

/-- The legal states: what every step keeps. -/
def State.Sound (s : State) : Prop := s.GensLegal ∧ s.MemCanonical ∧ s.TimeNormal ∧ s.QueuesBounded

/-! ## What the claims say of a command -/

/-- A command completes: it answers a next state, of which `p` holds. -/
def Completes (c : Instr) (s : State) (p : State → Prop) : Prop := ∃ t, exec c s = .next t ∧ p t

/-- A plain write of a master reaches its block: the router neither turns it away (R694 to R698) nor holds it for a
transaction (R613) nor discards it under LOCK (R704). -/
def State.Reached (s : State) (mid : Nat) (gen : BitVec 8) (off : Nat) (v : W32) : Prop :=
  s.turnedAway mid gen off true v = none ∧ s.heldWrite off = false ∧ (s.locked && lockMarked off) = false

/-- From `s` to `t` one error record is written, `r` with its time stamp, and no other. -/
def State.Records (s t : State) (r : ErrRec) : Prop :=
  (∃ ts k, t.errOf r.unit.toNat = (s.errOf r.unit.toNat).push { r with ts := ts, tskind := k }) ∧
    ∀ u, u ≠ r.unit.toNat → t.errOf u = s.errOf u

/-- From `s` to `t` no register but those listed takes another value. -/
def State.OnlyRegs (s t : State) (offs : List Nat) : Prop := ∀ o, o ∉ offs → t.rd o = s.rd o

/-- From `s` to `t` no memory byte changes. -/
def State.SameMem (s t : State) : Prop := ∀ sp a, t.byte sp a = s.byte sp a

end Sys2Proof.Machine
end

