-- ==== Sys2Proof/Certificates/Slice0/Obligations.lean ====
section
/-! DEFINITION. The statements about the device, for the provers. A name `Completes c s P` says that the command `c` answers a
next state of `s`, and that P holds of it. -/
open Sys2Proof Sys2Proof.Machine

/-- The registers of several blocks that act by their access codes alone (R11). -/
def plainRegs : List Nat :=
  [R.BCN_TIME_RATE, R.BCN_INT, R.MGT_FAULT_CFG, R.MGT_GEN_SEL, R.SEM_CFG, R.PRS_CFG, R.ECS_SCRUB_CFG]

/-- R11, R700, R701, R704, R714, R695, R706, R707: what a write to a register does, by its access code; what the first write
of a guarded pair, its timeout and a wrong complement do; what LOCK discards; what an access outside a thread's rights ends
with; and what a tally snapshot fixes and shows. -/
def Obligations.RegisterPathCompletes : Prop :=
  (∀ (s : State) (mid : Nat) (gen : BitVec 8) (off : Nat) (v : W32) (ue : Bool) (c : Card),
    off ∈ plainRegs → cardAt off = some c → s.Reached mid gen off v →
    Completes (.registerWrite mid gen off v ue) s (fun t =>
      t.rd off = (s.rd off &&& ~~~BitVec.ofNat 32 c.rw &&& ~~~(v &&& BitVec.ofNat 32 c.w1c)) ||| (v &&& BitVec.ofNat 32 c.rw)
        ∧ s.OnlyRegs t [off, R.GLB_MODE_NOTE] ∧ t.mem = s.mem ∧ t.pendOf (guardInst off) = none)) ∧
  (∀ (s : State) (mid : Nat) (gen : BitVec 8) (off : Nat) (v : W32),
    isFirst off = true → s.Reached mid gen off v → s.pendOf (guardInst off) = none →
    Completes (.guardFirstWrite mid gen off v) s (fun t =>
      t.pendOf (guardInst off) = some { off := off, value := v, mid := mid, gen := gen, since := s.time.clock }
        ∧ t.regs = s.regs ∧ t.mem = s.mem ∧ t.err = s.err)) ∧
  (∀ (s : State) (off : Nat) (p : GuardPend), s.pendOf (guardInst off) = some p →
    Completes (.guardTimeout off) s (fun t =>
      t.pendOf (guardInst off) = none ∧ t.time.clock = max s.time.clock (p.since + 16)
        ∧ s.Records t (mkErr (unitOf p.off) (instOf p.off) 0x0007 2 3 p.off p.mid p.gen.toNat p.value.toNat 1)
        ∧ t.liveAt (R.GLB_REG_CNT 0) = s.liveAt (R.GLB_REG_CNT 0) + 1 ∧ t.regs = s.regs ∧ t.mem = s.mem)) ∧
  (∀ (s : State) (mid : Nat) (gen : BitVec 8) (off : Nat) (v : W32) (p : GuardPend),
    isFirst off = true → isFirst (off + 4) = false → isSecond (off + 4) = true → s.Reached mid gen (off + 4) v →
    s.pendOf (guardInst off) = some p → p.off = off → p.mid = mid → p.gen = gen → s.time.clock ≤ p.since + 16 →
    v ≠ ~~~p.value →
    Completes (.guardComplementBad mid gen off v) s (fun t =>
      t.pendOf (guardInst off) = none
        ∧ s.Records t (mkErr (unitOf off) (instOf off) 0x0007 2 3 off mid gen.toNat p.value.toNat 2)
        ∧ t.liveAt (R.GLB_REG_CNT 0) = s.liveAt (R.GLB_REG_CNT 0) + 1 ∧ t.regs = s.regs ∧ t.mem = s.mem)) ∧
  (∀ (s : State) (mid : Nat) (gen : BitVec 8) (off : Nat) (v : W32),
    s.turnedAway mid gen off true v = none → s.heldWrite off = false → s.locked = true → lockMarked off = true →
    isSecond off = false → s.pendOf (guardInst off) = none → s.lockSeen = none →
    Completes (.lockWrite mid gen off v) s (fun t =>
      s.Records t (mkErr (unitOf off) (instOf off) 0x0008 0 3 off mid gen.toNat v.toNat 0)
        ∧ t.liveAt (R.GLB_REG_CNT 1) = s.liveAt (R.GLB_REG_CNT 1) + 1 ∧ t.regs = s.regs ∧ t.mem = s.mem)) ∧
  (∀ (s : State) (mid : Nat) (gen : BitVec 8) (off : Nat) (w : Bool) (v : W32),
    s.inReset = false → s.headless = false → s.xingHeld 41 (islandOf off) = false → midIsThread mid = true →
    s.pathRights mid off w = false → isFirst off = false → isSecond off = false →
    Completes (.regDenied mid gen off w v) s (fun t =>
      s.Records t (mkErr 14 0 0x7301 2 3 off mid gen.toNat (if w then 2 else 1) (if w then v.toNat else 0))
        ∧ t.liveAt (R.GLB_REG_CNT 2) = s.liveAt (R.GLB_REG_CNT 2) + 1 ∧ t.regs = s.regs ∧ t.mem = s.mem)) ∧
  (∀ (s : State) (mid : Nat) (gen : BitVec 8), s.Reached mid gen R.GLB_TALLY_SNAP 1 →
    s.flag R.GLB_TALLY_STATUS F.GLB_TALLY_STATUS_BUSY = false → s.pendOf (guardInst R.GLB_TALLY_SNAP) = none →
    Completes (.tallySnap mid gen) s (fun t =>
      t.snap.counts = s.live ∧ t.snap.instant = (if s.timeRuns then s.time.ptp else s.time.bcnt + 1)
        ∧ t.fd R.GLB_TALLY_STATUS F.GLB_TALLY_STATUS_BUSY = 1 ∧ s.OnlyRegs t [R.GLB_TALLY_STATUS] ∧ t.tally = s.tally)) ∧
  (∀ s : State, s.flag R.GLB_TALLY_STATUS F.GLB_TALLY_STATUS_BUSY = true →
    Completes .tallyDone s (fun t =>
      t.tally = s.snap.counts ∧ t.fd R.GLB_TALLY_STATUS F.GLB_TALLY_STATUS_BUSY = 0
        ∧ t.fd R.GLB_TALLY_STATUS F.GLB_TALLY_STATUS_SEQ = (s.fd R.GLB_TALLY_STATUS F.GLB_TALLY_STATUS_SEQ + 1) % 65536
        ∧ t.rd64 (R.GLB_TALLY_TIME 0) = s.snap.instant
        ∧ s.OnlyRegs t [R.GLB_TALLY_STATUS, R.GLB_TALLY_TIME 0, R.GLB_TALLY_TIME 0 + 4] ∧ t.mem = s.mem))

/-- R77, R78, R79, R81 to R85, R88: what PX does with a frame that comes in, with the end of a frame it cuts through, with a
pause frame; when it sends pause frames; and what it does with a frame it sends, and with its timestamp queue. -/
def Obligations.PortFramesComplete : Prop :=
  (∀ (s : State) (n k : Nat) (bytes : List Byte) (fcsOk : Bool) (sfd : W64) (corr : Nat),
    s.receives n = true → (s.port n).cutting = false → rxFault bytes.length (s.mtu n) fcsOk = some k →
    Completes (.frameReceive n bytes fcsOk true sfd corr 0) s (fun t =>
      t.ports = s.ports ∧ t.liveAt (R.PX_PORT_CNT n k) = s.liveAt (R.PX_PORT_CNT n k) + 1 ∧ t.regs = s.regs ∧ t.mem = s.mem)) ∧
  (∀ (s : State) (n : Nat) (bytes : List Byte) (fcsOk : Bool) (sfd : W64) (corr : Nat),
    s.receives n = true → (s.port n).cutting = false → rxFault bytes.length (s.mtu n) fcsOk = none →
    beAt bytes 12 2 ≠ 0x8808 → s.fifoUsed n + bytes.length ≤ s.fifoSize n →
    Completes (.frameReceive n bytes fcsOk true sfd corr 0) s (fun t =>
      (t.port n).rxq = (s.port n).rxq ++ [{ bytes := bytes.take (bytes.length - 4), its := s.tsAdj n F.PX_PORT_TS_ADJ_RX_ADJ sfd }]
        ∧ t.liveAt (R.PX_PORT_CNT n 0) = s.liveAt (R.PX_PORT_CNT n 0) + 1 ∧ t.regs = s.regs ∧ t.mem = s.mem)) ∧
  (∀ (s : State) (n k : Nat) (rest : List Byte) (fcsOk : Bool),
    (s.port n).cutting = true → 4 ≤ rest.length → (s.port n).rxq.any (·.cut) = true →
    rxFault ((s.port n).cutLen + rest.length) (s.mtu n) fcsOk = some k →
    Completes (.cutFrameEnd n rest fcsOk) s (fun t =>
      (t.port n).cutting = false ∧ (t.port n).rxq = (s.port n).rxq.filter (fun i => !i.cut)
        ∧ t.liveAt (R.PX_PORT_CNT n k) = s.liveAt (R.PX_PORT_CNT n k) + 1 ∧ t.regs = s.regs ∧ t.mem = s.mem)) ∧
  (∀ (s : State) (n : Nat) (rest : List Byte) (fcsOk : Bool),
    (s.port n).cutting = true → 4 ≤ rest.length → (s.port n).rxq.any (·.cut) = true →
    rxFault ((s.port n).cutLen + rest.length) (s.mtu n) fcsOk = none →
    Completes (.cutFrameEnd n rest fcsOk) s (fun t =>
      (t.port n).cutting = false
        ∧ (t.port n).rxq = (s.port n).rxq.map (fun i =>
            if i.cut then { i with cut := false, bytes := i.bytes ++ rest.take (rest.length - 4) } else i)
        ∧ t.liveAt (R.PX_PORT_CNT n 0) = s.liveAt (R.PX_PORT_CNT n 0) + 1 ∧ t.regs = s.regs ∧ t.mem = s.mem)) ∧
  (∀ (s : State) (n : Nat) (bytes : List Byte),
    s.receives n = true → beAt bytes 12 2 = 0x8808 → 64 ≤ bytes.length → beAt bytes 0 6 = 0x0180C2000001 →
    beAt bytes 14 2 = 1 → beAt bytes 16 2 ≠ 0 → s.flag (R.PX_PORT_CTRL n) F.PX_PORT_CTRL_RX_PAUSE_EN = true →
    bitAt (s.port n).anPause 1 = true →
    Completes (.macControlReceive n bytes) s (fun t =>
      t.fd (R.PX_PORT_STATUS n) F.PX_PORT_STATUS_TX_PAUSED = 0xFF ∧ t.ports = s.ports
        ∧ t.liveAt (R.PX_PORT_CNT n 6) = s.liveAt (R.PX_PORT_CNT n 6) + 1 ∧ s.OnlyRegs t [R.PX_PORT_STATUS n] ∧ t.mem = s.mem)) ∧
  (∀ (s : State) (n classes : Nat), n < 144 →
    Completes (.pauseQuantaExpire n classes) s (fun t =>
      (∀ c, c < 8 → bitAt (t.fd (R.PX_PORT_STATUS n) F.PX_PORT_STATUS_TX_PAUSED) c
        = (bitAt (s.fd (R.PX_PORT_STATUS n) F.PX_PORT_STATUS_TX_PAUSED) c && !bitAt classes c))
        ∧ s.OnlyRegs t [R.PX_PORT_STATUS n] ∧ t = { s with regs := t.regs })) ∧
  (∀ (s : State) (n : Nat), s.up n = true → s.pauseGen n ≠ 0 → (s.port n).sending = none →
    Nat.land (s.pauseWanted n) (0xFF - (s.port n).sentPause) ≠ 0 →
    Completes (.pauseFrameSend n) s (fun t =>
      (t.port n).wire = pauseFrame (s.portSa n) (decide (s.fd (R.PX_PORT_PAUSE n) F.PX_PORT_PAUSE_GEN = 2)) (s.pauseWanted n) 0xFFFF
        ∧ (t.port n).sentPause = Nat.lor (s.pauseWanted n) (s.port n).sentPause
        ∧ t.liveAt (R.PX_PORT_CNT n 10) = s.liveAt (R.PX_PORT_CNT n 10) + 1 ∧ s.OnlyRegs t [R.PX_PORT_STATUS n] ∧ t.mem = s.mem)) ∧
  (∀ (s : State) (n : Nat), s.up n = true → s.pauseGen n ≠ 0 → (s.port n).sending = none →
    Nat.land (s.pauseWanted n) (s.port n).sentPause ≠ 0 →
    Completes (.pauseRepeat n) s (fun t =>
      (t.port n).wire = pauseFrame (s.portSa n) (decide (s.fd (R.PX_PORT_PAUSE n) F.PX_PORT_PAUSE_GEN = 2))
          (Nat.land (s.pauseWanted n) (s.port n).sentPause) 0xFFFF
        ∧ t.liveAt (R.PX_PORT_CNT n 10) = s.liveAt (R.PX_PORT_CNT n 10) + 1 ∧ s.OnlyRegs t [R.PX_PORT_STATUS n] ∧ t.mem = s.mem)) ∧
  (∀ (s : State) (n : Nat) (sfd : W64) (e : EgTok), s.up n = true → s.powerStep = 0 → (s.port n).sending = none →
    s.nextEgress n = some e →
    findPtp (s.egressBytes e) (s.flag (R.PX_PORT_PTP n) F.PX_PORT_PTP_L2) (s.flag (R.PX_PORT_PTP n) F.PX_PORT_PTP_UDP4)
      (s.flag (R.PX_PORT_PTP n) F.PX_PORT_PTP_UDP6) = none →
    Completes (.transmitFrame n sfd) s (fun t =>
      (t.port n).sending = some e ∧ (t.port n).epq = (s.port n).epq.erase e
        ∧ (t.port n).wire = s.egressBytes e ++ List.replicate (60 - (s.egressBytes e).length) 0
        ∧ t = { s with ports := t.ports })) ∧
  (∀ (s : State) (n : Nat) (e : EgTok), (s.port n).sending = some e → e.cut = none →
    Completes (.transmitDone n) s (fun t => ∃ u : State,
      (u.port n).sending = none ∧ (u.port n).epq = (s.port n).epq
        ∧ u.liveAt (R.PX_PORT_CNT n 8) = s.liveAt (R.PX_PORT_CNT n 8) + 1
        ∧ u.liveAt (R.PX_PORT_CNT n 9) = s.liveAt (R.PX_PORT_CNT n 9) + BitVec.ofNat 64 (max 60 e.tok.length.toNat + 4)
        ∧ u = { s with ports := u.ports, live := u.live } ∧ t = u.pxComplete n e.tok)) ∧
  (∀ (s : State) (n : Nat), n < 144 →
    Completes (.tsqPop n) s (fun t =>
      (t.port n).tsq = (s.port n).tsq.tail ∧ ((s.port n).tsq.tail = [] → t.rd (R.PX_PORT_TSQ_TAG n) = 0)
        ∧ s.OnlyRegs t [R.PX_PORT_TSQ_TAG n, R.PX_PORT_TSQ_TIME n 0, R.PX_PORT_TSQ_TIME n 1] ∧ t.mem = s.mem))

/-- R70 to R76, R94: what PX decides about a port's mode and a group's quads, and what moves a port between its link
states. -/
def Obligations.PortLinksComplete : Prop :=
  (∀ (s u : State) (mid : Nat) (gen : BitVec 8) (n : Nat) (v : W32), n < 144 →
    s.takePair (R.PX_PORT_MODE n) mid gen v = some u → s.modeOk n v = true → s.up n = false →
    Completes (.portModePair mid gen n v) s (fun t => t.rd (R.PX_PORT_MODE n) = v ∧ t.mem = s.mem)) ∧
  (∀ (s u : State) (mid : Nat) (gen : BitVec 8) (n : Nat) (v : W32), n < 144 →
    s.takePair (R.PX_PORT_MODE n) mid gen v = some u → s.modeOk n v = false →
    Completes (.portModePair mid gen n v) s (fun t =>
      t.rd (R.PX_PORT_MODE n) = s.rd (R.PX_PORT_MODE n) ∧ t.fd (R.PX_PORT_STATUS n) F.PX_PORT_STATUS_CFG_BAD = 1
        ∧ s.Records t (mkErr 1 n 0x0801 0 3 (R.PX_PORT_MODE n) 0 0 v.toNat) ∧ t.ports = s.ports ∧ t.mem = s.mem)) ∧
  (∀ (s u : State) (mid : Nat) (gen : BitVec 8) (g : Nat) (v : W32), g < 12 →
    s.takePair (R.PX_GRP_QUAD g) mid gen v = some u →
    Completes (.quadPair mid gen g v) s (fun t =>
      (s.quadBars g (v.toNat % 8) = 0 → t.fd (R.PX_GRP_QUAD g) F.PX_GRP_QUAD_QUAD_EN = v.toNat % 8 ∧ t.err = s.err)
        ∧ (s.quadBars g (v.toNat % 8) ≠ 0 → t.regs = s.regs
          ∧ s.Records t (mkErr 1 (0xC0 + g) 0x0802 0 3 (R.PX_GRP_QUAD g) 0 0 (v.toNat % 8) (s.quadBars g (v.toNat % 8))))
        ∧ t.ports = s.ports ∧ t.mem = s.mem)) ∧
  (∀ (s : State) (mid : Nat) (gen : BitVec 8) (n : Nat) (v : W32), n < 144 →
    s.Reached mid gen (R.PX_PORT_CTRL n) (v ||| 0x8000) → s.up n = false →
    Completes (.anRestart mid gen n v) s (fun t =>
      (t.anOn n = true → t.fd (R.PX_PORT_STATUS n) F.PX_PORT_STATUS_AN_DONE = 0) ∧ t.link n = s.link n
        ∧ s.OnlyRegs t [R.PX_PORT_CTRL n, R.PX_PORT_STATUS n] ∧ t.mem = s.mem)) ∧
  (∀ (s : State) (n lpPause speed : Nat), s.portExists n = true → s.link n = 1 → s.released n = true → s.powerStep ≤ 1 →
    Completes (.linkUp n false lpPause speed) s (fun t =>
      t.up n = true ∧ t.fd (R.PX_PORT_STATUS n) F.PX_PORT_STATUS_LF = 0 ∧ t.fd (R.PX_PORT_STATUS n) F.PX_PORT_STATUS_RF = 0
        ∧ s.OnlyRegs t [R.PX_PORT_STATUS n, R.PX_PORT_INT n] ∧ t.mem = s.mem)) ∧
  (∀ (s : State) (n reason : Nat), s.up n = true →
    Completes (.linkDown n reason) s (fun t =>
      t.link n = 0 ∧ (t.port n).hold = true ∧ (t.port n).epq = [] ∧ (t.port n).sending = none
        ∧ t.fd (R.PX_PORT_STATUS n) F.PX_PORT_STATUS_TX_PAUSED = 0)) ∧
  (∀ (s : State) (n : Nat), n < 144 → (s.port n).hold = true →
    Completes (.downHoldExpire n) s (fun t =>
      t.link n = s.trainOrDown n ∧ (t.port n).hold = false ∧ s.OnlyRegs t [R.PX_PORT_STATUS n] ∧ t.mem = s.mem ∧ t.err = s.err)) ∧
  (∀ (s : State) (n lane reason : Nat), s.portExists n = true →
    Completes (.laneFault n lane reason) s (fun t =>
      t.link n = 3 ∧ (t.port n).hold = false
        ∧ (s.up n = false → s.Records t (mkErr 1 n 0x0804 2 0 0 0 0 (lane % 12)) ∧ t.mem = s.mem))) ∧
  (∀ (s : State) (n : Nat), s.link n = 3 →
    Completes (.faultRetry n) s (fun t =>
      t.link n = s.trainOrDown n ∧ s.OnlyRegs t [R.PX_PORT_STATUS n] ∧ t = { s with regs := t.regs }))

/-- The device as a command of PRS finds it: PRS_TCMD has taken the write that starts it (R132). -/
def prsSees (s : State) (table op : Nat) : State :=
  (s.arrive R.PRS_TCMD).plainWrite R.PRS_TCMD (BitVec.ofNat 32 (table * 256 + op))

/-- PRS takes a command of a master (R132, R135): the write reaches PRS, which is not busy, the device is not locked, and no
transaction is past its commit point. -/
def PrsTakes (s : State) (mid : Nat) (gen : BitVec 8) (table op : Nat) : Prop :=
  table < 32 ∧ s.Reached mid gen R.PRS_TCMD (BitVec.ofNat 32 (table * 256 + op)) ∧ s.prsBusy = false ∧ s.locked = false
    ∧ s.txnState < 6

/-- R132 to R136: the commands on PRS's tables. Each sets BUSY, does its work on the table that TABLE names, and leaves its result
word waiting; PRS_COMMAND_DONE shows that word and clears BUSY. -/
def Obligations.PrsCommandsComplete : Prop :=
  (∀ (s : State) (mid : Nat) (gen : BitVec 8) (k i : Nat), PrsTakes s mid gen k 1 → 8 ≤ k → k ≤ 12 → s.tidx.2 = i →
    i < (prsTab k).2.2 →
    Completes (.prsRead mid gen k false) s (fun t =>
      t = ((prsSees s k 1).putTbuf 0 (s.bytes .table (prsEntAt 0 k i) (prsTab k).2.1)).prsResult 0 0 0 i
        ∧ t.prsBusy = true ∧ t.resOf R.PRS_TSTAT = tstat 0 0 0 i ∧ t.mem = s.mem)) ∧
  (∀ (s : State) (mid : Nat) (gen : BitVec 8) (k w i : Nat), PrsTakes s mid gen k 1 → k < 8 → s.prsClearing k = false →
    s.tidx = (w, i) → i < s.waySlots k →
    Completes (.prsRead mid gen k false) s (fun t =>
      t = ((prsSees s k 1).emShow k ((s.emTab k).ent s w i)).prsResult 0 0 w i
        ∧ t.prsBusy = true ∧ t.resOf R.PRS_TSTAT = tstat 0 0 w i ∧ t.mem = s.mem)) ∧
  (∀ (s : State) (mid : Nat) (gen : BitVec 8) (k i : Nat), PrsTakes s mid gen k 2 → 8 ≤ k → k ≤ 12 → s.tidx.2 = i →
    i < (prsTab k).2.2 → s.prsWriteOk k = true →
    Completes (.prsWrite mid gen k) s (fun t =>
      (∀ pl, pl < 4 → t.bytes .table (prsEntAt pl k i) (prsTab k).2.1 = s.tbufBytes (prsTab k).2.1)
        ∧ (∀ a, (∀ pl, pl < 4 → a < prsEntAt pl k i ∨ prsEntAt pl k i + (prsTab k).2.1 ≤ a) → t.byte .table a = s.byte .table a)
        ∧ t.prsBusy = true ∧ t.resOf R.PRS_TSTAT = tstat 0 0 0 i ∧ s.OnlyRegs t [R.PRS_TCMD])) ∧
  (∀ (s : State) (mid : Nat) (gen : BitVec 8) (k : Nat), PrsTakes s mid gen k 3 → k < 8 → s.prsClearing k = false →
    Completes (.prsInsert mid gen k) s (fun t =>
      (∀ q, (s.emTab k).find s (s.tbufBytes (s.keyBytes k)) = some q →
        t.resOf R.PRS_TSTAT = tstat 2 0 q.1 q.2 ∧ t.mem = s.mem) ∧
      (∀ u q m, (s.emTab k).find s (s.tbufBytes (s.keyBytes k)) = none →
        (s.emTab k).place s (fun _ => false) (s.emStaged k) = some (u, q, m) →
        t.resOf R.PRS_TSTAT = tstat 0 m q.1 q.2 ∧ t.mem = u.mem) ∧
      ((s.emTab k).find s (s.tbufBytes (s.keyBytes k)) = none → (s.emTab k).place s (fun _ => false) (s.emStaged k) = none →
        t.resOf R.PRS_TSTAT = tstat 3 0 0 0 ∧ t.mem = s.mem) ∧
      t.prsBusy = true ∧ s.OnlyRegs t [R.PRS_TCMD])) ∧
  (∀ (s : State) (mid : Nat) (gen : BitVec 8) (k : Nat), PrsTakes s mid gen k 4 → k < 8 → s.prsClearing k = false →
    Completes (.prsUpdate mid gen k) s (fun t =>
      (∀ q, (s.emTab k).find s (s.tbufBytes (s.keyBytes k)) = some q →
        t.resOf R.PRS_TSTAT = tstat 0 0 q.1 q.2 ∧ t.mem = ((s.emTab k).put s q.1 q.2 (s.emStaged k)).mem) ∧
      ((s.emTab k).find s (s.tbufBytes (s.keyBytes k)) = none → t.resOf R.PRS_TSTAT = tstat 1 0 0 0 ∧ t.mem = s.mem) ∧
      t.prsBusy = true ∧ s.OnlyRegs t [R.PRS_TCMD])) ∧
  (∀ (s : State) (mid : Nat) (gen : BitVec 8) (k : Nat), PrsTakes s mid gen k 5 → k < 8 → s.prsClearing k = false →
    Completes (.prsDelete mid gen k) s (fun t =>
      (∀ q, (s.emTab k).find s (s.tbufBytes (s.keyBytes k)) = some q →
        t.resOf R.PRS_TSTAT = tstat 0 0 q.1 q.2 ∧ t.mem = ((s.emTab k).clear s q.1 q.2).mem) ∧
      ((s.emTab k).find s (s.tbufBytes (s.keyBytes k)) = none → t.resOf R.PRS_TSTAT = tstat 1 0 0 0 ∧ t.mem = s.mem) ∧
      t.prsBusy = true ∧ s.OnlyRegs t [R.PRS_TCMD])) ∧
  (∀ (s : State) (mid : Nat) (gen : BitVec 8) (k : Nat), PrsTakes s mid gen k 6 → k < 8 → s.prsClearing k = false →
    Completes (.prsSearch mid gen k false) s (fun t =>
      (∀ q, (s.emTab k).find s (s.tbufBytes (s.keyBytes k)) = some q → t.resOf R.PRS_TSTAT = tstat 0 0 q.1 q.2) ∧
      ((s.emTab k).find s (s.tbufBytes (s.keyBytes k)) = none → t.resOf R.PRS_TSTAT = tstat 1 0 0 0) ∧
      t.prsBusy = true ∧ t.mem = s.mem)) ∧
  (∀ (s : State) (mid : Nat) (gen : BitVec 8) (k op : Nat), PrsTakes s mid gen k op → op = 0 ∨ 7 ≤ op → op < 16 →
    Completes (.prsBadOp mid gen k op) s (fun t =>
      t.resOf R.PRS_TSTAT = tstat 4 0 0 0 ∧ t.prsBusy = true ∧ t.mem = s.mem ∧ s.OnlyRegs t [R.PRS_TCMD])) ∧
  (∀ s : State, s.prsBusy = true →
    Completes .prsCommandDone s (fun t =>
      t.rd R.PRS_TSTAT = s.resOf R.PRS_TSTAT ∧ t.prsBusy = false ∧ t.resOf R.PRS_TSTAT = 0
        ∧ s.OnlyRegs t [R.PRS_TSTAT, R.PRS_TCMD] ∧ t = { s with regs := t.regs, cmdRes := t.cmdRes }))

/-- R98, R103, R116, R124, R125, R131, R174: PRS takes a frame and forms its token; it offers a frame's taps; control cells pass
PRS, BPM and FTE; a profile's table is set up and cleared. -/
def Obligations.PrsWorkCompletes : Prop :=
  (∀ (s : State) (pl n id : Nat) (adm : BitVec 12) (g : List (Nat × BitVec 12)) (i : RxItem) (rest : List RxItem),
    pl < 4 → s.throttles pl = false → (s.pipe pl).grants = (id, adm) :: g → s.prsNext pl = some n →
    (s.port n).rxq = i :: rest → i.cut = false →
    ((s.view (s.pipe pl).prsEpoch).decideFrame pl (i.bytes.take 256)
        (metaBlock (inportOf n) (((s.view (s.pipe pl).prsEpoch).walk pl i.bytes i.bytes.length
            (prsPort (s.view (s.pipe pl).prsEpoch) n).1 none).ended.getD 0)
          ((s.view (s.pipe pl).prsEpoch).walk pl i.bytes i.bytes.length (prsPort (s.view (s.pipe pl).prsEpoch) n).1 none).pflags
          ((s.view (s.pipe pl).prsEpoch).walk pl i.bytes i.bytes.length (prsPort (s.view (s.pipe pl).prsEpoch) n).1 none).pushed
          i.bytes.length)
        ((s.view (s.pipe pl).prsEpoch).walk pl i.bytes i.bytes.length (prsPort (s.view (s.pipe pl).prsEpoch) n).1 none)
        (prsPort (s.view (s.pipe pl).prsEpoch) n).2.1 false).2.drop = false →
    Completes (.parseFrame pl none false) s (fun t =>
      (t.port n).rxq = rest ∧ (t.pipe pl).grants = g
        ∧ (∃ f : Flight, (f ∈ (t.pipe pl).toBpm ∨ f ∈ (t.pipe pl).toTap) ∧ f.frame = i.bytes ∧ f.adm = adm
            ∧ f.tok.length = BitVec.ofNat 16 i.bytes.length ∧ f.tok.inport = BitVec.ofNat 8 (inportOf n) ∧ f.tok.its = i.its
            ∧ f.tok.handle = 0 ∧ f.tok.egress = 0x1FF ∧ f.tok.epoch = (s.pipe pl).prsEpoch ∧ (t.slot id).tok = f.tok)
        ∧ t.liveAt (R.PRS_CNT 0) = s.liveAt (R.PRS_CNT 0) + 1 ∧ t.mem = s.mem)) ∧
  (∀ (s u : State) (pl a : Nat) (f : Flight) (rest : List Flight), pl < 4 → (s.pipe pl).toTap = f :: rest →
    s.offerTaps pl f.tok.its f.taps = (u, a) →
    Completes (.tapOffer pl none) s (fun t =>
      (t.slot f.tok.id.toNat).tok = { f.tok with tapf := tapf f.taps.length a }
        ∧ { f with tok := { f.tok with tapf := tapf f.taps.length a }, taps := [] } ∈ (t.pipe pl).toBpm
        ∧ t.rcd = u.rcd ∧ t.mem = u.mem)) ∧
  (∀ (s : State) (pl : Nat) (f : Flight) (rest : List Flight), pl < 4 → (s.pipe pl).cells = f :: rest →
    Completes (.controlCellPass 0 pl) s (fun t =>
      (t.pipe pl).cells = rest ∧ (t.pipe pl).prsEpoch = (if f.tok.ctype = 1 then f.tok.epoch else (s.pipe pl).prsEpoch)
        ∧ t = { s with pipes := t.pipes })) ∧
  (∀ (s : State) (pl : Nat) (f : Flight) (rest : List Flight), pl < 4 → (s.pipe pl).toBpm = f :: rest → f.tok.ctype ≠ 0 →
    Completes (.controlCellPass 1 pl) s (fun t =>
      (t.pipe pl).toBpm = rest ∧ (t.pipe pl).toFte = (s.pipe pl).toFte ++ [{ f with tok := s.probed f.tok 2 }]
        ∧ t = { s with pipes := t.pipes })) ∧
  (∀ (s : State) (pl : Nat) (f : Flight) (rest : List Flight), pl < 4 → (s.pipe pl).toFte = f :: rest → f.tok.ctype ≠ 0 →
    f.tok.ctype ≠ 5 →
    Completes (.controlCellPass 2 pl) s (fun t =>
      (t.pipe pl).toFte = rest ∧ (t.pipe pl).toOds = (s.pipe pl).toOds ++ [{ f with tok := s.probed f.tok 3 }]
        ∧ (t.pipe pl).fteEpoch = (if f.tok.ctype = 1 then f.tok.epoch else (s.pipe pl).fteEpoch)
        ∧ t = { s with pipes := t.pipes })) ∧
  (∀ (s u : State) (mid : Nat) (gen : BitVec 8) (p : Nat) (v : W32), p < 8 →
    s.takePair (R.PRS_PROF_CTRL p) mid gen v = some u →
    Completes (.profCtrlPair mid gen p v) s (fun t =>
      (s.profOk p v = true → t.rd (R.PRS_PROF_CTRL p) = v ∧ t.err = s.err ∧ s.OnlyRegs t [R.PRS_PROF_CTRL p, R.PRS_STATUS]) ∧
      (s.profOk p v = true → v ≠ s.rd (R.PRS_PROF_CTRL p) → t.waySlots p ≠ 0 → t.prsClearing p = true) ∧
      (s.profOk p v = false → t.regs = s.regs ∧ s.Records t (mkErr 2 0xFF 0x1008 0 3 (R.PRS_PROF_CTRL p) 0 0 v.toNat)) ∧
      t.mem = s.mem)) ∧
  (∀ (s : State) (p : Nat), p < 8 → s.prsClearing p = true →
    Completes (.profClearDone p) s (fun t =>
      t.prsClearing p = false ∧
      (∀ a, (profRange (s.rd (R.PRS_PROF_CTRL p)).toNat).1 ≤ a →
        a < (profRange (s.rd (R.PRS_PROF_CTRL p)).toNat).1 + (profRange (s.rd (R.PRS_PROF_CTRL p)).toNat).2 → t.byte .table a = 0) ∧
      (∀ a, a < (profRange (s.rd (R.PRS_PROF_CTRL p)).toNat).1 ∨
        (profRange (s.rd (R.PRS_PROF_CTRL p)).toNat).1 + (profRange (s.rd (R.PRS_PROF_CTRL p)).toNat).2 ≤ a →
        t.byte .table a = s.byte .table a) ∧ s.OnlyRegs t [R.PRS_STATUS]))

/-- BPM takes an operation of a master that names a buffer (R191, checks 1 and 2): the master is defined, its generation current,
the handle lies in an enabled pool, and the pool is neither failed nor being built nor frozen. -/
def BpmServes (s : State) (mid : Nat) (gen : BitVec 8) (h : W32) : Prop :=
  midDefined mid = true ∧ gen = s.genOf mid ∧ s.handleOk h = true ∧ s.poolStat F.BPM_STATUS_FAILED (hPool h) = false
    ∧ s.poolStat F.BPM_STATUS_INIT (hPool h) = false ∧ s.poolStat F.BPM_STATUS_FROZEN (hPool h) = false

/-- The last response word that a master has had. -/
def respOf (s : State) (mid : Nat) : W40 := s.resps.get (fun _ => 0) mid

/-- R185 to R193, R197: the buffer operations. An allocation whose search ends at a pool takes the handle that the pool's cache
gives next and writes its metadata word; every operation that names a buffer changes that buffer's metadata word as R189 says
and no other byte, and answers the handle with its result. -/
def Obligations.BufferOperationsComplete : Prop :=
  (∀ (s u : State) (mid : Nat) (gen : BitVec 8) (n p : Nat) (up : Bool) (h : W32) (c : List W32),
    midDefined mid = true → gen = s.genOf mid → s.pickFrom none (s.poolsFor n) false = .gives p up →
    s.quotaTake mid p = some u → (s.pool p).cache = h :: c →
    Completes (.allocLen mid gen n) s (fun t =>
      respOf t mid = bpmResp h 0 ∧ (t.pool p).cache = c
        ∧ t.mem = (s.setMeta p (hIdx h) { alloc := true, holders := 1, owner := mid, gen := gen.toNat }).mem)) ∧
  (∀ (s u : State) (mid : Nat) (gen : BitVec 8) (p : Nat) (h : W32) (c : List W32),
    midDefined mid = true → gen = s.genOf mid → s.poolOn p = true → s.poolRefuses p none = 0 →
    s.quotaTake mid p = some u → (s.pool p).cache = h :: c →
    Completes (.allocPool mid gen p) s (fun t =>
      respOf t mid = bpmResp h 0 ∧ (t.pool p).cache = c
        ∧ t.mem = (s.setMeta p (hIdx h) { alloc := true, holders := 1, owner := mid, gen := gen.toNat }).mem)) ∧
  (∀ (s : State) (mid : Nat) (gen : BitVec 8) (h : W32) (k : Nat) (m : Meta), BpmServes s mid gen h →
    s.metaOf (hPool h) (hIdx h) = m → m.alloc = true → m.pend = false → m.owner = mid → m.gen = gen.toNat →
    m.holders + k ≤ 255 →
    Completes (.share mid gen h k) s (fun t =>
      respOf t mid = bpmResp h 0 ∧ t.mem = (s.setMeta (hPool h) (hIdx h) { m with holders := m.holders + k }).mem
        ∧ t.bpm = s.bpm ∧ t.err = s.err)) ∧
  (∀ (s : State) (mid : Nat) (gen : BitVec 8) (h : W32) (m : Meta), BpmServes s mid gen h →
    s.metaOf (hPool h) (hIdx h) = m → m.alloc = true → m.owner ≠ mid → 2 ≤ m.holders → (m.holders = 2 → m.pend = false) →
    Completes (.release mid gen h) s (fun t =>
      respOf t mid = bpmResp h 0 ∧ t.mem = (s.setMeta (hPool h) (hIdx h) { m with holders := m.holders - 1 }).mem
        ∧ t.bpm = s.bpm ∧ t.err = s.err)) ∧
  (∀ (s u : State) (mid : Nat) (gen : BitVec 8) (h : W32) (dst : Nat) (m : Meta), BpmServes s mid gen h → dst < 4096 →
    s.metaOf (hPool h) (hIdx h) = m → m.alloc = true → m.pend = false → m.owner = mid → m.gen = gen.toNat → m.holders = 1 →
    s.quotaTake dst (hPool h) = some u →
    Completes (.give mid gen h dst) s (fun t =>
      respOf t mid = bpmResp h 0
        ∧ t.mem = (s.setMeta (hPool h) (hIdx h) { m with owner := dst, gen := (s.genOf dst).toNat }).mem ∧ t.err = s.err)) ∧
  (∀ (s : State) (mid : Nat) (gen : BitVec 8) (h : W32) (m : Meta), BpmServes s mid gen h →
    s.metaOf (hPool h) (hIdx h) = m → m.alloc = true → m.pend = false → m.owner = mid → m.gen = gen.toNat → m.holders = 1 →
    s.bufRetired (hPool h) (hIdx h) = none →
    Completes (.free mid gen h) s (fun t =>
      respOf t mid = bpmResp h 0 ∧ t.mem = (s.setMeta (hPool h) (hIdx h) {}).mem
        ∧ (t.pool (hPool h)).cache = mkHandle (hPool h) (hIdx h) :: (s.pool (hPool h)).cache)) ∧
  (∀ (s : State) (mid : Nat) (gen : BitVec 8) (h : W32) (m : Meta), BpmServes s mid gen h →
    s.metaOf (hPool h) (hIdx h) = m → m.alloc = true → m.pend = false → m.owner = mid → m.gen = gen.toNat → m.holders ≠ 1 →
    Completes (.freeLater mid gen h) s (fun t =>
      respOf t mid = bpmResp h 0xD ∧ t.mem = (s.setMeta (hPool h) (hIdx h) { m with pend := true }).mem
        ∧ t.bpm = s.bpm ∧ t.err = s.err)) ∧
  (∀ (s : State) (mid : Nat) (gen : BitVec 8) (a p i : Nat) (m : Meta), s.poolAtAddr false a = some p →
    a = s.poolBase p + i * s.poolBytes p → i ≠ 0 → 0 < s.poolBytes p → BpmServes s mid gen (mkHandle p i) →
    hPool (mkHandle p i) = p → hIdx (mkHandle p i) = i →
    s.metaOf p i = m → m.alloc = true → m.pend = false → m.owner = mid → m.gen = gen.toNat → m.holders = 1 →
    s.bufRetired p i = none →
    Completes (.freeAddr mid gen a false) s (fun t =>
      respOf t mid = bpmResp (mkHandle p i) 0 ∧ t.mem = (s.setMeta p i {}).mem
        ∧ (t.pool p).cache = mkHandle p i :: (s.pool p).cache)) ∧
  (∀ (s : State) (mid : Nat) (gen : BitVec 8) (h : W32) (m : Meta), BpmServes s mid gen h →
    s.metaOf (hPool h) (hIdx h) = m → m.alloc = true → m.owner ≠ mid → 2 ≤ m.holders → (m.holders = 2 → m.pend = false) →
    Completes (.complete mid gen h) s (fun t =>
      respOf t mid = bpmResp h 0 ∧ t.mem = (s.setMeta (hPool h) (hIdx h) { m with holders := m.holders - 1 }).mem
        ∧ t.bpm = s.bpm ∧ t.err = s.err)) ∧
  (∀ (s : State) (mid : Nat) (gen : BitVec 8) (op arg : Nat), (op = 0 ∨ 10 ≤ op) → midDefined mid = true → gen = s.genOf mid →
    Completes (.bpmOpRange mid gen op arg) s (fun t =>
      respOf t mid = bpmResp 0 4 ∧ t.regs = s.regs ∧ t.mem = s.mem ∧ t.bpm = s.bpm ∧ t.err = s.err))

/-- R180 to R182, R184, R186 to R188, R201, R206: ingress allocation; the ring; a pool's failure; a pool's layout, its build; and
the recovery commands. -/
def Obligations.PoolsComplete : Prop :=
  (∀ (s : State) (pl p : Nat) (up : Bool) (f : Flight) (rest : List Flight) (h : W32) (c : List W32), pl < 4 →
    (s.pipe pl).toBpm = f :: rest → f.tok.ctype = 0 →
    s.pickFrom (some f.tok.cls.toNat) (s.poolsFor (s.ingressLen f)) false = .gives p up → (s.pool p).cache = h :: c →
    Completes (.ingressAlloc pl) s (fun t =>
      (t.pipe pl).toBpm = rest ∧ (t.pipe pl).toFte = (s.pipe pl).toFte ++ [{ f with tok := { f.tok with handle := h } }]
        ∧ (t.pool p).cache = c ∧ (t.slot f.tok.id.toNat).tok = { f.tok with handle := h }
        ∧ t.mem = ((s.setMeta p (hIdx h) { alloc := true, holders := 1, owner := 0xA30, gen := (s.genOf 0xA30).toNat }).setBytes
            (s.poolSpace p) (s.packetAddr h) f.frame).mem)) ∧
  (∀ (s : State) (p : Nat), s.poolOn p = true → (s.pool p).cache.length < 256 → (s.pool p).fill ≠ 0 →
    Completes (.ringRefill p) s (fun t =>
      (t.pool p).cache = (s.pool p).cache ++ s.ringRead p (s.pool p).head (min 128 (s.pool p).fill)
        ∧ (t.pool p).fill = (s.pool p).fill - min 128 (s.pool p).fill ∧ t = { s with bpm := t.bpm })) ∧
  (∀ (s : State) (p : Nat), s.poolOn p = true → 448 < (s.pool p).cache.length →
    Completes (.ringSpill p) s (fun t =>
      (t.pool p).cache = (s.pool p).cache.take ((s.pool p).cache.length - 128) ∧ (t.pool p).fill = (s.pool p).fill + 128
        ∧ t = { s with bpm := t.bpm, mem := t.mem })) ∧
  (∀ (s : State) (p addr : Nat) (md : Bool), p < 8 → s.poolOn p = true → s.poolSpace p = .dram → (s.pool p).held = [] →
    Completes (.poolUe p md addr) s (fun t =>
      t.poolStat F.BPM_STATUS_FAILED p = true ∧ s.Records t (mkErr 4 0xFF 0x200A 2 1 addr 0 0 p (b2n md))
        ∧ s.OnlyRegs t [R.BPM_STATUS, R.BPM_INT p] ∧ t.mem = s.mem)) ∧
  (∀ (s u : State) (mid : Nat) (gen : BitVec 8) (p k : Nat) (v : W32), p < 8 → k < 4 →
    s.takePair (poolReg p k) mid gen v = some u →
    Completes (.poolLayoutPair mid gen p k v) s (fun t =>
      (s.poolOn p = false → t.rd (poolReg p k) = v ∧ t.err = s.err ∧ s.OnlyRegs t [poolReg p k]) ∧
      (s.poolOn p = true → v ≠ s.rd (poolReg p k) → t.regs = s.regs ∧
        s.Records t (mkErr 4 0xFF 0x200B 0 3 (poolReg p k) 0 0 v.toNat)) ∧ t.mem = s.mem)) ∧
  (∀ (s u : State) (mid : Nat) (gen : BitVec 8) (p : Nat) (v : W32), p < 8 →
    s.takePair (R.BPM_POOL_SIZE p) mid gen (v ||| 0x80000000) = some u → s.poolOn p = false →
    v ||| 0x80000000 ≠ s.rd (R.BPM_POOL_SIZE p) → (s.wr (R.BPM_POOL_SIZE p) (v ||| 0x80000000)).enableOk p = true →
    Completes (.poolEnable mid gen p v) s (fun t =>
      t.rd (R.BPM_POOL_SIZE p) = v ||| 0x80000000 ∧ t.poolStat F.BPM_STATUS_INIT p = true ∧ t.poolFree p = 0 ∧ t.pool p = {}
        ∧ s.OnlyRegs t [R.BPM_POOL_SIZE p, R.BPM_STATUS, R.BPM_POOL_FREE p, R.BPM_POOL_RUSED p] ∧ t.mem = s.mem)) ∧
  (∀ (s u : State) (mid : Nat) (gen : BitVec 8) (p : Nat) (v : W32), p < 8 →
    s.takePair (R.BPM_POOL_SIZE p) mid gen (v &&& 0x7FFFFFFF) = some u → s.poolOn p = true → s.poolBusy p = false →
    v &&& 0x7FFFFFFF = s.rd (R.BPM_POOL_SIZE p) &&& 0x7FFFFFFF →
    v &&& 0x7FFFFFFF ≠ s.rd (R.BPM_POOL_SIZE p) →
    Completes (.poolDisable mid gen p v) s (fun t =>
      t.rd (R.BPM_POOL_SIZE p) = v &&& 0x7FFFFFFF ∧ t.poolFree p = 0 ∧ t.pool p = {}
        ∧ s.OnlyRegs t [R.BPM_POOL_SIZE p, R.BPM_STATUS, R.BPM_POOL_FREE p] ∧ t.mem = s.mem)) ∧
  (∀ (s : State) (p : Nat), p < 8 → s.poolStat F.BPM_STATUS_INIT p = true →
    Completes (.poolBuildDone p) s (fun t =>
      t.poolStat F.BPM_STATUS_INIT p = false ∧ (t.pool p).fill = (s.buildIndices p).length
        ∧ t.mem = ((s.zero (s.poolSpace p) (s.metaAddr p 0) (4 * s.poolCount p)).ringWrite p 0
            ((s.buildIndices p).map (mkHandle p))).mem)) ∧
  (∀ (s : State) (mid : Nat), s.flag R.BPM_CMD F.BPM_CMD_BUSY = false → s.handleOk (s.rd (R.BPM_CARG 0)) = true →
    Completes (.metaRead mid false) s (fun t =>
      t.rd (R.BPM_CARG 1) = BitVec.ofNat 32 (s.metaOf (hPool (s.rd (R.BPM_CARG 0))) (hIdx (s.rd (R.BPM_CARG 0)))).toNat
        ∧ t.flag R.BPM_CMD F.BPM_CMD_BUSY = true ∧ t.resOf R.BPM_CMD = 0
        ∧ s.OnlyRegs t [R.BPM_CARG 1, R.BPM_CMD] ∧ t.mem = s.mem)) ∧
  (∀ (s : State) (mid : Nat) (is : List Nat), s.flag R.BPM_CMD F.BPM_CMD_BUSY = false → s.bpmMay mid = true →
    s.poolOn (s.carg 0) = true → s.ownedBy (s.carg 0) (bitsOf (s.carg 1) 0 12) (some (bitsOf (s.carg 1) 12 8)) = is →
    Completes (.reclaim mid) s (fun t =>
      t.rd (R.BPM_CARG 3) = BitVec.ofNat 32 is.length ∧ t.flag R.BPM_CMD F.BPM_CMD_BUSY = true ∧ t.resOf R.BPM_CMD = 0
        ∧ t.mem = (is.foldl (fun u i => u.setMeta (s.carg 0) i
            { (u.metaOf (s.carg 0) i) with owner := bitsOf (s.carg 2) 0 12, gen := bitsOf (s.carg 2) 12 8 }) s).mem
        ∧ s.OnlyRegs t [R.BPM_CARG 3, R.BPM_CMD])) ∧
  (∀ (s : State) (mid : Nat), s.flag R.BPM_CMD F.BPM_CMD_BUSY = false → s.poolOn (s.carg 0) = true →
    Completes (.audit mid) s (fun t =>
      t.rd (R.BPM_CARG 3) = BitVec.ofNat 32 (s.ownedBy (s.carg 0) (bitsOf (s.carg 1) 0 12) none).length
        ∧ t.flag R.BPM_CMD F.BPM_CMD_BUSY = true ∧ t.resOf R.BPM_CMD = 0
        ∧ s.OnlyRegs t [R.BPM_CARG 3, R.BPM_CMD] ∧ t.mem = s.mem)) ∧
  (∀ (s : State) (mid : Nat) (h : W32), s.flag R.BPM_CMD F.BPM_CMD_BUSY = false → s.bpmMay mid = true →
    s.rd (R.BPM_CARG 0) = h → s.handleOk h = true → (s.metaOf (hPool h) (hIdx h)).alloc = true →
    s.bufRetired (hPool h) (hIdx h) = none →
    Completes (.forceFree mid) s (fun t =>
      t.flag R.BPM_CMD F.BPM_CMD_BUSY = true ∧ t.resOf R.BPM_CMD = 0 ∧ t.mem = (s.setMeta (hPool h) (hIdx h) {}).mem
        ∧ (t.pool (hPool h)).cache = mkHandle (hPool h) (hIdx h) :: (s.pool (hPool h)).cache)) ∧
  (∀ s : State, s.flag R.BPM_CMD F.BPM_CMD_BUSY = true →
    Completes .bpmCommandDone s (fun t =>
      t.fd R.BPM_CMD F.BPM_CMD_RESULT = (s.resOf R.BPM_CMD).toNat % 8 ∧ t.flag R.BPM_CMD F.BPM_CMD_BUSY = false
        ∧ t.resOf R.BPM_CMD = 0 ∧ s.OnlyRegs t [R.BPM_CMD] ∧ t = { s with regs := t.regs, cmdRes := t.cmdRes }))

/-- The device as a command of FTE finds it: FTE_TCMD has taken the write that starts it (R170). -/
def fteSees (s : State) (table op : Nat) : State :=
  (s.arrive R.FTE_TCMD).plainWrite R.FTE_TCMD (BitVec.ofNat 32 (table * 256 + op))

/-- FTE takes a command of a master (R170, R172): the write reaches FTE, which is not busy, the device is not locked, no
transaction is past its commit point, and the table is not being cleared. -/
def FteTakes (s : State) (mid : Nat) (gen : BitVec 8) (table op : Nat) : Prop :=
  table < 32 ∧ op < 16 ∧ s.Reached mid gen R.FTE_TCMD (BitVec.ofNat 32 (table * 256 + op)) ∧ s.fteBusy = false
    ∧ s.locked = false ∧ s.txnState < 6 ∧ bitAt (s.fd R.FTE_STATUS F.FTE_STATUS_CLEARING) table = false

/-- R169 to R172: the commands on FTE's tables. Each sets BUSY, does its work on the table that TABLE names, and leaves its result
word waiting; FTE_COMMAND_DONE shows that word, clears BUSY and sets CMD_DONE. -/
def Obligations.FteCommandsComplete : Prop :=
  (∀ (s : State) (mid : Nat) (gen : BitVec 8) (k : Nat), FteTakes s mid gen k 1 → k ≤ 9 → s.fteIn k = true →
    Completes (.fteRead mid gen k false) s (fun t =>
      t = ((fteSees s k 1).fteShow (s.bytes .table (s.ftePlace k) (fteEntB k))).fteResult 0 0
          (if fteHashed k then s.fteIdx.1 else 0) s.fteIdx.2
        ∧ t.fteBusy = true ∧ t.resOf R.FTE_TSTAT = fteStat 0 0 (if fteHashed k then s.fteIdx.1 else 0) s.fteIdx.2
        ∧ t.mem = s.mem)) ∧
  (∀ (s : State) (mid : Nat) (gen : BitVec 8) (k : Nat), FteTakes s mid gen k 2 → 5 ≤ k → k ≤ 9 → s.fteIn k = true →
    Completes (.fteWrite mid gen k) s (fun t =>
      t.bytes .table (s.ftePlace k) (fteEntB k) = s.fteStaged (fteEntB k)
        ∧ (∀ a, a < s.ftePlace k ∨ s.ftePlace k + fteEntB k ≤ a → t.byte .table a = s.byte .table a)
        ∧ t.fteBusy = true ∧ t.resOf R.FTE_TSTAT = fteStat 0 0 0 s.fteIdx.2 ∧ s.OnlyRegs t [R.FTE_TCMD])) ∧
  (∀ (s : State) (mid : Nat) (gen : BitVec 8), FteTakes s mid gen 0 2 → s.fteIn 0 = true →
    Completes (.fteWrite mid gen 0) s (fun t =>
      t.mem = (s.l2Put s.fteIdx (leNat ((s.fteStaged 16).take 8)) (leNat ((s.fteStaged 16).drop 8))).mem
        ∧ t.fteBusy = true ∧ t.resOf R.FTE_TSTAT = fteStat 0 0 s.fteIdx.1 s.fteIdx.2)) ∧
  (∀ (s : State) (mid : Nat) (gen : BitVec 8), FteTakes s mid gen 0 3 →
    Completes (.fteInsert mid gen 0) s (fun t =>
      (∀ q, (s.fteTab 0).find s ((s.fteStaged 16).take 8) = some q →
        t.resOf R.FTE_TSTAT = fteStat 2 0 q.1 q.2 ∧ t.mem = s.mem) ∧
      (∀ u q m, (s.fteTab 0).find s ((s.fteStaged 16).take 8) = none →
        s.l2Insert (leNat ((s.fteStaged 16).take 8)) (leNat ((s.fteStaged 16).drop 8)) = some (u, q, m) →
        t.resOf R.FTE_TSTAT = fteStat 0 m q.1 q.2 ∧ t.mem = u.mem) ∧
      ((s.fteTab 0).find s ((s.fteStaged 16).take 8) = none →
        s.l2Insert (leNat ((s.fteStaged 16).take 8)) (leNat ((s.fteStaged 16).drop 8)) = none →
        t.resOf R.FTE_TSTAT = fteStat 3 0 0 0 ∧ t.mem = s.mem) ∧
      t.fteBusy = true)) ∧
  (∀ (s u v : State) (mid : Nat) (gen : BitVec 8) (k m : Nat) (q : Nat × Nat), FteTakes s mid gen k 3 → k = 1 ∨ k = 2 →
    routeOk k (stagedRoute k (s.fteStaged (fteEntB k))) = true →
    (s.fteTab k).find s ((s.fteStaged (fteEntB k)).take (fteKeyB k)) = none →
    s.routeLimit k (stagedRoute k (s.fteStaged (fteEntB k))) = 0 →
    (s.fteTab k).place s (fun _ => false) (s.fteStaged (fteEntB k)) = some (u, q, m) →
    u.filterRaise k (stagedRoute k (s.fteStaged (fteEntB k))) = some v →
    Completes (.fteInsert mid gen k) s (fun t =>
      t.resOf R.FTE_TSTAT = fteStat 0 m q.1 q.2 ∧ t.fteBusy = true ∧ t.mem = v.mem)) ∧
  (∀ (s : State) (mid : Nat) (gen : BitVec 8), FteTakes s mid gen 0 4 →
    Completes (.fteDelete mid gen 0) s (fun t =>
      (∀ q, (s.fteTab 0).find s ((s.fteStaged 16).take 8) = some q →
        t.resOf R.FTE_TSTAT = fteStat 0 0 q.1 q.2 ∧ t.mem = (s.l2Del q).mem) ∧
      ((s.fteTab 0).find s ((s.fteStaged 16).take 8) = none → t.resOf R.FTE_TSTAT = fteStat 1 0 0 0 ∧ t.mem = s.mem) ∧
      t.fteBusy = true)) ∧
  (∀ (s : State) (mid : Nat) (gen : BitVec 8) (k : Nat), FteTakes s mid gen k 5 → k ≤ 2 ∨ k = 4 →
    Completes (.fteSearch mid gen k false) s (fun t =>
      (∀ q, (s.fteTab k).find s (s.fteStaged (fteKeyB k)) = some q → t.resOf R.FTE_TSTAT = fteStat 0 0 q.1 q.2) ∧
      ((s.fteTab k).find s (s.fteStaged (fteKeyB k)) = none → t.resOf R.FTE_TSTAT = fteStat 1 0 0 0) ∧
      t.fteBusy = true ∧ t.mem = s.mem)) ∧
  (∀ (s : State) (mid : Nat) (gen : BitVec 8), FteTakes s mid gen 0 6 → s.fteIn 0 = true →
    s.settled.flag R.FTE_AGE_CFG F.FTE_AGE_CFG_AUTO = false →
    Completes (.ageStep mid gen) s (fun t =>
      t.rd (R.FTE_TBUF 1) = BitVec.ofNat 32 (s.ageSlots.filter (fun q => s.aged (s.l2At q).2)).length
        ∧ t.mem = (s.l2DelAll (s.ageSlots.filter (fun q => s.aged (s.l2At q).2))).mem
        ∧ t.resOf R.FTE_TSTAT = fteStat 0 0 ((s.fteIdx.1 * s.fteSize 0 + s.fteIdx.2 + 4096) % (4 * s.fteSize 0) / s.fteSize 0)
            ((s.fteIdx.1 * s.fteSize 0 + s.fteIdx.2 + 4096) % (4 * s.fteSize 0) % s.fteSize 0)
        ∧ t.fteBusy = true)) ∧
  (∀ (s : State) (mid : Nat) (gen : BitVec 8) (qs : List (Nat × Nat)), FteTakes s mid gen 0 7 →
    qs = (s.l2.inUse s).filter (fun q => flushHits (s.rd (R.FTE_TBUF 0)).toNat (s.l2At q).1 (s.l2At q).2) →
    Completes (.fteFlush mid gen) s (fun t =>
      t.rd (R.FTE_TBUF 1) = BitVec.ofNat 32 qs.length ∧ t.mem = (s.l2DelAll qs).mem
        ∧ t.resOf R.FTE_TSTAT = fteStat 0 0 0 0 ∧ t.fteBusy = true)) ∧
  (∀ (s : State) (mid : Nat) (gen : BitVec 8), FteTakes s mid gen 0 8 →
    Completes (.fteUpdate mid gen 0) s (fun t =>
      (∀ q, (s.fteTab 0).find s ((s.fteStaged 16).take 8) = some q →
        t.resOf R.FTE_TSTAT = fteStat 0 0 q.1 q.2
          ∧ t.mem = (s.l2Put q (leNat ((s.fteStaged 16).take 8)) (leNat ((s.fteStaged 16).drop 8))).mem) ∧
      ((s.fteTab 0).find s ((s.fteStaged 16).take 8) = none → t.resOf R.FTE_TSTAT = fteStat 1 0 0 0 ∧ t.mem = s.mem) ∧
      t.fteBusy = true)) ∧
  (∀ (s : State) (mid : Nat) (gen : BitVec 8) (k op : Nat), FteTakes s mid gen k op → ftePair op k = false →
    Completes (.fteBadOp mid gen k op) s (fun t =>
      t.err = ((fteSees s k op).raise (fteRec 0xFF 0x1804 0 3 R.FTE_TCMD ((fteSees s k op).rd R.FTE_TCMD).toNat 0)).err
        ∧ t.resOf R.FTE_TSTAT = fteStat 4 0 0 0 ∧ t.fteBusy = true ∧ t.mem = s.mem ∧ s.OnlyRegs t [R.FTE_TCMD])) ∧
  (∀ s : State, s.fteBusy = true →
    Completes .fteCommandDone s (fun t =>
      t.rd R.FTE_TSTAT = s.resOf R.FTE_TSTAT ∧ t.fteBusy = false ∧ t.flag R.FTE_INT F.FTE_INT_CMD_DONE = true
        ∧ s.OnlyRegs t [R.FTE_TSTAT, R.FTE_TCMD, R.FTE_INT] ∧ t.mem = s.mem))

/-- What FTE decides for a packet token (R144). -/
def fteDecides (s : State) (f : Flight) : FteRes := s.resolve (s.view f.tok.epoch) f (s.fteWindow f)

/-- R144, R152 to R160, R173: a packet token leaves FTE with the EGRESS that its resolution gives; the learning engine learns,
ages, flushes and applies the messages of other devices; a notification is popped; a table's layout is set and its clearing
ends. -/
def Obligations.FteWorkCompletes : Prop :=
  (∀ (s u : State) (pl : Nat) (f : Flight) (rest : List Flight), pl < 4 → (s.pipe pl).toFte = f :: rest → f.isCell = false →
    u = s.setPipe pl { (s.pipe pl) with toFte := rest } →
    Completes (.fteResolve pl none) s (fun t =>
      (t.pipe pl).toFte = rest
        ∧ (∃ e, (t.pipe pl).toOds = (s.pipe pl).toOds ++ [{ f with tok := { f.tok with egress := e } }]
            ∧ (e = BitVec.ofNat 10 (fteDecides u f).eg ∨ e = 0x1FE)
            ∧ ((s.view f.tok.epoch).flag (R.FTE_PORT_CFG f.tok.inport.toNat) F.FTE_PORT_CFG_STATIC_DROP = false →
                e = BitVec.ofNat 10 (fteDecides u f).eg))
        ∧ t.liveAt (R.FTE_CNT 0) = s.liveAt (R.FTE_CNT 0) + 1)) ∧
  (∀ (s w u : State) (p m : Nat) (q : Nat × Nat) (x : LearnMsg) (rest : List LearnMsg), p < 4 → s.engineNext = some p →
    s.learnQ p = x :: rest → w = ((s.setLearnQ p rest).engineServed p).noteRecent (l2Key x.mac x.vid) →
    s.l2Clearing = false → s.l2Find (l2Key x.mac x.vid) = none → s.learnFull x.port = false →
    s.l2Insert (l2Key x.mac x.vid) (e1Make x.port x.now 0) = some (u, q, m) →
    Completes .learnMessage s (fun t =>
      t.mem = u.mem ∧ t.learnQ p = rest ∧ t.liveAt (R.FTE_CNT 6) = s.liveAt (R.FTE_CNT 6) + 1
        ∧ t.fte.recent = w.fte.recent ∧ t.fte.turn = (p + 1) % 6)) ∧
  (∀ (s : State) (pl : Nat), pl < 4 →
    Completes (.recentFilterExpire pl) s (fun t =>
      t.fte.recent.get (fun _ => []) pl = (s.fte.recent.get (fun _ => []) pl).tail
        ∧ t = { s with fte := { s.fte with recent := t.fte.recent } })) ∧
  (∀ s : State, s.fteNow ≠ s.fte.passed → s.settled.flag R.FTE_AGE_CFG F.FTE_AGE_CFG_AUTO = true → s.l2Clearing = false →
    Completes .agePass s (fun t =>
      t.fte.passed = s.fteNow
        ∧ t.fte.aging = s.fte.aging ++ ((s.l2.inUse s).filter (fun q => s.aged (s.l2At q).2)).map (fun q => (s.l2At q).1)
        ∧ t = { s with fte := t.fte })) ∧
  (∀ (s : State) (key e : Nat) (rest : List Nat) (q : Nat × Nat), s.engineNext = some 5 → s.fte.aging = key :: rest →
    s.l2Find key = some (q, e) → s.aged e = true → s.l2Clearing = false →
    Completes .ageDelete s (fun t =>
      t.fte.aging = rest ∧ t.mem = (s.l2Del q).mem ∧ t.liveAt (R.FTE_CNT 8) = s.liveAt (R.FTE_CNT 8) + 1)) ∧
  (∀ (s : State) (pl : Nat) (f : Flight) (rest : List Flight), pl < 4 → (s.pipe pl).toFte = f :: rest → f.tok.ctype = 5 →
    Completes (.fteFlushCell pl) s (fun t =>
      (t.pipe pl).toFte = rest ∧ (t.pipe pl).toOds = (s.pipe pl).toOds ++ [f] ∧
      (f.tok.inport.toNat < 144 → s.settled.flag (R.FTE_PORT_CFG f.tok.inport.toNat) F.FTE_PORT_CFG_FLUSH_DOWN = true →
        t.fte.flushing = s.fte.flushing ++ [f.tok.inport.toNat] ∧ t.flag R.FTE_STATUS F.FTE_STATUS_FLUSH_BUSY = true
          ∧ t.learnQ (portPipe f.tok.inport.toNat) =
              s.learnQ (portPipe f.tok.inport.toNat) ++ [{ flush := true, port := f.tok.inport.toNat }]) ∧
      s.OnlyRegs t [R.FTE_STATUS] ∧ t.mem = s.mem)) ∧
  (∀ (s : State) (p : Nat) (x : LearnMsg) (rest : List LearnMsg), s.flushFirst = some p → s.learnQ p = x :: rest →
    Completes .portFlush s (fun t =>
      t.learnQ p = rest ∧ t.mem = (s.l2DelAll (s.dynOf x.port)).mem ∧ t.fte.flushing = s.fte.flushing.erase x.port
        ∧ t.liveAt (R.FTE_CNT 24) = s.liveAt (R.FTE_CNT 24) + BitVec.ofNat 64 (s.dynOf x.port).length
        ∧ t.flag R.FTE_INT F.FTE_INT_FLUSH_DONE = true)) ∧
  (∀ (s : State) (m : W64 × W64) (rest : List (W64 × W64)), s.engineNext = some 4 → s.fte.mlkRx = m :: rest →
    Completes .mlkLearnApply s (fun t => ∃ w : State,
      t = w.mlkApply m ∧ w.fte.mlkRx = rest ∧ w.fte.turn = 5
        ∧ w = { s with fte := { s.fte with mlkRx := rest, turn := 5, recent := w.fte.recent } })) ∧
  (∀ s : State,
    Completes .lnqPop s (fun t =>
      t.fte.lnq = s.fte.lnq.tail
        ∧ t.rd64 (R.FTE_LNQ 0) = (s.fte.lnq.tail.head?.getD (0, 0)).1 ∧ t.rd64 (R.FTE_LNQ 2) = (s.fte.lnq.tail.head?.getD (0, 0)).2
        ∧ t.flag R.FTE_LNQ_CTRL F.FTE_LNQ_CTRL_VALID = (s.fte.lnq.tail != [])
        ∧ s.OnlyRegs t [R.FTE_LNQ_CTRL, R.FTE_LNQ 0, R.FTE_LNQ 1, R.FTE_LNQ 2, R.FTE_LNQ 3] ∧ t.mem = s.mem)) ∧
  (∀ (s u : State) (mid : Nat) (gen : BitVec 8) (k : Nat) (v : W32), k < 10 →
    s.takePair (R.FTE_LAYOUT k) mid gen v = some u →
    Completes (.layoutPair mid gen k v) s (fun t =>
      (s.layoutOk k v = true → t.rd (R.FTE_LAYOUT k) = v &&& 0xFFFF0000 ∧ t.err = s.err) ∧
      (s.layoutOk k v = true → v &&& 0xFFFF0000 ≠ s.rd (R.FTE_LAYOUT k) →
        bitAt (t.fd R.FTE_STATUS F.FTE_STATUS_CLEARING) k = decide (bitsOf v.toNat 16 5 ≠ 0)) ∧
      (s.layoutOk k v = false →
        t.regs = s.regs ∧ s.Records t (mkErr 3 0xFF 0x1806 0 3 (R.FTE_LAYOUT k) 0 0 v.toNat)) ∧
      t.mem = s.mem)) ∧
  (∀ (s : State) (k : Nat), k < 10 → bitAt (s.fd R.FTE_STATUS F.FTE_STATUS_CLEARING) k = true →
    Completes (.layoutClearDone k) s (fun t =>
      bitAt (t.fd R.FTE_STATUS F.FTE_STATUS_CLEARING) k = false ∧
      (∀ a, (fteRange k (s.rd (R.FTE_LAYOUT k)).toNat).1 ≤ a →
        a < (fteRange k (s.rd (R.FTE_LAYOUT k)).toNat).1 + (fteRange k (s.rd (R.FTE_LAYOUT k)).toNat).2 → t.byte .table a = 0) ∧
      (∀ a, a < (fteRange k (s.rd (R.FTE_LAYOUT k)).toNat).1 ∨
        (fteRange k (s.rd (R.FTE_LAYOUT k)).toNat).1 + (fteRange k (s.rd (R.FTE_LAYOUT k)).toNat).2 ≤ a →
        t.byte .table a = s.byte .table a) ∧ s.OnlyRegs t [R.FTE_STATUS]))

/-- R212, R218, R222, R225, R236, R239, R243 to R246, R252, R253: tokens are admitted, enter ODS, are dispatched to threads that
wait in GET, and leave it through release lists, delay lists and drains. -/
def Obligations.OrderDispatchCompletes : Prop :=
  (∀ (s u : State) (pl n id : Nat), pl < 4 → s.throttles pl = false → s.powerStep = 0 → s.bcn.draining = false →
    (s.pipe pl).grants = [] → s.prsNext pl = some n → s.allocSlot pl { inport := 0xFF } = some (u, id) →
    Completes (.admitCell pl) s (fun t =>
      (t.pipe pl).grants = [(id, (s.pipe pl).adm + 1)] ∧ (t.pipe pl).adm = (s.pipe pl).adm + 1 ∧ (t.slot id).used = true
        ∧ (t.slot id).tok.id = BitVec.ofNat 19 id ∧ (t.slot id).adm = (s.pipe pl).adm + 1
        ∧ t.liveAt (R.ODS_CNT 0) = s.liveAt (R.ODS_CNT 0) + 1 ∧ t.mem = s.mem)) ∧
  (∀ (s u : State) (c : HeldCell) (id : Nat), firstHeld s.ods.held = some c → c.kind = 0 → s.allocSlot 4 c.tok = some (u, id) →
    Completes .heldCellAdmit s (fun t =>
      t.ods.held = s.ods.held.erase c
        ∧ (t.pipe c.at_).cells =
            (s.pipe c.at_).cells ++ [{ tok := { c.tok with id := BitVec.ofNat 19 id }, adm := (s.pipe c.at_).adm + 1 }]
        ∧ (t.slot id).adm = (s.pipe c.at_).adm + 1 ∧ t.mem = s.mem)) ∧
  (∀ (s v : State) (pl q d id : Nat) (f : Flight) (rest : List Flight), pl < 4 → (s.pipe pl).toOds = f :: rest → f.tok.ctype = 0 →
    s.epochLive f.tok.epoch = true → s.mode F.GLB_MODE_TIMED = true → v = s.tokView f.tok → id = f.tok.id.toNat →
    nodeKind v f.tok.node.toNat = 1 → nodeA v f.tok.node.toNat F.ODS_NODE_A_WHOLE ≠ 1 →
    q = f.queue.getD (nodeQueue v f.tok.node.toNat f.tok.flow) →
    d = (if s.mode F.GLB_MODE_TOTAL then 2 ^ 20 + f.tok.inport.toNat else f.tok.lockIdx) →
    Completes (.tokenEntry pl false) s (fun t =>
      (t.pipe pl).toOds = rest ∧ t.queue q = s.queue q ++ [id] ∧ (t.slot id).place = .queue q
        ∧ (t.slot id).tok = { f.tok with seq := (s.domOf d).next } ∧ (t.slot id).dom = some d
        ∧ (t.domOf d).next = (s.domOf d).next + 1 ∧ t.liveAt (R.ODS_CNT 1) = s.liveAt (R.ODS_CNT 1) + 1 ∧ t.mem = s.mem)) ∧
  (∀ (s w : State) (c q id mid slot : Nat), c < 16 → s.waitersOf c ≠ [] → w = s.shedGroup (s.dispOf c).group →
    w.groupPick c (s.dispOf c).group = some (q, id, mid) →
    w.fd (R.ODS_GROUP (s.dispOf c).group) F.ODS_GROUP_QUANTUM ≠ 0 →
    w.costOf id ≤ w.deficitOf c (s.dispOf c).group +
      (if (s.dispOf c).started then 0 else w.fd (R.ODS_GROUP (s.dispOf c).group) F.ODS_GROUP_QUANTUM) →
    w.mayHold mid = some slot →
    Completes (.dispatch c false) s (fun t =>
      t.queue q = (w.queue q).tail ∧ (t.slot id).place = .window mid slot ∧ (t.thr mid).tokenIn slot = some id
        ∧ (t.slot id).tok = { (w.slot id).tok with owner := BitVec.ofNat 12 mid, gen := s.genOf mid }
        ∧ (w.needsLock id = true → (t.slot id).lock = true ∧ (t.lockOf (w.slot id).tok.lockIdx).holder = some id)
        ∧ (∀ g, g ∈ t.ods.gets ↔ g ∈ s.ods.gets ∧ g.1 ≠ mid) ∧ t.liveAt (R.ODS_CNT 2) = s.liveAt (R.ODS_CNT 2) + 1)) ∧
  (∀ (s : State) (id d : Nat), (s.slot id).dom = some d → (s.slot id).place = .ordered →
    s.fd R.ODS_CFG F.ODS_CFG_ORDER_TMO ≠ 0 →
    Completes (.orderTimeout id) s (fun t =>
      t.liveAt (R.ODS_CNT 8) = s.liveAt (R.ODS_CNT 8) + 1 ∧ t.flag R.ODS_INT F.ODS_INT_ORDER_SKIP = true)) ∧
  (∀ (s : State) (n : Nat) (e : RelEnt) (rest : List RelEnt), n < 144 → s.relList n = e :: rest → s.up n = true →
    (s.port n).epq.length < 64 →
    Completes (.releaseHandoff n) s (fun t =>
      (t.port n).epq = (s.port n).epq ++ [{ tok := e.tok, cut := (s.slot e.id).cut, bad := (s.slot e.id).bad }]
        ∧ t.relList n = rest ∧ t.mem = s.mem ∧ t.err = s.err)) ∧
  (∀ (s u : State) (l i : Nat) (e : DlEnt), s.dlNext l = some (i, e) → u = s.until (e.tick * s.dlTick l) → e.tick ≤ u.dlNow l →
    ¬ (e.kind = .token ∧ (s.slot e.id).spilled = true) →
    Completes (.dlistExpire l) s (fun t => t = (u.dlExpire l i e).reThrottle)) ∧
  (∀ (s u w : State) (l i id : Nat) (e : DlEnt), s.dlNext l = some (i, e) → e.kind = .timer →
    u = s.until (e.tick * s.dlTick l) → u.dlNow l = e.tick → u.allocSlot 4 (u.timerTok e) = some (w, id) →
    Completes (.dlistExpire l) s (fun t =>
      t = (w.timerFire l i id).reThrottle ∧ t.dlEnt l i = {} ∧ t.liveAt (R.ODS_CNT 12) = s.liveAt (R.ODS_CNT 12) + 1)) ∧
  (∀ (s : State) (id l i : Nat), (s.slot id).place = .listed l i → s.flag R.ODS_SPILL F.ODS_SPILL_EN = true →
    (s.slot id).spilled = false → s.time.ptp.toNat + 1000000 < (s.dlEnt l i).tick * s.dlTick l →
    Completes (.tokenSpill id) s (fun t =>
      t.mem = (s.setBytes .dram (s.spillAt id) (s.slot id).tok.bytes).mem ∧ t.slot id = { s.slot id with spilled := true }
        ∧ t = { s with mem := t.mem, ods := t.ods })) ∧
  (∀ (s : State) (id : Nat), (s.slot id).spilled = true →
    Completes (.tokenUnspill id false) s (fun t =>
      t.slot id = { s.slot id with spilled := false, tok := Token.ofBytes (s.bytes .dram (s.spillAt id) 64) }
        ∧ t = { s with ods := t.ods })) ∧
  (∀ (s : State) (pl n : Nat) (f : Flight) (rest : List Flight), pl < 4 → (s.pipe pl).toOds = f :: rest → f.tok.ctype = 5 →
    n = f.tok.inport.toNat → n < 144 →
    Completes (.odsFlushCell pl) s (fun t =>
      (t.pipe pl).toOds = rest ∧ (t.slot f.tok.id.toNat).used = false
        ∧ ((∃ d ∈ t.ods.drains, d.port = n) ∨ bitAt (t.rd (R.ODS_DRAIN (n / 32))).toNat (n % 32) = true) ∧ t.mem = s.mem)) ∧
  (∀ (s : State) (n : Nat) (d : DrainWait), n < 144 → s.ods.drains.find? (fun d => d.port == n) = some d →
    Completes (.drainTmo n) s (fun t =>
      t.ods.drains = s.ods.drains.erase d ∧ bitAt (t.rd (R.ODS_DRAIN (n / 32))).toNat (n % 32) = true
        ∧ s.Records t (mkErr 5 0xFF 0x280A 0 0 0 0 0 n (s.portTokens n)) ∧ t.mem = s.mem)) ∧
  (∀ (s u : State) (pl flow id : Nat) (x : Token), pl < 4 → flow < 2 ^ 22 →
    x = Token.stampProbe
      { ctype := 7, flow := BitVec.ofNat 22 flow, epoch := s.epoch, inport := 0xFF, egress := 0x1F0, its := s.time.ptp }
      0 s.time.ptp.toNat →
    s.allocSlot 4 x = some (u, id) →
    Completes (.probeInject pl flow) s (fun t =>
      (t.pipe pl).cells = (s.pipe pl).cells ++ [{ tok := { x with id := BitVec.ofNat 19 id }, adm := (s.pipe pl).adm + 1 }]
        ∧ t.mem = s.mem)) ∧
  (∀ (s u : State) (mid : Nat) (gen : BitVec 8) (v : W32) (log : Nat), s.takePair R.ODS_STORE mid gen v = some u →
    s.odsRuns = false → log = bitsOf v.toNat 0 5 → 14 ≤ log → log ≤ 19 →
    bitsOf v.toNat 20 7 * 2 ^ 20 + 2 ^ log * 64 ≤ 128 * 2 ^ 20 →
    (s.fd R.ODS_FLOWMEM F.ODS_FLOWMEM_BASE < 32 ∨ flowFits (s.fd R.ODS_FLOWMEM F.ODS_FLOWMEM_BASE) log = true) →
    Completes (.odsStorePair mid gen v) s (fun t =>
      t.rd R.ODS_STORE = v &&& 0x07FFFF1F ∧ s.OnlyRegs t [R.ODS_STORE] ∧ t.err = s.err ∧ t.mem = s.mem)) ∧
  (∀ (s u : State) (mid : Nat) (gen : BitVec 8) (v : W32), s.takePair R.ODS_FLOWMEM mid gen v = some u →
    Completes (.odsFlowmemPair mid gen v) s (fun t =>
      (s.odsRuns = false → 32 ≤ bitsOf v.toNat 0 11 →
        flowFits (bitsOf v.toNat 0 11) (s.fd R.ODS_STORE F.ODS_STORE_LOG) = true →
        t.rd R.ODS_FLOWMEM = v &&& 0x7FF ∧ s.OnlyRegs t [R.ODS_FLOWMEM] ∧ t.err = s.err) ∧
      (s.odsRuns = true → t.regs = s.regs ∧ s.Records t (mkErr 5 0xFF 0x280B 0 3 R.ODS_FLOWMEM 0 0 v.toNat)) ∧ t.mem = s.mem))

/-- ODS takes an operation of the token port (R48, R51): the requester's MID is defined and its generation current. -/
def OdsServes (s : State) (mid : Nat) (gen : BitVec 8) : Prop := midDefined mid = true ∧ gen = s.genOf mid

/-- The result code of the last response word that a master has had from ODS (R225). -/
def odsResult (s : State) (mid : Nat) : Nat := (respOf s mid).toNat / 2 ^ 32

/-- R225, R227, R228, R233, R243, R245, R246, R249: the operations of the token port. -/
def Obligations.TokenPortCompletes : Prop :=
  (∀ (s : State) (mid : Nat) (gen : BitVec 8), OdsServes s mid gen → s.heldBy mid < s.holdMax mid → s.timerCell mid = none →
    s.isSpareThread mid = false →
    Completes (.tkpGet mid gen) s (fun t =>
      t.ods.gets = s.ods.gets ++ [(mid, gen)] ∧ t = { s with ods := { s.ods with gets := t.ods.gets } })) ∧
  (∀ (s : State) (mid : Nat) (gen : BitVec 8) (id slot : Nat), OdsServes s mid gen → s.heldBy mid < s.holdMax mid →
    s.timerCell mid = some id → s.mayHold mid = some slot →
    Completes (.tkpGetNb mid gen false) s (fun t =>
      t = s.giveThread mid slot id ∧ (t.thr mid).tokenIn slot = some id ∧ respOf t mid = BitVec.ofNat 40 (slot % 2 ^ 24))) ∧
  (∀ (s u : State) (mid : Nat) (gen : BitVec 8), OdsServes s mid gen → s.heldBy mid < s.holdMax mid → s.timerCell mid = none →
    mid / 128 < 16 →
    State.dispatch { s with ods := { s.ods with gets := [(mid, gen)] } } (mid / 128) false dispatchFuel = some u →
    u.ods.gets = [] →
    Completes (.tkpGetNb mid gen false) s (fun t =>
      t = State.reThrottle { u with ods := { u.ods with gets := s.ods.gets } } ∧ t.ods.gets = s.ods.gets)) ∧
  (∀ (s : State) (mid : Nat) (gen : BitVec 8), OdsServes s mid gen → s.heldBy mid < s.holdMax mid → s.timerCell mid = none →
    mid / 128 < 16 →
    State.dispatch { s with ods := { s.ods with gets := [(mid, gen)] } } (mid / 128) false dispatchFuel = none →
    Completes (.tkpGetNb mid gen false) s (fun t => odsResult t mid = 1 ∧ t.ods = s.ods ∧ t.mem = s.mem)) ∧
  (∀ (s v : State) (mid : Nat) (gen : BitVec 8) (slot id q : Nat) (x : Token), OdsServes s mid gen → slot < 8 →
    s.windowBusy mid = false → s.holds mid gen slot = some id → v = s.tokView (s.slot id).tok → x = s.winToken mid slot →
    s.putChecks v (s.slot id).tok.handle x (s.slot id).cut.isNone = 0 → nodeKind v x.node.toNat = 1 →
    q = nodeQueue v x.node.toNat x.flow → s.queueStalls v q = false → nodeA v x.node.toNat F.ODS_NODE_A_WHOLE ≠ 1 →
    Completes (.tkpPut mid gen slot) s (fun t =>
      odsResult t mid = 0 ∧ (t.queue q).getLast? = some id ∧ (t.slot id).place = .queue q
        ∧ (t.slot id).tok = (s.slot id).tok.taken x ∧ (t.thr mid).tokenIn slot = none
        ∧ t.liveAt (R.ODS_CNT 3) = s.liveAt (R.ODS_CNT 3) + 1)) ∧
  (∀ (s v r : State) (mid : Nat) (gen : BitVec 8) (slot id instant l tick : Nat) (x y : Token), OdsServes s mid gen → slot < 8 →
    s.windowBusy mid = false → s.holds mid gen slot = some id → v = s.tokView (s.slot id).tok → x = s.winToken mid slot →
    s.putChecks v (s.slot id).tok.handle x (s.slot id).cut.isNone = 0 → nodeKind v x.node.toNat = 2 →
    v.fd (R.ODS_NODE_B x.node.toNat) F.ODS_NODE_B_TMODE = 2 → s.mode F.GLB_MODE_TIMED = true →
    y = (s.slot id).tok.taken x →
    s.timedPick (s.nodeList y) (instantOf s.time.ptp.toNat (instant % 2 ^ 40)) = .on l tick →
    r = (s.putTake mid slot id x).reserveFor id l tick mid →
    Completes (.tkpPutAt mid gen slot instant) s (fun t =>
      t = ((r.tokenDone id).odsReply mid 0
          (match (r.slot id).timed with | some (a, b) => some (r.dlHandle a b) | none => none)).reThrottle
        ∧ odsResult t mid = 0 ∧ (t.thr mid).tokenIn slot = none)) ∧
  (∀ (s : State) (mid : Nat) (gen : BitVec 8) (slot id : Nat), OdsServes s mid gen → slot < 8 → s.holds mid gen slot = some id →
    (s.slot id).lock = true →
    Completes (.tkpUnlock mid gen slot) s (fun t =>
      odsResult t mid = 0 ∧ (t.thr mid).slots = (s.thr mid).slots
        ∧ ((s.lockOf (s.slot id).tok.lockIdx).waiters = [] →
            (t.slot id).lock = false ∧ (t.lockOf (s.slot id).tok.lockIdx).holder = none)
        ∧ (∀ w ws, (s.lockOf (s.slot id).tok.lockIdx).waiters = w :: ws →
            t.lockOf (s.slot id).tok.lockIdx = { holder := some w, waiters := ws } ∧ (t.slot w).lock = true
              ∧ (t.queue (s.slot w).fromQ).head? = some w))) ∧
  (∀ (s : State) (mid : Nat) (gen : BitVec 8) (slot id : Nat), OdsServes s mid gen → slot < 8 → s.windowBusy mid = false →
    s.holds mid gen slot = some id →
    Completes (.tkpDiscard mid gen slot) s (fun t =>
      t = ((((s.writeBack mid slot).emptySlot mid slot).discardToken id).odsReply mid 0 none).reThrottle
        ∧ odsResult t mid = 0 ∧ (t.thr mid).tokenIn slot = none)) ∧
  (∀ (s u : State) (mid : Nat) (gen : BitVec 8) (slot id : Nat) (x : Token), OdsServes s mid gen → slot < 8 →
    s.windowBusy mid = false → x = s.softTok mid slot → (s.thr mid).tokenIn slot = none →
    s.putChecks (s.tokView x) 0 x true = 0 → s.softStalls (s.tokView x) x = false → s.ods.held = [] →
    s.allocSlot 4 x = some (u, id) →
    Completes (.tkpSoft mid gen slot) s (fun t =>
      t = (((u.assignDomain id).actOnNode id none).odsReply mid 0 none).reThrottle ∧ odsResult t mid = 0)) ∧
  (∀ (s u : State) (mid : Nat) (gen : BitVec 8) (slot list delay i : Nat) (target : Bool) (e : DlEnt), OdsServes s mid gen → slot < 8 →
    list < 16 → s.windowBusy mid = false → (s.thr mid).tokenIn slot = none → 1 ≤ delay → delay < 2 ^ 24 → s.dlOn list = true →
    e = { kind := .timer, tick := s.dlNow list + delay, mid := mid, node := (s.winToken mid slot).node,
          flow := (s.winToken mid slot).flow, cookie := (s.winToken mid slot).cresult, target := target } →
    s.dlReserve list e = some (u, i) →
    Completes (.tkpTimer mid gen slot list delay target) s (fun t =>
      respOf t mid = BitVec.ofNat 40 (u.dlHandle list i % 2 ^ 24) ∧ (t.dlEnt list i).kind = .timer
        ∧ (t.dlEnt list i).tick = s.dlNow list + delay ∧ (t.dlEnt list i).mid = mid ∧ t.mem = s.mem)) ∧
  (∀ (s : State) (mid : Nat) (gen : BitVec 8) (h l i : Nat), OdsServes s mid gen → l = bitsOf h 20 4 → i = bitsOf h 4 16 →
    (s.dlEnt l i).kind ≠ .none → (s.dlEnt l i).tag = BitVec.ofNat 4 h → (s.dlEnt l i).mid = mid →
    Completes (.tkpCancel mid gen h) s (fun t =>
      odsResult t mid = 2 ∧ t.dlEnt l i = {} ∧ t.liveAt (R.ODS_CNT 13) = s.liveAt (R.ODS_CNT 13) + 1)) ∧
  (∀ (s u : State) (k : Nat) (o : StalledOp), s.ods.stalls[k]? = some o →
    State.runOp { s with ods := { s.ods with stalls := s.ods.stalls.eraseIdx k } } o = some u →
    Completes (.putStallEnd k) s (fun t => t = u.reThrottle))

/-- A command to a thread's CLU_THR_CTRL reaches its cluster (R360). -/
def ThrReached (s : State) (mid : Nat) (gen : BitVec 8) (c k t cmd pc : Nat) : Prop :=
  c < 16 ∧ k < 9 ∧ t < 8 ∧ s.Reached mid gen (R.CLU_THR_CTRL c k t) (BitVec.ofNat 32 (cmd * 2 ^ 29 + pc % 2 ^ 14))

/-- R360, R361: the commands of a cluster's threads move a thread between its states. -/
def Obligations.ThreadCommandsComplete : Prop :=
  (∀ (s : State) (mid : Nat) (gen : BitVec 8) (c k t : Nat), ThrReached s mid gen c k t 1 0 → (s.thr (threadMid c k t)).st = 1 →
    Completes (.threadHalt mid gen c k t) s (fun u =>
      u.thr (threadMid c k t) = { s.thr (threadMid c k t) with st := 3, step := false, cmdErr := false }
        ∧ s.OnlyRegs u [R.CLU_THR_CTRL c k t] ∧ u.mem = s.mem)) ∧
  (∀ (s : State) (mid : Nat) (gen : BitVec 8) (c k t pc : Nat), ThrReached s mid gen c k t 2 pc →
    2 ≤ (s.thr (threadMid c k t)).st → (s.thr (threadMid c k t)).st ≤ 4 →
    Completes (.threadResume mid gen c k t pc) s (fun u =>
      (u.thr (threadMid c k t)).st = 1 ∧ (u.thr (threadMid c k t)).cmdErr = false
        ∧ (u.thr (threadMid c k t)).pc = (s.thr (threadMid c k t)).pc
        ∧ (u.thr (threadMid c k t)).skipBrk = ((s.thr (threadMid c k t)).st == 4) ∧ u.mem = s.mem)) ∧
  (∀ (s : State) (mid : Nat) (gen : BitVec 8) (c k t pc : Nat), ThrReached s mid gen c k t 3 pc → pc < 2 ^ 14 →
    (s.thr (threadMid c k t)).st ≠ 1 → (s.thr (threadMid c k t)).st ≤ 4 →
    Completes (.threadResumeAt mid gen c k t pc) s (fun u =>
      (u.thr (threadMid c k t)).st = 1 ∧ (u.thr (threadMid c k t)).pc = pc ∧ (u.thr (threadMid c k t)).xfers = []
        ∧ (u.thr (threadMid c k t)).rfi = false ∧ (u.thr (threadMid c k t)).cmdErr = false ∧ u.mem = s.mem)) ∧
  (∀ (s : State) (mid : Nat) (gen : BitVec 8) (c k t : Nat), ThrReached s mid gen c k t 4 0 → (s.thr (threadMid c k t)).st ≠ 5 →
    Completes (.threadReset mid gen c k t) s (fun u =>
      (u.thr (threadMid c k t)).st = 5 ∧ (∀ g ∈ u.ods.gets, g.1 ≠ threadMid c k t)
        ∧ (∀ i, i < 8 → (u.thr (threadMid c k t)).tokenIn i = none) ∧ (threadMid c k t, 0) ∈ u.abandons)) ∧
  (∀ (s : State) (mid : Nat) (gen : BitVec 8) (c k t : Nat), ThrReached s mid gen c k t 5 0 →
    2 ≤ (s.thr (threadMid c k t)).st → (s.thr (threadMid c k t)).st ≤ 4 → s.flag (R.CLU_DBG c) F.CLU_DBG_EN = true →
    s.locked = false →
    Completes (.threadStep mid gen c k t) s (fun u =>
      (u.thr (threadMid c k t)).st = 1 ∧ (u.thr (threadMid c k t)).step = true
        ∧ (u.thr (threadMid c k t)).pc = (s.thr (threadMid c k t)).pc ∧ u.mem = s.mem)) ∧
  (∀ (s : State) (mid : Nat), isThread mid = true → s.resetReady mid = true →
    Completes (.threadResetDone mid) s (fun u => u.thr mid = {} ∧ u.pendEv mid = 0 ∧ u.mem = s.mem))

/-- A core's cycle, after `idle` cycles in which none of its threads is ready, selects thread `m` of the state `u`, which neither
enters its interrupt, nor halts at a break, nor meets a fault, and issues a bundle of the moves `ms` (R294, R345, R346, R348, R363). -/
def Issues (s u : State) (c k idle m : Nat) (donated : Bool) (ms : List Move) : Prop :=
  s.coreRuns c k = true ∧ u = (State.idleCycles c k idle s).cycleStart c k ∧ u.pick c k = some (m, donated)
    ∧ (u.entryDue m = false ∨ (u.thr m).step = true) ∧ (u.thr m).storeErr = none
    ∧ (16 ≤ c ∨ u.flag (R.CLU_DBG c) F.CLU_DBG_EN = false ∨ u.locked = true ∨ (u.thr m).skipBrk = true
        ∨ ∀ f, (u.thr m).fq.head? = some f → bitAt (f.bits.getD 0) 2 = false)
    ∧ u.judge m false = .inr ms

/-- R258, R300, R301, R317, R318, R327, R341, R346, R349, R354: a core's cycle issues a bundle or enters an interrupt; units
answer; writes reach instruction RAM; a window line arrives; a reservation expires. -/
def Obligations.CoreStepsComplete : Prop :=
  (∀ (s u : State) (c k idle m : Nat) (donated : Bool) (ms : List Move), Issues s u c k idle m donated ms →
    Completes (.bundleIssue c k idle false) s (fun t =>
      t = (if donated then ((u.issue m ms ((State.idleCycles c k idle s).thr m)).coreTick c k true).coreCnt c k 1
           else (u.issue m ms ((State.idleCycles c k idle s).thr m)).coreTick c k true))) ∧
  (∀ (s u : State) (c k m : Nat) (donated : Bool), s.coreRuns c k = true → u = s.cycleStart c k →
    u.pick c k = some (m, donated) → u.entryDue m = true → (u.thr m).step = false →
    Completes (.interruptEntry c k) s (fun t =>
      (t.thr m).port 0x38D = BitVec.ofNat 40 ((u.thr m).pc % 2 ^ 14) ∧ (t.thr m).port 0x38B = 0
        ∧ (t.thr m).pc = ((u.thr m).port 0x38A).toNat % 2 ^ 14 ∧ (t.thr m).resv = none
        ∧ (∀ n, n ≠ 0x38D → n ≠ 0x38B → (t.thr m).port n = (u.thr m).port n) ∧ t.mem = u.mem)) ∧
  (∀ (s : State) (mid unit : Nat) (o : ShortOp) (outs : List (Nat × W40)), isThread mid = true →
    (s.thr mid).shorts.find? (fun o => o.unit == unit && decide (o.due ≤ s.cycle (coreKey mid))) = some o → o.eff = .ports outs →
    Completes (.shortUnitResult mid unit false) s (fun t =>
      t.thr mid = ThreadSt.deliver { s.thr mid with shorts := (s.thr mid).shorts.erase o } outs
        ∧ t = { s with threads := t.threads })) ∧
  (∀ (s : State) (mid unit : Nat) (o : ShortOp), isThread mid = true →
    (s.thr mid).shorts.find? (fun o => o.unit == unit && decide (o.due ≤ s.cycle (coreKey mid))) = some o →
    Completes (.shortUnitResult mid unit false) s (fun t =>
      t = (s.setThr mid { s.thr mid with shorts := (s.thr mid).shorts.erase o }).shortEnd mid o false)) ∧
  (∀ (s : State) (mid n : Nat) (o : LongOp) (rs : List W40), isThread mid = true →
    s.coreRuns (mid / 128) (mid / 8 % 16) = true → (s.thr mid).longs[n]? = some o → o.res = some rs → o.err = false →
    (∀ e ∈ (s.thr mid).longs.take n, ∀ p ∈ e.ports, p ∉ o.ports) →
    Completes (.longUnitResult mid n 0 0 false) s (fun t =>
      t.thr mid = ThreadSt.deliver { s.thr mid with longs := (s.thr mid).longs.eraseIdx n } (o.ports.zip rs)
        ∧ t = { s with threads := t.threads })) ∧
  (∀ (s u : State) (mid n : Nat) (o : LongOp) (rs : List W40), isThread mid = true →
    s.coreRuns (mid / 128) (mid / 8 % 16) = true → (s.thr mid).longs[n]? = some o → o.res = none → o.isBpm = false →
    s.unitRun mid o ((s.thr mid).longs.take n) 0 0 false = (u, .done rs) →
    Completes (.longUnitResult mid n 0 0 false) s (fun t =>
      t = (u.setLong mid n (fun p => { p with res := some rs })).longDeliver mid n)) ∧
  (∀ (s : State) (c k : Nat) (w : IramWr), c < 16 → k < 9 → s.iramq = [w] → coreKey w.mid = c * 9 + k →
    w.due ≤ s.cycle (c * 9 + k) →
    Completes (.iramWriteLand c) s (fun t =>
      t.iramq = [] ∧ t.mem = (s.setBytes (iramOf w.c) w.addr w.bytes).mem ∧ t.regs = s.regs ∧ t.err = s.err)) ∧
  (∀ (s : State) (mid slot line : Nat), isThread mid = true → s.wantsLine mid slot line = true →
    Completes (.windowLineFetch mid slot line) s (fun t =>
      (t.thr mid).hasLine slot line = true
        ∧ (t.thr mid).winByte slot (line * 64) =
            t.byte (s.poolSpace (hPool (s.winToken mid slot).handle)) (s.bufAddr (s.winToken mid slot).handle + line * 64))) ∧
  (∀ (s : State) (mid b e : Nat), isThread mid = true → (s.thr mid).resv = some (b, e) → e ≤ s.cycle (coreKey mid) →
    Completes (.reservationExpire mid) s (fun t =>
      t.thr mid = { s.thr mid with resv := none } ∧ t = { s with threads := t.threads }))

/-- The command at the head of an accelerator's queue is `x`, of opcode `op`, and has not run (R370). -/
def AccHead (s : State) (c a op : Nat) (x : AccCmd) (rest : List AccCmd) : Prop :=
  c < 16 ∧ a < 4 ∧ (s.acc c a).q = x :: rest ∧ x.res = none ∧ x.op = op

/-- From `s` to `t` the head `x` of an accelerator's queue has run with the result `r`. -/
def AccRan (t : State) (c a : Nat) (x : AccCmd) (rest : List AccCmd) (r : AccRes) : Prop :=
  (t.acc c a).q = { x with res := some r } :: rest

/-- R376 to R379, R381 to R383, R370, R373: locks, fences and contexts of accelerators. -/
def Obligations.AcceleratorLocksComplete : Prop :=
  (∀ (s : State) (mid : Nat) (gen : BitVec 8) (a : Nat), a < 4 → midIsThread mid = true →
    (∀ w ∈ (s.acc (mid / 128) a).waiters, w.mid ≠ mid) → (s.acc (mid / 128) a).owner = none →
    Completes (.accAcquire mid gen a) s (fun t =>
      (t.acc (mid / 128) a).owner = some (mid, gen) ∧ (t.acc (mid / 128) a).abandoned = false
        ∧ (t.acc (mid / 128) a).waiters = (s.acc (mid / 128) a).waiters ∧ t.mem = s.mem ∧ t.regs = s.regs)) ∧
  (∀ (s : State) (mid a : Nat) (w : SemWait), (s.acc (mid / 128) a).waiters.find? (fun w => w.mid == mid) = some w →
    Completes (.acquireTimeout mid a) s (fun t =>
      (t.acc (mid / 128) a).waiters = (s.acc (mid / 128) a).waiters.erase w
        ∧ (t.acc (mid / 128) a).owner = (s.acc (mid / 128) a).owner
        ∧ t.liveAt (R.CLU_CPQ_CNT (mid / 128) a 4) = s.liveAt (R.CLU_CPQ_CNT (mid / 128) a 4) + 1 ∧ t.mem = s.mem)) ∧
  (∀ (s : State) (c a : Nat) (x : AccCmd) (rest : List AccCmd), AccHead s c a 0x39 x rest →
    (s.acc c a).owner = some (x.mid, x.gen) →
    Completes (.accRelease c a) s (fun t =>
      AccRan t c a x rest {} ∧ (t.acc c a).waiters = (s.acc c a).waiters.tail
        ∧ (t.acc c a).owner = (s.acc c a).waiters.head?.map (fun w => (w.mid, w.gen)) ∧ (t.acc c a).releasing = false)) ∧
  (∀ (s : State) (c a : Nat) (x : AccCmd) (rest : List AccCmd), AccHead s c a 0x3C x rest →
    Completes (.accFence c a) s (fun t => AccRan t c a x rest {} ∧ t.mem = s.mem ∧ t.err = s.err)) ∧
  (∀ (s : State) (c a m : Nat) (g : BitVec 8), c < 16 → a < 4 → (s.acc c a).owner = some (m, g) →
    Completes (.accForce c a) s (fun t =>
      (t.acc c a).owner = (s.acc c a).waiters.head?.map (fun w => (w.mid, w.gen))
        ∧ (t.acc c a).waiters = (s.acc c a).waiters.tail
        ∧ t.liveAt (R.CLU_CPQ_CNT c a 5) = s.liveAt (R.CLU_CPQ_CNT c a 5) + 1 ∧ t.mem = s.mem)) ∧
  (∀ (s : State) (c a : Nat) (x : AccCmd) (rest : List AccCmd), AccHead s c a 0x3A x rest → s.liveMid c a = some x.mid →
    Completes (.ctxSave c a .none) s (fun t =>
      AccRan t c a x rest {} ∧ t.mem = (s.slotSave c a x.mid x.gen).mem ∧ t.liveMid c a = some x.mid)) ∧
  (∀ (s : State) (c a : Nat) (x : AccCmd) (rest : List AccCmd), AccHead s c a 0x3B x rest → a ≠ 3 →
    Completes (.ctxClear c a .none) s (fun t =>
      AccRan t c a x rest {} ∧ t.liveMid c a ≠ some x.mid
        ∧ t.mem = (s.spmWrite c (s.slotAddr c a x.mid) (accMid c a x.mid) (toLe 4 0)).mem)) ∧
  (∀ (s : State) (c a : Nat) (x : AccCmd) (rest : List AccCmd) (r : AccRes), c < 16 → a < 4 → (s.acc c a).q = x :: rest →
    x.res = some r → x.drop = false →
    Completes (.accCommandDone c a) s (fun t => ∃ u : State,
      t = u.accDeliver c a x r ∧ (u.acc c a).q = rest ∧ u.mem = s.mem ∧ u.err = s.err ∧ u.threads = s.threads))

/-- An SMX command passes its checks and its operands read without an error (R384, R386). -/
def SmxReads (s : State) (c : Nat) (x : AccCmd) (needK : Bool) (ins outs : List (Nat × Nat)) (inPlace : Bool) : Prop :=
  smxCheck x needK ins outs inPlace = 0 ∧ s.badRead c ins .none = none

/-- R384, R385, R387: the operations of SMX. -/
def Obligations.SmxCompletes : Prop :=
  (∀ (s : State) (c : Nat) (x : AccCmd) (rest : List AccCmd) (ys : List Int), AccHead s c 2 0 x rest →
    SmxReads s c x true [x.inRegion, x.coefRegion] [x.outRegion] true →
    ys = fir (s.samples c x.o0.toNat x.packed x.n) 0 x.n x.shift (s.cells c x.o2.toNat x.k) →
    Completes (.smxFir c .none) s (fun t =>
      AccRan t c 2 x rest
          { r := w40 ((ys.map (sat 20)).getLastD 0), aux := BitVec.ofNat 32 (ys.filter (satd 20)).length,
            st := if (ys.filter (satd 20)).length = 0 then 0 else 9 }
        ∧ t.mem = (s.spmWrite c x.o1.toNat (accMid c 2 x.mid) (outBytes x.packed (ys.map (sat 20)))).mem)) ∧
  (∀ (s : State) (c : Nat) (x : AccCmd) (rest : List AccCmd) (full ys : List Int), AccHead s c 2 1 x rest →
    s.liveMid c 2 = some x.mid → SmxReads s c x true [x.inRegion, x.coefRegion] [x.outRegion] true →
    full = (s.acc c 2).hist.map s40 ++ s.samples c x.o0.toNat x.packed x.n →
    ys = fir full (s.acc c 2).hist.length x.n x.shift (s.cells c x.o2.toNat x.k) →
    Completes (.smxFirStream c .none) s (fun t =>
      (t.acc c 2).hist = (full.drop (full.length - 63)).map w40
        ∧ AccRan t c 2 x rest
          { r := w40 ((ys.map (sat 20)).getLastD 0), aux := BitVec.ofNat 32 (ys.filter (satd 20)).length,
            st := if (ys.filter (satd 20)).length = 0 then 0 else 9 }
        ∧ t.mem = (s.spmWrite c x.o1.toNat (accMid c 2 x.mid) (outBytes x.packed (ys.map (sat 20)))).mem)) ∧
  (∀ (s : State) (c q : Nat) (x : AccCmd) (rest : List AccCmd), AccHead s c 2 2 x rest → SmxReads s c x false [x.inRegion] [] false →
    q = ((s.samples c x.o0.toNat x.packed x.n).map (fun v => v * v)).sum.toNat / x.n →
    Completes (.smxRms c .none) s (fun t =>
      AccRan t c 2 x rest { r := BitVec.ofNat 40 (isqrtFrom q 20 0) } ∧ t.mem = s.mem)) ∧
  (∀ (s : State) (c : Nat) (x : AccCmd) (rest : List AccCmd) (y : Int) (ys : List Int), AccHead s c 2 3 x rest →
    SmxReads s c x false [x.inRegion] [] false → s.samples c x.o0.toNat x.packed x.n = y :: ys →
    Completes (.smxMinmax c .none) s (fun t =>
      (∃ lo hi : Int, lo ∈ y :: ys ∧ hi ∈ y :: ys ∧ (∀ v ∈ y :: ys, lo ≤ v ∧ v ≤ hi)
        ∧ AccRan t c 2 x rest
            { r := pair20 lo hi, aux := BitVec.ofNat 32 (indexOf lo (y :: ys) + indexOf hi (y :: ys) * 65536) }) ∧ t.mem = s.mem)) ∧
  (∀ (s : State) (c : Nat) (x : AccCmd) (rest : List AccCmd), AccHead s c 2 4 x rest → SmxReads s c x false [x.inRegion] [] false →
    Completes (.smxSum c .none) s (fun t =>
      AccRan t c 2 x rest { r := w40 (s.samples c x.o0.toNat x.packed x.n).sum } ∧ t.mem = s.mem)) ∧
  (∀ (s : State) (c : Nat) (x : AccCmd) (rest : List AccCmd) (bad : List Bool), AccHead s c 2 5 x rest → bitAt x.flags 1 = false →
    SmxReads s c x false [x.inRegion, (x.o2.toNat, 5 * x.n)] [] false →
    bad = (s.samples c x.o0.toNat x.packed x.n).zipWith (fun v l => decide (v < s20 l ∨ hi20 l < v))
      ((List.range x.n).map (fun i => BitVec.ofNat 40 (s.ldN (.spad c) (x.o2.toNat + 5 * i) 5))) →
    Completes (.smxLimit c .none) s (fun t =>
      AccRan t c 2 x rest
          { r := BitVec.ofNat 40 (bad.filter id).length,
            aux := if (bad.filter id).length = 0 then 0 else BitVec.ofNat 32 (2 ^ 31 + bad.findIdx id) }
        ∧ t.mem = s.mem))

/-- A lookup of HASHX reads its operands under a live epoch (R389, R390). -/
def HashxReads (s : State) (c : Nat) (x : AccCmd) (need : List (Nat × Nat)) : Prop :=
  (∀ r ∈ need, r.1 + r.2 ≤ 0x80000) ∧ s.epochLive (BitVec.ofNat 8 x.o2.toNat) = true ∧ s.badRead c need .none = none

/-- R389, R390: the lookups of HASHX, each in the view of the epoch that o2 names. -/
def Obligations.HashxCompletes : Prop :=
  (∀ (s v : State) (c p kb : Nat) (x : AccCmd) (rest : List AccCmd), AccHead s c 3 0 x rest → p = bitsOf x.t.toNat 14 3 →
    v = s.view (BitVec.ofNat 8 x.o2.toNat) → kb = v.keyBytes p → HashxReads s c x [(x.o0.toNat, kb)] →
    Completes (.hashxEm c .none) s (fun t => t.mem = s.mem ∧
      (∀ q, (v.emTab p).find v (s.bytes (.spad c) x.o0.toNat kb) = some q →
        AccRan t c 3 x rest (hitData (leNat (((v.emTab p).ent v q.1 q.2).drop kb)))) ∧
      ((v.emTab p).find v (s.bytes (.spad c) x.o0.toNat kb) = none → AccRan t c 3 x rest { st := 8 }))) ∧
  (∀ (s : State) (c : Nat) (x : AccCmd) (rest : List AccCmd), AccHead s c 3 1 x rest → HashxReads s c x [] →
    Completes (.hashxL2 c .none) s (fun t => t.mem = s.mem ∧
      (∀ d, s.l2Lookup s (l2Key (x.o0.toNat + x.o1.toNat % 256 * 2 ^ 40) (bitsOf x.t.toNat 14 12)) = some d →
        AccRan t c 3 x rest (hitData d)) ∧
      (s.l2Lookup s (l2Key (x.o0.toNat + x.o1.toNat % 256 * 2 ^ 40) (bitsOf x.t.toNat 14 12)) = none →
        AccRan t c 3 x rest { st := 8 }))) ∧
  (∀ (s v : State) (c : Nat) (x : AccCmd) (rest : List AccCmd), AccHead s c 3 2 x rest → HashxReads s c x [] →
    v = s.view (BitVec.ofNat 8 x.o2.toNat) →
    Completes (.hashxLpm4 c .none) s (fun t => t.mem = s.mem ∧
      (∀ d, route4 v (x.o0.toNat % 2 ^ 32) = some d →
        ∃ l, named4 v (x.o0.toNat % 2 ^ 32) l = true
          ∧ AccRan t c 3 x rest { r := BitVec.ofNat 40 d, aux := BitVec.ofNat 32 l }) ∧
      (route4 v (x.o0.toNat % 2 ^ 32) = none → AccRan t c 3 x rest { st := 8 }))) ∧
  (∀ (s v : State) (c : Nat) (x : AccCmd) (rest : List AccCmd) (d : Nat), AccHead s c 3 3 x rest →
    HashxReads s c x [(x.o0.toNat, 16)] → v = s.view (BitVec.ofNat 8 x.o2.toNat) → d = beNat (s.bytes (.spad c) x.o0.toNat 16) →
    Completes (.hashxLpm6 c .none) s (fun t => t.mem = s.mem ∧
      (∀ w, route6 v d = some w →
        ∃ l, named6 v d l = true ∧ AccRan t c 3 x rest { r := BitVec.ofNat 40 w, aux := BitVec.ofNat 32 l }) ∧
      (route6 v d = none → AccRan t c 3 x rest { st := 8 }))) ∧
  (∀ (s v : State) (c k : Nat) (x : AccCmd) (rest : List AccCmd), AccHead s c 3 4 x rest → k = bitsOf x.t.toNat 14 4 → 5 ≤ k →
    k ≤ 9 → x.o1.toNat + fteEntB k ≤ 0x80000 → HashxReads s c x [] → v = s.view (BitVec.ofNat 8 x.o2.toNat) →
    v.fteGone k = false → x.o0.toNat < v.fteSize k →
    Completes (.hashxRead c .none) s (fun t =>
      AccRan t c 3 x rest {}
        ∧ t.mem = (s.spmWrite c x.o1.toNat x.mid
            (v.bytes .table (v.fteBase k + x.o0.toNat * fteEntB k) (fteEntB k))).mem))

/-- A CVU reads the bytes of a command without an error (R403). -/
def CvuReads (s : State) (c : Nat) (x : AccCmd) (len : Nat) : Prop :=
  (len = 0 ∨ x.o0.toNat + len ≤ 0x80000) ∧ (len = 0 ∨ s.badRead c [(x.o0.toNat, len)] .none = none)

/-- R403 to R407, R411: a CVU checks a PDU, and computes check values over arrays and streams. -/
def Obligations.CvuCompletes : Prop :=
  (∀ (s : State) (c a n i at_ : Nat) (x : AccCmd) (rest : List AccCmd) (d : Nat × Nat) (j : Nat) (k : Checked), a < 2 →
    AccHead s c a 0 x rest → n = 2 * c + a → x.o1.toNat = i → i < 2 ^ 18 → x.o2.toNat % 1024 ≠ 0 → bitAt x.flags 0 = false →
    x.tok = none → CvuReads s c x (x.o2.toNat % 1024) → s.settled.flag R.CVU_GCFG F.CVU_GCFG_RUN = true →
    i < s.settled.cvuCount → at_ = s.settled.descAt i → (s.cvuSet n i).find? (fun e => e.1 == i) = some (j, d) →
    k = verifyDecide d.1 d.2 (s.ldN .dram (at_ + 16) 8) (s.ldN .dram (at_ + 24) 8)
      (s.bytes (.spad c) x.o0.toNat (x.o2.toNat % 1024)) s.time.ptp.toNat →
    Completes (.verify c a .none) s (fun t =>
      (∃ r, AccRan t c a x rest r ∧ r.r = BitVec.ofNat 40 (k.v + k.comp * 256) ∧ r.st = (if k.v = 1 then 0 else 8)
        ∧ (k.v = 1 → r.fail = none)) ∧
      (∀ e, k.d23 = some e → t.mem = ((s.stN .dram (at_ + 16) 8 e.1).stN .dram (at_ + 24) 8 e.2).mem) ∧
      (k.d23 = none → t.mem = s.mem) ∧ t.liveAt (R.CVU_CNT n 9) = s.liveAt (R.CVU_CNT n 9) + 1)) ∧
  (∀ (s : State) (c a : Nat) (x : AccCmd) (rest : List AccCmd), a < 2 → AccHead s c a 1 x rest → x.preset ≤ 5 →
    CvuReads s c x x.len →
    Completes (.calc c a .none) s (fun t =>
      AccRan t c a x rest
          { r := BitVec.ofNat 40 ((presetOf x.preset).value (x.o1.toNat % 2 ^ 32) (s.bytes (.spad c) x.o0.toNat x.len)) }
        ∧ t.mem = s.mem)) ∧
  (∀ (s : State) (c a : Nat) (x : AccCmd) (rest : List AccCmd), a < 2 → AccHead s c a 2 x rest → s.liveMid c a = some x.mid →
    x.preset ≤ 5 →
    Completes (.sStart c a .none) s (fun t =>
      AccRan t c a x rest {}
        ∧ (t.acc c a).ctx = some ⟨x.preset, (presetOf x.preset).start (x.o1.toNat % 2 ^ 32), x.o1.toNat % 2 ^ 32, 0⟩
        ∧ t.mem = s.mem)) ∧
  (∀ (s : State) (c a : Nat) (x : AccCmd) (rest : List AccCmd) (k : CvuCtx) (y : Nat), a < 2 → AccHead s c a 3 x rest →
    s.liveMid c a = some x.mid → (s.acc c a).ctx = some k → CvuReads s c x x.len →
    y = (presetOf k.preset).run k.reg (s.bytes (.spad c) x.o0.toNat x.len) →
    Completes (.sData c a .none) s (fun t =>
      AccRan t c a x rest { r := BitVec.ofNat 40 (Nat.xor y (presetOf k.preset).xorOut) }
        ∧ (∃ n, (t.acc c a).ctx = some { k with reg := y, count := n }) ∧ t.mem = s.mem)) ∧
  (∀ (s : State) (c a : Nat) (x : AccCmd) (rest : List AccCmd) (k : CvuCtx) (y : Nat), a < 2 → AccHead s c a 4 x rest →
    s.liveMid c a = some x.mid → (s.acc c a).ctx = some k → CvuReads s c x x.len → bitAt x.flags 2 = false →
    y = (presetOf k.preset).run k.reg (s.bytes (.spad c) x.o0.toNat x.len) →
    Completes (.sEnd c a .none) s (fun t =>
      AccRan t c a x rest { r := BitVec.ofNat 40 (Nat.xor y (presetOf k.preset).xorOut) }
        ∧ (t.acc c a).ctx = none ∧ t.mem = s.mem))

/-- A descriptor command reaches CVU, which runs and is not busy (R413). -/
def CvuTakes (s : State) (mid : Nat) (gen : BitVec 8) (op : Nat) : Prop :=
  s.Reached mid gen R.CVU_TCMD (BitVec.ofNat 32 op) ∧ s.cvuBusy = false ∧ s.locked = false
    ∧ s.settled.flag R.CVU_GCFG F.CVU_GCFG_RUN = true

/-- R413, R414: the descriptor commands, and CVU_TABLE. -/
def Obligations.CvuTableCompletes : Prop :=
  (∀ (s : State) (mid : Nat) (gen : BitVec 8) (i at_ : Nat), CvuTakes s mid gen 1 → i = s.fd R.CVU_TIDX F.CVU_TIDX_INDEX →
    i < s.settled.cvuCount → at_ = s.settled.descAt i →
    Completes (.cvuDescRead mid gen false) s (fun t =>
      (∀ j, j < 8 → t.rd (R.CVU_TBUF j) = BitVec.ofNat 32 (s.ldN .dram (at_ + 4 * j) 4))
        ∧ t.cvuBusy = true ∧ t.resOf R.CVU_TSTAT = 0 ∧ t.mem = s.mem)) ∧
  (∀ (s : State) (mid : Nat) (gen : BitVec 8) (i at_ : Nat), CvuTakes s mid gen 2 → i = s.fd R.CVU_TIDX F.CVU_TIDX_INDEX →
    i < s.settled.cvuCount → at_ = s.settled.descAt i →
    Completes (.cvuDescWrite mid gen) s (fun t =>
      t.mem = (s.setBytes .dram at_ s.cvuTbuf).mem ∧ t.cvuCache = (s.cvuDrop i).cvuCache ∧ t.cvuBusy = true
        ∧ t.resOf R.CVU_TSTAT = 0)) ∧
  (∀ (s : State) (mid : Nat) (gen : BitVec 8) (i at_ : Nat), CvuTakes s mid gen 3 → i = s.fd R.CVU_TIDX F.CVU_TIDX_INDEX →
    i < s.settled.cvuCount → at_ = s.settled.descAt i →
    Completes (.resetState mid gen) s (fun t =>
      t.mem = (s.setBytes .dram (at_ + 16) (List.replicate 16 0)).mem ∧ t.cvuBusy = true ∧ t.resOf R.CVU_TSTAT = 0)) ∧
  (∀ (s : State) (mid : Nat) (gen : BitVec 8), CvuTakes s mid gen 4 →
    Completes (.invalidate mid gen) s (fun t =>
      t.cvuCache = [] ∧ t.cvuBusy = true ∧ t.resOf R.CVU_TSTAT = 0 ∧ t.mem = s.mem)) ∧
  (∀ s : State, s.cvuBusy = true →
    Completes .cvuCommandDone s (fun t =>
      t.rd R.CVU_TSTAT = s.resOf R.CVU_TSTAT ∧ t.cvuBusy = false ∧ s.OnlyRegs t [R.CVU_TSTAT, R.CVU_TCMD] ∧ t.mem = s.mem)) ∧
  (∀ (s u : State) (mid : Nat) (gen : BitVec 8) (v : W32), s.takePair R.CVU_TABLE mid gen v = some u →
    Completes (.cvuTablePair mid gen v) s (fun t =>
      (s.flag R.CVU_GCFG F.CVU_GCFG_RUN = false → bitsOf v.toNat 24 5 ≤ 18 →
        bitsOf v.toNat 0 24 * 65536 + 2 ^ bitsOf v.toNat 24 5 * 32 ≤ s.dramSize →
        t.rd R.CVU_TABLE = v &&& 0x1FFFFFFF ∧ t.cvuCache = [] ∧ t.err = s.err) ∧
      (s.flag R.CVU_GCFG F.CVU_GCFG_RUN = true →
        t.regs = s.regs ∧ s.Records t (mkErr 7 0 0x3804 0 3 R.CVU_TABLE 0 0 v.toNat)) ∧ t.mem = s.mem))

/-- R424, R427, R429, R432 to R434: the commands of scratchpads and of the secure vault. -/
def Obligations.ScratchVaultComplete : Prop :=
  (∀ (s : State) (c bank : Nat), c < 16 → s.fd (R.CLU_SPM_CFG c) F.CLU_SPM_CFG_DMA_WARN ≠ 0 →
    Completes (.dmaStarved c bank) s (fun t =>
      t.liveAt (R.CLU_SPM_CNT c 1) = s.liveAt (R.CLU_SPM_CNT c 1) + 1 ∧ t.regs = s.regs ∧ t.mem = s.mem)) ∧
  (∀ (s : State) (mid c addr m : Nat) (bs : List Byte), c < 16 → bs ≠ [] → addr + bs.length ≤ spadSize c →
    s.mailboxOf c addr = some m →
    Completes (.mailbox mid c addr bs) s (fun t =>
      t.mem = (s.setBytes (.spad c) addr bs).mem ∧ (m ≠ mid → bitAt (t.pendEv m).toNat 8 = true) ∧ t.regs = s.regs ∧ t.err = s.err)) ∧
  (∀ (s : State) (mid : Nat) (gen : BitVec 8) (c addr : Nat), c < 16 → addr < 2 ^ 19 → 0x800 ≤ mid → mid ≤ 0x807 →
    s.Reached mid gen (R.CLU_SPM_CLEAR c) (BitVec.ofNat 32 addr) →
    Completes (.spmClear mid gen c addr) s (fun t =>
      t.mem = (s.setBytes (.spad c) (addr / 8 * 8) (List.replicate 8 0)).mem ∧ spmKey c addr ∉ t.spmBad ∧ t.regs = s.regs)) ∧
  (∀ (s : State) (mid : Nat) (gen : BitVec 8) (a n : Nat), s.vaultWiping = false →
    s.flag R.MGT_VAULT_STATUS F.MGT_VAULT_STATUS_RETIRED = false → 0x800 ≤ mid → mid ≤ 0x808 → a + n ≤ 0x40000 → n ≠ 0 →
    a / 64 = (a + n - 1) / 64 → (mid = 0x808 ∨ s.vaultPage R.MGT_VAULT_HIDE a = false) → s.spmPoisoned 17 a n = false →
    Completes (.vaultAccess mid gen a n none false) s (fun t =>
      respOf t mid = BitVec.ofNat 40 (leNat ((s.bytes .vault a n).take 4)) ∧ t = { s with resps := t.resps })) ∧
  (∀ (s : State) (mid : Nat) (gen : BitVec 8) (a n : Nat) (bs : List Byte), s.vaultWiping = false →
    s.flag R.MGT_VAULT_STATUS F.MGT_VAULT_STATUS_RETIRED = false → 0x800 ≤ mid → mid ≤ 0x808 → a + n ≤ 0x40000 → n ≠ 0 →
    a / 64 = (a + n - 1) / 64 → s.vaultPage R.MGT_VAULT_LOCK a = false →
    Completes (.vaultAccess mid gen a n (some bs) false) s (fun t =>
      t.mem = (s.setBytes .vault a (bs.take n)).mem ∧ respOf t mid = 0 ∧ t = { s with mem := t.mem, resps := t.resps })) ∧
  (∀ (s : State) (mid : Nat) (gen : BitVec 8) (j : Nat) (v : W32), j < 2 → 0x800 ≤ mid → mid ≤ 0x808 →
    s.Reached mid gen (R.MGT_VAULT_LOCK j) v →
    Completes (.vaultLockSet mid gen j v) s (fun t =>
      t.rd (R.MGT_VAULT_LOCK j) = s.rd (R.MGT_VAULT_LOCK j) ||| v ∧ s.OnlyRegs t [R.MGT_VAULT_LOCK j] ∧ t.mem = s.mem)) ∧
  (∀ (s : State) (mid : Nat) (gen : BitVec 8) (j : Nat) (v : W32), j < 2 → 0x800 ≤ mid → mid ≤ 0x808 →
    s.Reached mid gen (R.MGT_VAULT_HIDE j) v →
    Completes (.vaultHideSet mid gen j v) s (fun t =>
      t.rd (R.MGT_VAULT_HIDE j) = s.rd (R.MGT_VAULT_HIDE j) ||| v ∧ s.OnlyRegs t [R.MGT_VAULT_HIDE j] ∧ t.mem = s.mem)) ∧
  (∀ (s u : State) (mid : Nat) (gen : BitVec 8) (v : W32), s.takePair R.MGT_VAULT_WIPE mid gen v = some u →
    0x800 ≤ mid → mid ≤ 0x808 → bitAt v.toNat 0 = true →
    Completes (.vaultWipeCmd mid gen v) s (fun t => t.wipes = s.wipes ++ [5] ∧ t.regs = s.regs ∧ t.mem = s.mem ∧ t.err = s.err)) ∧
  (∀ (s : State) (c : Nat) (rest : List Nat), s.wipes = c :: rest → c < 16 →
    s.flag R.MGT_VAULT_STATUS F.MGT_VAULT_STATUS_WIPING = false →
    Completes .vaultWipe s (fun t =>
      t.wipes = rest ∧ t.flag R.MGT_VAULT_STATUS F.MGT_VAULT_STATUS_WIPING = true
        ∧ t.fd R.MGT_VAULT_STATUS F.MGT_VAULT_STATUS_CAUSE = c ∧ s.OnlyRegs t [R.MGT_VAULT_STATUS] ∧ t.mem = s.mem)) ∧
  (∀ s : State, s.flag R.MGT_VAULT_STATUS F.MGT_VAULT_STATUS_WIPING = true →
    Completes .vaultWipeDone s (fun t =>
      (∀ a, a < 0x40000 → t.byte .vault a = 0) ∧ t.rd (R.MGT_VAULT_LOCK 0) = 0 ∧ t.rd (R.MGT_VAULT_LOCK 1) = 0
        ∧ t.rd (R.MGT_VAULT_HIDE 0) = 0 ∧ t.rd (R.MGT_VAULT_HIDE 1) = 0
        ∧ t.flag R.MGT_VAULT_STATUS F.MGT_VAULT_STATUS_WIPING = false
        ∧ s.Records t (mkErr 8 0x10 0x4006 0 0 0 0 0 (s.fd R.MGT_VAULT_STATUS F.MGT_VAULT_STATUS_CAUSE))))

/-- SEM takes a read or a write of a master (R437, R439, R48, R51): it is not turned away, the MID is defined, the generation
current, and a lease is used by a master that may. -/
def SemServes (s : State) (mid : Nat) (gen : BitVec 8) (n : Nat) (off : Nat) (write : Bool) : Prop :=
  n < 4160 ∧ s.turnedAway mid gen off write 0 = none ∧ midDefined mid = true ∧ gen = s.genOf mid
    ∧ (n < 4096 ∨ s.leaseMay mid = true)

/-- R437 to R443: the commands on semaphores and leases. A freed semaphore goes to its first waiter at once. -/
def Obligations.SemaphoresComplete : Prop :=
  (∀ (s : State) (mid : Nat) (gen : BitVec 8) (n : Nat), SemServes s mid gen n (R.SEM_ACQ n) false → (s.sem n).owner = none →
    Completes (.semAcquire mid gen n) s (fun t =>
      (t.sem n).owner = some (mid, gen) ∧ (t.sem n).abandoned = false
        ∧ respOf t mid = (t.semWord n (if (s.sem n).abandoned then 1 else 0)).setWidth 40
        ∧ t.liveAt (R.SEM_CNT 0) = s.liveAt (R.SEM_CNT 0) + 1 ∧ t.mem = s.mem ∧ t.err = s.err)) ∧
  (∀ (s : State) (mid : Nat) (gen : BitVec 8) (n : Nat) (o : Nat × BitVec 8), SemServes s mid gen n (R.SEM_ACQ n) false →
    (s.sem n).owner = some o → o ≠ (mid, gen) → s.fd R.SEM_CFG F.SEM_CFG_TMO ≠ 0 → s.semWaiters < 256 →
    Completes (.semAcquire mid gen n) s (fun t =>
      (t.sem n).waiters = (s.sem n).waiters ++ [{ mid := mid, gen := gen, since := s.time.clock }] ∧ (t.sem n).owner = some o
        ∧ t.liveAt (R.SEM_CNT 1) = s.liveAt (R.SEM_CNT 1) + 1 ∧ t.resps = s.resps ∧ t.err = s.err)) ∧
  (∀ (s : State) (mid : Nat) (gen : BitVec 8) (n : Nat) (o : Nat × BitVec 8), SemServes s mid gen n (R.SEM_TRY n) false →
    (s.sem n).owner = some o → o ≠ (mid, gen) →
    Completes (.semTry mid gen n) s (fun t =>
      t.sems = s.sems ∧ respOf t mid = (s.semWord n 2).setWidth 40
        ∧ t.liveAt (R.SEM_CNT 2) = s.liveAt (R.SEM_CNT 2) + 1 ∧ t.mem = s.mem)) ∧
  (∀ (s : State) (mid : Nat) (gen : BitVec 8) (n : Nat), SemServes s mid gen n (R.SEM_TRY n) false → (s.sem n).owner = none →
    Completes (.semTry mid gen n) s (fun t =>
      (t.sem n).owner = some (mid, gen) ∧ respOf t mid = (t.semWord n (if (s.sem n).abandoned then 1 else 0)).setWidth 40)) ∧
  (∀ (s : State) (n mid : Nat) (w : SemWait), (s.sem n).waiters.find? (fun w => w.mid == mid) = some w →
    Completes (.semWaitTimeout n mid) s (fun t =>
      (t.sem n).waiters = (s.sem n).waiters.erase w ∧ (t.sem n).owner = (s.sem n).owner
        ∧ respOf t mid = (s.semWord n 2).setWidth 40 ∧ t.liveAt (R.SEM_CNT 2) = s.liveAt (R.SEM_CNT 2) + 1)) ∧
  (∀ (s : State) (mid : Nat) (gen : BitVec 8) (n : Nat), SemServes s mid gen n (R.SEM_REL n) true →
    (s.sem n).owner = some (mid, gen) →
    Completes (.semRelease mid gen n) s (fun t =>
      (t.sem n).owner = (s.sem n).waiters.head?.map (fun w => (w.mid, w.gen)) ∧ (t.sem n).waiters = (s.sem n).waiters.tail
        ∧ t.mem = s.mem)) ∧
  (∀ (s : State) (mid : Nat) (gen : BitVec 8) (n m : Nat) (g : BitVec 8), n < 4160 → 0x800 ≤ mid → mid ≤ 0x807 →
    s.Reached mid gen R.SEM_FORCE (BitVec.ofNat 32 n) → (s.sem n).owner = some (m, g) →
    Completes (.semForce mid gen n) s (fun t =>
      (t.sem n).owner = (s.sem n).waiters.head?.map (fun w => (w.mid, w.gen)) ∧ (t.sem n).waiters = (s.sem n).waiters.tail
        ∧ ((s.sem n).waiters = [] → (t.sem n).abandoned = true)
        ∧ t.liveAt (R.SEM_CNT 4) = s.liveAt (R.SEM_CNT 4) + 1 ∧ t.mem = s.mem)) ∧
  (∀ (s : State) (m why : Nat) (rest : List (Nat × Nat)), s.abandons = (m, why) :: rest →
    Completes .semAbandon s (fun t =>
      t.abandons = rest ∧ t.liveAt (R.SEM_CNT 4) = s.liveAt (R.SEM_CNT 4) + BitVec.ofNat 64 (s.semsOf m).length
        ∧ ((s.semsOf m) = [] → t.err = s.err) ∧ t.mem = s.mem)) ∧
  (∀ (s : State) (mid : Nat) (gen : BitVec 8) (j : Nat), j < 64 → SemServes s mid gen (4096 + j) (R.SEM_RENEW j) false →
    (s.sem (4096 + j)).owner = some (mid, gen) →
    Completes (.leaseRenew mid gen j) s (fun t =>
      t.sem (4096 + j) = { s.sem (4096 + j) with since := s.time.clock }
        ∧ respOf t mid = (s.semWord (4096 + j) 0).setWidth 40 ∧ t.err = s.err ∧ t.mem = s.mem)) ∧
  (∀ (s : State) (j m : Nat) (g : BitVec 8), j < 64 → (s.sem (4096 + j)).owner = some (m, g) →
    Completes (.leaseExpire j) s (fun t =>
      (t.sem (4096 + j)).owner = (s.sem (4096 + j)).waiters.head?.map (fun w => (w.mid, w.gen))
        ∧ s.Records t (mkErr 9 0 0x4805 2 0 0 m g.toNat j)
        ∧ t.liveAt (R.SEM_CNT 5) = s.liveAt (R.SEM_CNT 5) + 1 ∧ t.mem = s.mem))

/-- A channel takes a master's request for a line (R455 to R457, R48, R51). -/
def DmcServes (s : State) (mid : Nat) (gen : BitVec 8) (line n : Nat) : Prop :=
  midDefined mid = true ∧ gen = s.genOf mid ∧ (s.chanOf (line * 64)).map (·.1) = some n ∧ s.chTakes n = 0

/-- R450 to R456, R459, R464 to R468: the commands of DRAM channels. -/
def Obligations.DramCommandsComplete : Prop :=
  (∀ (s : State) (mid : Nat) (gen : BitVec 8) (a n : Nat), DmcServes s mid gen (a / 64) n →
    ((s.dmc n).rq.filter (fun r => lineSub r.line == lineSub (a / 64))).length < 64 →
    (∀ w ∈ (s.dmc n).wq, w.line ≠ a / 64) →
    Completes (.dramRead mid gen a) s (fun t =>
      (t.dmc n).rq = (s.dmc n).rq ++ [⟨a / 64, mid, gen, s.bytes .dram (a / 64 * 64) 64⟩] ∧ (t.dmc n).wq = (s.dmc n).wq
        ∧ t.liveAt (R.DMC_CH_CNT n 0) = s.liveAt (R.DMC_CH_CNT n 0) + 1 ∧ t.mem = s.mem ∧ t.err = s.err)) ∧
  (∀ (s : State) (mid : Nat) (gen : BitVec 8) (a n : Nat) (mask : W64) (data : List Byte), DmcServes s mid gen (a / 64) n →
    ((s.dmc n).wq.filter (fun w => lineSub w.line == lineSub (a / 64))).length < 64 → a / 64 ∉ s.dramBad →
    Completes (.dramWrite mid gen a mask data 0 0) s (fun t =>
      (∀ i, i < 64 → t.byte .dram (a / 64 * 64 + i) =
        (if bitAt mask.toNat i then data.getD i 0 else s.byte .dram (a / 64 * 64 + i))) ∧
      (∀ b, b / 64 ≠ a / 64 → t.byte .dram b = s.byte .dram b) ∧ (∃ w ∈ (t.dmc n).wq, w.line = a / 64)
        ∧ respOf t mid = 0 ∧ t.err = s.err)) ∧
  (∀ (s : State) (ch i : Nat) (r : DmcRd), ch < 8 → s.chState ch = 3 → (s.dmc ch).rq[i]? = some r → r.line ∉ s.dramBad →
    Completes (.dramReadComplete ch i 0 0) s (fun t =>
      respOf t r.mid = BitVec.ofNat 40 (leNat (r.data.take 4)) ∧ t.lines.get (fun _ => []) r.mid = r.data
        ∧ (t.dmc ch).rq = (s.dmc ch).rq.eraseIdx i ∧ t.mem = s.mem ∧ t.err = s.err)) ∧
  (∀ (s : State) (ch dimm : Nat), ch < 8 → s.chState ch = 3 →
    Completes (.caParityError ch dimm) s (fun t =>
      t.chState ch = 4 ∧ (t.dmc ch).tmo = false ∧ (t.dmc ch).since = s.time.clock
        ∧ t.liveAt (R.DMC_CH_CNT ch 6) = s.liveAt (R.DMC_CH_CNT ch 6) + 1
        ∧ t.liveAt (R.DMC_CH_CNT ch 7) = s.liveAt (R.DMC_CH_CNT ch 7) + 1)) ∧
  (∀ (s : State) (ch : Nat), ch < 8 → s.chState ch = 4 → (s.dmc ch).tmo = false →
    Completes (.freezeTimeout ch) s (fun t =>
      (t.dmc ch).tmo = true ∧ (t.dmc ch).wq = [] ∧ (t.dmc ch).rq = [] ∧ t.chState ch = 4
        ∧ s.Records t (mkErr 10 ch 0x5004 2 0 0 0 0 ((s.dmc ch).wq.length + (s.dmc ch).rq.length)))) ∧
  (∀ (s u : State) (mid : Nat) (gen : BitVec 8) (ch : Nat), ch < 8 → s.takePair (R.DMC_CH_CTRL ch) mid gen 1 = some u →
    s.ctrlMay mid = true → s.chState ch = 4 →
    Completes (.thaw mid gen ch) s (fun t =>
      t.chState ch = 3 ∧ (∀ j, j < 7 → t.rd (R.DMC_DIAG ch j) = 0) ∧ (t.dmc ch).tmo = false
        ∧ t.fd (R.DMC_CH_STATUS ch) F.DMC_CH_STATUS_CTRL_ERR = 0)) ∧
  (∀ (s u : State) (mid : Nat) (gen : BitVec 8) (ch : Nat) (thaw : Bool), ch < 8 →
    s.takePair (R.DMC_CH_CTRL ch) mid gen (BitVec.ofNat 32 (2 + b2n thaw)) = some u → s.ctrlMay mid = true →
    s.chState ch = 3 ∨ s.chState ch = 4 →
    Completes (.retire mid gen ch thaw) s (fun t =>
      t.chState ch = 5 ∧ (t.dmc ch).wq = [] ∧ (t.dmc ch).rq = []
        ∧ t.fd (R.DMC_CH_STATUS ch) F.DMC_CH_STATUS_CTRL_ERR = 0)) ∧
  (∀ (s u : State) (mid : Nat) (gen : BitVec 8) (v : W32), s.takePair R.DMC_MAP mid gen v = some u →
    Completes (.dmcMapPair mid gen v) s (fun t =>
      (s.mapOk v = true → t.rd R.DMC_MAP = v &&& 0xFF03 ∧ t.flag R.DMC_GSTATUS F.DMC_GSTATUS_MAP_BAD = false ∧ t.err = s.err) ∧
      (s.mapOk v = false → t.rd R.DMC_MAP = s.rd R.DMC_MAP ∧ t.flag R.DMC_GSTATUS F.DMC_GSTATUS_MAP_BAD = true
        ∧ s.Records t (mkErr 10 0 0x5007 0 3 R.DMC_MAP 0 0 v.toNat) ∧ t.mem = s.mem))) ∧
  (∀ (s : State) (ch : Nat), Completes (.dramRefresh ch) s (fun t => t = s)) ∧
  (∀ (s : State) (ch speed dimms ranks density cap : Nat), ch < 8 → s.chState ch = 1 → 1 ≤ cap → cap ≤ 128 → 1 ≤ dimms →
    dimms ≤ 2 → 1 ≤ ranks → ranks ≤ 2 → speed ≤ 2 → density ≤ 1 →
    Completes (.ddrTrainingDone ch 0 speed dimms ranks density cap) s (fun t =>
      t.chState ch = 2 ∧ t.chCap ch = cap * 2 ^ 30 ∧ s.OnlyRegs t [R.DMC_CH_STATUS ch] ∧ t = { s with regs := t.regs })) ∧
  (∀ (s : State) (ch : Nat), ch < 8 → s.chState ch = 2 →
    Completes (.dramFillDone ch none) s (fun t =>
      t.chState ch = 3 ∧ bitAt (t.fd R.ECS_STATUS F.ECS_STATUS_DRAM_DONE) ch = true
        ∧ s.OnlyRegs t [R.DMC_CH_STATUS ch, R.ECS_STATUS] ∧ t = { s with regs := t.regs })) ∧
  (∀ s : State, 3 ≤ s.fd R.MGT_BOOT_STATUS F.MGT_BOOT_STATUS_STEP →
    Completes .sramFillDone s (fun t =>
      t.fd R.ECS_STATUS F.ECS_STATUS_SRAM_DONE = 1 ∧ s.OnlyRegs t [R.ECS_STATUS] ∧ t = { s with regs := t.regs }))

/-- R469 to R474: the scrubber, retirement, spares and clears. -/
def Obligations.EcsCommandsComplete : Prop :=
  (∀ (s : State) (ch mem off lag a : Nat), ch < 8 → s.scrubs = true → s.chState ch = 3 →
    s.unmapAddr (s.rd R.DMC_MAP).toNat ch ((s.dmc ch).scrub * 64) = some a → a / 64 ∉ s.dramBad →
    (∀ w ∈ (s.dmc ch).wq, w.line ≠ a / 64) → s.retiredPage a 64 = none →
    Completes (.scrubRead ch mem off lag 0 0) s (fun t =>
      (t.dmc ch).scrub = (if ((s.dmc ch).scrub + 1) * 64 < s.chCap ch then (s.dmc ch).scrub + 1 else 0)
        ∧ t.liveAt (R.ECS_CNT 2) = s.liveAt (R.ECS_CNT 2) + 1 ∧ t.mem = s.mem)) ∧
  (∀ (s : State) (ch mem off lag corr : Nat) (sp : Space), 8 ≤ ch → corr ≠ 0 → arrayOf mem = some (sp, none) →
    Completes (.scrubRead ch mem off lag corr 0) s (fun t =>
      t.liveAt (R.ECS_CNT 4) = s.liveAt (R.ECS_CNT 4) + 1 ∧ t.liveAt (R.ECS_CNT 0) = s.liveAt (R.ECS_CNT 0) + 1
        ∧ t.ecs.suspects = (suspectIn s.ecs.suspects true mem (off / 1024)).1 ∧ t.mem = s.mem)) ∧
  (∀ (s u : State) (mid : Nat) (gen : BitVec 8) (v : W32), s.takePair R.ECS_RT_ENT mid gen v = some u →
    Completes (.retireSet mid gen v) s (fun t =>
      t.ecs.retire.get (fun _ => 0) (s.fd R.ECS_RT_IDX F.ECS_RT_IDX_INDEX) = v &&& 0x8FFFFFFF
        ∧ s.Records t (mkErr 11 0 0x5804 0 1 ((v &&& 0x8FFFFFFF).toNat % 2 ^ 28 * 4096) 0 0 (s.fd R.ECS_RT_IDX F.ECS_RT_IDX_INDEX))
        ∧ t.mem = s.mem)) ∧
  (∀ (s u : State) (mid : Nat) (gen : BitVec 8) (v : W32) (x : Space × Option Nat), s.takePair R.ECS_SP_ENT mid gen v = some u →
    arrayOf (bitsOf v.toNat 24 6) = some x →
    Completes (.spareSet mid gen v) s (fun t =>
      t.ecs.spares.get (fun _ => 0) (s.fd R.ECS_SP_IDX F.ECS_SP_IDX_INDEX) = v &&& 0xBF01FFFF
        ∧ (bitAt v.toNat 31 = true ↔ s.fd R.ECS_SP_IDX F.ECS_SP_IDX_INDEX ∈ t.ecs.copying)
        ∧ s.Records t (mkErr 11 0 0x5805 0 0 0 0 0 (s.fd R.ECS_SP_IDX F.ECS_SP_IDX_INDEX + bitsOf v.toNat 24 6 * 256)
            (bitsOf v.toNat 0 17)))) ∧
  (∀ (s : State) (i : Nat), i ∈ s.ecs.copying →
    Completes (.spareCopyDone i) s (fun t =>
      (∀ j, j ∈ t.ecs.copying ↔ j ∈ s.ecs.copying ∧ j ≠ i) ∧ t.liveAt (R.ECS_CNT 5) = s.liveAt (R.ECS_CNT 5) + 1 ∧ t.mem = s.mem)) ∧
  (∀ (s : State) (mid : Nat) (gen : BitVec 8) (v : W32) (line : Nat), s.Reached mid gen (R.ECS_CLEAR 1) v →
    0x800 ≤ mid → mid ≤ 0x807 → bitAt (s.rd (R.ECS_CLEAR 0)).toNat 31 = false →
    line = v.toNat + (s.rd (R.ECS_CLEAR 0)).toNat % 4 * 2 ^ 32 →
    Completes (.ecsClear mid gen v) s (fun t =>
      t.mem = (s.setBytes .dram (line * 64) (List.replicate 64 0)).mem ∧ line ∉ t.dramBad
        ∧ t.liveAt (R.ECS_CNT 6) = s.liveAt (R.ECS_CNT 6) + 1 ∧ t.regs = s.regs))

/-- R483 to R488, R492 to R495, R505: the recorder compresses, seals, writes and resumes, and its drives answer. -/
def Obligations.RecorderWorkCompletes : Prop :=
  (∀ (s v u : State) (p : Nat) (x : SigRec) (rest : List SigRec), s.nextPort = some p →
    s.rcd.fifos.get (fun _ => []) p = x :: rest →
    v = s.setRec { s.rcd with fifos := s.rcd.fifos.set (fun _ => []) p rest, rr := p + 1 } →
    v.compress x false false = some u →
    Completes (.recordCompress false false) s (fun t => t = u.recShow)) ∧
  (∀ (s v u : State) (p a : Nat) (x : SigRec) (rest : List SigRec), s.nextPort = some p →
    s.rcd.fifos.get (fun _ => []) p = x :: rest →
    v = s.setRec { s.rcd with fifos := s.rcd.fifos.set (fun _ => []) p rest, rr := p + 1 } → x.sig.toNat < s.sigCount →
    a = s.sigAt x.sig.toNat → bitAt (s.ldN .dram a 8) 63 = true → s.storeIt (s.ldN .dram a 8) (s.ldN .dram (a + 8) 8) x = true →
    v.appendRecord x = some u →
    Completes (.recordCompress false false) s (fun t =>
      t.mem = ((u.stN .dram a 8 (putBits (putBits (putBits (s.ldN .dram a 8) 62 1 1) 25 20 x.sample.toNat) 45 4 x.qual.toNat)).stN
          .dram (a + 8) 8 (putBits (s.ldN .dram (a + 8) 8) 0 40 x.time.toNat)).mem
        ∧ t.liveAt (R.REC_CNT 2) = s.liveAt (R.REC_CNT 2) + 1)) ∧
  (∀ (s : State) (l : RecLog), s.rcd.log = some l →
    (s.mode F.GLB_MODE_RECORD = false ∨ s.flag R.REC_CTRL F.REC_CTRL_RUN = false ∨ s.rcd.hold = true) →
    Completes (.logSeal 4) s (fun t =>
      t.rcd.log = none ∧ t.recHead = (s.recHead + 1) % 2 ^ 64
        ∧ t.rcd.sealed = s.rcd.sealed ++ [{ l with lsn := s.recHead, cause := 4, tseal := s.time.ptp.toNat }]
        ∧ t.liveAt (R.REC_CNT 7) = s.liveAt (R.REC_CNT 7) + 1)) ∧
  (∀ (s : State) (l : RecLog) (rest : List RecLog) (n j : Nat), s.rcd.sealed = l :: rest → s.rcd.fly.length < 16 →
    s.pickSlot s.memberOrder = some (n, j) → (∀ f ∈ s.rcd.fly, f.n ≠ n) →
    Completes (.logWrite false) s (fun t =>
      t.rcd.sealed = rest ∧ t.rcd.fly = s.rcd.fly ++ [{ log := l, n := n, j := j }] ∧ t.rcd.last = some n ∧ t.slotLsn n j = none)) ∧
  (∀ (s : State) (i : Nat) (io : NvIo), s.rcd.ios[i]? = some io →
    Completes (.nvmeCompletion i 0) s (fun t => t = (s.setRec { s.rcd with ios := s.rcd.ios.eraseIdx i }).nvDone io)) ∧
  (∀ (s : State) (i : Nat) (io : NvIo) (f : RecFly), s.rcd.ios[i]? = some io → io.kind = .final →
    s.rcd.fly.find? (fun f => f.n == io.n) = some f → io.n ∉ s.rcd.leaving →
    Completes (.nvmeCompletion i 0) s (fun t =>
      t.rcd.ios = s.rcd.ios.eraseIdx i ∧ (∀ g ∈ t.rcd.fly, g.n ≠ io.n)
        ∧ t.rcd.wp.get (fun _ => 0) io.n = (f.j + 1) % s.recP ∧ (io.n, f.log.lsn) ∈ t.rcd.unflushed
        ∧ t.liveAt (R.REC_CNT 8) = s.liveAt (R.REC_CNT 8) + 1)) ∧
  (∀ s : State, Completes .raftFlush s (fun t =>
      t.rcd.dirty = [] ∧ (∃ fs, t.rcd.ios = s.rcd.ios ++ fs ∧ fs.map (·.n) = s.rcd.dirty ∧ ∀ io ∈ fs, io.kind = .flush)
        ∧ t = { s with rcd := t.rcd })) ∧
  (∀ (s : State) (ds : List DriveInfo), s.recState = 1 → s.bestLabel (s.offered ds) = none →
    Completes (.raftResume ds) s (fun t =>
      t.recState = (if s.offered ds = [] then 4 else 3) ∧ t.rcd.valid = [] ∧ t.rcd.ios = [] ∧ t.mem = s.mem)) ∧
  (∀ (s u : State) (ds : List DriveInfo) (l : Label), s.recState = 1 → s.bestLabel (s.offered ds) = some l →
    u = (s.offered ds).foldl (fun t d => t.nsResume (some l) d) ((List.range 64).foldl (fun t n => t.setNs n 0)
      (s.setRec { s.rcd with valid := [], tmap := [], wp := [], unflushed := [], dirty := [], ios := [] })) →
    Completes (.raftResume ds) s (fun t => t = (u.resumeFrom l (s.offered ds)).recShow)) ∧
  (∀ (s : State) (n cause : Nat), n < 64 → s.nsState n = 1 →
    Completes (.memberLost n cause) s (fun t =>
      t.nsState n = 2 ∧ (∀ io ∈ t.rcd.ios, io.n ≠ n) ∧ (∀ f ∈ t.rcd.fly, f.n ≠ n) ∧ (∀ u ∈ t.rcd.unflushed, u.1 ≠ n))) ∧
  (∀ (s : State) (n : Nat), n < 64 → s.nsState n = 1 → (∃ io ∈ s.rcd.ios, io.n = n) →
    Completes (.nvmeIoTimeout n) s (fun t => t = s.memberLost n 2 ∧ t.nsState n = 2))

/-- A trigger of source `src` creates region `r` (R498): REC records, freezes and is ready, the source is enabled, no region of it
is ARMING or OPEN, and `r` is the lowest region that is FREE. -/
def TriggerMakes (s : State) (src r : Nat) : Prop :=
  src < 64 ∧ s.mode F.GLB_MODE_RECORD = true ∧ s.recState = 2 ∧ s.mode F.GLB_MODE_FREEZE = true
    ∧ s.flag (R.REC_TRIG_CFG src) F.REC_TRIG_CFG_EN = true
    ∧ (∀ q, q < 16 → (s.rgnState q = 1 ∨ s.rgnState q = 2) → s.fd (R.REC_RGN q 0) ⟨8, 6⟩ ≠ src)
    ∧ r < 16 ∧ s.rgnState r = 0 ∧ (∀ q, q < r → s.rgnState q ≠ 0)

/-- R498 to R501, R503, R506: triggers, regions, and the operations of REC_RCTL. -/
def Obligations.RecorderRegionsComplete : Prop :=
  (∀ (s : State) (src r : Nat) (rest : List Nat), s.rcd.trigs = src :: rest → TriggerMakes s src r →
    Completes .recTrigger s (fun t =>
      t.rcd.trigs = rest ∧ t.rgnState r = 1 ∧ t.fd (R.REC_RGN r 0) ⟨8, 6⟩ = src ∧ t.rgnQ r 1 = s.time.ptp.toNat
        ∧ t.liveAt (R.REC_CNT 10) = s.liveAt (R.REC_CNT 10) + 1 ∧ t.liveAt (R.REC_CNT 13) = s.liveAt (R.REC_CNT 13) + 1)) ∧
  (∀ (s : State) (src r : Nat), TriggerMakes s src r →
    Completes (.swtrig src) s (fun t =>
      t.rgnState r = 1 ∧ t.fd (R.REC_RGN r 0) ⟨8, 6⟩ = src ∧ t.rgnQ r 1 = s.time.ptp.toNat
        ∧ t.liveAt (R.REC_CNT 10) = s.liveAt (R.REC_CNT 10) + 1)) ∧
  (∀ (s : State) (e : RelEnt) (rest : List RelEnt) (r : Nat), s.relList 146 = e :: rest → s.releasedBefore e.ord = false →
    s.cellRegion e.id = some r →
    Completes .freezeCellReturn s (fun t => ∃ u : State,
      t = u.endArming r ∧ u.relList 146 = rest ∧ (u.slot e.id).used = false ∧ u.rcd = s.rcd ∧ u.mem = s.mem)) ∧
  (∀ (s : State) (r : Nat), r < 16 → s.rgnState r = 1 → (∀ w ∈ s.rcd.wants, w.1 ≠ r) →
    Completes (.freezeCellTimeout r) s (fun t => ∃ u : State,
      t = u.endArming r ∧ u.fd (R.REC_RGN r 0) ⟨5, 1⟩ = 1 ∧ s.Records u (mkErr 12 0 0x6009 0 0 0 0 0 r)
        ∧ s.OnlyRegs u [R.REC_RGN r 0] ∧ u.rcd = s.rcd ∧ u.mem = s.mem)) ∧
  (∀ (s u : State) (r : Nat), r < 16 → s.rgnState r = 2 → (∀ w ∈ s.rcd.wants, w.1 ≠ r) → s.rcd.log = none →
    u = s.until (s.rgnQ r 1 + bitsOf (s.rgnQ r 6) 16 12 * 10000000) →
    Completes (.regionClose r) s (fun t =>
      t.rgnState r = 3 ∧ t.rgnQ r 4 = s.recHead - 1 ∧ t.rgnQ r 5 = u.time.ptp.toNat ∧ t.mem = s.mem)) ∧
  (∀ (s u : State) (mid : Nat) (gen : BitVec 8) (caps : List (Nat × Nat)),
    s.takePair R.REC_RCTL mid gen (rctlWord 1 0) = some u → s.formatOk = true →
    Completes (.raftFormat mid gen caps) s (fun t =>
      t.recHead = 1 ∧ t.rcd.valid = [] ∧ t.rcd.sealed = [] ∧ t.rcd.fly = [] ∧ t.rcd.rctl = some (1, 0)
        ∧ t.flag R.REC_STATUS F.REC_STATUS_RCTL_BUSY = true ∧ (t.recState = 2 ∨ t.recState = 4))) ∧
  (∀ (s u : State) (mid : Nat) (gen : BitVec 8) (n cap : Nat), n < 64 → s.takePair R.REC_RCTL mid gen (rctlWord 2 n) = some u →
    s.rctlFree = true → s.flag (R.REC_NS n) F.REC_NS_EN = true → s.nsState n ≠ 1 → cap ≠ 0 → s.recP ≠ 0 →
    slotsStart s.recP + s.recP * 2 ^ 22 ≤ cap →
    Completes (.raftJoin mid gen n cap) s (fun t =>
      t.rcd.rctl = some (2, n) ∧ (s.rcd.log = none → t.nsState n = 1 ∧ t.rcd.joining = [])
        ∧ (s.rcd.log ≠ none → t.rcd.joining = s.rcd.joining ++ [n]) ∧ t.flag R.REC_STATUS F.REC_STATUS_RCTL_BUSY = true)) ∧
  (∀ (s u : State) (mid : Nat) (gen : BitVec 8) (n : Nat), n < 64 → s.takePair R.REC_RCTL mid gen (rctlWord 3 n) = some u →
    s.rctlFree = true → s.nsState n = 1 →
    Completes (.raftLeave mid gen n) s (fun t =>
      t.rcd.rctl = some (3, n) ∧ ((∀ f ∈ s.rcd.fly, f.n ≠ n) → t.nsState n = 2)
        ∧ ((∃ f ∈ s.rcd.fly, f.n = n) → t.nsState n = 1 ∧ n ∈ t.rcd.leaving))) ∧
  (∀ (s u : State) (mid : Nat) (gen : BitVec 8) (r : Nat), r < 16 → s.takePair R.REC_RCTL mid gen (rctlWord 4 r) = some u →
    s.rctlFree = true → s.rgnState r = 3 →
    Completes (.regionRelease mid gen r) s (fun t =>
      t.rgnState r = 0 ∧ t.rcd.rctl = some (4, r) ∧ t.flag R.REC_STATUS F.REC_STATUS_RCTL_BUSY = true ∧ t.mem = s.mem)) ∧
  (∀ (s : State) (op arg : Nat), s.rcd.rctl = some (op, arg) → (∀ io ∈ s.rcd.ios, io.kind.formats = false) →
    arg ∉ s.rcd.joining → arg ∉ s.rcd.leaving →
    Completes .rctlDone s (fun t =>
      t.rcd = { s.rcd with rctl := none } ∧ t.flag R.REC_STATUS F.REC_STATUS_RCTL_BUSY = false ∧ s.OnlyRegs t [R.REC_STATUS]
        ∧ t.mem = s.mem))

/-- REC takes a command of a master (R508): the write reaches REC, which is not busy, and the device is not locked. -/
def RecTakes (s : State) (mid : Nat) (gen : BitVec 8) (op : Nat) : Prop :=
  s.Reached mid gen R.REC_CMD (BitVec.ofNat 32 op) ∧ s.recBusy = false ∧ s.locked = false

/-- R484, R508, R509, R512: the commands of REC_CMD, and the guarded configuration. -/
def Obligations.RecorderCommandsComplete : Prop :=
  (∀ (s : State) (mid : Nat) (gen : BitVec 8) (id : Nat), RecTakes s mid gen 1 → id = s.recArg 0 % 2 ^ 24 → id < s.sigCount →
    Completes (.sigRead mid gen false) s (fun t =>
      t.rd64 (R.REC_ARG 2) = BitVec.ofNat 64 (s.ldN .dram (s.sigAt id) 8)
        ∧ t.rd64 (R.REC_ARG 4) = BitVec.ofNat 64 (s.ldN .dram (s.sigAt id + 8) 8)
        ∧ t.recBusy = true ∧ t.resOf R.REC_CMD = 0 ∧ t.mem = s.mem)) ∧
  (∀ (s : State) (mid : Nat) (gen : BitVec 8) (id : Nat), RecTakes s mid gen 2 → id = s.recArg 0 % 2 ^ 24 → id < s.sigCount →
    Completes (.sigWrite mid gen) s (fun t =>
      t.mem = ((s.stN .dram (s.sigAt id) 8 (s.recArg64 2)).stN .dram (s.sigAt id + 8) 8 (s.recArg64 4)).mem
        ∧ t.recBusy = true ∧ t.resOf R.REC_CMD = 0 ∧ s.OnlyRegs t [R.REC_CMD])) ∧
  (∀ (s : State) (mid : Nat) (gen : BitVec 8), RecTakes s mid gen 3 →
    Completes (.curveRead mid gen) s (fun t =>
      t.rd64 (R.REC_ARG 2) = s.rcd.curves.get (fun _ => 0) (s.recArg 0 % 2048)
        ∧ t.recBusy = true ∧ t.resOf R.REC_CMD = 0 ∧ t.rcd = s.rcd ∧ t.mem = s.mem)) ∧
  (∀ (s u : State) (mid : Nat) (gen : BitVec 8) (k : Nat), RecTakes s mid gen 4 → k = s.recArg 0 % 2048 →
    u = s.setRec { s.rcd with curves := s.rcd.curves.set (fun _ => 0) k (s.rd64 (R.REC_ARG 2)) } →
    Completes (.curveWrite mid gen) s (fun t =>
      (risesStrictly ((u.curvePts (k / 8)).map (·.1)) = true → t.rcd = u.rcd ∧ t.resOf R.REC_CMD = 0) ∧
      (risesStrictly ((u.curvePts (k / 8)).map (·.1)) = false → t.rcd = s.rcd ∧ t.resOf R.REC_CMD = 5) ∧
      t.recBusy = true ∧ s.OnlyRegs t [R.REC_CMD] ∧ t.mem = s.mem)) ∧
  (∀ (s : State) (mid : Nat) (gen : BitVec 8) (n j : Nat), RecTakes s mid gen 5 →
    s.findLog (fun n j _ => decide (s.recArg64 0 ≤ s.ldN .dram (s.mirrorAt n j + 16) 8)) = some (n, j) →
    Completes (.findTime mid gen) s (fun t =>
      (∀ i, i < 16 → t.rd (R.REC_ARG i) = BitVec.ofNat 32 (s.ldN .dram (s.mirrorAt n j + 4 * i) 4))
        ∧ t.recBusy = true ∧ t.resOf R.REC_CMD = 0 ∧ t.mem = s.mem)) ∧
  (∀ (s : State) (mid : Nat) (gen : BitVec 8) (n j : Nat), RecTakes s mid gen 6 →
    s.findLog (fun _ _ l => l == s.recArg64 0 % 2 ^ 48) = some (n, j) →
    Completes (.findLsn mid gen) s (fun t =>
      (∀ i, i < 16 → t.rd (R.REC_ARG i) = BitVec.ofNat 32 (s.ldN .dram (s.mirrorAt n j + 4 * i) 4))
        ∧ t.recBusy = true ∧ t.resOf R.REC_CMD = 0 ∧ t.mem = s.mem)) ∧
  (∀ (s : State) (mid : Nat) (gen : BitVec 8) (n j lsn first cnt : Nat), RecTakes s mid gen 7 →
    s.readWhat = (n, j, lsn, first, cnt) → s.slotLsn n j = some lsn →
    first + cnt ≤ bitsOf (s.ldN .dram (s.mirrorAt n j + 24) 8) 40 11 →
    Completes (.readLog mid gen) s (fun t =>
      t.recBusy = true ∧ t.resOf R.REC_CMD = 15 ∧ s.OnlyRegs t [R.REC_CMD] ∧ t.rcd = s.rcd ∧ t.mem = s.mem)) ∧
  (∀ s : State, s.recBusy = true → (s.resOf R.REC_CMD).toNat < 8 →
    Completes (.recCommandDone [] false) s (fun t =>
      t.recBusy = false ∧ t.fd R.REC_CMD F.REC_CMD_RESULT = (s.resOf R.REC_CMD).toNat ∧ s.OnlyRegs t [R.REC_CMD] ∧ t.mem = s.mem)) ∧
  (∀ (s : State) (blocks : List (List Byte)) (n j lsn first cnt : Nat), s.recBusy = true → s.resOf R.REC_CMD = 15 →
    s.readWhat = (n, j, lsn, first, cnt) → s.slotLsn n j = some lsn → (∀ b ∈ blocks, blockGood b = true) →
    Completes (.recCommandDone blocks false) s (fun t =>
      t.recBusy = false ∧ t.fd R.REC_CMD F.REC_CMD_RESULT = 0
        ∧ t.mem = (s.setBytes (if bitAt (s.recArg 7) 0 then .dram else .host) (s.recArg64 5) blocks.flatten).mem
        ∧ t.liveAt (R.REC_CNT 16) = s.liveAt (R.REC_CNT 16) + BitVec.ofNat 64 blocks.length)) ∧
  (∀ (s u : State) (mid : Nat) (gen : BitVec 8) (k : Nat) (v : W32), s.takePair (recCfgReg k) mid gen v = some u →
    Completes (.recCfgPair mid gen k v) s (fun t =>
      (s.recCfgOk (recCfgReg k) v = true → t.rd (recCfgReg k) = v ∧ s.OnlyRegs t [recCfgReg k] ∧ t.err = s.err) ∧
      (s.recCfgOk (recCfgReg k) v = false →
        t.regs = s.regs ∧ s.Records t (mkErr 12 0 0x600F 0 3 (recCfgReg k) 0 0 v.toNat)) ∧ t.mem = s.mem))

/-- R516, R548, R709, R721 to R723, R727: power-on, RESET_N and the monitored rails. -/
def Obligations.ResetEventsComplete : Prop :=
  (∀ s : State, Completes .beaconPowerOn s (fun t =>
      (∀ off, t.rd off = cardReset off) ∧ (∀ off, t.liveAt off = 0) ∧ t.time.bcnt = 0 ∧ (∀ a, a < 2 ^ 44 → t.byte .save a = 0)
        ∧ (∀ a, a < 2 ^ 44 → t.byte .dram a = 0) ∧ (∀ a, a < 2 ^ 44 → t.byte .flash a = s.byte .flash a)
        ∧ t.fuse = s.fuse ∧ t.gens = [] ∧ t.pending = s.pending)) ∧
  (∀ (s : State) (ns : Nat), 1000 ≤ ns → Completes (.resetNAssert ns) s (fun t =>
      t.boot.resetLow = true ∧ t.inReset = true ∧ (∀ off, beaconHeld off = true → t.rd off = s.rd off)
        ∧ (∀ off, beaconHeld off = false → t.rd off = cardReset off)
        ∧ (∀ off, t.liveAt off = if isBcnCnt off then s.liveAt off else 0)
        ∧ (∀ a, a < 2 ^ 44 → t.byte .save a = s.byte .save a ∧ t.byte .flash a = s.byte .flash a ∧ t.byte .dram a = 0 ∧ t.byte .packet a = 0)
        ∧ t.time.bcnt = s.time.bcnt ∧ t.fuse = s.fuse ∧ t.gens = [] ∧ t.threads = [] ∧ t.err = [] ∧ t.pending = s.pending)) ∧
  (∀ (s : State) (ns : Nat), ns < 500 → Completes (.resetNAssert ns) s (fun t => t = s)) ∧
  (∀ (s : State) (role : Bool), s.boot.resetLow = true → s.boot.low = 0 → s.bcn.shutdown = false →
    Completes (.resetNRelease role) s (fun t =>
      t.inReset = false ∧ t.boot.role = role ∧ t.boot.t0 = s.time.clock ∧ t.boot.stepAt = s.time.clock
        ∧ t.fd R.MLK_PAIR_STATUS F.MLK_PAIR_STATUS_ROLE_PIN = b2n role ∧ s.OnlyRegs t [R.MLK_PAIR_STATUS] ∧ t.mem = s.mem)) ∧
  (∀ (s : State) (rails : Nat), rails % 32 ≠ 0 → s.boot.resetLow = false →
    Completes (.supplyLoss rails) s (fun t =>
      t.boot.low = rails % 32 ∧ t.inReset = true ∧ t.faultNHigh = false
        ∧ (∃ ts k, t.bcn.kept = s.bcn.kept ++ [{ bcnRec 0x680D 4 (rails % 32) with ts := ts, tskind := k }])
        ∧ (∀ off, beaconHeld off = false → t.rd off = cardReset off) ∧ (∀ off, beaconHeld off = true → t.rd off = s.rd off))) ∧
  (∀ s : State, s.boot.low ≠ 0 → Completes .supplyRestore s (fun t =>
      t.boot.low = 0 ∧ t.time.clock = s.time.clock + 250000 ∧ t.mem = s.mem
        ∧ (s.boot.resetLow = false → s.bcn.shutdown = false → t.inReset = false ∧ t.boot.t0 = t.time.clock)))

/-- R519 to R526: PTP-domain time, its pins, the Beacon counter and the alarms. -/
def Obligations.TimeCommandsComplete : Prop :=
  (∀ (s : State) (mid : Nat) (gen : BitVec 8) (v : W32), s.Reached mid gen R.BCN_TIME_CTRL (v ||| 0x40000000) →
    Completes (.timeSet mid gen v) s (fun t =>
      t.bcn.changes = s.bcn.changes ++ [.set (BitVec.ofNat 48 ((s.rd (R.BCN_TIME_SET 1)).toNat
          + (s.rd (R.BCN_TIME_SET 2)).toNat % 2 ^ 16 * 2 ^ 32)) ((s.rd (R.BCN_TIME_SET 0)).toNat % 2 ^ 30)]
        ∧ (s.powerStep ≤ 2 → t.timeRuns = bitAt v.toNat 31) ∧ t.time = s.time ∧ t.mem = s.mem)) ∧
  (∀ (s : State) (mid : Nat) (gen : BitVec 8) (v : W32), s.Reached mid gen (R.BCN_TIME_STEP 1) v →
    Completes (.timeStep mid gen v) s (fun t =>
      t.bcn.changes = s.bcn.changes ++ [.step (signed 64 (v ++ s.rd (R.BCN_TIME_STEP 0)).toNat)] ∧ t.time = s.time ∧ t.mem = s.mem)) ∧
  (∀ (s : State) (secs : BitVec 48) (ns : Nat) (rest : List TimeChange), s.bcn.changes = .set secs ns :: rest → ns < 1000000000 →
    Completes .timeChangeApply s (fun t =>
      t.time = { s.time with secs := secs, ns := ns } ∧ t.bcn.changes = rest
        ∧ t.flag R.BCN_TIME_STATUS F.BCN_TIME_STATUS_HOLDOVER = false)) ∧
  (∀ (s : State) (d : Int) (rest : List TimeChange), s.bcn.changes = .step d :: rest →
    Completes .timeChangeApply s (fun t =>
      ((t.time.secs.toNat * 1000000000 + t.time.ns : Nat) : Int)
          = (((s.time.secs.toNat * 1000000000 + s.time.ns : Nat) : Int) + d) % (2 ^ 48 * 1000000000)
        ∧ t.time.frac = s.time.frac ∧ t.time.bcnt = s.time.bcnt ∧ t.bcn.changes = rest
        ∧ t.flag R.BCN_TIME_STATUS F.BCN_TIME_STATUS_HOLDOVER = false)) ∧
  (∀ (s : State) (mid : Nat) (gen : BitVec 8) (v : W32), s.Reached mid gen R.BCN_TIME_CTRL (v ||| 0x20000000) →
    Completes (.holdClr mid gen v) s (fun t =>
      t.flag R.BCN_TIME_STATUS F.BCN_TIME_STATUS_HOLDOVER = false ∧ t.time = s.time ∧ t.mem = s.mem)) ∧
  (∀ (s : State) (mid : Nat), Completes (.timeReadLatch mid) s (fun t =>
      respOf t mid = (BitVec.ofNat 32 s.time.ns).setWidth 40 ∧ t.rd (R.BCN_TIME_S 0) = BitVec.ofNat 32 s.time.secs.toNat
        ∧ t.rd (R.BCN_TIME_S 1) = BitVec.ofNat 32 (s.time.secs.toNat / 2 ^ 32)
        ∧ s.OnlyRegs t [R.BCN_TIME_NS, R.BCN_TIME_S 0, R.BCN_TIME_S 1] ∧ t.time = s.time ∧ t.mem = s.mem)) ∧
  (∀ (s : State) (mid : Nat), Completes (.bcntReadLatch mid) s (fun t =>
      respOf t mid = (s.time.bcnt.setWidth 32).setWidth 40 ∧ t.rd64 (R.BCN_BCNT 0) = s.time.bcnt
        ∧ s.OnlyRegs t [R.BCN_BCNT 0, R.BCN_BCNT 0 + 4] ∧ t.time = s.time ∧ t.mem = s.mem)) ∧
  (∀ (s : State) (off n : Nat), s.flag R.BCN_PPS_CFG F.BCN_PPS_CFG_IN_EN = true →
    (s.bcn.ppsMissed = true ∨ s.fd (R.BCN_PPS_IN 2) ⟨16, 16⟩ = 0 ∨ s.bcn.ppsFrom + 125000000 ≤ s.time.clock) →
    (n : Int) = (((s.time.secs.toNat * 1000000000 + s.time.ns + off % 4 : Nat) : Int)
      + signed 16 (s.fd R.BCN_PPS_ADJ F.BCN_PPS_ADJ_IN_ADJ)) % (2 ^ 48 * 1000000000) →
    Completes (.ppsCapture off) s (fun t =>
      t.rd (R.BCN_PPS_IN 0) = BitVec.ofNat 32 (n % 1000000000) ∧ t.rd (R.BCN_PPS_IN 1) = BitVec.ofNat 32 (n / 1000000000)
        ∧ t.fd (R.BCN_PPS_IN 2) ⟨0, 16⟩ = n / 1000000000 / 2 ^ 32
        ∧ t.fd (R.BCN_PPS_IN 2) ⟨16, 16⟩ = (s.fd (R.BCN_PPS_IN 2) ⟨16, 16⟩ + 1) % 65536
        ∧ t.bcn.ppsFrom = s.time.clock ∧ s.OnlyRegs t [R.BCN_PPS_IN 0, R.BCN_PPS_IN 1, R.BCN_PPS_IN 2] ∧ t.mem = s.mem)) ∧
  (∀ s : State, s.flag R.BCN_PPS_CFG F.BCN_PPS_CFG_IN_EN = true → s.bcn.ppsMissed = false →
    Completes .ppsMiss s (fun t =>
      s.Records t (bcnRec 0x6807 0) ∧ bitAt (t.rd R.BCN_INT).toNat 4 = true ∧ t.bcn.ppsMissed = true
        ∧ t.time.clock = max s.time.clock (s.bcn.ppsFrom + 375000000) ∧ s.OnlyRegs t [R.BCN_INT] ∧ t.mem = s.mem)) ∧
  (∀ (s u : State), s.ppsLow = false →
    u = s.until ((((s.time.ptp.toNat : Int) + signed 16 (s.fd R.BCN_PPS_ADJ F.BCN_PPS_ADJ_OUT_ADJ)) / 1000000000 + 1) * 1000000000
      - signed 16 (s.fd R.BCN_PPS_ADJ F.BCN_PPS_ADJ_OUT_ADJ)).toNat →
    Completes .ppsOutEdge s (fun t =>
      t.time = u.time ∧ t.bcn.ppsHigh = u.time.clock + max 1 (s.fd R.BCN_PPS_CFG F.BCN_PPS_CFG_WIDTH) * 250000 ∧ t.ppsOut = true
        ∧ t.regs = s.regs ∧ t.mem = s.mem)) ∧
  (∀ (s : State) (count phase : Nat), s.fd R.BCN_REF_CFG F.BCN_REF_CFG_MODE = 2 → s.timeRuns = true →
    Completes (.ref10mSecond count phase) s (fun t =>
      t.rd R.BCN_REF_STATUS = BitVec.ofNat 32 (2 ^ 31 + phase % 100 * 2 ^ 24 + count % 2 ^ 24)
        ∧ t.time = (s.until ((s.time.ptp.toNat / 1000000000 + 1) * 1000000000)).time
        ∧ s.OnlyRegs t [R.BCN_REF_STATUS] ∧ t.mem = s.mem)) ∧
  (∀ (s : State) (a : Nat), a < 2 → bitAt (s.fd R.BCN_ALARM_CTRL F.BCN_ALARM_CTRL_ARM) a = true →
    Completes (.alarmFire a) s (fun t =>
      bitAt (t.fd R.BCN_ALARM_CTRL F.BCN_ALARM_CTRL_ARM) a = false
        ∧ (s.powerStep = 0 → bitAt (t.rd R.BCN_INT).toNat 5 = true)
        ∧ (1 ≤ s.powerStep → s.powerStep ≤ 5 → bitAt (s.fd R.BCN_WAKE_CFG F.BCN_WAKE_CFG_EN) a = true →
            bitAt t.causes a = true ∧ t.bcn.exiting = true)
        ∧ t.time = (s.pass (s.cyclesToTick (max 1 ((s.rd64 (R.BCN_ALARM a 0)).toNat - s.time.bcnt.toNat)))).time
        ∧ t.err = s.err ∧ t.mem = s.mem))

/-- R527 to R535, R724, R725, R733: sensors, tamper, crossings, operating points and the core voltage. -/
def Obligations.SupervisionCommandsComplete : Prop :=
  (∀ (s : State) (mv lo : Nat) (now : Bool), s.flag R.BCN_VSENSE_CFG F.BCN_VSENSE_CFG_EN = true →
    lo = s.fd R.BCN_VSENSE_CFG F.BCN_VSENSE_CFG_VTH * 5 →
    now = (if lo + s.fd R.BCN_VSENSE_CFG F.BCN_VSENSE_CFG_HYST * 5 < mv then true
      else if mv < lo then false else s.flag R.BCN_SENSE F.BCN_SENSE_VSENSE) →
    Completes (.vsenseEvent mv) s (fun t =>
      t.flag R.BCN_SENSE F.BCN_SENSE_VSENSE = now
        ∧ (s.flag R.BCN_SENSE F.BCN_SENSE_VSENSE ≠ now → now = s.flag R.BCN_VSENSE_CFG F.BCN_VSENSE_CFG_POL →
            1 ≤ s.powerStep → s.powerStep ≤ 5 → bitAt (s.fd R.BCN_WAKE_CFG F.BCN_WAKE_CFG_EN) 2 = true →
            bitAt t.causes 2 = true ∧ t.bcn.exiting = true)
        ∧ s.OnlyRegs t [R.BCN_SENSE, R.BCN_WAKE_CAUSE, R.BCN_PWR_STATUS] ∧ t.mem = s.mem)) ∧
  (∀ (s u : State) (island reading : Nat), island < 45 → u = s.senseTemp island reading →
    signed 8 u.hottest.1 < 125 →
    Completes (.tempEvent island reading) s (fun t =>
      t.bcn.temps.get (fun _ => none) island = some (reading % 256)
        ∧ t.fd R.BCN_SENSE F.BCN_SENSE_TEMP = u.hottest.1 % 256
        ∧ (s.flag R.BCN_TEMP_CFG F.BCN_TEMP_CFG_EN_HI = true → s.bcn.hotOff = false →
            signed 8 (s.fd R.BCN_TEMP_CFG F.BCN_TEMP_CFG_HI) ≤ signed 8 u.hottest.1 →
            bitAt (t.rd R.BCN_INT).toNat 2 = true
              ∧ s.Records t (bcnRec 0x6804 0 (u.hottest.1 + u.hottest.2 % 256 * 256))))) ∧
  (∀ (s u : State) (island reading : Nat), island < 45 → 125 ≤ signed 8 reading → u = s.senseTemp island reading →
    125 ≤ signed 8 u.hottest.1 → s.bcn.shutdown = false →
    Completes (.thermalShutdown island reading) s (fun t =>
      t.bcn.shutdown = true ∧ t.inReset = true ∧ t.faultNHigh = false
        ∧ (∃ ts k, t.bcn.kept = s.bcn.kept
            ++ [{ bcnRec 0x6805 4 (u.hottest.1 + u.hottest.2 % 256 * 256) with ts := ts, tskind := k }])
        ∧ (∀ off, beaconHeld off = false → off ≠ R.BCN_SENSE → t.rd off = cardReset off))) ∧
  (∀ (s : State) (island p q : Nat), s.pointOf island = some p → s.pointOk island p = false → s.bestPoint island p = some q →
    Completes (.thermalPointBar island) s (fun t => t.pointOf island = some q ∧ t = { s with bcn := t.bcn })) ∧
  (∀ (s : State) (d : Nat), d < 4 → bitAt (s.fd R.BCN_TAMPER_CFG F.BCN_TAMPER_CFG_EN) d = true → s.powerStep ≤ 3 →
    Completes (.tamper d) s (fun t =>
      bitAt (t.rd R.BCN_TAMPER).toNat d = true ∧ t.wipes = s.wipes ++ [2] ∧ bitAt (t.rd R.BCN_INT).toNat 1 = true
        ∧ s.Records t (bcnRec 0x6801 2 (2 ^ d + s.powerStep * 16))
        ∧ t.liveAt (R.BCN_CNT 8) = s.liveAt (R.BCN_CNT 8) + 1 ∧ t.mem = s.mem)) ∧
  (∀ (s : State) (island other limit : Nat), neighbours island other = true → s.islandRuns island = true →
    s.islandRuns other = true → s.xingHeld island other = false →
    Completes (.crossingHold island other limit) s (fun t =>
      t.xingHeld island other = true ∧ s.Records t (bcnRec 0x0009 2 other (island + limit % 8 * 256))
        ∧ t.liveAt (R.BCN_CNT 7) = s.liveAt (R.BCN_CNT 7) + 1
        ∧ s.OnlyRegs t [R.BCN_XING_HELD 0, R.BCN_XING_HELD 1] ∧ t.mem = s.mem)) ∧
  (∀ (s : State) (island other : Nat), s.xingHeld island other = true →
    Completes (.crossingResume island other) s (fun t =>
      t.xingHeld island other = false ∧ t.time.clock = s.time.clock + 2500
        ∧ s.OnlyRegs t [R.BCN_XING_HELD 0, R.BCN_XING_HELD 1] ∧ t.mem = s.mem ∧ t.err = s.err)) ∧
  (∀ (s : State) (island p : Nat), island < 45 → (s.curvePoint island p).isSome = true →
    Completes (.dvfsChange island p) s (fun t =>
      (s.pointOk island p = true → t.pointOf island = some p) ∧ (s.pointOk island p = false → t.bcn.point = s.bcn.point)
        ∧ t.bcn.want.get (fun _ => 0) island = p + 1 ∧ t = { s with bcn := t.bcn })) ∧
  (∀ (s : State) (mid : Nat) (gen : BitVec 8) (v : W32) (vmode : BitVec 8), s.Reached mid gen R.MGT_AVS_CFG (v ||| 0x80000000) →
    s.flag (R.HIF_I2C_CMD 0) F.HIF_I2C_CMD_BUSY = false →
    Completes (.avsEnable mid gen v vmode) s (fun t =>
      t.flag R.MGT_AVS_CFG F.MGT_AVS_CFG_EN = true ∧
      (vmode.toNat / 32 = 0 → t.bcn.vmodeDue = false ∧ t.bcn.avsStop = false
        ∧ t.flag R.MGT_AVS_STATUS F.MGT_AVS_STATUS_FAIL = false) ∧
      (vmode.toNat / 32 ≠ 0 → t.bcn.avsStop = true ∧ t.flag R.MGT_AVS_STATUS F.MGT_AVS_STATUS_FAIL = true
        ∧ t.flag R.MGT_AVS_STATUS F.MGT_AVS_STATUS_OK = false) ∧
      s.OnlyRegs t [R.MGT_AVS_CFG, R.MGT_AVS_STATUS] ∧ t.mem = s.mem)) ∧
  (∀ (s : State) (vmode : BitVec 8), s.avsRuns = true → s.bcn.vmodeDue = false →
    Completes (.avsStep vmode) s (fun t =>
      t.setMv = (if s.setMv < s.avsTarget then min s.avsTarget (s.setMv + 10) else max s.avsTarget (s.setMv - 10))
        ∧ t.flag R.MGT_AVS_STATUS F.MGT_AVS_STATUS_OK = true ∧ t.time.clock = s.time.clock + 12500
        ∧ s.OnlyRegs t [R.MGT_AVS_STATUS] ∧ t.mem = s.mem ∧ t.err = s.err)) ∧
  (∀ (s : State) (kind : Nat), s.avsRuns = true → 2 ≤ kind → kind ≤ 4 →
    Completes (.avsFail kind) s (fun t =>
      t.flag R.MGT_AVS_STATUS F.MGT_AVS_STATUS_FAIL = true ∧ t.flag R.MGT_AVS_STATUS F.MGT_AVS_STATUS_OK = false
        ∧ t.bcn.avsStop = true ∧ t.setMv = s.setMv ∧ s.Records t (mkErr 14 0 0x7401 2 0 0 0 0 kind s.setMv)
        ∧ s.OnlyRegs t [R.MGT_AVS_STATUS] ∧ t.mem = s.mem))

/-- From `s` to `t` unit `r.unit` writes the one record `r` with its time stamp; other units may write records of their own. -/
def UnitRecords (s t : State) (r : ErrRec) : Prop :=
  ∃ ts k, t.errOf r.unit.toNat = (s.errOf r.unit.toNat).push { r with ts := ts, tskind := k }

/-- R537, R538, R540 to R543: the power ladder. -/
def Obligations.PowerLadderCompletes : Prop :=
  (∀ (s u : State) (mid : Nat) (gen : BitVec 8) (v : W32), s.takePair R.BCN_PWR_REQ mid gen v = some u → pwrMay mid = true →
    v.toNat % 8 ≠ 0 → u.pwrRefuses (v.toNat % 8) = 0 →
    Completes (.powerRequest mid gen v) s (fun t =>
      t.fd R.BCN_PWR_STATUS F.BCN_PWR_STATUS_TARGET = v.toNat % 8 ∧ t.fd R.BCN_PWR_STATUS F.BCN_PWR_STATUS_STAGE = 0
        ∧ t.bcn = { s.bcn with stageAt := s.time.clock } ∧ s.OnlyRegs t [R.BCN_PWR_STATUS] ∧ t.mem = s.mem ∧ t.err = s.err)) ∧
  (∀ (s : State) (target : Nat), target = s.fd R.BCN_PWR_STATUS F.BCN_PWR_STATUS_TARGET → target ≠ 0 → s.bcn.exiting = false →
    s.bcn.draining = false → s.fd R.BCN_PWR_STATUS F.BCN_PWR_STATUS_STAGE = 0 →
    Completes .powerEntryStage s (fun t =>
      t.powerStep = 1 ∧ t.fd R.BCN_PWR_STATUS F.BCN_PWR_STATUS_STAGE = 1
        ∧ t.fd R.BCN_PWR_STATUS F.BCN_PWR_STATUS_TARGET = (if target = 1 then 0 else target)
        ∧ (target = 1 → t.liveAt (R.BCN_CNT 0) = s.liveAt (R.BCN_CNT 0) + 1) ∧ s.OnlyRegs t [R.BCN_PWR_STATUS] ∧ t.mem = s.mem)) ∧
  (∀ s : State, s.entering = true → s.bcn.exiting = false → s.bcn.draining = false →
    s.fd R.BCN_PWR_STATUS F.BCN_PWR_STATUS_STAGE = 1 →
    Completes .powerEntryStage s (fun t => t.bcn.draining = true ∧ t.rcd.hold = true ∧ t.rcd.log = none)) ∧
  (∀ s : State, s.entering = true → s.bcn.exiting = false → s.bcn.draining = true → s.drained = true →
    (s.fd R.BCN_PWR_STATUS F.BCN_PWR_STATUS_TARGET < 4 ∨ ∀ p ∈ s.packetPools, s.poolBusy p = false) →
    Completes .powerEntryStage s (fun t =>
      t.powerStep = 2 ∧ t.bcn.draining = false ∧ s.OnlyRegs t [R.BCN_PWR_STATUS] ∧ t.mem = s.mem ∧ t.err = s.err)) ∧
  (∀ (s u : State), s.entering = true → s.bcn.exiting = false → s.bcn.draining = false →
    s.fd R.BCN_PWR_STATUS F.BCN_PWR_STATUS_STAGE = 2 → u = s.pass (s.cyclesToTick 1) →
    Completes .powerEntryStage s (fun t =>
      t.powerStep = 3 ∧ t.rd64 (R.BCN_SLEEP_REF 0) = u.time.ptp ∧ t.rd64 (R.BCN_SLEEP_REF 2) = u.time.bcnt
        ∧ t.timeRuns = false ∧ t.time = u.time ∧ t.mem = s.mem)) ∧
  (∀ s : State, s.entering = true → s.bcn.exiting = false → s.bcn.draining = false →
    s.fd R.BCN_PWR_STATUS F.BCN_PWR_STATUS_STAGE = 3 →
    Completes .powerEntryStage s (fun t => t.powerStep = 4 ∧ s.OnlyRegs t [R.BCN_PWR_STATUS] ∧ t.mem = s.mem)) ∧
  (∀ s : State, s.entering = true → s.bcn.exiting = false → s.bcn.draining = false →
    s.fd R.BCN_PWR_STATUS F.BCN_PWR_STATUS_STAGE = 4 →
    Completes .powerEntryStage s (fun t =>
      t.powerStep = 5 ∧ (∀ a, a < 0x40000 → t.byte .vault a = 0) ∧ t.fd R.MGT_VAULT_STATUS F.MGT_VAULT_STATUS_CAUSE = 4
        ∧ s.Records t (mkErr 8 0x10 0x4006 0 0 0 0 0 4))) ∧
  (∀ s : State, s.bcn.draining = true → s.drained = false →
    Completes .entryDrainTimeout s (fun t =>
      t.powerStep = 0 ∧ t.entering = false ∧ t.fd R.BCN_PWR_STATUS F.BCN_PWR_STATUS_FAIL = 7 ∧ t.bcn.draining = false
        ∧ UnitRecords s t (bcnRec 0x6803 0 (7 + s.fd R.BCN_PWR_STATUS F.BCN_PWR_STATUS_TARGET * 16
            + s.fd R.BCN_PWR_STATUS F.BCN_PWR_STATUS_STAGE * 256))
        ∧ t.time.clock = max s.time.clock
            (s.bcn.stageAt + max 1 (s.fd R.BCN_PWR_CFG F.BCN_PWR_CFG_DRAIN_TMO) * 250000))) ∧
  (∀ (s : State) (cause : Nat), 5 ≤ cause → cause ≤ 9 → (causeSteps cause).1 ≤ s.powerStep → s.powerStep ≤ (causeSteps cause).2 →
    (cause = 8 → s.powerStep < 3) → bitAt (s.fd R.BCN_WAKE_CFG F.BCN_WAKE_CFG_EN) cause = true →
    Completes (.wakeCause cause) s (fun t =>
      bitAt t.causes cause = true ∧ t.bcn.exiting = true ∧ t.entering = false
        ∧ s.OnlyRegs t [R.BCN_WAKE_CAUSE, R.BCN_PWR_STATUS] ∧ t.mem = s.mem ∧ t.err = s.err)) ∧
  (∀ (s : State) (image : Nat) (begins : Bool), s.bcn.exiting = true → (s.powerStep < 4 ∨ image = 0) →
    Completes (.powerExit image begins) s (fun t =>
      t.powerStep = 0 ∧ t.entering = false ∧ t.bcn.exiting = false ∧ t.fd R.BCN_WAKE_CAUSE F.BCN_WAKE_CAUSE_FROM = s.powerStep
        ∧ bitAt (t.rd R.BCN_INT).toNat 0 = true ∧ t.liveAt (R.BCN_CNT 6) = s.liveAt (R.BCN_CNT 6) + 1
        ∧ UnitRecords s t (bcnRec 0x6802 0 (s.causes + s.powerStep * 2 ^ 24)))) ∧
  (∀ (s : State) (image : Nat) (begins : Bool), s.bcn.exiting = true → 4 ≤ s.powerStep → image ≠ 0 →
    Completes (.powerExit image begins) s (fun t =>
      (∃ ts k, t.bcn.kept = s.bcn.kept
          ++ [{ bcnRec 0x6806 4 s.powerStep (if image = 1 then 0 else 1) with ts := ts, tskind := k }])
        ∧ t.boot.released = false ∧ t.threads = [] ∧ t.ods = {} ∧ (∀ a, a < 2 ^ 44 → t.byte .packet a = 0))) ∧
  (∀ s : State, s.bcn.wakeN = true → s.fd R.BCN_PWR_CFG F.BCN_PWR_CFG_WAKE_TMO ≠ 0 →
    Completes .wakeTimeout s (fun t =>
      t.bcn.wakeN = false ∧ s.Records t (bcnRec 0x6808 0 s.causes) ∧ t.regs = s.regs ∧ t.mem = s.mem
        ∧ t.time.clock = max s.time.clock (s.bcn.wakeSince + s.fd R.BCN_PWR_CFG F.BCN_PWR_CFG_WAKE_TMO * 25000000))) ∧
  (∀ s : State, s.bcn.wakeN = true →
    Completes .wakeWithdrawn s (fun t =>
      t.bcn.wakeN = false ∧ t.flag R.BCN_WAKE_CAUSE F.BCN_WAKE_CAUSE_WITHDRAWN = true ∧ s.Records t (bcnRec 0x6809 0 s.causes)
        ∧ s.OnlyRegs t [R.BCN_WAKE_CAUSE] ∧ t.mem = s.mem))

/-- R597 to R599, R609, R614, R617, R618, R620, R621: modes, staging, and the operations of MGT_TXN_CTRL. -/
def Obligations.TransactionOperationsComplete : Prop :=
  (∀ (s u : State) (mid : Nat) (gen : BitVec 8) (v : W32), s.takePair R.GLB_MODE mid gen v = some u →
    Completes (.modePair mid gen v) s (fun t =>
      t.rd R.GLB_MODE = v &&& 0xFFF ∧ t.pendOf (guardInst R.GLB_MODE) = none ∧
      (s.mode F.GLB_MODE_TIMED = false → s.OnlyRegs t [R.GLB_MODE, R.GLB_MODE_NOTE] ∧ t.mem = s.mem ∧ t.ods = s.ods ∧ t.err = s.err))) ∧
  (∀ (s : State) (mid : Nat) (gen : BitVec 8), s.Reached mid gen R.MGT_TXN_CTRL 1 → txnMay mid = true → s.txnState = 0 →
    s.txnNum ≠ 0xFFFFFFFF → s.txn.lastNum ≠ some s.txnNum →
    Completes (.txnOpen mid gen) s (fun t =>
      t.txnState = 1 ∧ t.flag R.MGT_TXN_CTRL F.MGT_TXN_CTRL_ERR = false ∧ t.txn.entries = []
        ∧ t.fd R.MGT_TXN_STATUS F.MGT_TXN_STATUS_RESULT = 0 ∧ t.fd R.MGT_TXN_COUNT F.MGT_TXN_COUNT_COUNT = 0
        ∧ t.liveAt (R.MGT_MTX_CNT 0) = s.liveAt (R.MGT_MTX_CNT 0) + 1 ∧ t.mem = s.mem)) ∧
  (∀ (s : State) (mid : Nat) (gen : BitVec 8) (v : W32), s.Reached mid gen (R.MGT_TXN_ENT 2) v → txnMay mid = true →
    s.txnState = 1 → s.txn.entries.length < 4096 →
    stageableRec ((s.rd (R.MGT_TXN_ENT 0)).toNat % 2 ^ 24) (s.rd (R.MGT_TXN_ENT 1)) = true →
    Completes (.txnStageEntry mid gen v) s (fun t =>
      t.txn = { s.txn with entries :=
          s.txn.entries ++ [{ word0 := s.rd (R.MGT_TXN_ENT 0), value := s.rd (R.MGT_TXN_ENT 1), mask := v }] }
        ∧ t.fd R.MGT_TXN_COUNT F.MGT_TXN_COUNT_COUNT = s.txn.entries.length + 1
        ∧ s.OnlyRegs t [R.MGT_TXN_ENT 2, R.MGT_TXN_COUNT] ∧ t.mem = s.mem)) ∧
  (∀ (s : State) (mid : Nat) (gen : BitVec 8) (chain : Bool), s.Reached mid gen R.MGT_TXN_CTRL (if chain then 0x102 else 2) →
    txnMay mid = true → s.txnState = 1 → s.txnAsleepNow = false → s.flag R.MGT_TXN_STATUS F.MGT_TXN_STATUS_STAGE_ERR = false →
    (chain = false → s.mlkState ≠ 5) → (chain = true → s.flag R.MLK_STATUS F.MLK_STATUS_COORD = true) →
    Completes (.txnCommit mid gen chain) s (fun t =>
      t.txnState = 2 ∧ t.txn = { s.txn with load := chain, chain := chain, checkSince := s.time.clock } ∧ t.mem = s.mem
        ∧ t.flag R.MGT_TXN_CTRL F.MGT_TXN_CTRL_ERR = false ∧ s.OnlyRegs t [R.MGT_TXN_CTRL, R.MGT_TXN_STATUS])) ∧
  (∀ (s : State) (mid : Nat) (gen : BitVec 8), s.Reached mid gen R.MGT_TXN_CTRL 3 → txnMay mid = true → s.txnState = 1 →
    s.txnAsleepNow = false → s.flag R.MGT_TXN_STATUS F.MGT_TXN_STATUS_STAGE_ERR = false →
    Completes (.txnLoad mid gen) s (fun t =>
      t.txnState = 2 ∧ t.txn = { s.txn with load := true, chain := false, checkSince := s.time.clock } ∧ t.mem = s.mem
        ∧ t.flag R.MGT_TXN_CTRL F.MGT_TXN_CTRL_ERR = false ∧ s.OnlyRegs t [R.MGT_TXN_CTRL, R.MGT_TXN_STATUS])) ∧
  (∀ (s : State) (mid : Nat) (gen : BitVec 8), s.Reached mid gen R.MGT_TXN_CTRL 4 → txnMay mid = true →
    (s.txnState = 1 ∨ s.txnState = 2) → s.mlk.voted = none → s.mlk.taking = none →
    Completes (.txnAbort mid gen) s (fun t =>
      t.txnState = 0 ∧ t.fd R.MGT_TXN_STATUS F.MGT_TXN_STATUS_RESULT = 3 ∧ t.txn.entries = [] ∧ t.txn.lastNum = some s.txnNum
        ∧ t.liveAt (R.MGT_MTX_CNT 3) = s.liveAt (R.MGT_MTX_CNT 3) + 1 ∧ t.mem = s.mem)) ∧
  (∀ (s : State) (mid : Nat) (gen : BitVec 8), s.Reached mid gen R.MGT_TXN_CTRL 4 → txnMay mid = true →
    (s.txnState = 3 ∨ s.txnState = 4) → s.mlk.voted = none →
    Completes (.txnAbort mid gen) s (fun t =>
      t.txnState = 7 ∧ t.txn = { s.txn with inject := [0, 1, 2, 3], ender := 3 } ∧ t.mem = s.mem)) ∧
  (∀ s : State, s.txnState = 2 → s.oldLive ≠ 0 → s.mlk.taking = none →
    Completes .checkTimeout s (fun t =>
      t.txnState = 0 ∧ t.fd R.MGT_TXN_STATUS F.MGT_TXN_STATUS_RESULT = 5 ∧ t.txn.entries = [] ∧ t.mem = s.mem
        ∧ t.time.clock = max s.time.clock
            (s.txn.checkSince + max 1 (s.fd R.MGT_TXN_CFG F.MGT_TXN_CFG_CHECK_TMO) * 250000)))

/-- R41, R251, R610, R614 to R616: CHECKING, LOADING, the MARK cells and the commit point. -/
def Obligations.TransactionPhasesComplete : Prop :=
  (∀ s : State, s.txnState = 2 → s.oldLive = 0 → s.checkAll 0 s.txn.entries = none →
    Completes .txnCheck s (fun t => t.txnState = 3 ∧ s.OnlyRegs t [R.MGT_TXN_STATUS] ∧ t = { s with regs := t.regs })) ∧
  (∀ (s : State) (i c : Nat) (e : TxnEnt), s.txnState = 2 → s.oldLive = 0 → s.checkAll 0 s.txn.entries = some (i, c, e) →
    s.mlk.taking = none → i < 4096 →
    Completes .txnCheck s (fun t =>
      t.txnState = 0 ∧ t.fd R.MGT_TXN_STATUS F.MGT_TXN_STATUS_RESULT = 2 ∧ t.txn.entries = [] ∧ t.mem = s.mem
        ∧ t.fd R.MGT_TXN_STATUS F.MGT_TXN_STATUS_FAIL_INDEX = i
        ∧ UnitRecords s t (mkErr 14 0 0x7102 0 3 e.off 0 0 (i + c * 2 ^ 16) s.txnNum.toNat))) ∧
  (∀ (s u : State), s.txnState = 3 → s.prsBusy = false → s.fteBusy = false →
    ({ s with txn := { s.txn with viewNew := some s.newEpoch } } : State).loadAll none 0 s.txn.entries = (u, none) →
    u.verifyBad = none → u.txn.load = false →
    Completes (.txnLoadingDone none) s (fun t =>
      t.txnState = 5 ∧ t.txn = { u.txn with inject := [0, 1, 2, 3] } ∧ t.mem = u.mem)) ∧
  (∀ (s : State) (k : Nat) (e : TxnEnt), s.txnState = 3 → s.prsBusy = false → s.fteBusy = false → s.txn.entries = [e] → k = 0 →
    Completes (.txnLoadingDone (some k)) s (fun t =>
      t.txnState = 7 ∧ t.txn.inject = [0, 1, 2, 3] ∧ t.txn.ender = 2 ∧ t.fd R.MGT_TXN_STATUS F.MGT_TXN_STATUS_FAIL_INDEX = 0
        ∧ t.mem = s.mem)) ∧
  (∀ (s s1 s2 : State) (pl id : Nat), pl ∈ s.txn.inject →
    s1 = { s with txn := { s.txn with inject := s.txn.inject.filter (fun p => p != pl) } } →
    s1.allocSlot 4 s.markTok = some (s2, id) →
    Completes (.markInject pl) s (fun t =>
      t.txn = s1.txn ∧ (∃ c, (t.pipe pl).cells = (s2.pipe pl).cells ++ [c] ∧ c.tok = (s2.slot id).tok) ∧ t.mem = s.mem)) ∧
  (∀ (s : State) (pl : Nat) (f : Flight) (rest : List Flight), (s.pipe pl).toOds = f :: rest → pl < 4 →
    (f.tok.ctype = 1 ∨ f.tok.ctype = 2) → (s.copiesOf f).length < 3 →
    Completes (.markArrive pl) s (fun t =>
      (t.pipe pl).toOds = rest ∧ t.ods.marks = s.ods.marks ++ [f] ∧ t.txn = s.txn ∧ t.regs = s.regs ∧ t.mem = s.mem
        ∧ (f.tok.ctype = 1 → t.ods.liveNew = some f.tok.epoch))) ∧
  (∀ (s : State) (pl : Nat) (f : Flight) (rest : List Flight), (s.pipe pl).toOds = f :: rest → pl < 4 →
    f.tok.ctype = 1 → (s.copiesOf f).length = 3 → s.txnState = 5 → s.txn.pend = [] →
    Completes (.markArrive pl) s (fun t =>
      t.txnState = 6 ∧ t.epoch = f.tok.epoch ∧ t.fd R.ODS_STATUS F.ODS_STATUS_EPOCH = f.tok.epoch.toNat ∧ t.ods.liveNew = none)) ∧
  (∀ s : State, s.txnState = 6 → s.oldLive = 0 → s.mlk.taking = none →
    Completes .epochDrained s (fun t =>
      t.txnState = 0 ∧ t.fd R.MGT_TXN_STATUS F.MGT_TXN_STATUS_RESULT = 1 ∧ t.txn.lastNum = some s.txnNum
        ∧ t.txn.oldRegs = [] ∧ t.txn.oldMem = [] ∧ t.txn.viewNew = none ∧ t.txn.entries = []
        ∧ t.liveAt (R.MGT_MTX_CNT 1) = s.liveAt (R.MGT_MTX_CNT 1) + 1 ∧ t.mem = s.mem))

/-- A good frame of a type arrives on side `i` (R573 to R575): the side carries frames, the header is one a receiver takes, LEN is
the payload's length, and a replayed frame is the next one expected. `fr` is the frame, `u` the device once the header's ACK and
CREDIT have acted and RX SEQ stands. -/
def MlkGets (s : State) (typ i h0 h1 : Nat) (payload : List Byte) (fr : MlkFrame) (u : State) : Prop :=
  s.sideOn i = true ∧ h0 % 16 = typ ∧ headerOk h0 h1 = true ∧ bitsOf h0 40 14 = payload.length ∧ fr = mlkParse h0 h1 payload
    ∧ (replayed typ = true → fr.seq = ((s.mside i).rxSeq + 1) % 4096)
    ∧ ∃ v, v = (s.mlkCnt 1).mlkAck i (bitsOf h0 28 12) (bitsOf h0 54 10)
      ∧ u = if replayed typ then v.setMside i { (v.mside i) with rxSeq := fr.seq } else v

/-- A control frame is for this member (R579): not its own, HOPS not 0, broadcast or addressed to it; `w` is the device once the
frame is forwarded where it goes on. -/
def MlkHears (u : State) (i : Nat) (fr : MlkFrame) (w : State) : Prop :=
  ¬ (fr.srcV = true ∧ u.hasChip = true ∧ fr.src = u.chip) ∧ fr.hops ≠ 0 ∧
    ((fr.bcast = true ∧ w = u.mlkForward i fr) ∨ (fr.bcast = false ∧ u.hasChip = true ∧ fr.dst = u.chip ∧ w = u))

/-- R576 to R579, R580, R581, R583 to R585, R588, R591: the frames that arrive over the Molma link. -/
def Obligations.MolmaFramesComplete : Prop :=
  (∀ (s u : State) (i h0 h1 : Nat) (pl : List Byte) (fr : MlkFrame), MlkGets s 1 i h0 h1 pl fr u → u.sideState i = 3 →
    u.rxCredits i + mlkCredits pl.length ≤ 512 →
    Completes (.dataFrameReceive i h0 h1 pl) s (fun t =>
      (t.port 144).rxq = (u.port 144).rxq ++ [{ bytes := pl, its := u.time.ptp, side := i }]
        ∧ (t.mside i).owed = (u.mside i).owed + mlkCredits pl.length
        ∧ t.liveAt (R.MLK_CNT 3) = u.liveAt (R.MLK_CNT 3) + BitVec.ofNat 64 pl.length ∧ t.regs = u.regs ∧ t.mem = s.mem)) ∧
  (∀ (s u w : State) (i h0 h1 : Nat) (pl : List Byte) (fr : MlkFrame), MlkGets s 2 i h0 h1 pl fr u → s.fte.mlkRx = [] →
    MlkHears u i fr w →
    Completes (.learnFrameReceive i h0 h1 pl) s (fun t =>
      t.fte = { s.fte with mlkRx := learnMsgs pl } ∧ t.mlk = w.mlk
        ∧ t.liveAt (R.MLK_CNT 9) = s.liveAt (R.MLK_CNT 9) + BitVec.ofNat 64 (pl.length / 16) ∧ t.mem = s.mem)) ∧
  (∀ (s u : State) (i h0 h1 : Nat) (pl : List Byte) (fr : MlkFrame), MlkGets s 3 i h0 h1 pl fr u → u.sideState i = 3 →
    Completes (.buoyReceive i h0 h1 pl) s (fun t =>
      (t.mside i).peer = buoyOf pl ∧ (t.mside i).hello = true ∧ (t.mside i).lastBuoy = s.time.clock
        ∧ t.rd64 (R.MLK_PEER i 0) = (buoyOf pl).serial)) ∧
  (∀ (s u : State) (i h0 h1 : Nat) (pl : List Byte) (fr : MlkFrame), MlkGets s 4 i h0 h1 pl fr u → i < 2 →
    Completes (.helloReceive i h0 h1 pl) s (fun t =>
      t.sideState i = 3 ∧ (t.mside i).peer = buoyOf pl ∧ (t.mside i).hello = true ∧ t.mlkState = 3 ∧ t.mlk.electing = true)) ∧
  (∀ (s u : State) (i h0 h1 : Nat) (pl : List Byte) (fr : MlkFrame), MlkGets s 5 i h0 h1 pl fr u → u.mlkSides = [0, 1] →
    ((memberList pl).head?.map (·.serial)).getD 0 = u.serial →
    Completes (.electReceive i h0 h1 pl) s (fun t =>
      t.flag R.MLK_STATUS F.MLK_STATUS_RING = true ∧ t.mlk = u.mlk)) ∧
  (∀ (s u w : State) (i h0 h1 : Nat) (pl : List Byte) (fr : MlkFrame), MlkGets s 5 i h0 h1 pl fr u →
    ((memberList pl).head?.map (·.serial)).getD 0 ≠ u.serial → MlkHears u i fr w → w.mlk.electing = true →
    Completes (.electReceive i h0 h1 pl) s (fun t =>
      t.mlk.members = (w.mergeAll (memberList pl)).1 ∧ t.mlk.electing = true
        ∧ ((w.mergeAll (memberList pl)).2 = true → t.mlk.grewAt = s.time.clock) ∧ t.mem = s.mem)) ∧
  (∀ (s u w : State) (i h0 h1 : Nat) (pl : List Byte) (fr : MlkFrame) (num : W32) (e : Nat), MlkGets s 6 i h0 h1 pl fr u →
    MlkHears u i fr w → numAnd pl = (num, e) → w.mlk.voted = none → BitVec.ofNat 8 e = w.odsEpoch + 1 → w.txnState = 4 →
    w.txnNum = num → w.mlkState ≠ 4 →
    Completes (.prepareReceive i h0 h1 pl) s (fun t =>
      t.mlk.voted = some (num, s.time.clock) ∧ t.mlk.doubt = false ∧ t.mlk.asked = none ∧ t.txn = s.txn
        ∧ t.liveAt (R.MLK_CNT 11) = s.liveAt (R.MLK_CNT 11) + 1)) ∧
  (∀ (s u w : State) (i h0 h1 : Nat) (pl : List Byte) (fr : MlkFrame) (num : W32) (e : BitVec 8) (dl : Nat),
    MlkGets s 7 i h0 h1 pl fr u → MlkHears u i fr w → w.mlk.prepared = some (num, e, dl) → (numAnd pl).1 = num →
    (numAnd pl).2 = 1 →
    Completes (.voteReceive i h0 h1 pl) s (fun t =>
      ((∀ c ∈ w.otherChips, c = fr.src ∨ c ∈ w.mlk.ready) → t.mlk.decided = some (num, e, true) ∧ t.mlk.prepared = none
        ∧ t.mlk.instant = some (s.time.ptp.toNat + w.settled.fd R.MLK_TIMING F.MLK_TIMING_LEAD * 25000)) ∧
      ((∃ c ∈ w.otherChips, c ≠ fr.src ∧ c ∉ w.mlk.ready) → t.mlk.ready = fr.src :: w.mlk.ready
        ∧ t.mlk.prepared = w.mlk.prepared ∧ t.mlk.decided = w.mlk.decided))) ∧
  (∀ (s u w : State) (i h0 h1 : Nat) (pl : List Byte) (fr : MlkFrame) (num : W32) (e : BitVec 8) (dl : Nat),
    MlkGets s 7 i h0 h1 pl fr u → MlkHears u i fr w → w.mlk.prepared = some (num, e, dl) → (numAnd pl).1 = num →
    (numAnd pl).2 ≠ 1 →
    Completes (.voteReceive i h0 h1 pl) s (fun t =>
      t.mlk.decided = some (num, e, false) ∧ t.mlk.prepared = none
        ∧ UnitRecords s t (mlkRec 0x8006 0 num.toNat (fr.src + leNat ((pl.drop 5).take 1) * 16)))) ∧
  (∀ (s u w : State) (i h0 h1 : Nat) (pl : List Byte) (fr : MlkFrame) (num : W32) (e at_ : Nat), MlkGets s 8 i h0 h1 pl fr u →
    MlkHears u i fr w → numAnd pl = (num, e) → w.txnState = 4 → w.txnNum = num → w.mlk.instant = none →
    at_ = leNat ((pl.drop 8).take 8) →
    Completes (.commitReceive i h0 h1 pl) s (fun t =>
      t.mlk.decided = some (num, BitVec.ofNat 8 e, true) ∧ t.mlk.instant = some at_
        ∧ t.txnState = (if at_ < s.time.ptp.toNat then 5 else 4))) ∧
  (∀ (s u w : State) (i h0 h1 : Nat) (pl : List Byte) (fr : MlkFrame) (num : W32), MlkGets s 9 i h0 h1 pl fr u →
    MlkHears u i fr w → (numAnd pl).1 = num → w.txnNum = num → (w.txnState = 3 ∨ w.txnState = 4) →
    Completes (.abortReceive i h0 h1 pl) s (fun t =>
      t.txnState = 7 ∧ t.txn = { s.txn with inject := [0, 1, 2, 3], ender := 0xA }
        ∧ t.mlk.decided = some (num, w.odsEpoch + 1, false))) ∧
  (∀ (s u w : State) (i h0 h1 : Nat) (pl : List Byte) (fr : MlkFrame), MlkGets s 10 i h0 h1 pl fr u → MlkHears u i fr w →
    w.partnerSide = some i → leNat (pl.take 1) = 6 → w.pairState = 2 →
    Completes (.pairFrameReceive i h0 h1 pl) s (fun t =>
      t.pairState = 3 ∧ t.fd R.MLK_PAIR_STATUS F.MLK_PAIR_STATUS_CAUSE = leNat ((pl.drop 1).take 1) % 16
        ∧ t.mlk.taking = some (leNat ((pl.drop 1).take 1) % 16) ∧ bitAt (t.rd R.MLK_INT).toNat 2 = true)) ∧
  (∀ (s u w : State) (i h0 h1 : Nat) (pl : List Byte) (fr : MlkFrame), MlkGets s 10 i h0 h1 pl fr u → MlkHears u i fr w →
    w.partnerSide = some i → leNat (pl.take 1) = 2 → w.pairState = 1 →
    Completes (.pairFrameReceive i h0 h1 pl) s (fun t =>
      t.pairState = 6 ∧ t.fd R.MLK_PAIR_STATUS F.MLK_PAIR_STATUS_CAUSE = 1 ∧ (∀ n, n < 144 → t.link n = 0))) ∧
  (∀ (s u : State) (i h0 h1 : Nat) (pl : List Byte) (fr : MlkFrame) (t1 t2 t3 now : Nat), MlkGets s 11 i h0 h1 pl fr u →
    u.sideState i = 3 → i < 2 → t1 = leNat (pl.take 8) → t2 = leNat ((pl.drop 8).take 8) → t3 = leNat ((pl.drop 16).take 8) →
    now = u.time.ptp.toNat → ¬ (t2 = 0 ∧ t3 = 0) → t1 = (u.mside i).t1.toNat →
    Completes (.timeFrameReceive i h0 h1 pl) s (fun t =>
      t.rd (R.MLK_TIME i 0) = BitVec.ofInt 32 ((((t2 : Int) - t1) - ((now : Int) - t3)) / 2)
        ∧ t.rd (R.MLK_TIME i 1) = BitVec.ofInt 32 ((((now : Int) - t1) - ((t3 : Int) - t2)) / 2)
        ∧ t.time = u.time ∧ t.mem = s.mem)) ∧
  (∀ (s : State) (side h0 h1 : Nat), s.sideOn side = true →
    (Completes (.frameBad side h0 h1 false) s (fun t =>
      t.liveAt (R.MLK_CNT 4) = s.liveAt (R.MLK_CNT 4) + 1 ∧ t = { s with live := t.live })) ∧
    (headerOk h0 h1 = false → Completes (.frameBad side h0 h1 true) s (fun t =>
      t.liveAt (R.MLK_CNT 1) = s.liveAt (R.MLK_CNT 1) + 1 ∧ s.Records t (mlkRec 0x800B 0 (h0 % 2 ^ 32)) ∧ t.regs = s.regs
        ∧ t.mlk = s.mlk ∧ t.mem = s.mem)))

/-- R570, R571, R574, R577 to R582, R592: sides, replay, sending, election and synchronisation. -/
def Obligations.MolmaLinkWorkCompletes : Prop :=
  (∀ (s : State) (lane : Nat), lane < 4 → s.mlkRuns = true → s.sideState (s.laneSide lane) = 1 →
    Completes (.mlkLaneTrained lane) s (fun t =>
      bitAt (t.fd R.MLK_STATUS F.MLK_STATUS_LANES) lane = true ∧ t.sideState (s.laneSide lane) = 2
        ∧ (t.mside (s.laneSide lane)).helloFrom = s.time.clock
        ∧ s.OnlyRegs t [R.MLK_STATUS, R.MLK_SIDE (s.laneSide lane)] ∧ t.mem = s.mem)) ∧
  (∀ s : State, s.mlkRuns = true → Completes .mlkTrainRetry s (fun t =>
      (∀ i ∈ s.mlkSides, t.sideState i = if s.sideState i = 0 ∨ s.sideState i = 4 then 1 else s.sideState i)
        ∧ s.OnlyRegs t [R.MLK_SIDE 0, R.MLK_SIDE 1] ∧ t = { s with regs := t.regs })) ∧
  (∀ (s : State) (lane : Nat), lane < 4 → bitAt (s.fd R.MLK_STATUS F.MLK_STATUS_LANES) lane = true →
    (∃ l ∈ s.sideLanes (s.laneSide lane), l ≠ lane) →
    Completes (.laneDown lane) s (fun t =>
      bitAt (t.fd R.MLK_STATUS F.MLK_STATUS_LANES) lane = false ∧ s.Records t (mlkRec 0x8001 0 0 0 lane)
        ∧ s.OnlyRegs t [R.MLK_STATUS] ∧ t.mlk = s.mlk ∧ t.mem = s.mem)) ∧
  (∀ (s : State) (lane : Nat), lane < 4 → s.sideLanes (s.laneSide lane) = [lane] →
    (s.sideState (s.laneSide lane) = 2 ∨ s.sideState (s.laneSide lane) = 3) →
    Completes (.laneDown lane) s (fun t =>
      bitAt (t.fd R.MLK_STATUS F.MLK_STATUS_LANES) lane = false ∧ t.sideState (s.laneSide lane) = 0
        ∧ (t.mside (s.laneSide lane)).unacked = [])) ∧
  (∀ (s : State) (side : Nat), s.sideOn side = true → (s.mside side).unacked ≠ [] → (s.mside side).resends < 8 →
    Completes (.replayTimeout side) s (fun t =>
      (t.mside side).resends = (s.mside side).resends + 1 ∧ (t.mside side).unacked = (s.mside side).unacked
        ∧ t.liveAt (R.MLK_CNT 5) = s.liveAt (R.MLK_CNT 5) + 1
        ∧ t.time.clock = max s.time.clock ((s.mside side).ackFrom + 5000) ∧ t.regs = s.regs ∧ t.mem = s.mem)) ∧
  (∀ (s : State) (side : Nat), s.sideOn side = true → (s.mside side).unacked ≠ [] → 8 ≤ (s.mside side).resends →
    Completes (.replayTimeout side) s (fun t =>
      t.sideState side = 0 ∧ (t.mside side).unacked = [] ∧ bitAt (t.rd R.MLK_INT).toNat 6 = true)) ∧
  (∀ (s : State) (e : RelEnt) (rest : List RelEnt) (n : Nat), s.relList 144 = e :: rest → (s.slot e.id).cut = none →
    n = max 60 e.tok.length.toNat → s.sideOn s.dataSide = true → s.sideState s.dataSide = 3 →
    mlkCredits n ≤ (s.mside s.dataSide).credits →
    Completes .dataFrameSend s (fun t =>
      t.relList 144 = rest ∧ (t.mside s.dataSide).credits = (s.mside s.dataSide).credits - mlkCredits n
        ∧ t.liveAt (R.MLK_CNT 2) = s.liveAt (R.MLK_CNT 2) + BitVec.ofNat 64 n)) ∧
  (∀ s : State, 60 ≤ s.fte.tx.length → s.floodSides.filter s.sideOn ≠ [] →
    Completes .learnPackTimeout s (fun t =>
      t.fte.tx = s.fte.tx.drop 60 ∧ t.liveAt (R.MLK_CNT 8) = s.liveAt (R.MLK_CNT 8) + 60 ∧ t.time = s.time ∧ t.mem = s.mem)) ∧
  (∀ s : State, Completes .buoySend s (fun t =>
      t.liveAt (R.MLK_CNT 6) = s.liveAt (R.MLK_CNT 6)
          + BitVec.ofNat 64 (s.mlkSides.filter (fun i => s.sideOn i && s.sideState i == 3)).length
        ∧ t.regs = s.regs ∧ t.mem = s.mem ∧ t.err = s.err)) ∧
  (∀ (s : State) (side : Nat), s.mlkRuns = true → (s.mside side).hello = true → side ∈ s.mlkSides → s.sideState side = 3 →
    Completes (.buoyLost side) s (fun t =>
      (t.mside side).hello = false ∧ t.sideState side = 4 ∧ bitAt (t.rd R.MLK_INT).toNat 5 = true
        ∧ t.time.clock = max s.time.clock
            ((s.mside side).lastBuoy + max 1 (s.settled.fd R.MLK_TIMING F.MLK_TIMING_MISS) * s.buoyCyc))) ∧
  (∀ (s : State) (side : Nat) (f : MlkFrame), s.boot.released = true → s.sideOn side = true → s.sideState side = 2 →
    f = { s.mlkOwn 4 (s.buoyBytes side) with bcast := false, hops := 0, seq := (s.mside side).txSeq } →
    Completes (.helloSend side) s (fun t =>
      (t.mside side).unacked = (s.mside side).unacked ++ [f] ∧ (t.mside side).txSeq = ((s.mside side).txSeq + 1) % 4096
        ∧ t.regs = s.regs ∧ t.mem = s.mem ∧ t.err = s.err)) ∧
  (∀ (s : State) (side : Nat), s.mlkRuns = true → s.boot.released = true → side ∈ s.mlkSides → s.sideState side ≠ 3 →
    (s.mside side).helloTmo = false →
    Completes (.helloTmo side) s (fun t =>
      (t.mside side).helloTmo = true ∧ ((∀ i ∈ s.mlkSides, s.sideState i ≠ 3 ∧ (i = side ∨ (s.mside i).helloTmo = true)) →
        t.mlkState = 6))) ∧
  (∀ s : State, s.mlk.electing = true → Completes .electionEnd s (fun t =>
      t.mlk.electing = false ∧ (s.mlk.members.length ≤ 1 → t.mlkState = 6)
        ∧ (8 < s.mlk.members.length → t.mlkState = 2 ∧ UnitRecords s t (mlkRec 0x8004 2 s.mlk.members.length)))) ∧
  (∀ (s : State) (side c : Nat), (s.mside side).splitFrom = some c → (s.mside side).split = false → s.sideState side = 3 →
    ¬ (s.partnerSide = some side ∧ ((s.mside side).peer.pair = 6 ∨ s.pairState = 6)) →
    Completes (.epochSplit side) s (fun t => (t.mside side).split = true ∧ bitAt (t.rd R.MLK_INT).toNat 4 = true)) ∧
  (∀ s : State, s.mlkState = 4 → s.flag R.MLK_STATUS F.MLK_STATUS_COORD = true →
    Completes .syncTimeout s (fun t =>
      UnitRecords s t (mlkRec 0x8005 0 2) ∧ t.time.clock = max s.time.clock (s.mlk.syncFrom + 125000000)
        ∧ (s.txnState = 0 → s.txnAsleepNow = false → s.txn.lastNum = none → t.txnState = 2 ∧ t.txn.chain = true))) ∧
  (∀ (s : State) (c : Nat), s.mlk.retryFrom = some c → s.mlkState = 4 → s.flag R.MLK_STATUS F.MLK_STATUS_COORD = true →
    s.txnState = 0 → s.txnAsleepNow = false → s.txn.lastNum = none →
    Completes .epochCommitRetry s (fun t =>
      t.txnState = 2 ∧ t.txn.chain = true ∧ t.mlk.retryFrom = none ∧ t.time.clock = max s.time.clock (c + 25000000)))

/-- R583 to R585, R588, R589, R591: chained commits by time, the pair's hand-over, and the time request. -/
def Obligations.MolmaPairWorkCompletes : Prop :=
  (∀ (s : State) (num : W32) (e : BitVec 8) (dl : Nat), s.mlk.prepared = some (num, e, dl) →
    Completes .voteTimeout s (fun t =>
      t.mlk.decided = some (num, e, false) ∧ t.mlk.prepared = none ∧ t.time.clock = max s.time.clock dl)) ∧
  (∀ (s : State) (i : Nat), s.mlk.instant = some i → s.txnState = 4 →
    Completes .commitInstant s (fun t =>
      t.txnState = 5 ∧ t.txn.inject = [0, 1, 2, 3] ∧ t.time = (s.until i).time ∧ s.OnlyRegs t [R.MGT_TXN_STATUS] ∧ t.mem = s.mem)) ∧
  (∀ (s : State) (num : W32) (at_ : Nat), s.mlk.voted = some (num, at_) → s.mlk.instant = none → s.txnState = 4 →
    s.mlk.doubt = false →
    Completes .txnDoubt s (fun t =>
      t.mlk.doubt = true ∧ t.mlk.voted = some (num, t.time.clock) ∧ bitAt (t.rd R.MLK_INT).toNat 3 = true
        ∧ s.Records t (mlkRec 0x8007 2 num.toNat) ∧ s.OnlyRegs t [R.MLK_INT] ∧ t.mem = s.mem
        ∧ t.time.clock = max s.time.clock (at_ + s.settled.fd R.MLK_TIMING F.MLK_TIMING_TXN_TMO * 250000))) ∧
  (∀ (s u : State) (mid : Nat) (gen : BitVec 8) (v : W32), s.takePair R.MLK_PAIR_CTRL mid gen v = some u →
    bitAt v.toNat 0 = true → s.pairState = 1 →
    Completes (.pairSwap mid gen v) s (fun t =>
      t.pairState = 6 ∧ t.fd R.MLK_PAIR_STATUS F.MLK_PAIR_STATUS_CAUSE = 1 ∧ (∀ n, n < 144 → t.link n = 0))) ∧
  (∀ (s : State) (c : Nat), s.mlk.holdFrom = some c → s.pairState = 2 →
    Completes .holdoffExpire s (fun t =>
      t.pairState = 3 ∧ t.fd R.MLK_PAIR_STATUS F.MLK_PAIR_STATUS_CAUSE = 5 ∧ t.mlk.holdFrom = none
        ∧ t.time.clock = max s.time.clock (c + s.settled.fd R.MLK_PAIR_CFG F.MLK_PAIR_CFG_HOLDOFF * 250000))) ∧
  (∀ (s : State) (c : Nat), s.mlk.holdFrom = some c → s.pairState ≠ 2 →
    Completes .holdoffExpire s (fun t => t.mlk = { s.mlk with holdFrom := none } ∧ t.regs = s.regs ∧ t.mem = s.mem)) ∧
  (∀ s : State, Completes .timeRequestSend s (fun t =>
      (∀ i ∈ s.mlkSides, s.sideOn i = true → s.sideState i = 3 → (t.mside i).t1 = s.time.ptp)
        ∧ t.regs = s.regs ∧ t.mem = s.mem ∧ t.err = s.err))

/-- A write of OP to MGT_RCV_CMD is accepted (R651): it reaches MGT, which runs no command, from a master that may. -/
def RcvTakes (s : State) (mid : Nat) (gen : BitVec 8) (op : Nat) : Prop :=
  s.Reached mid gen R.MGT_RCV_CMD (BitVec.ofNat 32 op) ∧ s.flag R.MGT_RCV_CMD F.MGT_RCV_CMD_BUSY = false
    ∧ s.rcvAllowed mid op (s.rd R.MGT_RCV_ARG).toNat = true

/-- The command runs, and will complete with a result (R651). -/
def RcvRuns (t : State) (op res : Nat) : Prop :=
  t.flag R.MGT_RCV_CMD F.MGT_RCV_CMD_BUSY = true ∧ t.resOf R.MGT_RCV_CMD = BitVec.ofNat 32 (res * 2 ^ 24 + op)

/-- R632 to R641, R649, R651: the recovery commands. -/
def Obligations.RecoveryCommandsComplete : Prop :=
  (∀ (s : State) (mid : Nat) (gen : BitVec 8) (m : Nat), RcvTakes s mid gen 1 → m = (s.rd R.MGT_RCV_ARG).toNat % 4096 →
    mayRevoke m = true →
    Completes (.revoke mid gen) s (fun t =>
      t.genOf m = 0 ∧ t.lastGens = s.lastGens ∧ (∀ n, n ≠ m → t.genOf n = s.genOf n) ∧ (m, 1) ∈ t.abandons
        ∧ t.liveAt (R.MGT_FLT_CNT 5) = s.liveAt (R.MGT_FLT_CNT 5) + 1 ∧ RcvRuns t 1 0)) ∧
  (∀ (s : State) (mid : Nat) (gen : BitVec 8) (m : Nat), RcvTakes s mid gen 2 → m = (s.rd R.MGT_RCV_ARG).toNat % 4096 →
    s.readmitCheck m = 0 →
    Completes (.readmit mid gen) s (fun t =>
      t.rcv.readmit = some (m, s.time.clock) ∧ t.gens = s.gens ∧ s.OnlyRegs t [R.MGT_RCV_CMD] ∧ t.mem = s.mem ∧ RcvRuns t 2 0)) ∧
  (∀ (s : State) (m c : Nat), s.rcv.readmit = some (m, c) → s.headless = false →
    (∀ p ∈ s.bcn.xings, p.1 ≠ midIsland m ∧ p.2 ≠ midIsland m) →
    Completes .readmission s (fun t =>
      t.genOf m = s.nextGen m ∧ t.lastGenOf m = s.nextGen m ∧ (∀ n, n ≠ m → t.genOf n = s.genOf n ∧ t.lastGenOf n = s.lastGenOf n)
        ∧ t.rcv.readmit = none ∧ s.Records t (mkErr 14 0 0x7204 0 0 0 m (s.nextGen m).toNat)
        ∧ t.liveAt (R.MGT_FLT_CNT 6) = s.liveAt (R.MGT_FLT_CNT 6) + 1 ∧ t.time.clock = max s.time.clock (c + 25000)
        ∧ t.regs = s.regs ∧ t.mem = s.mem)) ∧
  (∀ (s : State) (mid : Nat) (gen : BitVec 8) (c k : Nat), RcvTakes s mid gen 3 → c = bitsOf (s.rd R.MGT_RCV_ARG).toNat 4 4 →
    k = (s.rd R.MGT_RCV_ARG).toNat % 16 → k < 9 → s.coreFenced c k = true →
    ¬ (mid < 0x800 ∧ midCluster mid = c ∧ midCore mid = k) →
    Completes (.coreReset mid gen) s (fun t =>
      (∀ i, i < 8 → (t.thr (threadMid c k i)).st = 5) ∧ t.rcv.waits = coreMids c k ∧ t.gens = s.gens ∧ RcvRuns t 3 0)) ∧
  (∀ (s : State) (mid : Nat) (gen : BitVec 8) (c k : Nat), RcvTakes s mid gen 4 → c = bitsOf (s.rd R.MGT_RCV_ARG).toNat 4 4 →
    k = (s.rd R.MGT_RCV_ARG).toNat % 16 → k < 9 → s.coreFenced c k = true → s.mode F.GLB_MODE_SPARE = true →
    s.flag (R.MGT_CORE_STATE c) F.MGT_CORE_STATE_SPARE_USED = false → s.spareCore c < 9 → s.spareCore c ≠ k →
    Completes (.coreSubst mid gen) s (fun t =>
      (∀ w, w < 4 → t.rd (R.CLU_CORE_SLOT c (s.spareCore c) w) = s.rd (R.CLU_CORE_SLOT c k w))
        ∧ (∀ i, i < 8 → t.tcfg (threadMid c (s.spareCore c) i) = s.tcfg (threadMid c k i)
            ∧ t.tgmask (threadMid c (s.spareCore c) i) = s.tgmask (threadMid c k i))
        ∧ t.flag (R.MGT_CORE_STATE c) F.MGT_CORE_STATE_SPARE_USED = true
        ∧ t.fd (R.MGT_CORE_STATE c) F.MGT_CORE_STATE_SUBST = k
        ∧ (s.fd (R.CLU_KEEPER c) F.CLU_KEEPER_CORE = k → t.fd (R.CLU_KEEPER c) F.CLU_KEEPER_CORE = s.spareCore c)
        ∧ t.liveAt (R.MGT_FLT_CNT 7) = s.liveAt (R.MGT_FLT_CNT 7) + 1 ∧ RcvRuns t 4 0)) ∧
  (∀ (s : State) (c : Nat), c < 16 → s.headless = false → s.flag (R.MGT_CORE_STATE c) F.MGT_CORE_STATE_SPARE_USED = true →
    (∀ m ∈ coreMids c (s.fd (R.MGT_CORE_STATE c) F.MGT_CORE_STATE_SUBST), s.genOf m ≠ 0 ∧ (s.thr m).st = 0) →
    Completes (.spareReturn c) s (fun t =>
      t.flag (R.MGT_CORE_STATE c) F.MGT_CORE_STATE_SPARE_USED = false
        ∧ t.spareCore c = s.fd (R.MGT_CORE_STATE c) F.MGT_CORE_STATE_SUBST
        ∧ s.OnlyRegs t [R.MGT_CORE_STATE c] ∧ t = { s with regs := t.regs })) ∧
  (∀ (s : State) (mid : Nat) (gen : BitVec 8) (c : Nat), RcvTakes s mid gen 5 → c = (s.rd R.MGT_RCV_ARG).toNat % 16 →
    s.cluOut c = false →
    Completes (.cluOut mid gen) s (fun t =>
      t.cluOut c = true ∧ (∀ m ∈ cluMasters c, t.genOf m = 0) ∧ (∀ m, m ∉ cluMasters c → t.genOf m = s.genOf m)
        ∧ t.lastGens = s.lastGens ∧ RcvRuns t 5 0)) ∧
  (∀ (s : State) (mid : Nat) (gen : BitVec 8) (c : Nat), RcvTakes s mid gen 6 → c = (s.rd R.MGT_RCV_ARG).toNat % 16 →
    s.cluOut c = true → c ∉ s.rcv.iramBad →
    Completes (.cluReset mid gen) s (fun t =>
      (∀ m ∈ cluMids c, (t.thr m).st = 5) ∧ (∀ a, a < 4 → t.acc c a = {} ∧ t.rd (R.CLU_CPQ_LIVE c a) = 0) ∧ RcvRuns t 6 0)) ∧
  (∀ (s : State) (mid : Nat) (gen : BitVec 8) (c : Nat), RcvTakes s mid gen 7 → c = (s.rd R.MGT_RCV_ARG).toNat % 16 →
    s.cluOut c = true → (∀ m ∈ cluMids c, s.genOf m ≠ 0) →
    Completes (.cluIn mid gen) s (fun t =>
      t.cluOut c = false ∧ s.OnlyRegs t [R.MGT_CLU_OUT, R.MGT_RCV_CMD] ∧ t.gens = s.gens ∧ t.mem = s.mem ∧ RcvRuns t 7 0)) ∧
  (∀ (s : State) (mid : Nat) (gen : BitVec 8) (arg : Nat), RcvTakes s mid gen 8 → arg = (s.rd R.MGT_RCV_ARG).toNat →
    Completes (.flowRebuild mid gen false) s (fun t =>
      (bitAt arg 31 = true → (t.slot (arg % 2 ^ 19)).used = false) ∧
      (bitAt arg 31 = false → t.ods = (s.rebuildLock (arg % 2 ^ 20)).ods) ∧ RcvRuns t 8 0)) ∧
  (∀ (s : State) (mid : Nat) (gen : BitVec 8) (r : Nat) (j : RcvJob), RcvTakes s mid gen 9 → s.recovererOf mid = some r →
    s.openJob r = some j →
    Completes (.recoveryDone mid gen) s (fun t =>
      t.openJob r = (s.jobQueue r).head?.map (fun k => { k with since := s.time.clock })
        ∧ t.jobQueue r = (s.jobQueue r).tail ∧ t.gens = s.gens ∧ t.mem = s.mem ∧ RcvRuns t 9 0)) ∧
  (∀ (s : State) (mid : Nat) (gen : BitVec 8) (r : Nat) (j : RcvJob), RcvTakes s mid gen 0xA → s.recovererOf mid = some r →
    s.openJob r = some j →
    Completes (.recoveryEscalate mid gen) s (fun t =>
      (∀ k, j.escalated = some k → k.recoverer = r → t.openJob r = some { k with since := s.time.clock }) ∧
      (j.escalated = none → t.rcv.chipDue.isSome = true
        ∧ t.openJob r = (s.jobQueue r).head?.map (fun k => { k with since := s.time.clock })) ∧
      t.gens = s.gens ∧ t.mem = s.mem ∧ RcvRuns t 0xA 0)) ∧
  (∀ s : State, s.headless = false → s.flag R.MGT_RCV_CMD F.MGT_RCV_CMD_BUSY = true → s.rcvDone = true →
    Completes .rcvCommandDone s (fun t =>
      t.rd R.MGT_RCV_CMD = s.resOf R.MGT_RCV_CMD ∧ t.rcv = { s.rcv with waits := [] } ∧ s.OnlyRegs t [R.MGT_RCV_CMD] ∧ t.mem = s.mem)) ∧
  (∀ (s : State) (mid : Nat) (gen : BitVec 8), s.Reached mid gen R.MGT_ELOG_CTRL 0x40000000 →
    Completes (.elogPop mid gen) s (fun t =>
      t.rcv = { s.rcv with elog := s.rcv.elog.drop 1 } ∧ t.regs = s.regs ∧ t.mem = s.mem))

/-- R62, R632, R642 to R646, R652: the error log, the rungs' timeouts, the management pair and the chip. -/
def Obligations.FaultWorkCompletes : Prop :=
  (∀ (s : State) (u : Nat) (r : ErrRec) (rest : List ErrRec), s.headless = false → s.inReset = false → s.nextUnit = some u →
    (s.errOf u).q = r :: rest → s.rcv.elog.length < 4096 →
    Completes .recordDelivery s (fun t =>
      t.rcv.elog = s.rcv.elog ++ [{ r with ovf := (s.errOf u).ovf || s.rcv.elogOvf }] ∧ t.rcv.rr = u
        ∧ t.liveAt (R.MGT_FLT_CNT 0) = s.liveAt (R.MGT_FLT_CNT 0) + 1
        ∧ (s.fd R.MGT_BOOT_STATUS F.MGT_BOOT_STATUS_STATE ≠ 1 → (t.errOf u).q = rest ∧ t.regs = s.regs ∧ t.mem = s.mem))) ∧
  (∀ (s : State) (r : Nat) (j : RcvJob), r < 17 → s.headless = false → s.openJob r = some j →
    Completes (.recoveryTimeout r) s (fun t =>
      s.Records t (mkErr 14 0 0x7202 2 0 0 0 0 (rungDetail j j.escalated))
        ∧ t.liveAt (R.MGT_FLT_CNT 4) = s.liveAt (R.MGT_FLT_CNT 4) + 1
        ∧ t.time.clock = max s.time.clock (j.since + max 1 (s.fd R.MGT_FAULT_CFG F.MGT_FAULT_CFG_RCV_TMO) * 250000)
        ∧ t.regs = s.regs ∧ t.mem = s.mem)) ∧
  (∀ s : State, s.inReset = false → s.headless = false →
    Completes .mgtLockstep s (fun t =>
      t.headless = true ∧ t.fd R.BCN_MGT_STATUS F.BCN_MGT_STATUS_CAUSE = 1 ∧ (∀ i, i < 8 → (t.thr (0x800 + i)).st = 0)
        ∧ (∃ ts k, t.bcn.kept = s.bcn.kept ++ [{ bcnRec 0x680A 3 with ts := ts, tskind := k }])
        ∧ t.msix.get (fun _ => false) 7 = true ∧ t.rcv.lostAt = s.time.clock)) ∧
  (∀ s : State, s.inReset = false → s.headless = false → s.flag R.BCN_MGT_WD F.BCN_MGT_WD_EN = true →
    Completes .mgtWdog s (fun t =>
      t.headless = true ∧ t.fd R.BCN_MGT_STATUS F.BCN_MGT_STATUS_CAUSE = 2 ∧ (∀ i, i < 8 → (t.thr (0x800 + i)).st = 0)
        ∧ (∃ ts k, t.bcn.kept = s.bcn.kept ++ [{ bcnRec 0x680B 3 with ts := ts, tskind := k }])
        ∧ t.time.clock = max s.time.clock (s.rcv.kick + max 1 (s.fd R.BCN_MGT_WD F.BCN_MGT_WD_PERIOD) * 250000))) ∧
  (∀ (s : State) (mid : Nat) (gen : BitVec 8) (v : W32), s.Reached mid gen R.BCN_MGT_WD (v ||| 0x40000000) →
    Completes (.watchdogKick mid gen v) s (fun t =>
      t.rcv = { s.rcv with kick := s.time.clock } ∧ t.flag R.BCN_MGT_WD F.BCN_MGT_WD_EN = bitAt v.toNat 31
        ∧ s.OnlyRegs t [R.BCN_MGT_WD] ∧ t.mem = s.mem)) ∧
  (∀ (s : State) (n : Nat), n = s.fd R.BCN_MGT_STATUS F.BCN_MGT_STATUS_ATTEMPTS → s.headless = true → s.rcv.restarting = false →
    s.rcv.noReturn = false → s.inReset = false → n < max 1 (s.fd R.BCN_MGT_WD F.BCN_MGT_WD_RETRIES) →
    Completes .mgtRestart s (fun t =>
      t.rcv = { s.rcv with restarting := true } ∧ t.fd R.BCN_MGT_STATUS F.BCN_MGT_STATUS_ATTEMPTS = n + 1
        ∧ t.time.clock = max s.time.clock (s.rcv.downAt + 250000) ∧ s.OnlyRegs t [R.BCN_MGT_STATUS] ∧ t.mem = s.mem)) ∧
  (∀ (s : State) (ms : Nat), s.headless = true → s.rcv.restarting = true → s.inReset = false →
    ms = min 65535 ((s.time.clock - s.rcv.lostAt) / 250000) →
    Completes .headlessEnd s (fun t =>
      t.headless = false ∧ t.fd R.BCN_MGT_STATUS F.BCN_MGT_STATUS_MS = ms
        ∧ (∀ i, i < 9 → t.genOf (0x800 + i) = s.nextGen (0x800 + i) ∧ t.lastGenOf (0x800 + i) = s.nextGen (0x800 + i))
        ∧ t.bcn.kept = [] ∧ t.rcv.restarting = false ∧ t.rcv.kick = s.time.clock ∧ t.msix.get (fun _ => false) 7 = true
        ∧ s.Records t (mkErr 14 0 0x720A 2 0 0 0 0 (ms + s.fd R.BCN_MGT_STATUS F.BCN_MGT_STATUS_CAUSE * 65536)))) ∧
  (∀ s : State, s.headless = true → s.rcv.noReturn = false → s.inReset = false →
    Completes .mgtNoreturn s (fun t =>
      t.rcv.noReturn = true ∧ t.rcv.restarting = false ∧ bitAt t.bcn.faults 2 = true ∧ t.faultNHigh = false
        ∧ (∃ ts k, t.bcn.kept = s.bcn.kept
            ++ [{ bcnRec 0x680C 4 (s.fd R.BCN_MGT_STATUS F.BCN_MGT_STATUS_ATTEMPTS) with ts := ts, tskind := k }])
        ∧ (s.holdsRole = true → t.pairState = 6) ∧ t.time.clock = max s.time.clock (s.rcv.lostAt + 125000000))) ∧
  (∀ (s : State) (code : Nat), s.mlk.taking = none → s.inReset = false → s.chipCode = some code →
    Completes .chipFault s (fun t =>
      bitAt t.bcn.faults 3 = true ∧ t.faultNHigh = false ∧ (∀ n, n < 144 → t.link n = 0) ∧ t.rcv.chipDue = none
        ∧ t.rcv.chipAt = some s.time.clock ∧ t.chipCode = none
        ∧ (∃ ts k, t.bcn.kept = s.bcn.kept ++ [{ mkErr 14 0 0x720B 4 0 0 0 0 0 code with ts := ts, tskind := k }])
        ∧ t.liveAt (R.MGT_FLT_CNT 9) = s.liveAt (R.MGT_FLT_CNT 9) + 1 ∧ (s.holdsRole = true → t.pairState = 6))) ∧
  (∀ (s : State) (c : Nat), s.rcv.chipAt = some c → s.flag R.MGT_FAULT_CFG F.MGT_FAULT_CFG_AUTO_RESTART = true →
    s.inReset = false →
    Completes .autoRestart s (fun t =>
      t.boot.t0 = max s.time.clock (c + 2500000) ∧ t.bootStep = 0 ∧ t.threads = [] ∧ t.gens = [] ∧ t.bcn.faults = 0
        ∧ (∀ a, a < 2 ^ 44 → t.byte .dram a = 0 ∧ t.byte .flash a = s.byte .flash a)))

/-- R659 to R663, R687, R703: the accesses of the host path. -/
def Obligations.HostAccessesComplete : Prop :=
  (∀ (s u : State) (off : Nat) (v : W32), s.hifOn = true → s.hostUp = true → off % 4 = 0 → off < 2 ^ 24 →
    s.semWaits hostMid off = false → s.routeRead off hostMid s.hostGen = (u, .value v) →
    Completes (.hostRead 0 off 4 15) s (fun t =>
      t.hif.last = some (.data (toLe 4 v.toNat)) ∧ (∀ r ∈ t.hif.reads, r.bar = 0 → r.off ≠ off) ∧ t = { u with hif := t.hif })) ∧
  (∀ (s : State) (off v len : Nat) (q w : Nat), s.hifOn = true → s.hostUp = true → q < 1792 → w < 7 → off = 0x10000 + q * 0x40 + 4 * w →
    len = 4 → v = (s.qw q w).toNat →
    Completes (.hostRead 2 off len 15) s (fun t =>
      t.hif.last = some (.data (toLe 4 v)) ∧ t = { s with hif := t.hif })) ∧
  (∀ (s : State) (off : Nat) (bs : List Byte) (v : W32) (c : Card), s.hifOn = true → s.hostUp = true → off ∈ plainRegs →
    cardAt off = some c → bs.length = 4 → v = BitVec.ofNat 32 (leNat bs) → s.Reached hostMid s.hostGen off v →
    Completes (.hostWrite 0 off 15 bs false) s (fun t =>
      t.rd off = (s.rd off &&& ~~~BitVec.ofNat 32 c.rw &&& ~~~(v &&& BitVec.ofNat 32 c.w1c)) ||| (v &&& BitVec.ofNat 32 c.rw)
        ∧ s.OnlyRegs t [off, R.GLB_MODE_NOTE] ∧ t.mem = s.mem)) ∧
  (∀ (s : State) (off be : Nat) (bs : List Byte), s.hifOn = true → s.hostUp = true →
    Completes (.hostWrite 7 off be bs false) s (fun t =>
      t.hif = { s.hif with msixEn := bitAt (leNat bs) 15, msixMask := bitAt (leNat bs) 14 } ∧ t = { s with hif := t.hif })) ∧
  (∀ (s : State) (r : HostRd) (rs : List HostRd), s.hifOn = true → s.hif.reads = r :: rs →
    Completes (.hostRdTmo false) s (fun t =>
      t.hif = { s.hif with reads := rs, last := some .abort } ∧ t.liveAt (R.HIF_CNT 4) = s.liveAt (R.HIF_CNT 4) + 1
        ∧ s.Records t (hifRec 0 0x7802 2 3 r.off hostMid s.rdTmo)
        ∧ t.time.clock = max s.time.clock (r.since + s.rdTmo * 250) ∧ t.regs = s.regs ∧ t.mem = s.mem)) ∧
  (∀ (s : State) (off since : Nat), s.hifOn = true → s.low.spitBusy = some (off, since) →
    Completes (.hostRdTmo true) s (fun t =>
      t.low.spitBusy = none ∧ t.low.spit.status = 4 ∧ t.low.spit.seq = s.low.spit.seq
        ∧ s.Records t (hifRec 3 0x7802 2 3 off 0xA90 s.rdTmo) ∧ t.regs = s.regs ∧ t.mem = s.mem)) ∧
  (∀ (s u : State) (off len be base : Nat) (bs : List Byte), s.hifOn = true → s.hostUp = true → s.bar4At = some (.dram base) →
    0 < len → len ≤ 512 → off + len ≤ 2 ^ 24 → base + off + len ≤ s.dramSize →
    s.hostGet 0 0 (lineParts (base + off) len) = (u, .bytes bs) →
    Completes (.bar4Access off len be none 0 0 false) s (fun t =>
      t.hif.last = some (.data bs) ∧ t = { u with hif := t.hif })) ∧
  (∀ (s : State) (off be c : Nat) (bs : List Byte), s.hifOn = true → s.hostUp = true → s.bar4At = some (.spad c) → bs ≠ [] →
    bs.length ≤ 512 → off + bs.length ≤ 0x80000 →
    Completes (.bar4Access off 0 be (some bs) 0 0 false) s (fun t =>
      t.mem = (s.setBytes (spadOf c) off bs).mem ∧ t.regs = s.regs ∧ t.err = s.err)) ∧
  (∀ (s u : State) (off : Nat) (v : W32), s.debugOpen = true → s.hifOn = true → off % 4 = 0 → off < 2 ^ 24 →
    (s.jtagBypass 0x10).routeRead off hostMid s.hostGen = (u, .value v) →
    Completes (.jtagDbgReg off none) s (fun t => t.low.tdo = v ∧ t.low.ir = 0x10 ∧ t = { u with low := t.low })) ∧
  (∀ (s : State) (off c : Nat) (v : W32), s.hifOn = true → s.bar4At = some (.spad c) → off % 4 = 0 → off + 4 ≤ 0x80000 →
    Completes (.jtagDbgMem off (some v) 0 0 false) s (fun t =>
      t.mem = (s.setBytes (spadOf c) off (toLe 4 v.toNat)).mem ∧ t.low.ir = 0x11 ∧ t.regs = s.regs))

/-- R662, R664 to R675: the host link, MSI-X, the driver queues and the root complex. -/
def Obligations.HostInterfaceCompletes : Prop :=
  (∀ (s : State) (cause : Nat), s.inReset = false →
    Completes (.hostReset cause) s (fun t =>
      t.hif = { s.hif with reads := [], queues := [], msixEn := false, msixMask := false } ∧ (0xA60, 0) ∈ t.abandons
        ∧ t.fd R.HIF_PCIE_STATUS F.HIF_PCIE_STATUS_RESETS = min 65535 (s.fd R.HIF_PCIE_STATUS F.HIF_PCIE_STATUS_RESETS + 1)
        ∧ (cause % 4 ≠ 3 → t.hostUp = false) ∧ (cause % 4 = 0 → t.boot.perst = false)
        ∧ s.OnlyRegs t [R.HIF_PCIE_STATUS, R.HIF_INT] ∧ t.mem = s.mem)) ∧
  (∀ (s : State) (width speed : Nat), s.hifOn = true → s.boot.perst = true →
    3 ≤ s.fd R.MGT_BOOT_STATUS F.MGT_BOOT_STATUS_STEP →
    Completes (.hostLinkUp width speed) s (fun t =>
      t.hostUp = true ∧ t.fd R.HIF_PCIE_STATUS F.HIF_PCIE_STATUS_WIDTH = width % 16
        ∧ t.fd R.HIF_PCIE_STATUS F.HIF_PCIE_STATUS_SPEED = speed % 8 ∧ t.bcn = { s.bcn with wakeN := false }
        ∧ s.OnlyRegs t [R.HIF_PCIE_STATUS] ∧ t.mem = s.mem)) ∧
  (∀ (s : State) (v : Nat), v < 2048 → ¬ (240 ≤ v ∧ v < 256) → s.hifOn = true → s.msix.get (fun _ => false) v = true →
    s.hif.msixEn = true →
    Completes (.msixSend v) s (fun t =>
      t.msix.get (fun _ => false) v = false ∧
      (s.msixOpen v = true → t.hif.sent.get (fun _ => 0) v = s.hif.sent.get (fun _ => 0) v + 1
        ∧ t.hif.pba.get (fun _ => false) v = false) ∧
      (s.msixOpen v = false → t.hif.sent = s.hif.sent ∧ t.hif.pba.get (fun _ => false) v = true) ∧
      t.regs = s.regs ∧ t.mem = s.mem)) ∧
  (∀ (s : State) (mid : Nat) (gen : BitVec 8), s.Reached mid gen R.HIF_KEEPER_BELL 0 → midIsThread mid = true →
    mid = s.keeperMid (midCluster mid) →
    Completes (.keeperBell mid gen) s (fun t =>
      t.msix.get (fun _ => false) (192 + midCluster mid) = true ∧ t.regs = s.regs ∧ t.mem = s.mem)) ∧
  (∀ (s : State) (q : Nat) (v w : W32), q < 1792 → s.hifOn = true → s.hostUp = true → s.qOn q = false →
    w = (v ||| 0x80000000) &&& 0xB00F8FFF → bitsOf w.toNat 28 2 ≠ 0 → 6 ≤ bitsOf w.toNat 16 4 → bitsOf w.toNat 16 4 ≤ 12 →
    (2 ≤ bitsOf w.toNat 28 2 → midIsThread (bitsOf w.toNat 0 12) = true
      ∧ s.qSpad q + 64 + 64 * 2 ^ bitsOf w.toNat 16 4 ≤ 0x80000) →
    Completes (.queueEnable q v) s (fun t =>
      t.qw q 2 = w ∧ t.qw q 6 = 0 ∧ t.qOn q = true ∧ t = { s with hif := t.hif })) ∧
  (∀ (s : State) (q : Nat) (v : W32), q < 1792 → s.hifOn = true → s.hostUp = true → s.qKind q ≠ 3 →
    Completes (.queueDoorbell q false v) s (fun t => t.qTail q = v.toNat % 65536 ∧ t = { s with hif := t.hif })) ∧
  (∀ (s : State) (q : Nat) (v : W32), q < 1792 → s.hifOn = true → s.hostUp = true → s.qKind q = 3 →
    Completes (.queueDoorbell q true v) s (fun t => t.qHead q = v.toNat % 65536)) ∧
  (∀ (s : State) (e : RelEnt) (rest : List RelEnt) (q buf size : Nat), s.relList 145 = e :: rest → s.hifOn = true →
    q = s.fd R.HIF_RX_MAP F.HIF_RX_MAP_BASE + e.tok.flow.toNat % 2 ^ s.fd R.HIF_RX_MAP F.HIF_RX_MAP_LOG → q < 1792 →
    s.qOn q = true → s.qKind q = 1 → s.qHead q ≠ s.qTail q →
    Completes (.rxDeliver buf size) s (fun t =>
      t.relList 145 = rest ∧ t.qHead q = (s.qHead q + 1) % 65536 ∧ t.liveAt (R.HIF_CNT 0) = s.liveAt (R.HIF_CNT 0) + 1
        ∧ (s.qIrq q = true → t.msix.get (fun _ => false) (256 + q) = true))) ∧
  (∀ (s : State) (q c a size head tail n : Nat) (data : List Byte), q < 1792 → s.hifOn = true → s.qOn q = true → s.qKind q = 2 →
    c = midCluster (s.qMid q) → a = s.qSpad q → size = 2 ^ s.qLog q → head = s.ldN (spadOf c) a 8 % 65536 →
    tail = s.ldN (spadOf c) (a + 8) 8 % 65536 →
    n = min (min (idxGap (s.qHead q) (s.qTail q)) (data.length / 64)) (size - min size (idxGap head tail)) → n ≠ 0 →
    Completes (.h2dCopy q data) s (fun t =>
      t.qHead q = (s.qHead q + n) % 65536 ∧ t.ldN (spadOf c) (a + 8) 8 = (tail + n) % 65536
        ∧ bitAt (t.pendEv (s.qMid q)).toNat 12 = true
        ∧ t.liveAt (R.HIF_CNT 2) = s.liveAt (R.HIF_CNT 2) + BitVec.ofNat 64 n ∧ t.regs = s.regs)) ∧
  (∀ (s : State) (mid : Nat) (gen : BitVec 8) (q c a size head tail n : Nat),
    s.Reached mid gen R.HIF_D2H_BELL (BitVec.ofNat 32 q) → q < 1792 → s.qMid q = mid → s.qOn q = true → s.qKind q = 3 →
    c = midCluster mid → a = s.qSpad q → size = 2 ^ s.qLog q → head = s.ldN (spadOf c) a 8 % 65536 →
    tail = s.ldN (spadOf c) (a + 8) 8 % 65536 →
    n = min (min (idxGap head tail) size) (size - min size (idxGap (s.qHead q) (s.qTail q))) → n ≠ 0 →
    Completes (.d2hBell mid gen q) s (fun t =>
      t.qTail q = (s.qTail q + n) % 65536 ∧ t.ldN (spadOf c) a 8 = (head + n) % 65536
        ∧ t.liveAt (R.HIF_CNT 3) = s.liveAt (R.HIF_CNT 3) + BitVec.ofNat 64 n ∧ t.regs = s.regs)) ∧
  (∀ (s : State) (q reason : Nat), q < 1792 → s.qOn q = true → s.hifOn = true →
    Completes (.queueDmaError q reason) s (fun t =>
      t.qOn q = false ∧ t.qw q 6 = BitVec.ofNat 32 (2 ^ 31 + reason) ∧ bitAt (t.rd R.HIF_INT).toNat 6 = true
        ∧ t.msix.get (fun _ => false) (256 + q) = true ∧ s.Records t (hifRec 0 0x7806 2 0 0 0 (q + reason % 16 * 4096))
        ∧ s.OnlyRegs t [R.HIF_INT] ∧ t.mem = s.mem)) ∧
  (∀ (s u : State) (mid : Nat) (gen : BitVec 8) (v : W32), s.takePair R.HIF_RC_CFG mid gen v = some u → v.toNat % 4 ≠ 3 →
    s.fd R.HIF_RC_CTRL F.HIF_RC_CTRL_EN = 0 →
    Completes (.rcCfgPair mid gen v) s (fun t =>
      t.rd R.HIF_RC_CFG = BitVec.ofNat 32 (v.toNat % 4) ∧ s.OnlyRegs t [R.HIF_RC_CFG] ∧ t.err = s.err ∧ t.mem = s.mem)) ∧
  (∀ (s : State) (mid : Nat) (gen : BitVec 8) (p : Nat), p < 4 → p < s.rootPorts →
    s.Reached mid gen R.HIF_RC_CTRL (s.rd R.HIF_RC_CTRL ||| BitVec.ofNat 32 (2 ^ p)) →
    bitAt (s.rd R.HIF_RC_CTRL).toNat p = false →
    Completes (.rootPortBringup mid gen p) s (fun t =>
      t.rcState p = 1 ∧ bitAt (t.rd R.HIF_RC_CTRL).toNat p = true ∧ bitAt (t.rd R.HIF_INT).toNat 5 = true
        ∧ s.OnlyRegs t [R.HIF_RC_CTRL, R.HIF_RC_STATUS p, R.HIF_INT] ∧ t.mem = s.mem)) ∧
  (∀ (s : State) (p width speed ns : Nat), p < 4 → s.hifOn = true → (s.rcState p = 1 ∨ s.rcState p = 2) →
    Completes (.rootPortReady p 0 width speed ns) s (fun t =>
      t.rcState p = 3 ∧ t.fd (R.HIF_RC_STATUS p) F.HIF_RC_STATUS_WIDTH = width % 16
        ∧ t.fd (R.HIF_RC_STATUS p) F.HIF_RC_STATUS_SPEED = speed % 8
        ∧ t.fd (R.HIF_RC_STATUS p) F.HIF_RC_STATUS_NSCOUNT = ns % 65536
        ∧ s.OnlyRegs t [R.HIF_RC_STATUS p, R.HIF_INT] ∧ t.err = s.err ∧ t.mem = s.mem)) ∧
  (∀ (s : State) (p step width speed ns : Nat), p < 4 → s.hifOn = true → (s.rcState p = 1 ∨ s.rcState p = 2) → step ≠ 0 →
    Completes (.rootPortReady p step width speed ns) s (fun t =>
      t.rcState p = 4 ∧ s.Records t (hifRec 1 0x7808 2 0 0 0 (p + step % 16 * 16))
        ∧ s.OnlyRegs t [R.HIF_RC_STATUS p, R.HIF_INT] ∧ t.mem = s.mem)) ∧
  (∀ (s : State) (p addr : Nat) (bs : List Byte), p < 4 → s.hifOn = true → addr + bs.length ≤ s.dramSize →
    Completes (.rcInbound p addr false (some bs)) s (fun t =>
      t.mem = (s.setBytes .dram addr bs).mem ∧ t = { s with mem := t.mem })) ∧
  (∀ (s : State) (p addr : Nat) (bs : List Byte), p < 4 → s.hifOn = true → s.dramSize < addr + bs.length →
    Completes (.rcInbound p addr false (some bs)) s (fun t =>
      s.Records t (hifRec 1 0x7809 2 1 addr 0 p) ∧ t.mem = s.mem ∧ t.regs = s.regs)) ∧
  (∀ (s : State) (p : Nat) (timeout : Bool), p < 4 → s.rcState p = 3 → s.hifOn = true →
    Completes (.rootPortDown p timeout) s (fun t =>
      t.rcState p = 0 ∧ bitAt (t.rd R.HIF_INT).toNat 5 = true
        ∧ UnitRecords s t (hifRec 1 0x780A 2 0 0 0 (p + (if timeout then 16 else 0)))
        ∧ (∀ n, n < 64 → s.fd (R.REC_NS n) F.REC_NS_PORT = p → s.nsState n = 1 → t.nsState n = 2)))

/-- HIF takes an operation of the flash controller (R677): the write reaches HIF, which runs none, from a master that may, after
boot step 3, with arguments that hold. -/
def SpifTakes (s : State) (mid : Nat) (gen : BitVec 8) (op len : Nat) : Prop :=
  s.Reached mid gen R.HIF_SPIF_CMD (BitVec.ofNat 32 (len % 512 * 256 + op)) ∧ s.flag R.HIF_SPIF_CMD F.HIF_SPIF_CMD_BUSY = false
    ∧ (isHostPath mid = true ∨ (0x800 ≤ mid ∧ mid ≤ 0x808)) ∧ s.spifBoot = false
    ∧ s.spifArgs op (len % 512) (s.fd R.HIF_SPIF_ADDR F.HIF_SPIF_ADDR_ADDR) = true

/-- The operation runs, and nothing else changes. -/
def SpifRuns (s t : State) (op len : Nat) : Prop :=
  t.low = { s.low with spifOp := some (op, s.fd R.HIF_SPIF_ADDR F.HIF_SPIF_ADDR_ADDR, len % 512) }
    ∧ t.rd R.HIF_SPIF_CMD = BitVec.ofNat 32 (2 ^ 31 + len % 512 * 256 + op) ∧ s.OnlyRegs t [R.HIF_SPIF_CMD] ∧ t.mem = s.mem

/-- A write of a frame to HIF_MDIO_CMD starts it (R685). -/
def MdioTakes (s : State) (mid : Nat) (gen : BitVec 8) (m op phy reg data : Nat) : Prop :=
  m < 2 ∧ s.Reached mid gen (R.HIF_MDIO_CMD m)
      (BitVec.ofNat 32 (op * 2 ^ 28 + phy % 32 * 2 ^ 21 + reg % 32 * 2 ^ 16 + data % 65536))
    ∧ s.flag (R.HIF_MDIO_CMD m) F.HIF_MDIO_CMD_BUSY = false

/-- The frame runs, and nothing else changes. -/
def MdioRuns (s t : State) (m op phy reg data : Nat) : Prop :=
  t.flag (R.HIF_MDIO_CMD m) F.HIF_MDIO_CMD_BUSY = true ∧ t.fd (R.HIF_MDIO_CMD m) F.HIF_MDIO_CMD_OP = op
    ∧ t.fd (R.HIF_MDIO_CMD m) F.HIF_MDIO_CMD_PHYAD = phy % 32 ∧ t.fd (R.HIF_MDIO_CMD m) F.HIF_MDIO_CMD_REG = reg % 32
    ∧ t.fd (R.HIF_MDIO_CMD m) F.HIF_MDIO_CMD_DATA = data % 65536 ∧ s.OnlyRegs t [R.HIF_MDIO_CMD m] ∧ t.mem = s.mem

/-- R676 to R681, R703: the boot flash and the SPI target. -/
def Obligations.SpiCommandsComplete : Prop :=
  (∀ (s : State) (mid : Nat) (gen : BitVec 8) (len : Nat), SpifTakes s mid gen 1 len →
    Completes (.spifRead mid gen len) s (fun t => SpifRuns s t 1 len)) ∧
  (∀ (s : State) (mid : Nat) (gen : BitVec 8) (len : Nat), SpifTakes s mid gen 2 len →
    Completes (.spifProgram mid gen len) s (fun t => SpifRuns s t 2 len)) ∧
  (∀ (s : State) (mid : Nat) (gen : BitVec 8), SpifTakes s mid gen 3 0 →
    Completes (.spifErase4k mid gen) s (fun t => SpifRuns s t 3 0)) ∧
  (∀ (s : State) (mid : Nat) (gen : BitVec 8), SpifTakes s mid gen 4 0 →
    Completes (.spifErase64k mid gen) s (fun t => SpifRuns s t 4 0)) ∧
  (∀ (s : State) (mid : Nat) (gen : BitVec 8), SpifTakes s mid gen 5 0 →
    Completes (.spifReadSr mid gen) s (fun t => SpifRuns s t 5 0)) ∧
  (∀ (s : State) (op addr len : Nat), s.low.spifOp = some (op, addr, len) → s.hifOn = true →
    Completes (.spifDone false) s (fun t =>
      t.low = { s.low with spifOp := none } ∧ t.rd R.HIF_SPIF_CMD = BitVec.ofNat 32 (len * 256 + op)
        ∧ bitAt (t.rd R.HIF_INT).toNat 0 = true ∧
        (op = 1 → t.mem = s.mem ∧ ∀ i, 4 * i + 4 ≤ len → i < 64 →
          t.rd (R.HIF_SPIF_BUF i) = BitVec.ofNat 32 (s.ldN .flash (addr + 4 * i) 4)) ∧
        (op = 2 → t.mem = (s.setBytes .flash addr (((s.bytes .flash addr len).zip (s.spifBuf len)).map (fun p => p.1 &&& p.2))).mem) ∧
        (op = 3 → t.mem = (s.setBytes .flash (addr / 4096 * 4096) (List.replicate 4096 0xFF)).mem) ∧
        (op = 4 → t.mem = (s.setBytes .flash (addr / 65536 * 65536) (List.replicate 65536 0xFF)).mem) ∧ t.err = s.err)) ∧
  (∀ (s u : State) (off seq : Nat) (v : W32), s.hifOn = true → s.low.spitBusy = none → s.low.spitHeld = none → off < 2 ^ 24 →
    s.spitFrame.routeRead off 0xA90 (s.genOf 0xA90) = (u, .value v) →
    Completes (.spitRead off seq) s (fun t =>
      t.low.spit = { status := 0, seq := seq % 256, data := v } ∧ t = { u with low := t.low })) ∧
  (∀ (s : State) (off seq : Nat) (v : W32) (c : Card), s.hifOn = true → s.low.spitBusy = none → s.low.spitHeld = none →
    off ∈ plainRegs → cardAt off = some c → s.boot.released = true → s.Reached 0xA90 (s.genOf 0xA90) off v →
    Completes (.spitWrite off v seq false) s (fun t =>
      t.rd off = (s.rd off &&& ~~~BitVec.ofNat 32 c.rw &&& ~~~(v &&& BitVec.ofNat 32 c.w1c)) ||| (v &&& BitVec.ofNat 32 c.rw)
        ∧ t.low.spit = { status := 0, seq := seq % 256 } ∧ s.OnlyRegs t [off, R.GLB_MODE_NOTE] ∧ t.mem = s.mem)) ∧
  (∀ (s : State) (off seq : Nat) (v : W32), s.hifOn = true → s.low.spitBusy = none → s.low.spitHeld = none → off < 2 ^ 24 →
    isFirst off = true →
    Completes (.spitWrite off v seq false) s (fun t =>
      t.low.spitHeld = some (off, v, seq % 256) ∧ t.guards = s.guards ∧ t.regs = s.regs ∧ t.mem = s.mem)) ∧
  (∀ (s : State) (seq : Nat), s.hifOn = true → s.low.spitBusy = none → s.low.spitHeld = none →
    Completes (.spitNop seq) s (fun t =>
      t.low.spitMiso = s.low.spit ∧ t.liveAt (R.HIF_CNT 5) = s.liveAt (R.HIF_CNT 5) + 1 ∧ t.regs = s.regs ∧ t.mem = s.mem)) ∧
  (∀ (s : State) (kind edges : Nat), s.hifOn = true → kind < 4 →
    Completes (.spitFrameFault kind edges) s (fun t =>
      bitAt (t.rd R.HIF_SPIT_ERR).toNat kind = true ∧ t.liveAt (R.HIF_CNT 6) = s.liveAt (R.HIF_CNT 6) + 1
        ∧ s.OnlyRegs t [R.HIF_SPIT_ERR, R.HIF_INT] ∧ t.mem = s.mem)) ∧
  (∀ (s : State) (edges : Nat), s.hifOn = true →
    Completes (.spitFrameFault 5 edges) s (fun t =>
      t.liveAt (R.HIF_CNT 7) = s.liveAt (R.HIF_CNT 7) + BitVec.ofNat 64 edges ∧ t = { s with live := t.live }))

/-- R682 to R687: I2C, MDIO, GPIO and JTAG. -/
def Obligations.LowSpeedCommandsComplete : Prop :=
  (∀ (s : State) (mid : Nat) (gen : BitVec 8) (i : Nat) (v : W32), i < 4 → s.Reached mid gen (R.HIF_I2C_CMD i) v →
    s.flag (R.HIF_I2C_CMD i) F.HIF_I2C_CMD_BUSY = false → (s.i2c i).stuck = false →
    Completes (.i2cTransfer mid gen i v) s (fun t =>
      t.flag (R.HIF_I2C_CMD i) F.HIF_I2C_CMD_BUSY = true ∧ t.fd (R.HIF_I2C_CMD i) F.HIF_I2C_CMD_ADDR = v.toNat % 128
        ∧ t.fd (R.HIF_I2C_CMD i) F.HIF_I2C_CMD_NBYTES = bitsOf v.toNat 8 6 ∧ s.OnlyRegs t [R.HIF_I2C_CMD i] ∧ t.low = s.low
        ∧ t.mem = s.mem)) ∧
  (∀ (s : State) (i n lines : Nat) (data : List Byte), i < 4 → s.hifOn = true →
    s.flag (R.HIF_I2C_CMD i) F.HIF_I2C_CMD_BUSY = true → n = s.fd (R.HIF_I2C_CMD i) F.HIF_I2C_CMD_NBYTES →
    Completes (.i2cTransferDone i 0 0 lines data) s (fun t =>
      t.flag (R.HIF_I2C_CMD i) F.HIF_I2C_CMD_BUSY = false ∧ t.rd (R.HIF_I2C_STATUS i) = BitVec.ofNat 32 (lines % 4)
        ∧ (t.i2c i).fifo = (if s.flag (R.HIF_I2C_CMD i) F.HIF_I2C_CMD_RD then ((s.i2c i).fifo ++ data.take n).take 32
            else (s.i2c i).fifo.drop n)
        ∧ bitAt (t.rd R.HIF_INT).toNat 2 = true ∧ t.err = s.err ∧ t.mem = s.mem)) ∧
  (∀ (s : State) (i : Nat) (pulses : Option Nat), i < 4 → s.hifOn = true → s.flag (R.HIF_I2C_CMD i) F.HIF_I2C_CMD_BUSY = true →
    Completes (.i2cStretchTimeout i pulses) s (fun t =>
      t.flag (R.HIF_I2C_CMD i) F.HIF_I2C_CMD_BUSY = false ∧
      (pulses = some 0 → t.fd (R.HIF_I2C_STATUS i) F.HIF_I2C_STATUS_RESULT = 3 ∧ t.err = s.err) ∧
      (∀ k, pulses = some (k + 1) → t.fd (R.HIF_I2C_STATUS i) F.HIF_I2C_STATUS_RESULT = 5 ∧ (t.i2c i).stuck = false ∧ t.err = s.err) ∧
      (pulses = none → t.fd (R.HIF_I2C_STATUS i) F.HIF_I2C_STATUS_RESULT = 4 ∧ (t.i2c i).stuck = true
        ∧ s.Records t (hifRec (4 + i) 0x780C 2 0 0 0 (s.fd (R.HIF_I2C_CMD i) F.HIF_I2C_CMD_ADDR))) ∧
      t.time.clock = s.time.clock + max 1 (s.fd (R.HIF_I2C_CFG i) F.HIF_I2C_CFG_STRETCH_TMO) * 250000 ∧ t.mem = s.mem)) ∧
  (∀ (s : State) (mid : Nat) (gen : BitVec 8) (i : Nat) (v : W32) (pulses : Option Nat), i < 4 →
    s.Reached mid gen (R.HIF_I2C_CFG i) (v ||| 0x80000000) → s.flag (R.HIF_I2C_CMD i) F.HIF_I2C_CMD_BUSY = false →
    (s.i2c i).stuck = false →
    Completes (.i2cReset mid gen i v pulses) s (fun t =>
      (t.i2c i).fifo = [] ∧ (t.i2c i).stuck = false ∧ s.OnlyRegs t [R.HIF_I2C_CFG i] ∧ t.mem = s.mem)) ∧
  (∀ (s : State) (mid : Nat) (gen : BitVec 8) (i : Nat) (v : W32) (k : Nat), i < 4 →
    s.Reached mid gen (R.HIF_I2C_CFG i) (v &&& 0x7FFFFFFF ||| 0x40000000) →
    Completes (.i2cRecover mid gen i v (some k)) s (fun t =>
      t.fd (R.HIF_I2C_STATUS i) F.HIF_I2C_STATUS_RESULT = 5 ∧ (t.i2c i).stuck = false ∧ (t.i2c i).fifo = (s.i2c i).fifo
        ∧ t.liveAt (R.HIF_CNT 8) = s.liveAt (R.HIF_CNT 8) + 1 ∧ t.mem = s.mem)) ∧
  (∀ (s : State) (mid : Nat) (gen : BitVec 8) (m phy reg data : Nat), MdioTakes s mid gen m 1 phy reg data →
    Completes (.mdioC22Write mid gen m phy reg data) s (fun t => MdioRuns s t m 1 phy reg data)) ∧
  (∀ (s : State) (mid : Nat) (gen : BitVec 8) (m phy reg : Nat), MdioTakes s mid gen m 2 phy reg 0 →
    Completes (.mdioC22Read mid gen m phy reg) s (fun t => MdioRuns s t m 2 phy reg 0)) ∧
  (∀ (s : State) (mid : Nat) (gen : BitVec 8) (m phy reg data : Nat), MdioTakes s mid gen m 3 phy reg data →
    Completes (.mdioC45Addr mid gen m phy reg data) s (fun t => MdioRuns s t m 3 phy reg data)) ∧
  (∀ (s : State) (mid : Nat) (gen : BitVec 8) (m phy reg data : Nat), MdioTakes s mid gen m 4 phy reg data →
    Completes (.mdioC45Write mid gen m phy reg data) s (fun t => MdioRuns s t m 4 phy reg data)) ∧
  (∀ (s : State) (mid : Nat) (gen : BitVec 8) (m phy reg : Nat), MdioTakes s mid gen m 5 phy reg 0 →
    Completes (.mdioC45Read mid gen m phy reg) s (fun t => MdioRuns s t m 5 phy reg 0)) ∧
  (∀ (s : State) (mid : Nat) (gen : BitVec 8) (m phy reg : Nat), MdioTakes s mid gen m 6 phy reg 0 →
    Completes (.mdioC45ReadInc mid gen m phy reg) s (fun t => MdioRuns s t m 6 phy reg 0)) ∧
  (∀ (s : State) (m data op : Nat), m < 2 → s.hifOn = true → s.flag (R.HIF_MDIO_CMD m) F.HIF_MDIO_CMD_BUSY = true →
    op = s.fd (R.HIF_MDIO_CMD m) F.HIF_MDIO_CMD_OP →
    Completes (.mdioDone m data) s (fun t =>
      t.flag (R.HIF_MDIO_CMD m) F.HIF_MDIO_CMD_BUSY = false
        ∧ t.fd (R.HIF_MDIO_CMD m) F.HIF_MDIO_CMD_DATA = (if op = 2 ∨ op = 5 ∨ op = 6 then data % 65536
            else s.fd (R.HIF_MDIO_CMD m) F.HIF_MDIO_CMD_DATA)
        ∧ bitAt (t.rd R.HIF_INT).toNat 3 = true ∧ s.OnlyRegs t [R.HIF_MDIO_CMD m, R.HIF_INT] ∧ t.mem = s.mem)) ∧
  (∀ (s : State) (p : Nat) (level : Bool), p < 32 → s.hifOn = true → bitAt (s.rd R.HIF_GPIO_IN).toNat p ≠ level →
    Completes (.gpioEdge p level) s (fun t =>
      bitAt (t.rd R.HIF_GPIO_IN).toNat p = level
        ∧ (bitAt (s.fd (R.HIF_GPIO_CFG p) F.HIF_GPIO_CFG_INT) (if level then 0 else 1) = true →
            bitAt (t.rd R.HIF_GPIO_INT).toNat p = true
              ∧ (bitAt (s.rd R.HIF_GPIO_INT_EN).toNat p = true → bitAt (t.rd R.HIF_INT).toNat 4 = true))
        ∧ s.OnlyRegs t [R.HIF_GPIO_IN, R.HIF_GPIO_INT, R.HIF_INT] ∧ t.mem = s.mem)) ∧
  (∀ (s : State) (bits : List Bool),
    Completes .jtagExtest s (fun t => t = { s with low := { s.low with ir := 0x00, pinsHeld := true, pinsOff := false } }) ∧
    Completes (.jtagSamplePreload bits) s (fun t => t = { s with low := { s.low with ir := 0x01, bsr := bits } }) ∧
    Completes .jtagClamp s (fun t => t = { s with low := { s.low with ir := 0x02, pinsHeld := true, pinsOff := false } }) ∧
    Completes .jtagHighz s (fun t => t = { s with low := { s.low with ir := 0x03, pinsHeld := false, pinsOff := true } }) ∧
    Completes .jtagIdcode s (fun t => t.low.tdo = 0x1714494B ∧ t.low.ir = 0xFE ∧ t = { s with low := t.low }) ∧
    Completes .jtagBypass s (fun t => t.low.ir = 0xFF ∧ t.low.tdo = s.low.tdo ∧ t = { s with low := t.low }))

/-- R548 to R551, R555, R559, R566, R728, R730: start-up up to the accepted image. -/
def Obligations.StartUpStepsComplete : Prop :=
  (∀ s : State, Completes .perstNRise s (fun t => t = { s with boot := { s.boot with perst := true } })) ∧
  (∀ s : State, s.booting = true → s.bootStep = 0 → Completes .beaconUp s (fun t =>
      t.bootStep = 1 ∧ t.boot = { s.boot with stepAt := s.time.clock } ∧ s.OnlyRegs t [R.MGT_BOOT_STATUS] ∧ t.mem = s.mem)) ∧
  (∀ s : State, s.booting = true → s.bootStep = 1 →
    Completes (.fuseSense true) s (fun t =>
      t.bootStep = 2 ∧ t.fd R.MGT_BOOT_STATUS F.MGT_BOOT_STATUS_LC = s.fuse.lc % 8 ∧ t.rd64 (R.MGT_SERIAL 0) = s.fuse.serial
        ∧ t.rd R.MGT_FUSE_SVN = BitVec.ofNat 32 s.fuse.svn ∧ t.fuse = s.fuse ∧ t.mem = s.mem) ∧
    Completes (.fuseSense false) s (fun t => t.bootState = 3 ∧ s.OnlyRegs t [R.MGT_BOOT_STATUS] ∧ t.mem = s.mem)) ∧
  (∀ s : State, s.booting = true → s.bootStep = 2 → Completes .bootRomEntry s (fun t =>
      t.bootStep = 3 ∧ t.bootState = (if s.fuse.lc = 0 then 4 else 0) ∧ (∀ a, a < 2 ^ 44 → t.byte .packet a = 0)
        ∧ t.bytes .vault 0 s.fuse.page0.length = s.fuse.page0 ∧ bitAt (t.rd (R.MGT_VAULT_HIDE 0)).toNat 0 = true)) ∧
  (∀ (s : State) (erase : Nat), s.booting = true → s.bootStep = 3 → s.flag R.ECS_STATUS F.ECS_STATUS_SRAM_DONE = true →
    Completes (.imageRead 0 erase) s (fun t =>
      t.bootState = 2 ∧ t.fd R.MGT_BOOT_STATUS F.MGT_BOOT_STATUS_REASON = 0x7009
        ∧ t.fd R.MGT_BOOT_STATUS F.MGT_BOOT_STATUS_SLOT = 0 ∧ bitAt t.bcn.faults 1 = true ∧ t.mem = s.mem)) ∧
  (∀ (s u w : State) (size erase k : Nat) (ks : List Nat), s.booting = true → s.bootStep = 3 →
    s.flag R.ECS_STATUS F.ECS_STATUS_SRAM_DONE = true → size ≠ 0 →
    u = ({ s with low := { s.low with flashSize := size, flashErase := erase % 4 } } : State).headersRead →
    u.slotsValid = k :: ks → w = u.wf R.MGT_BOOT_STATUS F.MGT_BOOT_STATUS_SLOT k →
    w.imageBad (u.slotBase k) w.freeWord.toNat = none →
    Completes (.imageRead size erase) s (fun t =>
      t.bootStep = 4 ∧ t.fd R.MGT_BOOT_STATUS F.MGT_BOOT_STATUS_SLOT = k % 4 ∧ t.boot.base = u.slotBase k
        ∧ t.boot.sections = s.sectionsAt (u.slotBase k) ∧ t.boot.next = 0 ∧ t.boot.imgLen = s.ldN .flash (u.slotBase k + 8) 4)) ∧
  (∀ (s : State) (fuseOk : Bool) (pop : Nat), s.booting = true → s.bootStep = 4 → s.authFails true true = none →
    (∀ x ∈ s.boot.sections, x.typ = 9 → s.lcActs x = false) →
    Completes (.imageAuth true true fuseOk pop) s (fun t =>
      t.bootStep = 5 ∧ (∀ n ∈ chansOf pop, t.chState n = 1) ∧ t.rd (R.MGT_IMG_INFO 0) = BitVec.ofNat 32 (s.ldN .flash (s.boot.base + 16) 4)
        ∧ t.fuse = s.fuse ∧ t.mem = s.mem)) ∧
  (∀ (s : State) (hashOk sigOk fuseOk : Bool) (pop n : Nat), s.booting = true → s.bootStep = 4 →
    s.authFails hashOk sigOk = some n →
    Completes (.imageAuth hashOk sigOk fuseOk pop) s (fun t =>
      t.boot = { s.boot with failed := true } ∧ t.bootStep = 4
        ∧ s.Records t { s.authRec n with d1 := BitVec.ofNat 32 (s.fd R.MGT_BOOT_STATUS F.MGT_BOOT_STATUS_SLOT) }
        ∧ s.OnlyRegs t [R.MGT_BOOT_STATUS] ∧ t.mem = s.mem)) ∧
  (∀ (s v : State), s.boot.failed = true → s.inReset = false → s.bootState = 0 →
    v = (s.setBoot { s.boot with
        failed := false, tried := s.boot.tried ++ [s.fd R.MGT_BOOT_STATUS F.MGT_BOOT_STATUS_SLOT], sections := [], next := 0,
        regions := [], entries := [], txRel := [], coded := 0 }).resetIslands →
    Completes .slotFail s (fun t =>
      t.boot.failed = false ∧ t.boot.tried = s.boot.tried ++ [s.fd R.MGT_BOOT_STATUS F.MGT_BOOT_STATUS_SLOT] ∧ t.boot.sections = []
        ∧ t.threads = [] ∧ (∀ a, a < 2 ^ 44 → t.byte .packet a = 0)
        ∧ (v.slotsValid ≠ [] → t.bootStep = 3 ∧ t.fd R.MGT_BOOT_STATUS F.MGT_BOOT_STATUS_FALLBACK = 1)
        ∧ (v.slotsValid = [] → t.bootState = 2 ∧ t.fd R.MGT_BOOT_STATUS F.MGT_BOOT_STATUS_REASON = 0x7009
            ∧ bitAt t.bcn.faults 1 = true))) ∧
  (∀ (s : State) (n : Nat), s.booting = true → n = s.bootStep + 1 → stepTmo n ≠ 0 →
    Completes .bootTmo s (fun t =>
      s.Records t { bootRec 0x7008 2 0 0 (n * 2 ^ 16) with
          d1 := BitVec.ofNat 32 (s.fd R.MGT_BOOT_STATUS F.MGT_BOOT_STATUS_SLOT) }
        ∧ t.time.clock = max s.time.clock (s.boot.stepAt + stepTmo n * 250000)
        ∧ t.fd R.MGT_BOOT_STATUS F.MGT_BOOT_STATUS_REASON = 0x7008 ∧ (n = 1 → bitAt t.bcn.faults 0 = true)
        ∧ ((n = 4 ∨ n = 5) → t.boot.failed = true) ∧ (¬ (n = 1 ∨ n = 4 ∨ n = 5) → t.bootState = 3)
        ∧ s.OnlyRegs t [R.MGT_BOOT_STATUS] ∧ t.mem = s.mem))

/-- R549, R556 to R558, R560, R562 to R564, R566, R567: sections, release, and the commands of start-up. -/
def Obligations.StartUpCommandsComplete : Prop :=
  (∀ (s v u : State) (x : Section), s.booting = true → (s.bootStep = 5 ∨ s.bootStep = 6) → s.anyCh 1 = false → s.loadWaits = false →
    v = s.trained → s.boot.sections[s.boot.next]? = some x → ¬ (x.inDram = true ∧ v.anyCh 2 = true) → v.applySection x = .inr u →
    (s.boot.next + 1 ≠ s.boot.sections.length ∨ 32 ≤ u.fd R.ODS_FLOWMEM F.ODS_FLOWMEM_BASE) →
    Completes .sectionApply s (fun t => t = { u with boot := { u.boot with next := s.boot.next + 1 } })) ∧
  (∀ (s v : State) (x : Section) (i : Nat), s.booting = true → (s.bootStep = 5 ∨ s.bootStep = 6) → s.anyCh 1 = false →
    s.loadWaits = false → v = s.trained → s.boot.sections[s.boot.next]? = some x → ¬ (x.inDram = true ∧ v.anyCh 2 = true) →
    v.applySection x = .inl i →
    Completes .sectionApply s (fun t =>
      t.boot.failed = true ∧ t.mem = s.mem ∧ s.Records t { sectionRec 0x7007 s.boot.next x (i % 256) with
        d1 := BitVec.ofNat 32 (s.fd R.MGT_BOOT_STATUS F.MGT_BOOT_STATUS_SLOT) })) ∧
  (∀ s : State, s.booting = true → s.bootStep = 6 → s.boot.sections.length ≤ s.boot.next → s.loadWaits = false → s.anyCh 1 = false →
    s.anyCh 2 = false →
    Completes .featureNegotiation s (fun t =>
      t.bootStep = 8 ∧ t.rd64 (R.GLB_DEV_FEAT 0) = 0 ∧ t.rd64 (R.GLB_FEAT_ACK 0) = 0 ∧ t.mem = s.mem ∧ t.err = s.err)) ∧
  (∀ s : State, s.booting = true → s.bootStep = 8 →
    Completes .clusterRelease s (fun t =>
      t.bootState = 1 ∧ t.bootStep = 10 ∧ t.boot.released = true ∧ t.odsRuns = true
        ∧ t.flag R.DMC_GSTATUS F.DMC_GSTATUS_LIVE = true ∧ (s.fuse.lc = 2 → t.locked = true) ∧ t.bcn.kept = []
        ∧ t.fuse.svn = (if s.boot.svnCommit = true ∧ s.fuse.svn < s.boot.imgSvn then s.boot.imgSvn else s.fuse.svn))) ∧
  (∀ (s : State) (mid : Nat) (gen : BitVec 8) (off : Nat) (v : W32), isHostPath mid = true → s.boot.released = false →
    bootReg off = false → s.inReset = false → s.powerStep < 3 → s.xingHeld 41 (islandOf off) = false → s.headless = false →
    Completes (.bootWrite mid gen off v) s (fun t =>
      s.Records t { mkErr 14 0 0x700C 0 3 off mid gen.toNat v.toNat with
          d1 := BitVec.ofNat 32 (s.fd R.MGT_BOOT_STATUS F.MGT_BOOT_STATUS_SLOT) }
        ∧ t.fd R.MGT_BOOT_STATUS F.MGT_BOOT_STATUS_REASON = 0x700C ∧ s.OnlyRegs t [R.MGT_BOOT_STATUS] ∧ t.mem = s.mem)) ∧
  (∀ (s u : State) (mid : Nat) (gen : BitVec 8), s.takePair R.MGT_BOOT_CTRL mid gen 1 = some u → s.bootState = 2 →
    s.low.spifOp = none →
    Completes (.bootRetry mid gen) s (fun t =>
      t.bootState = 0 ∧ t.bootStep = 2 ∧ t.boot.tried = [] ∧ t.boot.failed = false ∧ bitAt t.bcn.faults 1 = false
        ∧ t.flag R.MGT_BOOT_CTRL F.MGT_BOOT_CTRL_ERR = false ∧ t.mem = s.mem ∧ t.err = s.err)) ∧
  (∀ (s u : State) (mid : Nat) (gen : BitVec 8) (slot : Nat), slot < 4 →
    s.takePair R.MGT_LC_REQ mid gen (BitVec.ofNat 32 (2 ^ 12 + slot * 2 ^ 8)) = some u → s.bootState = 4 →
    (∀ e ∈ s.fuse.keys, e.1 ≠ slot) →
    Completes (.keyProgram mid gen slot) s (fun t =>
      t.fuse.keys.get (fun _ => []) slot = s.keyProg ∧ bitAt (t.rd R.MGT_KEY_STATE).toNat slot = true ∧ t.fuse.lc = s.fuse.lc
        ∧ t.mem = s.mem ∧ t.err = s.err)) ∧
  (∀ (s u : State) (mid : Nat) (gen : BitVec 8) (v : W32), s.takePair R.MGT_LC_REQ mid gen v = some u → s.bootState = 4 →
    v.toNat % 8 = 1 → bitAt v.toNat 12 = false → (∃ e ∈ s.fuse.keys, e.1 < 4) →
    Completes (.lcRequest mid gen v true) s (fun t =>
      t.fuse.lc = 1 ∧ t.wipes = s.wipes ++ [3] ∧ t.bootState = 0 ∧ t.bootStep = 1
        ∧ (∃ ts k, t.bcn.kept = s.bcn.kept ++ [{ bootRec 0x700A 0 0 0 (2 ^ 16) with ts := ts, tskind := k }]) ∧ t.mem = s.mem)) ∧
  (∀ (s : State) (mid : Nat) (gen : BitVec 8) (v : W32), s.Reached mid gen (R.GLB_DRV_FEAT 1) v → isHostPath mid = true →
    8 ≤ s.bootStep →
    Completes (.driverFeatures mid gen v) s (fun t =>
      t.rd (R.GLB_DRV_FEAT 1) = v ∧ t.rd64 (R.GLB_FEAT_ACK 0) = s.rd64 (R.GLB_DEV_FEAT 0) &&& (v ++ s.rd (R.GLB_DRV_FEAT 0))
        ∧ t.mem = s.mem))

/-! ## Rules of the whole device -/

/-- A step carries out the command at the front of the queue, with the queue's rest. -/
def Obligations.StepRunsTheFrontCommand : Prop :=
  ∀ (c : Instr) (cs : List Instr) (s : State), step { s with pending := c :: cs } = exec c { s with pending := cs }

/-- The model's choice (log entry 2): where no command waits, one cycle of 4 ns passes. The islands' clock moves by one, PTP-domain
time by 4 ns and the rate where it runs (R518), and nothing changes but time and the write queues of the DRAM channels. -/
def Obligations.IdleStepsPassTime : Prop :=
  ∀ s : State, s.pending = [] → ∃ t, step s = .next t ∧ t.time.clock = s.time.clock + 1
    ∧ (s.timeRuns = false → t.time.total = s.time.total)
    ∧ (s.timeRuns = true → s.time.total + 2 ^ 35 < 2 ^ 48 * 1000000000 * 2 ^ 32 →
        (t.time.total : Int) = s.time.total + 4 * 2 ^ 32 + s.rateNow)
    ∧ t = { s with time := t.time, dmcs := t.dmcs }

/-- R8, R49, R54, R62, R713: right after reset every register reads as its card says, every defined MID stands at generation
0x01, the epoch is 0x00, every error queue is empty, and the state is a legal one. -/
def Obligations.ResetIsLegal : Prop :=
  State.reset.Sound ∧ (∀ off, State.reset.rd off = cardReset off) ∧ State.reset.epoch = 0 ∧ State.reset.pending = []
    ∧ (∀ mid, midDefined mid = true → State.reset.genOf mid = 1) ∧ (∀ u, State.reset.errOf u = {})
    ∧ (∀ off, State.reset.liveAt off = 0)

/-- Every command completes and leaves the queue of waiting commands as it finds it. -/
def Obligations.EveryCommandCompletes : Prop :=
  ∀ (c : Instr) (s : State), Completes c s (fun t => t.pending = s.pending)

/-- R49, R52, R62, R518: every step keeps a state legal: the generations, the canonical form of the memories, the nanoseconds of
time below one second, and the bound on every error queue. -/
def Obligations.StepKeepsLegal : Prop :=
  ∀ s t : State, s.Sound → step s = .next t → t.Sound

/-- R10: a read of a reserved address returns 0, and a write to one has no effect. -/
def Obligations.ReservedAddresses : Prop :=
  ∀ (s : State) (off : Nat), off % 4 = 0 → off < 2 ^ 24 → cardAt off = none → complementCard off = none →
    (s.hifOn = true → s.hostUp = true → s.turnedAway hostMid s.hostGen off false 0 = none →
      Completes (.hostRead 0 off 4 15) s (fun t =>
        t.hif.last = some (.data [0, 0, 0, 0]) ∧ t = { s with hif := t.hif })) ∧
    (∀ (mid : Nat) (gen : BitVec 8) (v : W32) (ue : Bool), s.Reached mid gen off v → s.pendOf (guardInst off) = none →
      Completes (.registerWrite mid gen off v ue) s (fun t =>
        t = { s with lockSeen := t.lockSeen, threads := t.threads }))

/-- R702: a read of a G register at A returns its value, a read of A + 4 returns 0, and a write to A + 4 that completes no pair
changes no register. -/
def Obligations.GuardedPairAddresses : Prop :=
  ∀ (s : State) (off : Nat) (c : Card), cardAt off = some c → c.guard = true →
    (s.hifOn = true → s.hostUp = true → s.turnedAway hostMid s.hostGen off false 0 = none →
      Completes (.hostRead 0 off 4 15) s (fun t =>
        t.hif.last = some (.data (toLe 4 (s.readNow off).toNat)) ∧ t = { s with hif := t.hif })) ∧
    (off ≠ R.ECS_RT_ENT → off ≠ R.ECS_SP_ENT → s.readNow off = s.rd off &&& ~~~BitVec.ofNat 32 c.wo) ∧
    (s.hifOn = true → s.hostUp = true → s.turnedAway hostMid s.hostGen (off + 4) false 0 = none →
      Completes (.hostRead 0 (off + 4) 4 15) s (fun t =>
        t.hif.last = some (.data [0, 0, 0, 0]) ∧ t = { s with hif := t.hif })) ∧
    (∀ (mid : Nat) (gen : BitVec 8) (v : W32) (ue : Bool), s.turnedAway mid gen (off + 4) true v = none →
      s.turnedAway mid gen off true (~~~v) = none → s.takePair off mid gen (~~~v) = none →
      Completes (.registerWrite mid gen (off + 4) v ue) s (fun t => t.regs = s.regs ∧ t.mem = s.mem))

/-- R39: one SEQ value precedes another by serial arithmetic. -/
def Obligations.SerialOrder : Prop :=
  ∀ a b : BitVec 24, seqBefore a b = true ↔
    1 ≤ ((b.toNat : Int) - a.toNat) % 2 ^ 24 ∧ ((b.toNat : Int) - a.toNat) % 2 ^ 24 ≤ 8388607

/-- R15, R704: while the device is locked, no write to a register marked L, or to its A + 4, changes any register, but for the
reason that MGT_BOOT_STATUS shows of a host write refused before cluster release (R549), nor any memory or generation. -/
def Obligations.LockHoldsRegisters : Prop :=
  ∀ (s : State) (mid : Nat) (gen : BitVec 8) (off : Nat) (v : W32) (ue : Bool) (c : Instr),
    s.locked = true → lockMarked off = true →
    c ∈ [Instr.registerWrite mid gen off v ue, .guardFirstWrite mid gen off v, .guardComplementBad mid gen off v,
      .lockWrite mid gen off v] →
    Completes c s (fun t =>
      s.OnlyRegs t [R.MGT_BOOT_STATUS] ∧ t.mem = s.mem ∧ t.gens = s.gens ∧ t.epoch = s.epoch ∧ t.mode F.GLB_MODE_LOCK = true)

/-- R694, R695: a write of a thread that is not its cluster's Keeper changes no register and no memory outside the SEM block, but
by HIF_D2H_BELL. -/
def Obligations.ThreadWritesKeepRights : Prop :=
  ∀ (s : State) (mid : Nat) (gen : BitVec 8) (off : Nat) (v : W32) (ue : Bool), midIsThread mid = true →
    mid ≠ s.keeperMid (midCluster mid) → ¬ (0x50000 ≤ off ∧ off < 0x80000) → off ≠ R.HIF_D2H_BELL →
    Completes (.registerWrite mid gen off v ue) s (fun t =>
      t.regs = s.regs ∧ t.mem = s.mem ∧ t.gens = s.gens ∧ t.guards = s.guards ∧ t.sems = s.sems ∧ t.ods = s.ods)

/-- R33, R183: a token's 64 bytes and a buffer's metadata word carry every field at every value that it admits. -/
def Obligations.RecordsRoundTrip : Prop :=
  (∀ x : Token, Token.ofBytes x.bytes = x ∧ x.bytes.length = 64) ∧
  (∀ m : Meta, m.holders < 256 → m.owner < 4096 → m.gen < 256 → Meta.ofNat m.toNat = m ∧ m.toNat < 2 ^ 32)

/-- R573, R576: the header of a Molma frame carries every field at every value that it admits: a receiver takes it and reads the
frame that was sent, its acknowledgement and its credits; and the payload of a BUOY tells what its sender holds. -/
def Obligations.LinkFramesRoundTrip : Prop :=
  (∀ (f : MlkFrame) (ack credit epoch lo hi k : Nat), f.src < 8 → f.dst < 8 → f.hops < 8 → f.seq < 4096 → f.cls < 8 → ack < 4096 →
    credit < 1024 → epoch < 256 → frameLimit f.typ = some (lo, hi, k) → lo ≤ f.payload.length →
    f.payload.length ≤ hi → f.payload.length % k = 0 → ∃ h0 h1 : Nat,
      mlkBytes f ack credit epoch = toLe 8 h0 ++ toLe 8 h1 ++ f.payload
          ++ toLe 4 (crc32c (toLe 8 h0 ++ toLe 8 h1 ++ f.payload))
        ∧ h0 < 2 ^ 64 ∧ headerOk h0 h1 = true ∧ mlkParse h0 h1 f.payload = f ∧ bitsOf h0 28 12 = ack ∧ bitsOf h0 54 10 = credit
        ∧ bitsOf h0 40 14 = f.payload.length ∧ h1 % 256 = epoch) ∧
  (∀ (s : State) (i : Nat), i < 2 → (s.buoyBytes i).length = 32 ∧
    (buoyOf (s.buoyBytes i)).serial = s.serial ∧
    (buoyOf (s.buoyBytes i)).chip = (if s.hasChip then s.chip else 0xFF) ∧
    (buoyOf (s.buoyBytes i)).members = s.fd R.MLK_STATUS F.MLK_STATUS_MEMBERS ∧
    (buoyOf (s.buoyBytes i)).epoch = s.odsEpoch ∧ (buoyOf (s.buoyBytes i)).pair = s.pairState ∧
    (buoyOf (s.buoyBytes i)).role = s.flag R.MLK_PAIR_STATUS F.MLK_PAIR_STATUS_ROLE_PIN ∧
    (buoyOf (s.buoyBytes i)).side = i ∧ (buoyOf (s.buoyBytes i)).mode = (s.rd R.GLB_MODE).toNat % 4096)

/-- The memory of metadata words (R183): a buffer's word reads back as it was written, and no other byte changes. -/
def Obligations.MetadataReadsBack : Prop :=
  ∀ (s : State) (p i : Nat) (m : Meta), m.holders < 256 → m.owner < 4096 → m.gen < 256 →
    (s.setMeta p i m).metaOf p i = m ∧
    (∀ sp a, sp ≠ s.poolSpace p ∨ a < s.metaAddr p i ∨ s.metaAddr p i + 4 ≤ a →
      a < 2 ^ 44 → s.metaAddr p i + 4 ≤ 2 ^ 44 → (s.setMeta p i m).byte sp a = s.byte sp a) ∧
    (s.MemCanonical → (s.setMeta p i m).MemCanonical)

/-- R48, R51: an operation of BPM or of the token port whose master is undefined, or carries another than its current generation, is
refused: it changes no memory, no token and no pool, one record says so, and ODS answers STALE. -/
def Obligations.StrangersAreRefused : Prop :=
  ∀ (s : State) (mid : Nat) (gen : BitVec 8) (h : W32) (len slot : Nat) (c : Instr),
    (midDefined mid = false →
      c ∈ [Instr.allocLen mid gen len, .share mid gen h len, .release mid gen h, .give mid gen h len, .free mid gen h,
        .freeLater mid gen h, .complete mid gen h] →
      Completes c s (fun t => (∃ r : ErrRec, r.code = 2 ∧ s.Records t r) ∧ s.OnlyRegs t [R.ODS_STATUS, R.ODS_INT] ∧ t.mem = s.mem
        ∧ t.bpm = s.bpm ∧ t.ods.slots = s.ods.slots)) ∧
    (midDefined mid = false ∨ gen ≠ s.genOf mid → slot < 8 →
      c ∈ [Instr.tkpGet mid gen, .tkpUnlock mid gen slot, .tkpDiscard mid gen slot] →
      Completes c s (fun t => (∃ r : ErrRec, r.code = (if midDefined mid then 1 else 2) ∧ s.Records t r) ∧ odsResult t mid = 4
        ∧ t.regs = s.regs ∧ t.mem = s.mem ∧ t.ods = s.ods))
end

