-- ==== Sys2Proof/Laws/Map.lean ====
section
/-! SUPPORT. The laws of the sparse maps: what a write leaves to be read, and that every operation keeps the canonical form. -/
namespace Sys2Proof.Machine

variable {α : Type} (d : Nat → α)

theorem SMap.get_erase_self (m : SMap α) (k : Nat) : SMap.get d (SMap.erase m k) k = d k := by
  induction m with
  | nil => rfl
  | cons p m ih =>
    obtain ⟨j, v⟩ := p
    by_cases h : j = k <;> simp [SMap.erase, SMap.get, h, ih]

theorem SMap.get_erase_ne (m : SMap α) {k i : Nat} (h : i ≠ k) : SMap.get d (SMap.erase m k) i = SMap.get d m i := by
  induction m with
  | nil => rfl
  | cons p m ih =>
    obtain ⟨j, v⟩ := p
    by_cases hk : j = k
    · subst hk; simp [SMap.erase, SMap.get, ih, Ne.symm h]
    · simp [SMap.erase, SMap.get, hk, ih]

theorem SMap.get_insert_ne (m : SMap α) {k i : Nat} (v : α) (h : i ≠ k) :
    SMap.get d (SMap.insert m k v) i = SMap.get d m i := by
  induction m with
  | nil => simp [SMap.insert, SMap.get, Ne.symm h]
  | cons p m ih =>
    obtain ⟨j, w⟩ := p
    by_cases hk : k < j
    · simp [SMap.insert, SMap.get, hk, Ne.symm h]
    · simp [SMap.insert, SMap.get, hk, ih]

/-- The keys of a map. -/
def SMap.keys (m : SMap α) : List Nat := m.map (·.1)

theorem SMap.keys_erase (m : SMap α) (k j : Nat) : j ∈ SMap.keys (SMap.erase m k) ↔ j ≠ k ∧ j ∈ SMap.keys m := by
  induction m with
  | nil => simp [SMap.keys, SMap.erase]
  | cons p m ih =>
    obtain ⟨i, v⟩ := p
    have ih' : j ∈ List.map (·.1) (SMap.erase m k) ↔ j ≠ k ∧ j ∈ List.map (·.1) m := ih
    by_cases h : i = k
    · subst h; by_cases hj : j = i
      · subst hj; simp [SMap.keys, SMap.erase, ih']
      · simp only [SMap.keys, SMap.erase, List.map_cons, List.mem_cons, if_true, ih', hj, false_or]
    · simp only [SMap.keys, SMap.erase, if_neg h, List.map_cons, List.mem_cons, ih']
      constructor
      · rintro (rfl | ⟨h1, h2⟩)
        · exact ⟨h, .inl rfl⟩
        · exact ⟨h1, .inr h2⟩
      · rintro ⟨h1, rfl | h2⟩
        · exact .inl rfl
        · exact .inr ⟨h1, h2⟩

theorem SMap.get_insert_self (m : SMap α) (k : Nat) (v : α) (h : k ∉ SMap.keys m) :
    SMap.get d (SMap.insert m k v) k = v := by
  induction m with
  | nil => simp [SMap.insert, SMap.get]
  | cons p m ih =>
    obtain ⟨j, w⟩ := p
    simp only [SMap.keys, List.map_cons, List.mem_cons, not_or] at h
    by_cases hk : k < j
    · simp [SMap.insert, SMap.get, hk]
    · simp only [SMap.insert, if_neg hk, SMap.get, if_neg (Ne.symm h.1)]; exact ih h.2

theorem SMap.get_set_self [DecidableEq α] (m : SMap α) (k : Nat) (v : α) : SMap.get d (SMap.set d m k v) k = v := by
  unfold SMap.set
  split
  · rename_i h; rw [SMap.get_erase_self, h]
  · exact SMap.get_insert_self d _ k v (fun h => ((SMap.keys_erase m k k).1 h).1 rfl)

theorem SMap.get_set_ne [DecidableEq α] (m : SMap α) {k i : Nat} (v : α) (h : i ≠ k) :
    SMap.get d (SMap.set d m k v) i = SMap.get d m i := by
  unfold SMap.set
  split
  · exact SMap.get_erase_ne d m h
  · rw [SMap.get_insert_ne d _ v h, SMap.get_erase_ne d m h]

/-- What a write leaves to be read. -/
theorem SMap.get_set [DecidableEq α] (m : SMap α) (k i : Nat) (v : α) :
    SMap.get d (SMap.set d m k v) i = if i = k then v else SMap.get d m i := by
  by_cases h : i = k
  · subst h; simp [SMap.get_set_self]
  · simp [h, SMap.get_set_ne]

/-! ## The canonical form -/

theorem SMap.wf_cons [DecidableEq α] (k : Nat) (v : α) (m : SMap α) :
    SMap.wf d ((k, v) :: m) = true ↔ v ≠ d k ∧ (∀ j ∈ SMap.keys m, k < j) ∧ SMap.wf d m = true := by
  simp [SMap.wf, SMap.keys, and_assoc]

theorem SMap.wf_erase [DecidableEq α] (m : SMap α) (k : Nat) (h : SMap.wf d m = true) : SMap.wf d (SMap.erase m k) = true := by
  induction m with
  | nil => rfl
  | cons p m ih =>
    obtain ⟨j, v⟩ := p
    obtain ⟨h1, h2, h3⟩ := (SMap.wf_cons d j v m).1 h
    by_cases hj : j = k
    · simp only [SMap.erase, if_pos hj]; exact ih h3
    · simp only [SMap.erase, if_neg hj]
      exact (SMap.wf_cons d j v _).2 ⟨h1, fun i hi => h2 i ((SMap.keys_erase m k i).1 hi).2, ih h3⟩

theorem SMap.keys_insert (m : SMap α) (k j : Nat) (v : α) : j ∈ SMap.keys (SMap.insert m k v) ↔ j = k ∨ j ∈ SMap.keys m := by
  induction m with
  | nil => simp [SMap.keys, SMap.insert]
  | cons p m ih =>
    obtain ⟨i, w⟩ := p
    have ih' : j ∈ List.map (·.1) (SMap.insert m k v) ↔ j = k ∨ j ∈ List.map (·.1) m := ih
    by_cases h : k < i
    · simp [SMap.keys, SMap.insert, h]
    · simp only [SMap.keys, SMap.insert, if_neg h, List.map_cons, List.mem_cons, ih']; tauto

theorem SMap.wf_insert [DecidableEq α] (m : SMap α) (k : Nat) (v : α) (h : SMap.wf d m = true) (hk : k ∉ SMap.keys m)
    (hv : v ≠ d k) : SMap.wf d (SMap.insert m k v) = true := by
  induction m with
  | nil => simp [SMap.insert, SMap.wf, hv]
  | cons p m ih =>
    obtain ⟨j, w⟩ := p
    obtain ⟨h1, h2, h3⟩ := (SMap.wf_cons d j w m).1 h
    simp only [SMap.keys, List.map_cons, List.mem_cons, not_or] at hk
    by_cases hlt : k < j
    · simp only [SMap.insert, if_pos hlt]
      refine (SMap.wf_cons d k v _).2 ⟨hv, fun i hi => ?_, h⟩
      simp only [SMap.keys, List.map_cons, List.mem_cons] at hi
      rcases hi with rfl | hi
      · exact hlt
      · exact Nat.lt_trans hlt (h2 i hi)
    · simp only [SMap.insert, if_neg hlt]
      refine (SMap.wf_cons d j w _).2 ⟨h1, fun i hi => ?_, ih h3 hk.2⟩
      rcases (SMap.keys_insert m k i v).1 hi with rfl | hi
      · exact Nat.lt_of_le_of_ne (Nat.le_of_not_lt hlt) (Ne.symm hk.1)
      · exact h2 i hi

/-- A write keeps the canonical form. -/
theorem SMap.wf_set [DecidableEq α] (m : SMap α) (k : Nat) (v : α) (h : SMap.wf d m = true) :
    SMap.wf d (SMap.set d m k v) = true := by
  unfold SMap.set
  split
  · exact SMap.wf_erase d m k h
  · rename_i hv
    exact SMap.wf_insert d _ k v (SMap.wf_erase d m k h) (fun hk => ((SMap.keys_erase m k k).1 hk).1 rfl) hv

/-- Leaving entries out keeps the canonical form. -/
theorem SMap.wf_filter [DecidableEq α] (m : SMap α) (p : Nat × α → Bool) (h : SMap.wf d m = true) :
    SMap.wf d (m.filter p) = true := by
  induction m with
  | nil => rfl
  | cons q m ih =>
    obtain ⟨j, v⟩ := q
    obtain ⟨h1, h2, h3⟩ := (SMap.wf_cons d j v m).1 h
    rw [List.filter_cons]
    split
    · refine (SMap.wf_cons d j v _).2 ⟨h1, fun i hi => ?_, ih h3⟩
      simp only [SMap.keys, List.mem_map, List.mem_filter] at hi
      obtain ⟨q, ⟨hq, -⟩, rfl⟩ := hi
      exact h2 _ (List.mem_map_of_mem hq)
    · exact ih h3

/-- Values laid over a map keep the canonical form. -/
theorem overlay_wf [DecidableEq α] (old : SMap (Option α)) (m : SMap α) (h : SMap.wf d m = true) :
    SMap.wf d (overlay d m old) = true := by
  unfold overlay
  induction old generalizing m with
  | nil => exact h
  | cons p old ih =>
    obtain ⟨k, o⟩ := p
    cases o with
    | none => exact ih m h
    | some v => exact ih _ (SMap.wf_set d m k v h)

end Sys2Proof.Machine
end

