-- ==== Sys2Proof/Laws/Keeps.lean ====
section
/-! SUPPORT. What the shared operations keep: the queue of waiting commands, and the legality of the state. One rule for each way in
which an operation builds its next state. -/
namespace Sys2Proof.Machine
open Sys2Proof

/-- `t` has the queue of `s`, and is sound if `s` is. -/
@[irreducible] def Keeps (s t : State) : Prop := t.pending = s.pending ∧ (s.Sound → t.Sound)

theorem keeps_refl (s : State) : Keeps s s := by unfold Keeps; exact ⟨rfl, id⟩

theorem keeps_upd {s0 e : State} (h : Keeps s0 e) (free regs live tally guards lockSeen rate epoch msix snap cmdRes pipes ports fte bpm
   ods evpend threads cycles iramq sems spmBad resps abandons wipes ecs dmcs dramBad lines accs cvuCache rcd bcn fuse boot mlk txn rcv hif low) :
  Keeps s0 ⟨e.pending, free, e.time, regs, live, tally, e.mem, guards, lockSeen, e.err, rate, e.gens, e.lastGens, epoch, msix, snap, cmdRes, pipes, ports, fte, bpm,
   ods, evpend, threads, cycles, iramq, sems, spmBad, resps, abandons, wipes, ecs, dmcs, dramBad, lines, accs, cvuCache, rcd, bcn, fuse, boot, mlk, txn, rcv, hif, low⟩ := by
  unfold Keeps at *; exact h

theorem keeps_mem {s0 e : State} (h : Keeps s0 e) {mem} (hm : e.MemCanonical → Memory.wf mem = true)
   (free regs live tally guards lockSeen rate epoch msix snap cmdRes pipes ports fte bpm
   ods evpend threads cycles iramq sems spmBad resps abandons wipes ecs dmcs dramBad lines accs cvuCache rcd bcn fuse boot mlk txn rcv hif low) :
  Keeps s0 ⟨e.pending, free, e.time, regs, live, tally, mem, guards, lockSeen, e.err, rate, e.gens, e.lastGens, epoch, msix, snap, cmdRes, pipes, ports, fte, bpm,
   ods, evpend, threads, cycles, iramq, sems, spmBad, resps, abandons, wipes, ecs, dmcs, dramBad, lines, accs, cvuCache, rcd, bcn, fuse, boot, mlk, txn, rcv, hif, low⟩ := by
  unfold Keeps at *; exact ⟨h.1, fun x => ⟨(h.2 x).1, hm (h.2 x).2.1, (h.2 x).2.2⟩⟩

theorem keeps_filter {s0 e : State} (h : Keeps s0 e) (p : Nat × BitVec 8 → Bool)
   (free regs live tally guards lockSeen rate epoch msix snap cmdRes pipes ports fte bpm
   ods evpend threads cycles iramq sems spmBad resps abandons wipes ecs dmcs dramBad lines accs cvuCache rcd bcn fuse boot mlk txn rcv hif low) :
  Keeps s0 ⟨e.pending, free, e.time, regs, live, tally, e.mem.filter p, guards, lockSeen, e.err, rate, e.gens, e.lastGens, epoch, msix, snap, cmdRes, pipes, ports, fte, bpm,
   ods, evpend, threads, cycles, iramq, sems, spmBad, resps, abandons, wipes, ecs, dmcs, dramBad, lines, accs, cvuCache, rcd, bcn, fuse, boot, mlk, txn, rcv, hif, low⟩ :=
  keeps_mem h (fun hm => SMap.wf_filter memDefault _ p hm) ..

theorem keeps_err {s0 e : State} (h : Keeps s0 e) {err : SMap ErrUnit} (hm : e.QueuesBounded → ∀ u, (err.get (fun _ => {}) u).q.length ≤ 16)
   (free regs live tally guards lockSeen rate epoch msix snap cmdRes pipes ports fte bpm
   ods evpend threads cycles iramq sems spmBad resps abandons wipes ecs dmcs dramBad lines accs cvuCache rcd bcn fuse boot mlk txn rcv hif low) :
  Keeps s0 ⟨e.pending, free, e.time, regs, live, tally, e.mem, guards, lockSeen, err, rate, e.gens, e.lastGens, epoch, msix, snap, cmdRes, pipes, ports, fte, bpm,
   ods, evpend, threads, cycles, iramq, sems, spmBad, resps, abandons, wipes, ecs, dmcs, dramBad, lines, accs, cvuCache, rcd, bcn, fuse, boot, mlk, txn, rcv, hif, low⟩ := by
  unfold Keeps at *; exact ⟨h.1, fun x => ⟨(h.2 x).1, (h.2 x).2.1, (h.2 x).2.2.1, hm (h.2 x).2.2.2⟩⟩

theorem keeps_time {s0 e : State} (h : Keeps s0 e) {time} (hm : e.TimeNormal → time.ns < 1000000000)
   (free regs live tally guards lockSeen rate epoch msix snap cmdRes pipes ports fte bpm
   ods evpend threads cycles iramq sems spmBad resps abandons wipes ecs dmcs dramBad lines accs cvuCache rcd bcn fuse boot mlk txn rcv hif low) :
  Keeps s0 ⟨e.pending, free, time, regs, live, tally, e.mem, guards, lockSeen, e.err, rate, e.gens, e.lastGens, epoch, msix, snap, cmdRes, pipes, ports, fte, bpm,
   ods, evpend, threads, cycles, iramq, sems, spmBad, resps, abandons, wipes, ecs, dmcs, dramBad, lines, accs, cvuCache, rcd, bcn, fuse, boot, mlk, txn, rcv, hif, low⟩ := by
  unfold Keeps at *; exact ⟨h.1, fun x => ⟨(h.2 x).1, (h.2 x).2.1, hm (h.2 x).2.2.1, (h.2 x).2.2.2⟩⟩

theorem keeps_ite {s0 a b : State} {c : Prop} [Decidable c] (ha : Keeps s0 a) (hb : Keeps s0 b) : Keeps s0 (if c then a else b) := by
  split <;> assumption

theorem keeps_foldl {α : Type} {s0 s : State} {f : State → α → State} {l : List α} (h : Keeps s0 s)
    (hf : ∀ t x, Keeps s0 t → Keeps s0 (f t x)) : Keeps s0 (l.foldl f s) := by
  induction l generalizing s with
  | nil => exact h
  | cons a l ih => exact ih (hf s a h)

theorem keeps_fst {α : Type} {s0 a : State} {w : α} {p : State × α} (e : p = (a, w)) (h : Keeps s0 p.1) : Keeps s0 a := by
  rw [e] at h; exact h

theorem State.setByte_keeps {s0 s : State} (h : Keeps s0 s) (sp a v) : Keeps s0 (State.setByte s sp a v) :=
  keeps_mem h (fun hm => SMap.wf_set memDefault _ _ _ hm) ..

theorem State.setBytes_keeps {s0 s : State} (h : Keeps s0 s) (sp a bs) : Keeps s0 (State.setBytes s sp a bs) := by
  induction bs generalizing s a with
  | nil => exact h
  | cons b bs ih => exact ih (State.setByte_keeps h _ _ _) _

theorem ErrUnit.push_bounded (u : ErrUnit) (r : ErrRec) (h : u.q.length ≤ 16) : (u.push r).q.length ≤ 16 := by
  unfold ErrUnit.push
  dsimp only
  (repeat' split) <;> simp <;> omega

theorem State.raise_keeps {s0 s : State} (h : Keeps s0 s) (r) : Keeps s0 (State.raise s r) := by
  refine keeps_err h (fun hq u => ?_) ..
  rw [SMap.get_set]
  split
  · exact ErrUnit.push_bounded _ _ (hq _)
  · exact hq u

end Sys2Proof.Machine
end

