-- ==== Sys2Proof/Laws/KeepsOps.lean ====
section
/-! SUPPORT. For the shared operations over registers, memories, error queues, pools, threads and tokens: each keeps the queue of
waiting commands and the legality of the state. -/
set_option linter.unusedTactic false
set_option linter.unreachableTactic false

namespace Sys2Proof.Machine
open Sys2Proof

/-! ## Ops -/

theorem State.wr_keeps {s0 s : State} (h : Keeps s0 s) (a1) (a2) : Keeps s0 (State.wr s a1 a2) := by
  unfold State.wr
  try dsimp only
  repeat' (first | with_reducible assumption | with_reducible refine keeps_ite ?_ ?_ | (fail_if_no_progress with_reducible refine keeps_upd ?_ ..))
theorem State.wf_keeps {s0 s : State} (h : Keeps s0 s) (a1) (a2) (a3) : Keeps s0 (State.wf s a1 a2 a3) := by
  unfold State.wf
  try dsimp only
  repeat' (first | with_reducible assumption | with_reducible refine keeps_ite ?_ ?_ | with_reducible refine State.wr_keeps ?_ _ _)
theorem State.orBits_keeps {s0 s : State} (h : Keeps s0 s) (a1) (a2) : Keeps s0 (State.orBits s a1 a2) := by
  unfold State.orBits
  try dsimp only
  repeat' (first | with_reducible assumption | with_reducible refine keeps_ite ?_ ?_ | with_reducible refine State.wr_keeps ?_ _ _)
theorem State.wr64_keeps {s0 s : State} (h : Keeps s0 s) (a1) (a2) : Keeps s0 (State.wr64 s a1 a2) := by
  unfold State.wr64
  try dsimp only
  repeat' (first | with_reducible assumption | with_reducible refine keeps_ite ?_ ?_ | with_reducible refine State.wr_keeps ?_ _ _)
theorem State.countN_keeps {s0 s : State} (h : Keeps s0 s) (a1) (a2) : Keeps s0 (State.countN s a1 a2) := by
  unfold State.countN
  try dsimp only
  repeat' (first | with_reducible assumption | with_reducible refine keeps_ite ?_ ?_ | (fail_if_no_progress with_reducible refine keeps_upd ?_ ..))
theorem State.count_keeps {s0 s : State} (h : Keeps s0 s) (a1) : Keeps s0 (State.count s a1) := by
  unfold State.count
  try dsimp only
  repeat' (first | with_reducible assumption | with_reducible refine keeps_ite ?_ ?_ | with_reducible refine State.countN_keeps ?_ _ _)
theorem State.countIf_keeps {s0 s : State} (h : Keeps s0 s) (a1) (a2) : Keeps s0 (State.countIf s a1 a2) := by
  unfold State.countIf
  try dsimp only
  repeat' (first | with_reducible assumption | with_reducible refine keeps_ite ?_ ?_ | with_reducible refine State.countN_keeps ?_ _ _)
theorem State.setRes_keeps {s0 s : State} (h : Keeps s0 s) (a1) (a2) : Keeps s0 (State.setRes s a1 a2) := by
  unfold State.setRes
  try dsimp only
  repeat' (first | with_reducible assumption | with_reducible refine keeps_ite ?_ ?_ | (fail_if_no_progress with_reducible refine keeps_upd ?_ ..))
theorem State.pass_keeps {s0 s : State} (h : Keeps s0 s) (n) : Keeps s0 (State.pass s n) := by
  unfold State.pass
  dsimp only
  refine keeps_time h (fun ht => ?_) ..
  split
  · exact Nat.mod_lt _ (by decide)
  · exact ht
theorem State.until_keeps {s0 s : State} (h : Keeps s0 s) (a1) : Keeps s0 (State.until s a1) := by
  unfold State.until
  try dsimp only
  repeat' (first | with_reducible assumption | with_reducible refine keeps_ite ?_ ?_ | with_reducible refine State.pass_keeps ?_ _)
theorem State.passTo_keeps {s0 s : State} (h : Keeps s0 s) (a1) : Keeps s0 (State.passTo s a1) := by
  unfold State.passTo
  try dsimp only
  repeat' (first | with_reducible assumption | with_reducible refine keeps_ite ?_ ?_ | with_reducible refine State.pass_keeps ?_ _)
theorem State.tookFree_keeps {s0 s : State} (h : Keeps s0 s) : Keeps s0 (State.tookFree s) := by
  unfold State.tookFree
  try dsimp only
  repeat' (first | with_reducible assumption | with_reducible refine keeps_ite ?_ ?_ | (fail_if_no_progress with_reducible refine keeps_upd ?_ ..))
theorem State.zero_keeps {s0 s : State} (h : Keeps s0 s) (a1) (a2) (a3) : Keeps s0 (State.zero s a1 a2 a3) := by
  unfold State.zero
  try dsimp only
  repeat' (first | with_reducible assumption | with_reducible refine keeps_ite ?_ ?_ | (fail_if_no_progress with_reducible refine keeps_upd ?_ ..) | (fail_if_no_progress with_reducible refine keeps_filter ?_ _ ..))
theorem State.stN_keeps {s0 s : State} (h : Keeps s0 s) (a1) (a2) (a3) (a4) : Keeps s0 (State.stN s a1 a2 a3 a4) := by
  unfold State.stN
  try dsimp only
  repeat' (first | with_reducible assumption | with_reducible refine keeps_ite ?_ ?_ | with_reducible refine State.setBytes_keeps ?_ _ _ _)
theorem State.oldView_keeps {s0 s : State} (h : Keeps s0 s) : Keeps s0 (State.oldView s) :=
  keeps_mem h (fun hm => overlay_wf memDefault _ _ hm) ..
theorem State.view_keeps {s0 s : State} (h : Keeps s0 s) (a1) : Keeps s0 (State.view s a1) := by
  unfold State.view
  try dsimp only
  repeat' (first | with_reducible assumption | with_reducible refine keeps_ite ?_ ?_ | with_reducible refine State.oldView_keeps ?_ | (fail_if_no_progress with_reducible refine keeps_upd ?_ ..) | (fail_if_no_progress with_reducible refine keeps_filter ?_ _ ..) | with_reducible refine keeps_foldl ?_ ?_ | (intro t x ht; try dsimp only) | (intro t ht; try dsimp only) | split)
theorem State.settled_keeps {s0 s : State} (h : Keeps s0 s) : Keeps s0 (State.settled s) := by
  unfold State.settled
  try dsimp only
  repeat' (first | with_reducible assumption | with_reducible refine keeps_ite ?_ ?_ | with_reducible refine State.oldView_keeps ?_)
theorem State.storeToo_keeps {s0 s t : State} (h : Keeps s0 t) : Keeps s0 (State.storeToo s t) := by
  unfold State.storeToo
  exact keeps_ite h (keeps_upd h ..)
-- cand: with_reducible refine State.storeToo_keeps ?_
theorem State.setGen_keeps {s0 s : State} (h : Keeps s0 s) (m g) (hg : g = 0 ∨ g = s.lastGenOf m) : Keeps s0 (State.setGen s m g) := by
  unfold Keeps at *
  refine ⟨h.1, fun x => ⟨fun mid hd => ⟨((h.2 x).1 mid hd).1, ?_⟩, (h.2 x).2⟩⟩
  show SMap.get genReset (SMap.set genReset s.gens m g) mid = 0 ∨ _
  unfold State.genOf
  dsimp only [State.setGen]
  rw [SMap.get_set]
  split
  · rename_i e; subst e; exact hg
  · exact ((h.2 x).1 mid hd).2
-- cand: with_reducible refine State.setGen_keeps ?_ _ _ ?_
theorem State.raiseIf_keeps {s0 s : State} (h : Keeps s0 s) (a1) (a2) : Keeps s0 (State.raiseIf s a1 a2) := by
  unfold State.raiseIf
  try dsimp only
  repeat' (first | with_reducible assumption | with_reducible refine keeps_ite ?_ ?_ | with_reducible refine State.raise_keeps ?_ _)
theorem State.raiseLimN_keeps {s0 s : State} (h : Keeps s0 s) (a1) (a2) (a3) (a4) (a5) : Keeps s0 (State.raiseLimN s a1 a2 a3 a4 a5) := by
  unfold State.raiseLimN
  try dsimp only
  repeat' (first | with_reducible assumption | with_reducible refine keeps_ite ?_ ?_ | with_reducible refine State.raiseIf_keeps ?_ _ _ | (fail_if_no_progress with_reducible refine keeps_upd ?_ ..))
theorem State.raiseLim_keeps {s0 s : State} (h : Keeps s0 s) (a1) (a2) (a3) (a4) : Keeps s0 (State.raiseLim s a1 a2 a3 a4) := by
  unfold State.raiseLim
  try dsimp only
  repeat' (first | with_reducible assumption | with_reducible refine keeps_ite ?_ ?_ | with_reducible refine State.raiseLimN_keeps ?_ _ _ _ _ _)
theorem State.raiseGenStale_keeps {s0 s : State} (h : Keeps s0 s) (a1) (a2) (a3) (a4) (a5) (a6) (a7) : Keeps s0 (State.raiseGenStale s a1 a2 a3 a4 a5 a6 a7) := by
  unfold State.raiseGenStale
  try dsimp only
  repeat' (first | with_reducible assumption | with_reducible refine keeps_ite ?_ ?_ | with_reducible refine State.raise_keeps ?_ _)
theorem State.raiseMidUndef_keeps {s0 s : State} (h : Keeps s0 s) (a1) (a2) (a3) (a4) (a5) (a6) (a7) : Keeps s0 (State.raiseMidUndef s a1 a2 a3 a4 a5 a6 a7) := by
  unfold State.raiseMidUndef
  try dsimp only
  repeat' (first | with_reducible assumption | with_reducible refine keeps_ite ?_ ?_ | with_reducible refine State.raise_keeps ?_ _)
theorem State.refuseReq_keeps {s0 s t : State} (h : Keeps s0 s) (a1) (a2) (a3) (a4) (a5) (a6) (a7) (e : State.refuseReq s a1 a2 a3 a4 a5 a6 a7 = some t) : Keeps s0 t := by
  unfold State.refuseReq at e
  try dsimp only at e
  repeat' (split at e)
  all_goals try cases e
  all_goals repeat' (first | with_reducible assumption | with_reducible refine keeps_ite ?_ ?_ | with_reducible refine State.raiseMidUndef_keeps ?_ _ _ _ _ _ _ _ | with_reducible refine State.raiseGenStale_keeps ?_ _ _ _ _ _ _ _ | (fail_if_no_progress with_reducible refine keeps_upd ?_ ..) | (fail_if_no_progress with_reducible refine keeps_filter ?_ _ ..) | with_reducible refine keeps_foldl ?_ ?_ | (intro t x ht; try dsimp only) | (intro t ht; try dsimp only) | split | (dsimp only))
theorem State.irq_keeps {s0 s : State} (h : Keeps s0 s) (a1) : Keeps s0 (State.irq s a1) := by
  unfold State.irq
  try dsimp only
  repeat' (first | with_reducible assumption | with_reducible refine keeps_ite ?_ ?_ | (fail_if_no_progress with_reducible refine keeps_upd ?_ ..))
theorem State.irqIf_keeps {s0 s : State} (h : Keeps s0 s) (a1) (a2) : Keeps s0 (State.irqIf s a1 a2) := by
  unfold State.irqIf
  try dsimp only
  repeat' (first | with_reducible assumption | with_reducible refine keeps_ite ?_ ?_ | (fail_if_no_progress with_reducible refine keeps_upd ?_ ..))
theorem State.intSet_keeps {s0 s : State} (h : Keeps s0 s) (a1) (a2) (a3) (a4) : Keeps s0 (State.intSet s a1 a2 a3 a4) := by
  unfold State.intSet
  try dsimp only
  repeat' (first | with_reducible assumption | with_reducible refine keeps_ite ?_ ?_ | with_reducible refine State.orBits_keeps ?_ _ _ | with_reducible refine State.irqIf_keeps ?_ _ _)
theorem State.endPend_keeps {s0 s : State} (h : Keeps s0 s) (a1) : Keeps s0 (State.endPend s a1) := by
  unfold State.endPend
  try dsimp only
  repeat' (first | with_reducible assumption | with_reducible refine keeps_ite ?_ ?_ | (fail_if_no_progress with_reducible refine keeps_upd ?_ ..))
theorem State.guardFail_keeps {s0 s : State} (h : Keeps s0 s) (a1) (a2) (a3) (a4) (a5) : Keeps s0 (State.guardFail s a1 a2 a3 a4 a5) := by
  unfold State.guardFail
  try dsimp only
  repeat' (first | with_reducible assumption | with_reducible refine keeps_ite ?_ ?_ | with_reducible refine State.count_keeps ?_ _ | with_reducible refine State.raise_keeps ?_ _)
theorem State.endOther_keeps {s0 s : State} (h : Keeps s0 s) (a1) : Keeps s0 (State.endOther s a1) := by
  unfold State.endOther
  try dsimp only
  repeat' (first | with_reducible assumption | with_reducible refine keeps_ite ?_ ?_ | with_reducible refine State.guardFail_keeps ?_ _ _ _ _ _ | with_reducible refine State.endPend_keeps ?_ _ | (fail_if_no_progress with_reducible refine keeps_upd ?_ ..) | (fail_if_no_progress with_reducible refine keeps_filter ?_ _ ..) | with_reducible refine keeps_foldl ?_ ?_ | (intro t x ht; try dsimp only) | (intro t ht; try dsimp only) | split)
theorem State.arrive_keeps {s0 s : State} (h : Keeps s0 s) (a1) : Keeps s0 (State.arrive s a1) := by
  unfold State.arrive
  try dsimp only
  repeat' (first | with_reducible assumption | with_reducible refine keeps_ite ?_ ?_ | with_reducible refine State.endOther_keeps ?_ _ | (fail_if_no_progress with_reducible refine keeps_upd ?_ ..))
theorem State.holdDiscard_keeps {s0 s : State} (h : Keeps s0 s) (a1) (a2) (a3) (a4) : Keeps s0 (State.holdDiscard s a1 a2 a3 a4) := by
  unfold State.holdDiscard
  try dsimp only
  repeat' (first | with_reducible assumption | with_reducible refine keeps_ite ?_ ?_ | with_reducible refine State.raiseLim_keeps ?_ _ _ _ _ | with_reducible refine State.count_keeps ?_ _)
theorem State.regDenied_keeps {s0 s : State} (h : Keeps s0 s) (a1) (a2) (a3) (a4) (a5) : Keeps s0 (State.regDenied s a1 a2 a3 a4 a5) := by
  unfold State.regDenied
  try dsimp only
  repeat' (first | with_reducible assumption | with_reducible refine keeps_ite ?_ ?_ | with_reducible refine State.count_keeps ?_ _ | with_reducible refine State.raise_keeps ?_ _)
theorem State.bootErr_keeps {s0 s : State} (h : Keeps s0 s) (a1) : Keeps s0 (State.bootErr s a1) := by
  unfold State.bootErr
  try dsimp only
  repeat' (first | with_reducible assumption | with_reducible refine keeps_ite ?_ ?_ | with_reducible refine State.wf_keeps ?_ _ _ _ | with_reducible refine State.raise_keeps ?_ _)
theorem State.turnedAway_keeps {s0 s t : State} (h : Keeps s0 s) (a1) (a2) (a3) (a4) (a5) (e : State.turnedAway s a1 a2 a3 a4 a5 = some t) : Keeps s0 t := by
  unfold State.turnedAway at e
  try dsimp only at e
  repeat' (split at e)
  all_goals try cases e
  all_goals repeat' (first | with_reducible assumption | with_reducible refine keeps_ite ?_ ?_ | with_reducible refine State.raiseMidUndef_keeps ?_ _ _ _ _ _ _ _ | with_reducible refine State.regDenied_keeps ?_ _ _ _ _ _ | with_reducible refine State.bootErr_keeps ?_ _ | (fail_if_no_progress with_reducible refine keeps_upd ?_ ..) | (fail_if_no_progress with_reducible refine keeps_filter ?_ _ ..) | with_reducible refine keeps_foldl ?_ ?_ | (intro t x ht; try dsimp only) | (intro t ht; try dsimp only) | split | (dsimp only))
theorem State.dropPends_keeps {s0 s : State} (h : Keeps s0 s) (a1) : Keeps s0 (State.dropPends s a1) := by
  unfold State.dropPends
  try dsimp only
  repeat' (first | with_reducible assumption | with_reducible refine keeps_ite ?_ ?_ | with_reducible refine State.guardFail_keeps ?_ _ _ _ _ _ | with_reducible refine State.endPend_keeps ?_ _ | (fail_if_no_progress with_reducible refine keeps_upd ?_ ..) | (fail_if_no_progress with_reducible refine keeps_filter ?_ _ ..) | with_reducible refine keeps_foldl ?_ ?_ | (intro t x ht; try dsimp only))
theorem State.takePair_keeps {s0 s t : State} (h : Keeps s0 s) (a1) (a2) (a3) (a4) (e : State.takePair s a1 a2 a3 a4 = some t) : Keeps s0 t := by
  unfold State.takePair at e
  try dsimp only at e
  repeat' (split at e)
  all_goals try cases e
  all_goals repeat' (first | with_reducible assumption | with_reducible refine keeps_ite ?_ ?_ | with_reducible refine State.turnedAway_keeps ?_ _ _ _ _ _ (by with_reducible assumption) | with_reducible refine State.endPend_keeps ?_ _ | (fail_if_no_progress with_reducible refine keeps_upd ?_ ..) | (fail_if_no_progress with_reducible refine keeps_filter ?_ _ ..) | with_reducible refine keeps_foldl ?_ ?_ | (intro t x ht; try dsimp only) | (intro t ht; try dsimp only) | split | (dsimp only))
theorem State.lockDiscard_keeps {s0 s : State} (h : Keeps s0 s) (a1) (a2) (a3) (a4) : Keeps s0 (State.lockDiscard s a1 a2 a3 a4) := by
  unfold State.lockDiscard
  try dsimp only
  repeat' (first | with_reducible assumption | with_reducible refine keeps_ite ?_ ?_ | with_reducible refine State.count_keeps ?_ _ | with_reducible refine State.raise_keeps ?_ _ | (fail_if_no_progress with_reducible refine keeps_upd ?_ ..))
theorem State.reach_keeps {s0 s : State} (h : Keeps s0 s) (off mid gen v f) (hf : ∀ t, Keeps s0 t → Keeps s0 (f t)) :
    Keeps s0 (State.reach s off mid gen v f) := by
  unfold State.reach
  repeat' (first | with_reducible assumption | with_reducible refine keeps_ite ?_ ?_ | with_reducible refine State.turnedAway_keeps ?_ _ _ _ _ _ (by with_reducible assumption) | with_reducible refine State.holdDiscard_keeps ?_ _ _ _ _ | with_reducible refine State.lockDiscard_keeps ?_ _ _ _ _ | with_reducible refine State.endOther_keeps ?_ _ | with_reducible refine State.arrive_keeps ?_ _ | with_reducible refine hf _ ?_ | split)
-- cand: with_reducible refine State.reach_keeps ?_ _ _ _ _ _ ?_
theorem State.plainWrite_keeps {s0 s : State} (h : Keeps s0 s) (a1) (a2) : Keeps s0 (State.plainWrite s a1 a2) := by
  unfold State.plainWrite
  try dsimp only
  repeat' (first | with_reducible assumption | with_reducible refine keeps_ite ?_ ?_ | with_reducible refine State.wr_keeps ?_ _ _ | (fail_if_no_progress with_reducible refine keeps_upd ?_ ..) | (fail_if_no_progress with_reducible refine keeps_filter ?_ _ ..) | with_reducible refine keeps_foldl ?_ ?_ | (intro t x ht; try dsimp only) | (intro t ht; try dsimp only) | split)

/-! ## BpmOps -/

theorem State.event_keeps {s0 s : State} (h : Keeps s0 s) (a1) (a2) : Keeps s0 (State.event s a1 a2) := by
  unfold State.event
  try dsimp only
  repeat' (first | with_reducible assumption | with_reducible refine keeps_ite ?_ ?_ | (fail_if_no_progress with_reducible refine keeps_upd ?_ ..))
theorem State.eventAll_keeps {s0 s : State} (h : Keeps s0 s) (a1) : Keeps s0 (State.eventAll s a1) := by
  unfold State.eventAll
  try dsimp only
  repeat' (first | with_reducible assumption | with_reducible refine keeps_ite ?_ ?_ | (fail_if_no_progress with_reducible refine keeps_upd ?_ ..))
theorem State.setPoolStat_keeps {s0 s : State} (h : Keeps s0 s) (a1) (a2) (a3) : Keeps s0 (State.setPoolStat s a1 a2 a3) := by
  unfold State.setPoolStat
  try dsimp only
  repeat' (first | with_reducible assumption | with_reducible refine keeps_ite ?_ ?_ | with_reducible refine State.wf_keeps ?_ _ _ _)
theorem State.setMeta_keeps {s0 s : State} (h : Keeps s0 s) (a1) (a2) (a3) : Keeps s0 (State.setMeta s a1 a2 a3) := by
  unfold State.setMeta
  try dsimp only
  repeat' (first | with_reducible assumption | with_reducible refine keeps_ite ?_ ?_ | with_reducible refine State.stN_keeps ?_ _ _ _ _)
theorem State.setPool_keeps {s0 s : State} (h : Keeps s0 s) (a1) (a2) : Keeps s0 (State.setPool s a1 a2) := by
  unfold State.setPool
  try dsimp only
  repeat' (first | with_reducible assumption | with_reducible refine keeps_ite ?_ ?_ | (fail_if_no_progress with_reducible refine keeps_upd ?_ ..))
theorem State.setFree_keeps {s0 s : State} (h : Keeps s0 s) (a1) (a2) : Keeps s0 (State.setFree s a1 a2) := by
  unfold State.setFree
  try dsimp only
  repeat' (first | with_reducible assumption | with_reducible refine keeps_ite ?_ ?_ | with_reducible refine State.wf_keeps ?_ _ _ _ | with_reducible refine State.setPool_keeps ?_ _ _ | with_reducible refine State.intSet_keeps ?_ _ _ _ _ | with_reducible refine State.eventAll_keeps ?_ _ | with_reducible refine State.raiseIf_keeps ?_ _ _ | with_reducible refine State.raiseLim_keeps ?_ _ _ _ _)
theorem State.ringWrite_keeps {s0 s : State} (h : Keeps s0 s) (a1) (a2) (a3) : Keeps s0 (State.ringWrite s a1 a2 a3) := by
  revert h
  fun_induction State.ringWrite s a1 a2 a3 <;> intro h <;> try dsimp only
  all_goals repeat' (first | with_reducible assumption | (with_reducible apply_assumption) | with_reducible refine keeps_ite ?_ ?_ | with_reducible refine State.stN_keeps ?_ _ _ _ _ | (fail_if_no_progress with_reducible refine keeps_upd ?_ ..) | (fail_if_no_progress with_reducible refine keeps_filter ?_ _ ..) | with_reducible refine keeps_foldl ?_ ?_ | (intro t x ht; try dsimp only) | (intro t ht; try dsimp only) | split | (dsimp only))
theorem State.ringRefill_keeps {s0 s : State} (h : Keeps s0 s) (a1) : Keeps s0 (State.ringRefill s a1) := by
  unfold State.ringRefill
  try dsimp only
  repeat' (first | with_reducible assumption | with_reducible refine keeps_ite ?_ ?_ | with_reducible refine State.setPool_keeps ?_ _ _)
theorem State.ringSpill_keeps {s0 s : State} (h : Keeps s0 s) (a1) : Keeps s0 (State.ringSpill s a1) := by
  unfold State.ringSpill
  try dsimp only
  repeat' (first | with_reducible assumption | with_reducible refine keeps_ite ?_ ?_ | with_reducible refine State.ringWrite_keeps ?_ _ _ _ | with_reducible refine State.setPool_keeps ?_ _ _)
theorem State.popHandle_keeps {s0 s : State} (h : Keeps s0 s) (a1) : Keeps s0 (State.popHandle s a1).1 := by
  unfold State.popHandle
  try dsimp only
  repeat' (first | with_reducible assumption | with_reducible refine keeps_ite ?_ ?_ | with_reducible refine State.ringRefill_keeps ?_ _ | with_reducible refine State.count_keeps ?_ _ | with_reducible refine State.setPool_keeps ?_ _ _ | (fail_if_no_progress with_reducible refine keeps_upd ?_ ..) | (fail_if_no_progress with_reducible refine keeps_filter ?_ _ ..) | with_reducible refine keeps_foldl ?_ ?_ | (intro t x ht; try dsimp only) | (intro t ht; try dsimp only) | split)
theorem State.sramUe_keeps {s0 s : State} (h : Keeps s0 s) (a1) (a2) : Keeps s0 (State.sramUe s a1 a2) := by
  unfold State.sramUe
  try dsimp only
  repeat' (first | with_reducible assumption | with_reducible refine keeps_ite ?_ ?_ | with_reducible refine State.raise_keeps ?_ _ | with_reducible refine State.count_keeps ?_ _ | (fail_if_no_progress with_reducible refine keeps_upd ?_ ..))
theorem State.giveBack_keeps {s0 s : State} (h : Keeps s0 s) (a1) (a2) : Keeps s0 (State.giveBack s a1 a2) := by
  unfold State.giveBack
  try dsimp only
  repeat' (first | with_reducible assumption | with_reducible refine keeps_ite ?_ ?_ | with_reducible refine State.raise_keeps ?_ _ | with_reducible refine State.count_keeps ?_ _ | with_reducible refine State.setMeta_keeps ?_ _ _ _ | with_reducible refine State.setFree_keeps ?_ _ _ | with_reducible refine State.setPool_keeps ?_ _ _ | (fail_if_no_progress with_reducible refine keeps_upd ?_ ..) | (fail_if_no_progress with_reducible refine keeps_filter ?_ _ ..) | with_reducible refine keeps_foldl ?_ ?_ | (intro t x ht; try dsimp only) | (intro t ht; try dsimp only) | split)
theorem State.setQuota_keeps {s0 s : State} (h : Keeps s0 s) (a1) (a2) (a3) : Keeps s0 (State.setQuota s a1 a2 a3) := by
  unfold State.setQuota
  try dsimp only
  repeat' (first | with_reducible assumption | with_reducible refine keeps_ite ?_ ?_ | (fail_if_no_progress with_reducible refine keeps_upd ?_ ..))
theorem State.quotaTake_keeps {s0 s t : State} (h : Keeps s0 s) (a1) (a2) (e : State.quotaTake s a1 a2 = some t) : Keeps s0 t := by
  unfold State.quotaTake at e
  try dsimp only at e
  repeat' (split at e)
  all_goals try cases e
  all_goals repeat' (first | with_reducible assumption | with_reducible refine keeps_ite ?_ ?_ | with_reducible refine State.setQuota_keeps ?_ _ _ _ | with_reducible refine State.count_keeps ?_ _ | with_reducible refine State.wf_keeps ?_ _ _ _ | (fail_if_no_progress with_reducible refine keeps_upd ?_ ..) | (fail_if_no_progress with_reducible refine keeps_filter ?_ _ ..) | with_reducible refine keeps_foldl ?_ ?_ | (intro t x ht; try dsimp only) | (intro t ht; try dsimp only) | split | (dsimp only))
theorem State.quotaRefuse_keeps {s0 s : State} (h : Keeps s0 s) (a1) (a2) (a3) (a4) : Keeps s0 (State.quotaRefuse s a1 a2 a3 a4) := by
  unfold State.quotaRefuse
  try dsimp only
  repeat' (first | with_reducible assumption | with_reducible refine keeps_ite ?_ ?_ | with_reducible refine State.event_keeps ?_ _ _ | with_reducible refine State.raiseLim_keeps ?_ _ _ _ _ | with_reducible refine State.count_keeps ?_ _)
theorem State.quotaLeave_keeps {s0 s : State} (h : Keeps s0 s) (a1) (a2) : Keeps s0 (State.quotaLeave s a1 a2) := by
  unfold State.quotaLeave
  try dsimp only
  repeat' (first | with_reducible assumption | with_reducible refine keeps_ite ?_ ?_ | with_reducible refine State.wf_keeps ?_ _ _ _ | with_reducible refine State.setQuota_keeps ?_ _ _ _)
theorem State.takeBuffer_keeps {s0 s : State} (h : Keeps s0 s) (a1) (a2) (a3) : Keeps s0 (State.takeBuffer s a1 a2 a3).1 := by
  unfold State.takeBuffer
  try dsimp only
  repeat' (first | with_reducible assumption | with_reducible refine keeps_ite ?_ ?_ | with_reducible refine State.popHandle_keeps ?_ _ | refine keeps_fst (by with_reducible assumption) (State.popHandle_keeps ?_ _) | with_reducible refine State.setFree_keeps ?_ _ _ | with_reducible refine State.count_keeps ?_ _ | with_reducible refine State.setMeta_keeps ?_ _ _ _ | (fail_if_no_progress with_reducible refine keeps_upd ?_ ..) | (fail_if_no_progress with_reducible refine keeps_filter ?_ _ ..) | with_reducible refine keeps_foldl ?_ ?_ | (intro t x ht; try dsimp only) | (intro t ht; try dsimp only) | split)
theorem State.bpmRefuse_keeps {s0 s : State} (h : Keeps s0 s) (a1) (a2) (a3) (a4) (a5) (a6) (a7) (a8) : Keeps s0 (State.bpmRefuse s a1 a2 a3 a4 a5 a6 a7 a8) := by
  unfold State.bpmRefuse
  try dsimp only
  repeat' (first | with_reducible assumption | with_reducible refine keeps_ite ?_ ?_ | with_reducible refine State.count_keeps ?_ _ | with_reducible refine State.raise_keeps ?_ _ | with_reducible refine State.raiseGenStale_keeps ?_ _ _ _ _ _ _ _ | (fail_if_no_progress with_reducible refine keeps_upd ?_ ..) | (fail_if_no_progress with_reducible refine keeps_filter ?_ _ ..) | with_reducible refine keeps_foldl ?_ ?_ | (intro t x ht; try dsimp only) | (intro t ht; try dsimp only) | split)
theorem State.dropClaim_keeps {s0 s : State} (h : Keeps s0 s) (a1) (a2) (a3) : Keeps s0 (State.dropClaim s a1 a2 a3) := by
  unfold State.dropClaim
  try dsimp only
  repeat' (first | with_reducible assumption | with_reducible refine keeps_ite ?_ ?_ | with_reducible refine State.giveBack_keeps ?_ _ _ | with_reducible refine State.quotaLeave_keeps ?_ _ _ | with_reducible refine State.setMeta_keeps ?_ _ _ _)
theorem State.bpmEffect_keeps {s0 s : State} (h : Keeps s0 s) (a1) (a2) (a3) (a4) (a5) (a6) (a7) : Keeps s0 (State.bpmEffect s a1 a2 a3 a4 a5 a6 a7).1 := by
  unfold State.bpmEffect
  try dsimp only
  repeat' (first | with_reducible assumption | with_reducible refine keeps_ite ?_ ?_ | with_reducible refine State.setMeta_keeps ?_ _ _ _ | with_reducible refine State.dropClaim_keeps ?_ _ _ _ | with_reducible refine State.quotaTake_keeps ?_ _ _ (by with_reducible assumption) | with_reducible refine State.quotaRefuse_keeps ?_ _ _ _ _ | with_reducible refine State.quotaLeave_keeps ?_ _ _ | with_reducible refine State.giveBack_keeps ?_ _ _ | (fail_if_no_progress with_reducible refine keeps_upd ?_ ..) | (fail_if_no_progress with_reducible refine keeps_filter ?_ _ ..) | with_reducible refine keeps_foldl ?_ ?_ | (intro t x ht; try dsimp only) | (intro t ht; try dsimp only) | split)
theorem State.bpmOp_keeps {s0 s : State} (h : Keeps s0 s) (a1) (a2) (a3) (a4) (a5) (a6) : Keeps s0 (State.bpmOp s a1 a2 a3 a4 a5 a6).1 := by
  unfold State.bpmOp
  try dsimp only
  repeat' (first | with_reducible assumption | with_reducible refine keeps_ite ?_ ?_ | with_reducible refine State.raiseMidUndef_keeps ?_ _ _ _ _ _ _ _ | with_reducible refine State.bpmRefuse_keeps ?_ _ _ _ _ _ _ _ _ | with_reducible refine State.count_keeps ?_ _ | with_reducible refine State.setPool_keeps ?_ _ _ | with_reducible refine State.bpmEffect_keeps ?_ _ _ _ _ _ _ _ | refine keeps_fst (by with_reducible assumption) (State.bpmEffect_keeps ?_ _ _ _ _ _ _ _) | (fail_if_no_progress with_reducible refine keeps_upd ?_ ..) | (fail_if_no_progress with_reducible refine keeps_filter ?_ _ ..) | with_reducible refine keeps_foldl ?_ ?_ | (intro t x ht; try dsimp only) | (intro t ht; try dsimp only) | split)
theorem State.odsFree_keeps {s0 s : State} (h : Keeps s0 s) (a1) : Keeps s0 (State.odsFree s a1) := by
  unfold State.odsFree
  try dsimp only
  repeat' (first | with_reducible assumption | with_reducible refine keeps_ite ?_ ?_ | with_reducible refine State.bpmOp_keeps ?_ _ _ _ _ _ _)

/-! ## Tables -/

theorem HTab.put_keeps {s0 s : State} (h : Keeps s0 s) (a0) (a2) (a3) (a4) : Keeps s0 (HTab.put a0 s a2 a3 a4) := by
  unfold HTab.put
  try dsimp only
  repeat' (first | with_reducible assumption | with_reducible refine keeps_ite ?_ ?_ | with_reducible refine State.setBytes_keeps ?_ _ _ _)
theorem HTab.clear_keeps {s0 s : State} (h : Keeps s0 s) (a0) (a2) (a3) : Keeps s0 (HTab.clear a0 s a2 a3) := by
  unfold HTab.clear
  try dsimp only
  repeat' (first | with_reducible assumption | with_reducible refine keeps_ite ?_ ?_ | with_reducible refine State.setByte_keeps ?_ _ _ _)
theorem HTab.runChain_keeps {s0 s : State} (h : Keeps s0 s) (a0) (a2) : Keeps s0 (HTab.runChain a0 s a2) := by
  revert h
  fun_induction HTab.runChain a0 s a2 <;> intro h <;> try dsimp only
  all_goals repeat' (first | with_reducible assumption | (with_reducible apply_assumption) | with_reducible refine keeps_ite ?_ ?_ | with_reducible refine HTab.put_keeps ?_ _ _ _ _ | (fail_if_no_progress with_reducible refine keeps_upd ?_ ..) | (fail_if_no_progress with_reducible refine keeps_filter ?_ _ ..) | with_reducible refine keeps_foldl ?_ ?_ | (intro t x ht; try dsimp only) | (intro t ht; try dsimp only) | split | (dsimp only))
theorem HTab.place_keeps {s0 s t : State} {x} (h : Keeps s0 s) (a0) (a2) (a3) (e : HTab.place a0 s a2 a3 = some (t, x)) : Keeps s0 t := by
  unfold HTab.place at e
  try dsimp only at e
  repeat' (split at e)
  all_goals try cases e
  all_goals repeat' (first | with_reducible assumption | with_reducible refine keeps_ite ?_ ?_ | with_reducible refine HTab.put_keeps ?_ _ _ _ _ | with_reducible refine HTab.runChain_keeps ?_ _ _ | (fail_if_no_progress with_reducible refine keeps_upd ?_ ..) | (fail_if_no_progress with_reducible refine keeps_filter ?_ _ ..) | with_reducible refine keeps_foldl ?_ ?_ | (intro t x ht; try dsimp only) | (intro t ht; try dsimp only) | split | (dsimp only))

/-! ## Token -/



/-! ## OdsOps -/

set_option linter.all false
theorem State.setSlot_keeps {s0 s : State} (h : Keeps s0 s) (a1) (a2) : Keeps s0 (State.setSlot s a1 a2) := by
  unfold State.setSlot
  try dsimp only
  repeat' (first | with_reducible assumption | with_reducible refine keeps_ite ?_ ?_ | (fail_if_no_progress with_reducible refine keeps_upd ?_ ..) | (fail_if_no_progress with_reducible refine keeps_filter ?_ _ ..) | with_reducible refine keeps_foldl ?_ ?_ | (intro t x ht; try dsimp only) | (intro t ht; try dsimp only) | split | (dsimp only))
theorem State.setDrained_keeps {s0 s : State} (h : Keeps s0 s) (a1) : Keeps s0 (State.setDrained s a1) := by
  unfold State.setDrained
  try dsimp only
  repeat' (first | with_reducible assumption | with_reducible refine keeps_ite ?_ ?_ | with_reducible refine State.intSet_keeps ?_ _ _ _ _ | with_reducible refine State.orBits_keeps ?_ _ _ | (fail_if_no_progress with_reducible refine keeps_upd ?_ ..) | (fail_if_no_progress with_reducible refine keeps_filter ?_ _ ..) | with_reducible refine keeps_foldl ?_ ?_ | (intro t x ht; try dsimp only) | (intro t ht; try dsimp only) | split | (dsimp only))
theorem State.checkDrains_keeps {s0 s : State} (h : Keeps s0 s) : Keeps s0 (State.checkDrains s) := by
  unfold State.checkDrains
  try dsimp only
  repeat' (first | with_reducible assumption | with_reducible refine keeps_ite ?_ ?_ | with_reducible refine State.setDrained_keeps ?_ _ | (fail_if_no_progress with_reducible refine keeps_upd ?_ ..) | (fail_if_no_progress with_reducible refine keeps_filter ?_ _ ..) | with_reducible refine keeps_foldl ?_ ?_ | (intro t x ht; try dsimp only) | (intro t ht; try dsimp only) | split | (dsimp only))
theorem State.dropSlot_keeps {s0 s : State} (h : Keeps s0 s) (a1) : Keeps s0 (State.dropSlot s a1) := by
  unfold State.dropSlot
  try dsimp only
  repeat' (first | with_reducible assumption | with_reducible refine keeps_ite ?_ ?_ | with_reducible refine State.checkDrains_keeps ?_ | (fail_if_no_progress with_reducible refine keeps_upd ?_ ..) | (fail_if_no_progress with_reducible refine keeps_filter ?_ _ ..) | with_reducible refine keeps_foldl ?_ ?_ | (intro t x ht; try dsimp only) | (intro t ht; try dsimp only) | split | (dsimp only))
theorem State.allocSlot_keeps {s0 s t : State} {x} (h : Keeps s0 s) (a1) (a2) (e : State.allocSlot s a1 a2 = some (t, x)) : Keeps s0 t := by
  unfold State.allocSlot at e
  try dsimp only at e
  repeat' (split at e)
  all_goals try cases e
  all_goals repeat' (first | with_reducible assumption | with_reducible refine keeps_ite ?_ ?_ | with_reducible refine State.count_keeps ?_ _ | with_reducible refine State.setSlot_keeps ?_ _ _ | (fail_if_no_progress with_reducible refine keeps_upd ?_ ..) | (fail_if_no_progress with_reducible refine keeps_filter ?_ _ ..) | with_reducible refine keeps_foldl ?_ ?_ | (intro t x ht; try dsimp only) | (intro t ht; try dsimp only) | split | (dsimp only))
theorem State.setPipe_keeps {s0 s : State} (h : Keeps s0 s) (a1) (a2) : Keeps s0 (State.setPipe s a1 a2) := by
  unfold State.setPipe
  try dsimp only
  repeat' (first | with_reducible assumption | with_reducible refine keeps_ite ?_ ?_ | (fail_if_no_progress with_reducible refine keeps_upd ?_ ..) | (fail_if_no_progress with_reducible refine keeps_filter ?_ _ ..) | with_reducible refine keeps_foldl ?_ ?_ | (intro t x ht; try dsimp only) | (intro t ht; try dsimp only) | split | (dsimp only))
theorem State.nextAdm_keeps {s0 s : State} (h : Keeps s0 s) (a1) : Keeps s0 (State.nextAdm s a1).1 := by
  unfold State.nextAdm
  try dsimp only
  repeat' (first | with_reducible assumption | with_reducible refine keeps_ite ?_ ?_ | with_reducible refine State.setPipe_keeps ?_ _ _ | (fail_if_no_progress with_reducible refine keeps_upd ?_ ..) | (fail_if_no_progress with_reducible refine keeps_filter ?_ _ ..) | with_reducible refine keeps_foldl ?_ ?_ | (intro t x ht; try dsimp only) | (intro t ht; try dsimp only) | split | (dsimp only))
theorem State.dropForming_keeps {s0 s : State} (h : Keeps s0 s) (a1) : Keeps s0 (State.dropForming s a1) := by
  unfold State.dropForming
  try dsimp only
  repeat' (first | with_reducible assumption | with_reducible refine keeps_ite ?_ ?_ | with_reducible refine State.count_keeps ?_ _ | with_reducible refine State.dropSlot_keeps ?_ _ | (fail_if_no_progress with_reducible refine keeps_upd ?_ ..) | (fail_if_no_progress with_reducible refine keeps_filter ?_ _ ..) | with_reducible refine keeps_foldl ?_ ?_ | (intro t x ht; try dsimp only) | (intro t ht; try dsimp only) | split | (dsimp only))
theorem State.setPort_keeps {s0 s : State} (h : Keeps s0 s) (a1) (a2) : Keeps s0 (State.setPort s a1 a2) := by
  unfold State.setPort
  try dsimp only
  repeat' (first | with_reducible assumption | with_reducible refine keeps_ite ?_ ?_ | (fail_if_no_progress with_reducible refine keeps_upd ?_ ..) | (fail_if_no_progress with_reducible refine keeps_filter ?_ _ ..) | with_reducible refine keeps_foldl ?_ ?_ | (intro t x ht; try dsimp only) | (intro t ht; try dsimp only) | split | (dsimp only))
theorem State.holdCell_keeps {s0 s : State} (h : Keeps s0 s) (a1) : Keeps s0 (State.holdCell s a1) := by
  unfold State.holdCell
  try dsimp only
  repeat' (first | with_reducible assumption | with_reducible refine keeps_ite ?_ ?_ | (fail_if_no_progress with_reducible refine keeps_upd ?_ ..) | (fail_if_no_progress with_reducible refine keeps_filter ?_ _ ..) | with_reducible refine keeps_foldl ?_ ?_ | (intro t x ht; try dsimp only) | (intro t ht; try dsimp only) | split | (dsimp only))
theorem State.injectCell_keeps {s0 s : State} (h : Keeps s0 s) (a1) (a2) (a3) : Keeps s0 (State.injectCell s a1 a2 a3) := by
  unfold State.injectCell
  try dsimp only
  repeat' (first | with_reducible assumption | with_reducible refine keeps_ite ?_ ?_ | with_reducible refine State.allocSlot_keeps ?_ _ _ (by with_reducible assumption) | with_reducible refine State.holdCell_keeps ?_ _ | with_reducible refine State.nextAdm_keeps ?_ _ | refine keeps_fst (by with_reducible assumption) (State.nextAdm_keeps ?_ _) | with_reducible refine State.setSlot_keeps ?_ _ _ | with_reducible refine State.setPipe_keeps ?_ _ _ | (fail_if_no_progress with_reducible refine keeps_upd ?_ ..) | (fail_if_no_progress with_reducible refine keeps_filter ?_ _ ..) | with_reducible refine keeps_foldl ?_ ?_ | (intro t x ht; try dsimp only) | (intro t ht; try dsimp only) | split | (dsimp only))
theorem State.formFlush_keeps {s0 s : State} (h : Keeps s0 s) (a1) : Keeps s0 (State.formFlush s a1) := by
  unfold State.formFlush
  try dsimp only
  repeat' (first | with_reducible assumption | with_reducible refine keeps_ite ?_ ?_ | with_reducible refine State.allocSlot_keeps ?_ _ _ (by with_reducible assumption) | with_reducible refine State.holdCell_keeps ?_ _ | with_reducible refine State.setPort_keeps ?_ _ _ | with_reducible refine State.nextAdm_keeps ?_ _ | refine keeps_fst (by with_reducible assumption) (State.nextAdm_keeps ?_ _) | with_reducible refine State.setSlot_keeps ?_ _ _ | (fail_if_no_progress with_reducible refine keeps_upd ?_ ..) | (fail_if_no_progress with_reducible refine keeps_filter ?_ _ ..) | with_reducible refine keeps_foldl ?_ ?_ | (intro t x ht; try dsimp only) | (intro t ht; try dsimp only) | split | (dsimp only))
theorem State.setQueue_keeps {s0 s : State} (h : Keeps s0 s) (a1) (a2) : Keeps s0 (State.setQueue s a1 a2) := by
  unfold State.setQueue
  try dsimp only
  repeat' (first | with_reducible assumption | with_reducible refine keeps_ite ?_ ?_ | with_reducible refine State.wf_keeps ?_ _ _ _ | (fail_if_no_progress with_reducible refine keeps_upd ?_ ..) | (fail_if_no_progress with_reducible refine keeps_filter ?_ _ ..) | with_reducible refine keeps_foldl ?_ ?_ | (intro t x ht; try dsimp only) | (intro t ht; try dsimp only) | split | (dsimp only))
theorem State.reThrottle_keeps {s0 s : State} (h : Keeps s0 s) : Keeps s0 (State.reThrottle s) := by
  unfold State.reThrottle
  try dsimp only
  repeat' (first | with_reducible assumption | with_reducible refine keeps_ite ?_ ?_ | with_reducible refine State.wf_keeps ?_ _ _ _ | with_reducible refine State.intSet_keeps ?_ _ _ _ _ | (fail_if_no_progress with_reducible refine keeps_upd ?_ ..) | (fail_if_no_progress with_reducible refine keeps_filter ?_ _ ..) | with_reducible refine keeps_foldl ?_ ?_ | (intro t x ht; try dsimp only) | (intro t ht; try dsimp only) | split | (dsimp only))
theorem State.enqueue_keeps {s0 s : State} (h : Keeps s0 s) (a1) (a2) : Keeps s0 (State.enqueue s a1 a2) := by
  unfold State.enqueue
  try dsimp only
  repeat' (first | with_reducible assumption | with_reducible refine keeps_ite ?_ ?_ | with_reducible refine State.setQueue_keeps ?_ _ _ | with_reducible refine State.setSlot_keeps ?_ _ _ | (fail_if_no_progress with_reducible refine keeps_upd ?_ ..) | (fail_if_no_progress with_reducible refine keeps_filter ?_ _ ..) | with_reducible refine keeps_foldl ?_ ?_ | (intro t x ht; try dsimp only) | (intro t ht; try dsimp only) | split | (dsimp only))
theorem State.enqueueHead_keeps {s0 s : State} (h : Keeps s0 s) (a1) : Keeps s0 (State.enqueueHead s a1) := by
  unfold State.enqueueHead
  try dsimp only
  repeat' (first | with_reducible assumption | with_reducible refine keeps_ite ?_ ?_ | with_reducible refine State.setQueue_keeps ?_ _ _ | with_reducible refine State.setSlot_keeps ?_ _ _ | (fail_if_no_progress with_reducible refine keeps_upd ?_ ..) | (fail_if_no_progress with_reducible refine keeps_filter ?_ _ ..) | with_reducible refine keeps_foldl ?_ ?_ | (intro t x ht; try dsimp only) | (intro t ht; try dsimp only) | split | (dsimp only))
theorem State.tokView_keeps {s0 s : State} (h : Keeps s0 s) (a1) : Keeps s0 (State.tokView s a1) := by
  unfold State.tokView
  try dsimp only
  repeat' (first | with_reducible assumption | with_reducible refine keeps_ite ?_ ?_ | with_reducible refine State.view_keeps ?_ _ | (fail_if_no_progress with_reducible refine keeps_upd ?_ ..) | (fail_if_no_progress with_reducible refine keeps_filter ?_ _ ..) | with_reducible refine keeps_foldl ?_ ?_ | (intro t x ht; try dsimp only) | (intro t ht; try dsimp only) | split | (dsimp only))
theorem State.setLock_keeps {s0 s : State} (h : Keeps s0 s) (a1) (a2) : Keeps s0 (State.setLock s a1 a2) := by
  unfold State.setLock
  try dsimp only
  repeat' (first | with_reducible assumption | with_reducible refine keeps_ite ?_ ?_ | (fail_if_no_progress with_reducible refine keeps_upd ?_ ..) | (fail_if_no_progress with_reducible refine keeps_filter ?_ _ ..) | with_reducible refine keeps_foldl ?_ ?_ | (intro t x ht; try dsimp only) | (intro t ht; try dsimp only) | split | (dsimp only))
theorem State.unlock_keeps {s0 s : State} (h : Keeps s0 s) (a1) : Keeps s0 (State.unlock s a1) := by
  unfold State.unlock
  try dsimp only
  repeat' (first | with_reducible assumption | with_reducible refine keeps_ite ?_ ?_ | with_reducible refine State.setSlot_keeps ?_ _ _ | with_reducible refine State.setLock_keeps ?_ _ _ | with_reducible refine State.enqueueHead_keeps ?_ _ | (fail_if_no_progress with_reducible refine keeps_upd ?_ ..) | (fail_if_no_progress with_reducible refine keeps_filter ?_ _ ..) | with_reducible refine keeps_foldl ?_ ?_ | (intro t x ht; try dsimp only) | (intro t ht; try dsimp only) | split | (dsimp only))
theorem State.setDl_keeps {s0 s : State} (h : Keeps s0 s) (a1) (a2) (a3) : Keeps s0 (State.setDl s a1 a2 a3) := by
  unfold State.setDl
  try dsimp only
  repeat' (first | with_reducible assumption | with_reducible refine keeps_ite ?_ ?_ | with_reducible refine State.wf_keeps ?_ _ _ _ | (fail_if_no_progress with_reducible refine keeps_upd ?_ ..) | (fail_if_no_progress with_reducible refine keeps_filter ?_ _ ..) | with_reducible refine keeps_foldl ?_ ?_ | (intro t x ht; try dsimp only) | (intro t ht; try dsimp only) | split | (dsimp only))
theorem State.dlFree_keeps {s0 s : State} (h : Keeps s0 s) (a1) (a2) : Keeps s0 (State.dlFree s a1 a2) := by
  unfold State.dlFree
  try dsimp only
  repeat' (first | with_reducible assumption | with_reducible refine keeps_ite ?_ ?_ | with_reducible refine State.setDl_keeps ?_ _ _ _ | (fail_if_no_progress with_reducible refine keeps_upd ?_ ..) | (fail_if_no_progress with_reducible refine keeps_filter ?_ _ ..) | with_reducible refine keeps_foldl ?_ ?_ | (intro t x ht; try dsimp only) | (intro t ht; try dsimp only) | split | (dsimp only))
theorem State.dlReserve_keeps {s0 s t : State} {x} (h : Keeps s0 s) (a1) (a2) (e : State.dlReserve s a1 a2 = some (t, x)) : Keeps s0 t := by
  unfold State.dlReserve at e
  try dsimp only at e
  repeat' (split at e)
  all_goals try cases e
  all_goals repeat' (first | with_reducible assumption | with_reducible refine keeps_ite ?_ ?_ | with_reducible refine State.setDl_keeps ?_ _ _ _ | (fail_if_no_progress with_reducible refine keeps_upd ?_ ..) | (fail_if_no_progress with_reducible refine keeps_filter ?_ _ ..) | with_reducible refine keeps_foldl ?_ ?_ | (intro t x ht; try dsimp only) | (intro t ht; try dsimp only) | split | (dsimp only))
theorem State.relPush_keeps {s0 s : State} (h : Keeps s0 s) (a1) (a2) : Keeps s0 (State.relPush s a1 a2) := by
  unfold State.relPush
  try dsimp only
  repeat' (first | with_reducible assumption | with_reducible refine keeps_ite ?_ ?_ | (fail_if_no_progress with_reducible refine keeps_upd ?_ ..) | (fail_if_no_progress with_reducible refine keeps_filter ?_ _ ..) | with_reducible refine keeps_foldl ?_ ?_ | (intro t x ht; try dsimp only) | (intro t ht; try dsimp only) | split | (dsimp only))
theorem State.relPushAll_keeps {s0 s : State} (h : Keeps s0 s) (a1) (a2) : Keeps s0 (State.relPushAll s a1 a2) := by
  revert h
  fun_induction State.relPushAll s a1 a2 <;> intro h <;> try dsimp only
  all_goals repeat' (first | with_reducible assumption | (with_reducible apply_assumption) | with_reducible refine keeps_ite ?_ ?_ | with_reducible refine State.relPush_keeps ?_ _ _ | (fail_if_no_progress with_reducible refine keeps_upd ?_ ..) | (fail_if_no_progress with_reducible refine keeps_filter ?_ _ ..) | with_reducible refine keeps_foldl ?_ ?_ | (intro t x ht; try dsimp only) | (intro t ht; try dsimp only) | split | (dsimp only))
theorem State.odsBpm_keeps {s0 s : State} (h : Keeps s0 s) (a1) (a2) (a3) : Keeps s0 (State.odsBpm s a1 a2 a3) := by
  unfold State.odsBpm
  try dsimp only
  repeat' (first | with_reducible assumption | with_reducible refine keeps_ite ?_ ?_ | with_reducible refine State.bpmOp_keeps ?_ _ _ _ _ _ _ | refine keeps_fst (by with_reducible assumption) (State.bpmOp_keeps ?_ _ _ _ _ _ _) | (fail_if_no_progress with_reducible refine keeps_upd ?_ ..) | (fail_if_no_progress with_reducible refine keeps_filter ?_ _ ..) | with_reducible refine keeps_foldl ?_ ?_ | (intro t x ht; try dsimp only) | (intro t ht; try dsimp only) | split | (dsimp only))
theorem State.freeBuf_keeps {s0 s : State} (h : Keeps s0 s) (a1) (a2) : Keeps s0 (State.freeBuf s a1 a2) := by
  unfold State.freeBuf
  try dsimp only
  repeat' (first | with_reducible assumption | with_reducible refine keeps_ite ?_ ?_ | with_reducible refine State.odsBpm_keeps ?_ _ _ _ | (fail_if_no_progress with_reducible refine keeps_upd ?_ ..) | (fail_if_no_progress with_reducible refine keeps_filter ?_ _ ..) | with_reducible refine keeps_foldl ?_ ?_ | (intro t x ht; try dsimp only) | (intro t ht; try dsimp only) | split | (dsimp only))
theorem State.endDiscard_keeps {s0 s : State} (h : Keeps s0 s) (a1) : Keeps s0 (State.endDiscard s a1) := by
  unfold State.endDiscard
  try dsimp only
  repeat' (first | with_reducible assumption | with_reducible refine keeps_ite ?_ ?_ | with_reducible refine State.count_keeps ?_ _ | with_reducible refine State.dropSlot_keeps ?_ _ | with_reducible refine State.freeBuf_keeps ?_ _ _ | (fail_if_no_progress with_reducible refine keeps_upd ?_ ..) | (fail_if_no_progress with_reducible refine keeps_filter ?_ _ ..) | with_reducible refine keeps_foldl ?_ ?_ | (intro t x ht; try dsimp only) | (intro t ht; try dsimp only) | split | (dsimp only))
theorem State.mirrorCopy_keeps {s0 s : State} (h : Keeps s0 s) (a1) : Keeps s0 (State.mirrorCopy s a1) := by
  unfold State.mirrorCopy
  try dsimp only
  repeat' (first | with_reducible assumption | with_reducible refine keeps_ite ?_ ?_ | with_reducible refine State.count_keeps ?_ _ | with_reducible refine State.allocSlot_keeps ?_ _ _ (by with_reducible assumption) | with_reducible refine State.odsBpm_keeps ?_ _ _ _ | with_reducible refine State.relPush_keeps ?_ _ _ | with_reducible refine State.setSlot_keeps ?_ _ _ | (fail_if_no_progress with_reducible refine keeps_upd ?_ ..) | (fail_if_no_progress with_reducible refine keeps_filter ?_ _ ..) | with_reducible refine keeps_foldl ?_ ?_ | (intro t x ht; try dsimp only) | (intro t ht; try dsimp only) | split | (dsimp only))
theorem State.releaseShared_keeps {s0 s : State} (h : Keeps s0 s) (a1) (a2) : Keeps s0 (State.releaseShared s a1 a2) := by
  unfold State.releaseShared
  try dsimp only
  repeat' (first | with_reducible assumption | with_reducible refine keeps_ite ?_ ?_ | with_reducible refine State.odsBpm_keeps ?_ _ _ _ | with_reducible refine State.relPushAll_keeps ?_ _ _ | with_reducible refine State.setSlot_keeps ?_ _ _ | (fail_if_no_progress with_reducible refine keeps_upd ?_ ..) | (fail_if_no_progress with_reducible refine keeps_filter ?_ _ ..) | with_reducible refine keeps_foldl ?_ ?_ | (intro t x ht; try dsimp only) | (intro t ht; try dsimp only) | split | (dsimp only))
theorem State.releaseOne_keeps {s0 s : State} (h : Keeps s0 s) (a1) (a2) (a3) : Keeps s0 (State.releaseOne s a1 a2 a3) := by
  unfold State.releaseOne
  try dsimp only
  repeat' (first | with_reducible assumption | with_reducible refine keeps_ite ?_ ?_ | with_reducible refine State.releaseShared_keeps ?_ _ _ | with_reducible refine State.odsBpm_keeps ?_ _ _ _ | with_reducible refine State.relPush_keeps ?_ _ _ | with_reducible refine State.setSlot_keeps ?_ _ _ | (fail_if_no_progress with_reducible refine keeps_upd ?_ ..) | (fail_if_no_progress with_reducible refine keeps_filter ?_ _ ..) | with_reducible refine keeps_foldl ?_ ?_ | (intro t x ht; try dsimp only) | (intro t ht; try dsimp only) | split | (dsimp only))
theorem State.toEgress_keeps {s0 s : State} (h : Keeps s0 s) (a1) : Keeps s0 (State.toEgress s a1) := by
  unfold State.toEgress
  try dsimp only
  repeat' (first | with_reducible assumption | with_reducible refine keeps_ite ?_ ?_ | with_reducible refine State.endDiscard_keeps ?_ _ | with_reducible refine State.raise_keeps ?_ _ | with_reducible refine State.tokView_keeps ?_ _ | with_reducible refine State.releaseShared_keeps ?_ _ _ | with_reducible refine State.releaseOne_keeps ?_ _ _ _ | (fail_if_no_progress with_reducible refine keeps_upd ?_ ..) | (fail_if_no_progress with_reducible refine keeps_filter ?_ _ ..) | with_reducible refine keeps_foldl ?_ ?_ | (intro t x ht; try dsimp only) | (intro t ht; try dsimp only) | split | (dsimp only))
theorem State.releaseNow_keeps {s0 s : State} (h : Keeps s0 s) (a1) : Keeps s0 (State.releaseNow s a1) := by
  unfold State.releaseNow
  try dsimp only
  repeat' (first | with_reducible assumption | with_reducible refine keeps_ite ?_ ?_ | with_reducible refine State.count_keeps ?_ _ | with_reducible refine State.endDiscard_keeps ?_ _ | with_reducible refine State.dropSlot_keeps ?_ _ | with_reducible refine State.toEgress_keeps ?_ _ | with_reducible refine State.mirrorCopy_keeps ?_ _ | (fail_if_no_progress with_reducible refine keeps_upd ?_ ..) | (fail_if_no_progress with_reducible refine keeps_filter ?_ _ ..) | with_reducible refine keeps_foldl ?_ ?_ | (intro t x ht; try dsimp only) | (intro t ht; try dsimp only) | split | (dsimp only))
theorem State.countLate_keeps {s0 s : State} (h : Keeps s0 s) (a1) : Keeps s0 (State.countLate s a1) := by
  unfold State.countLate
  try dsimp only
  repeat' (first | with_reducible assumption | with_reducible refine keeps_ite ?_ ?_ | with_reducible refine State.countIf_keeps ?_ _ _ | (fail_if_no_progress with_reducible refine keeps_upd ?_ ..) | (fail_if_no_progress with_reducible refine keeps_filter ?_ _ ..) | with_reducible refine keeps_foldl ?_ ?_ | (intro t x ht; try dsimp only) | (intro t ht; try dsimp only) | split | (dsimp only))
theorem State.leaveOrder_keeps {s0 s : State} (h : Keeps s0 s) (a1) : Keeps s0 (State.leaveOrder s a1) := by
  unfold State.leaveOrder
  try dsimp only
  repeat' (first | with_reducible assumption | with_reducible refine keeps_ite ?_ ?_ | with_reducible refine State.endDiscard_keeps ?_ _ | with_reducible refine State.count_keeps ?_ _ | with_reducible refine State.dlFree_keeps ?_ _ _ | with_reducible refine State.setSlot_keeps ?_ _ _ | with_reducible refine State.releaseNow_keeps ?_ _ | with_reducible refine State.countLate_keeps ?_ _ | with_reducible refine State.setDl_keeps ?_ _ _ _ | (fail_if_no_progress with_reducible refine keeps_upd ?_ ..) | (fail_if_no_progress with_reducible refine keeps_filter ?_ _ ..) | with_reducible refine keeps_foldl ?_ ?_ | (intro t x ht; try dsimp only) | (intro t ht; try dsimp only) | split | (dsimp only))
theorem State.setDom_keeps {s0 s : State} (h : Keeps s0 s) (a1) (a2) : Keeps s0 (State.setDom s a1 a2) := by
  unfold State.setDom
  try dsimp only
  repeat' (first | with_reducible assumption | with_reducible refine keeps_ite ?_ ?_ | (fail_if_no_progress with_reducible refine keeps_upd ?_ ..) | (fail_if_no_progress with_reducible refine keeps_filter ?_ _ ..) | with_reducible refine keeps_foldl ?_ ?_ | (intro t x ht; try dsimp only) | (intro t ht; try dsimp only) | split | (dsimp only))
theorem State.drainDom_keeps {s0 s : State} (h : Keeps s0 s) (a1) (a2) : Keeps s0 (State.drainDom s a1 a2) := by
  induction a2 generalizing s with
  | zero => exact h
  | succ n ih =>
    unfold State.drainDom
    dsimp only
    split
    · exact ih (State.setDom_keeps h _ _)
    · split
      · exact ih (State.leaveOrder_keeps (State.setDom_keeps h _ _) _)
      · exact h
theorem State.drain_keeps {s0 s : State} (h : Keeps s0 s) (a1) : Keeps s0 (State.drain s a1) := by
  exact State.drainDom_keeps h _ _
theorem State.tokenDone_keeps {s0 s : State} (h : Keeps s0 s) (a1) : Keeps s0 (State.tokenDone s a1) := by
  unfold State.tokenDone
  try dsimp only
  repeat' (first | with_reducible assumption | with_reducible refine keeps_ite ?_ ?_ | with_reducible refine State.leaveOrder_keeps ?_ _ | with_reducible refine State.drain_keeps ?_ _ | with_reducible refine State.setDom_keeps ?_ _ _ | with_reducible refine State.raiseLim_keeps ?_ _ _ _ _ | with_reducible refine State.count_keeps ?_ _ | with_reducible refine State.setSlot_keeps ?_ _ _ | (fail_if_no_progress with_reducible refine keeps_upd ?_ ..) | (fail_if_no_progress with_reducible refine keeps_filter ?_ _ ..) | with_reducible refine keeps_foldl ?_ ?_ | (intro t x ht; try dsimp only) | (intro t ht; try dsimp only) | split | (dsimp only))
theorem State.seqEnds_keeps {s0 s : State} (h : Keeps s0 s) (a1) (a2) : Keeps s0 (State.seqEnds s a1 a2) := by
  unfold State.seqEnds
  try dsimp only
  repeat' (first | with_reducible assumption | with_reducible refine keeps_ite ?_ ?_ | with_reducible refine State.drain_keeps ?_ _ | with_reducible refine State.setDom_keeps ?_ _ _ | (fail_if_no_progress with_reducible refine keeps_upd ?_ ..) | (fail_if_no_progress with_reducible refine keeps_filter ?_ _ ..) | with_reducible refine keeps_foldl ?_ ?_ | (intro t x ht; try dsimp only) | (intro t ht; try dsimp only) | split | (dsimp only))
theorem State.discardToken_keeps {s0 s : State} (h : Keeps s0 s) (a1) : Keeps s0 (State.discardToken s a1) := by
  unfold State.discardToken
  try dsimp only
  repeat' (first | with_reducible assumption | with_reducible refine keeps_ite ?_ ?_ | with_reducible refine State.unlock_keeps ?_ _ | with_reducible refine State.dlFree_keeps ?_ _ _ | with_reducible refine State.dropSlot_keeps ?_ _ | with_reducible refine State.endDiscard_keeps ?_ _ | with_reducible refine State.seqEnds_keeps ?_ _ _ | (fail_if_no_progress with_reducible refine keeps_upd ?_ ..) | (fail_if_no_progress with_reducible refine keeps_filter ?_ _ ..) | with_reducible refine keeps_foldl ?_ ?_ | (intro t x ht; try dsimp only) | (intro t ht; try dsimp only) | split | (dsimp only))
theorem State.nodeBad_keeps {s0 s : State} (h : Keeps s0 s) (a1) : Keeps s0 (State.nodeBad s a1) := by
  unfold State.nodeBad
  try dsimp only
  repeat' (first | with_reducible assumption | with_reducible refine keeps_ite ?_ ?_ | with_reducible refine State.discardToken_keeps ?_ _ | with_reducible refine State.intSet_keeps ?_ _ _ _ _ | with_reducible refine State.count_keeps ?_ _ | with_reducible refine State.raise_keeps ?_ _ | (fail_if_no_progress with_reducible refine keeps_upd ?_ ..) | (fail_if_no_progress with_reducible refine keeps_filter ?_ _ ..) | with_reducible refine keeps_foldl ?_ ?_ | (intro t x ht; try dsimp only) | (intro t ht; try dsimp only) | split | (dsimp only))
theorem State.makeReady_keeps {s0 s : State} (h : Keeps s0 s) (a1) (a2) : Keeps s0 (State.makeReady s a1 a2) := by
  unfold State.makeReady
  try dsimp only
  repeat' (first | with_reducible assumption | with_reducible refine keeps_ite ?_ ?_ | with_reducible refine State.tokView_keeps ?_ _ | with_reducible refine State.setSlot_keeps ?_ _ _ | with_reducible refine State.enqueue_keeps ?_ _ _ | (fail_if_no_progress with_reducible refine keeps_upd ?_ ..) | (fail_if_no_progress with_reducible refine keeps_filter ?_ _ ..) | with_reducible refine keeps_foldl ?_ ?_ | (intro t x ht; try dsimp only) | (intro t ht; try dsimp only) | split | (dsimp only))
theorem State.reserveFor_keeps {s0 s : State} (h : Keeps s0 s) (a1) (a2) (a3) (a4) : Keeps s0 (State.reserveFor s a1 a2 a3 a4) := by
  unfold State.reserveFor
  try dsimp only
  repeat' (first | with_reducible assumption | with_reducible refine keeps_ite ?_ ?_ | with_reducible refine State.dlReserve_keeps ?_ _ _ (by with_reducible assumption) | with_reducible refine State.setSlot_keeps ?_ _ _ | (fail_if_no_progress with_reducible refine keeps_upd ?_ ..) | (fail_if_no_progress with_reducible refine keeps_filter ?_ _ ..) | with_reducible refine keeps_foldl ?_ ?_ | (intro t x ht; try dsimp only) | (intro t ht; try dsimp only) | split | (dsimp only))
theorem State.releaseEntry_keeps {s0 s : State} (h : Keeps s0 s) (a1) : Keeps s0 (State.releaseEntry s a1) := by
  unfold State.releaseEntry
  try dsimp only
  repeat' (first | with_reducible assumption | with_reducible refine keeps_ite ?_ ?_ | with_reducible refine State.tokenDone_keeps ?_ _ | with_reducible refine State.count_keeps ?_ _ | with_reducible refine State.discardToken_keeps ?_ _ | with_reducible refine State.raiseLim_keeps ?_ _ _ _ _ | with_reducible refine State.intSet_keeps ?_ _ _ _ _ | with_reducible refine State.reserveFor_keeps ?_ _ _ _ _ | (fail_if_no_progress with_reducible refine keeps_upd ?_ ..) | (fail_if_no_progress with_reducible refine keeps_filter ?_ _ ..) | with_reducible refine keeps_foldl ?_ ?_ | (intro t x ht; try dsimp only) | (intro t ht; try dsimp only) | split | (dsimp only))
theorem State.actOnNode_keeps {s0 s : State} (h : Keeps s0 s) (a1) (a2) : Keeps s0 (State.actOnNode s a1 a2) := by
  unfold State.actOnNode
  try dsimp only
  repeat' (first | with_reducible assumption | with_reducible refine keeps_ite ?_ ?_ | with_reducible refine State.tokView_keeps ?_ _ | with_reducible refine State.makeReady_keeps ?_ _ _ | with_reducible refine State.dropSlot_keeps ?_ _ | with_reducible refine State.releaseEntry_keeps ?_ _ | with_reducible refine State.nodeBad_keeps ?_ _ | (fail_if_no_progress with_reducible refine keeps_upd ?_ ..) | (fail_if_no_progress with_reducible refine keeps_filter ?_ _ ..) | with_reducible refine keeps_foldl ?_ ?_ | (intro t x ht; try dsimp only) | (intro t ht; try dsimp only) | split | (dsimp only))
theorem State.assignDomain_keeps {s0 s : State} (h : Keeps s0 s) (a1) : Keeps s0 (State.assignDomain s a1) := by
  unfold State.assignDomain
  try dsimp only
  repeat' (first | with_reducible assumption | with_reducible refine keeps_ite ?_ ?_ | with_reducible refine State.setSlot_keeps ?_ _ _ | with_reducible refine State.setDom_keeps ?_ _ _ | (fail_if_no_progress with_reducible refine keeps_upd ?_ ..) | (fail_if_no_progress with_reducible refine keeps_filter ?_ _ ..) | with_reducible refine keeps_foldl ?_ ?_ | (intro t x ht; try dsimp only) | (intro t ht; try dsimp only) | split | (dsimp only))
theorem State.noteUpdate_keeps {s0 s : State} (h : Keeps s0 s) : Keeps s0 (State.noteUpdate s) := by
  unfold State.noteUpdate
  try dsimp only
  repeat' (first | with_reducible assumption | with_reducible refine keeps_ite ?_ ?_ | with_reducible refine State.irqIf_keeps ?_ _ _ | with_reducible refine State.wr_keeps ?_ _ _ | (fail_if_no_progress with_reducible refine keeps_upd ?_ ..) | (fail_if_no_progress with_reducible refine keeps_filter ?_ _ ..) | with_reducible refine keeps_foldl ?_ ?_ | (intro t x ht; try dsimp only) | (intro t ht; try dsimp only) | split | (dsimp only))

/-! ## ThreadOps -/

set_option linter.all false
theorem State.setThr_keeps {s0 s : State} (h : Keeps s0 s) (a1) (a2) : Keeps s0 (State.setThr s a1 a2) := by
  unfold State.setThr
  try dsimp only
  repeat' (first | with_reducible assumption | with_reducible refine keeps_ite ?_ ?_ | (fail_if_no_progress with_reducible refine keeps_upd ?_ ..) | (fail_if_no_progress with_reducible refine keeps_filter ?_ _ ..) | with_reducible refine keeps_foldl ?_ ?_ | (intro t x ht; try dsimp only) | (intro t ht; try dsimp only) | split | (dsimp only))
theorem State.setCycle_keeps {s0 s : State} (h : Keeps s0 s) (a1) (a2) : Keeps s0 (State.setCycle s a1 a2) := by
  unfold State.setCycle
  try dsimp only
  repeat' (first | with_reducible assumption | with_reducible refine keeps_ite ?_ ?_ | (fail_if_no_progress with_reducible refine keeps_upd ?_ ..) | (fail_if_no_progress with_reducible refine keeps_filter ?_ _ ..) | with_reducible refine keeps_foldl ?_ ?_ | (intro t x ht; try dsimp only) | (intro t ht; try dsimp only) | split | (dsimp only))
theorem State.setWinToken_keeps {s0 s : State} (h : Keeps s0 s) (a1) (a2) (a3) : Keeps s0 (State.setWinToken s a1 a2 a3) := by
  unfold State.setWinToken
  try dsimp only
  repeat' (first | with_reducible assumption | with_reducible refine keeps_ite ?_ ?_ | with_reducible refine State.setBytes_keeps ?_ _ _ _ | (fail_if_no_progress with_reducible refine keeps_upd ?_ ..) | (fail_if_no_progress with_reducible refine keeps_filter ?_ _ ..) | with_reducible refine keeps_foldl ?_ ?_ | (intro t x ht; try dsimp only) | (intro t ht; try dsimp only) | split | (dsimp only))
theorem State.spmUe_keeps {s0 s : State} (h : Keeps s0 s) (a1) (a2) : Keeps s0 (State.spmUe s a1 a2) := by
  unfold State.spmUe
  try dsimp only
  repeat' (first | with_reducible assumption | with_reducible refine keeps_ite ?_ ?_ | with_reducible refine State.count_keeps ?_ _ | with_reducible refine State.raise_keeps ?_ _ | (fail_if_no_progress with_reducible refine keeps_upd ?_ ..) | (fail_if_no_progress with_reducible refine keeps_filter ?_ _ ..) | with_reducible refine keeps_foldl ?_ ?_ | (intro t x ht; try dsimp only) | (intro t ht; try dsimp only) | split | (dsimp only))
theorem State.endResv_keeps {s0 s : State} (h : Keeps s0 s) (a1) (a2) (a3) : Keeps s0 (State.endResv s a1 a2 a3) := by
  unfold State.endResv
  try dsimp only
  repeat' (first | with_reducible assumption | with_reducible refine keeps_ite ?_ ?_ | (fail_if_no_progress with_reducible refine keeps_upd ?_ ..) | (fail_if_no_progress with_reducible refine keeps_filter ?_ _ ..) | with_reducible refine keeps_foldl ?_ ?_ | (intro t x ht; try dsimp only) | (intro t ht; try dsimp only) | split | (dsimp only))
theorem State.spmWrite_keeps {s0 s : State} (h : Keeps s0 s) (a1) (a2) (a3) (a4) : Keeps s0 (State.spmWrite s a1 a2 a3 a4) := by
  unfold State.spmWrite
  try dsimp only
  repeat' (first | with_reducible assumption | with_reducible refine keeps_ite ?_ ?_ | with_reducible refine State.endResv_keeps ?_ _ _ _ | with_reducible refine State.setBytes_keeps ?_ _ _ _ | with_reducible refine State.count_keeps ?_ _ | with_reducible refine State.event_keeps ?_ _ _ | (fail_if_no_progress with_reducible refine keeps_upd ?_ ..) | (fail_if_no_progress with_reducible refine keeps_filter ?_ _ ..) | with_reducible refine keeps_foldl ?_ ?_ | (intro t x ht; try dsimp only) | (intro t ht; try dsimp only) | split | (dsimp only))
theorem State.writeLine_keeps {s0 s : State} (h : Keeps s0 s) (a1) (a2) : Keeps s0 (State.writeLine s a1 a2) := by
  unfold State.writeLine
  try dsimp only
  repeat' (first | with_reducible assumption | with_reducible refine keeps_ite ?_ ?_ | with_reducible refine State.setByte_keeps ?_ _ _ _ | (fail_if_no_progress with_reducible refine keeps_upd ?_ ..) | (fail_if_no_progress with_reducible refine keeps_filter ?_ _ ..) | with_reducible refine keeps_foldl ?_ ?_ | (intro t x ht; try dsimp only) | (intro t ht; try dsimp only) | split | (dsimp only))
theorem State.writeBack_keeps {s0 s : State} (h : Keeps s0 s) (a1) (a2) : Keeps s0 (State.writeBack s a1 a2) := by
  unfold State.writeBack
  try dsimp only
  repeat' (first | with_reducible assumption | with_reducible refine keeps_ite ?_ ?_ | with_reducible refine State.writeLine_keeps ?_ _ _ | with_reducible refine State.setThr_keeps ?_ _ _ | (fail_if_no_progress with_reducible refine keeps_upd ?_ ..) | (fail_if_no_progress with_reducible refine keeps_filter ?_ _ ..) | with_reducible refine keeps_foldl ?_ ?_ | (intro t x ht; try dsimp only) | (intro t ht; try dsimp only) | split | (dsimp only))
theorem State.fetchLine_keeps {s0 s : State} (h : Keeps s0 s) (a1) (a2) (a3) : Keeps s0 (State.fetchLine s a1 a2 a3) := by
  unfold State.fetchLine
  try dsimp only
  repeat' (first | with_reducible assumption | with_reducible refine keeps_ite ?_ ?_ | with_reducible refine State.writeLine_keeps ?_ _ _ | with_reducible refine State.setThr_keeps ?_ _ _ | (fail_if_no_progress with_reducible refine keeps_upd ?_ ..) | (fail_if_no_progress with_reducible refine keeps_filter ?_ _ ..) | with_reducible refine keeps_foldl ?_ ?_ | (intro t x ht; try dsimp only) | (intro t ht; try dsimp only) | split | (dsimp only))
theorem State.answer_keeps {s0 s : State} (h : Keeps s0 s) (a1) (a2) (a3) (a4) : Keeps s0 (State.answer s a1 a2 a3 a4) := by
  unfold State.answer
  try dsimp only
  repeat' (first | with_reducible assumption | with_reducible refine keeps_ite ?_ ?_ | with_reducible refine State.setThr_keeps ?_ _ _ | (fail_if_no_progress with_reducible refine keeps_upd ?_ ..) | (fail_if_no_progress with_reducible refine keeps_filter ?_ _ ..) | with_reducible refine keeps_foldl ?_ ?_ | (intro t x ht; try dsimp only) | (intro t ht; try dsimp only) | split | (dsimp only))
theorem State.setResp_keeps {s0 s : State} (h : Keeps s0 s) (a1) (a2) : Keeps s0 (State.setResp s a1 a2) := by
  unfold State.setResp
  try dsimp only
  repeat' (first | with_reducible assumption | with_reducible refine keeps_ite ?_ ?_ | (fail_if_no_progress with_reducible refine keeps_upd ?_ ..) | (fail_if_no_progress with_reducible refine keeps_filter ?_ _ ..) | with_reducible refine keeps_foldl ?_ ?_ | (intro t x ht; try dsimp only) | (intro t ht; try dsimp only) | split | (dsimp only))
theorem State.bpmAnswer_keeps {s0 s : State} (h : Keeps s0 s) (a1) (a2) (a3) (a4) : Keeps s0 (State.bpmAnswer s a1 a2 a3 a4) := by
  unfold State.bpmAnswer
  try dsimp only
  repeat' (first | with_reducible assumption | with_reducible refine keeps_ite ?_ ?_ | with_reducible refine State.answer_keeps ?_ _ _ _ _ | with_reducible refine State.setResp_keeps ?_ _ _ | (fail_if_no_progress with_reducible refine keeps_upd ?_ ..) | (fail_if_no_progress with_reducible refine keeps_filter ?_ _ ..) | with_reducible refine keeps_foldl ?_ ?_ | (intro t x ht; try dsimp only) | (intro t ht; try dsimp only) | split | (dsimp only))
theorem State.odsAnswer_keeps {s0 s : State} (h : Keeps s0 s) (a1) (a2) : Keeps s0 (State.odsAnswer s a1 a2) := by
  unfold State.odsAnswer
  try dsimp only
  repeat' (first | with_reducible assumption | with_reducible refine keeps_ite ?_ ?_ | with_reducible refine State.answer_keeps ?_ _ _ _ _ | with_reducible refine State.setResp_keeps ?_ _ _ | (fail_if_no_progress with_reducible refine keeps_upd ?_ ..) | (fail_if_no_progress with_reducible refine keeps_filter ?_ _ ..) | with_reducible refine keeps_foldl ?_ ?_ | (intro t x ht; try dsimp only) | (intro t ht; try dsimp only) | split | (dsimp only))
theorem State.startFetch_keeps {s0 s : State} (h : Keeps s0 s) (a1) (a2) : Keeps s0 (State.startFetch s a1 a2) := by
  unfold State.startFetch
  try dsimp only
  repeat' (first | with_reducible assumption | with_reducible refine keeps_ite ?_ ?_ | with_reducible refine State.setThr_keeps ?_ _ _ | (fail_if_no_progress with_reducible refine keeps_upd ?_ ..) | (fail_if_no_progress with_reducible refine keeps_filter ?_ _ ..) | with_reducible refine keeps_foldl ?_ ?_ | (intro t x ht; try dsimp only) | (intro t ht; try dsimp only) | split | (dsimp only))
theorem State.refetch_keeps {s0 s : State} (h : Keeps s0 s) (a1) : Keeps s0 (State.refetch s a1) := by
  unfold State.refetch
  try dsimp only
  repeat' (first | with_reducible assumption | with_reducible refine keeps_ite ?_ ?_ | with_reducible refine State.setThr_keeps ?_ _ _ | (fail_if_no_progress with_reducible refine keeps_upd ?_ ..) | (fail_if_no_progress with_reducible refine keeps_filter ?_ _ ..) | with_reducible refine keeps_foldl ?_ ?_ | (intro t x ht; try dsimp only) | (intro t ht; try dsimp only) | split | (dsimp only))
theorem State.threadFault_keeps {s0 s : State} (h : Keeps s0 s) (a1) (a2) : Keeps s0 (State.threadFault s a1 a2) := by
  unfold State.threadFault
  dsimp only
  have h3 := State.raise_keeps (s := if midCluster a1 = 16 then s.setThr a1 { s.thr a1 with st := 2, step := false }
    else (((s.setThr a1 { s.thr a1 with st := 2, step := false }).spmWrite (midCluster a1)
      ((s.setThr a1 { s.thr a1 with st := 2, step := false }).fd (R.CLU_FAULT_AREA (midCluster a1)) F.CLU_FAULT_AREA_BASE * 32
        + (midCore a1 * 8 + a1 % 8) * 32) 0xFFF
      (ErrRec.words { (s.faultErr a1 a2) with ts := s.stamp, tskind := !s.timeRuns } |>.flatMap (fun (w : W32) => toLe 4 w.toNat))).orBits
        (R.CLU_FAULT_PEND (midCluster a1) ((midCore a1 * 8 + a1 % 8) / 32)) (2 ^ ((midCore a1 * 8 + a1 % 8) % 32))).count
          (R.CLU_CORE_CNT (midCluster a1) (midCore a1) 4))
    (keeps_ite (State.setThr_keeps h _ _)
      (State.count_keeps (State.orBits_keeps (State.spmWrite_keeps (State.setThr_keeps h _ _) _ _ _ _) _ _) _)) (s.faultErr a1 a2)
  refine keeps_ite (keeps_err h3 (fun hq u => ?_) ..) (State.event_keeps h3 _ _)
  rw [SMap.get_set]
  split
  · exact hq _
  · exact hq u
theorem State.complete4_keeps {s0 s : State} (h : Keeps s0 s) (a1) (a2) : Keeps s0 (State.complete4 s a1 a2) := by
  unfold State.complete4
  try dsimp only
  repeat' (first | with_reducible assumption | with_reducible refine keeps_ite ?_ ?_ | with_reducible refine State.event_keeps ?_ _ _ | with_reducible refine State.setThr_keeps ?_ _ _ | (fail_if_no_progress with_reducible refine keeps_upd ?_ ..) | (fail_if_no_progress with_reducible refine keeps_filter ?_ _ ..) | with_reducible refine keeps_foldl ?_ ?_ | (intro t x ht; try dsimp only) | (intro t ht; try dsimp only) | split | (dsimp only))

end Sys2Proof.Machine
end

