-- ==== Sys2Proof/Laws/State.lean ====
section
/-! SUPPORT. The named updates of the state: what each leaves to be read in the field it writes, and that it leaves every other
field alone. -/
namespace Sys2Proof.Machine

/-! ## Every other field -/

@[simp] theorem State.wr_pending (s : State) (off : Nat) (v : W32) : (s.wr off v).pending = s.pending := rfl
@[simp] theorem State.wr_free (s : State) (off : Nat) (v : W32) : (s.wr off v).free = s.free := rfl
@[simp] theorem State.wr_time (s : State) (off : Nat) (v : W32) : (s.wr off v).time = s.time := rfl
@[simp] theorem State.wr_live (s : State) (off : Nat) (v : W32) : (s.wr off v).live = s.live := rfl
@[simp] theorem State.wr_tally (s : State) (off : Nat) (v : W32) : (s.wr off v).tally = s.tally := rfl
@[simp] theorem State.wr_mem (s : State) (off : Nat) (v : W32) : (s.wr off v).mem = s.mem := rfl
@[simp] theorem State.wr_guards (s : State) (off : Nat) (v : W32) : (s.wr off v).guards = s.guards := rfl
@[simp] theorem State.wr_lockSeen (s : State) (off : Nat) (v : W32) : (s.wr off v).lockSeen = s.lockSeen := rfl
@[simp] theorem State.wr_err (s : State) (off : Nat) (v : W32) : (s.wr off v).err = s.err := rfl
@[simp] theorem State.wr_rate (s : State) (off : Nat) (v : W32) : (s.wr off v).rate = s.rate := rfl
@[simp] theorem State.wr_gens (s : State) (off : Nat) (v : W32) : (s.wr off v).gens = s.gens := rfl
@[simp] theorem State.wr_lastGens (s : State) (off : Nat) (v : W32) : (s.wr off v).lastGens = s.lastGens := rfl
@[simp] theorem State.wr_epoch (s : State) (off : Nat) (v : W32) : (s.wr off v).epoch = s.epoch := rfl
@[simp] theorem State.wr_msix (s : State) (off : Nat) (v : W32) : (s.wr off v).msix = s.msix := rfl
@[simp] theorem State.wr_snap (s : State) (off : Nat) (v : W32) : (s.wr off v).snap = s.snap := rfl
@[simp] theorem State.wr_cmdRes (s : State) (off : Nat) (v : W32) : (s.wr off v).cmdRes = s.cmdRes := rfl
@[simp] theorem State.wr_pipes (s : State) (off : Nat) (v : W32) : (s.wr off v).pipes = s.pipes := rfl
@[simp] theorem State.wr_ports (s : State) (off : Nat) (v : W32) : (s.wr off v).ports = s.ports := rfl
@[simp] theorem State.wr_fte (s : State) (off : Nat) (v : W32) : (s.wr off v).fte = s.fte := rfl
@[simp] theorem State.wr_bpm (s : State) (off : Nat) (v : W32) : (s.wr off v).bpm = s.bpm := rfl
@[simp] theorem State.wr_ods (s : State) (off : Nat) (v : W32) : (s.wr off v).ods = s.ods := rfl
@[simp] theorem State.wr_evpend (s : State) (off : Nat) (v : W32) : (s.wr off v).evpend = s.evpend := rfl
@[simp] theorem State.wr_threads (s : State) (off : Nat) (v : W32) : (s.wr off v).threads = s.threads := rfl
@[simp] theorem State.wr_cycles (s : State) (off : Nat) (v : W32) : (s.wr off v).cycles = s.cycles := rfl
@[simp] theorem State.wr_iramq (s : State) (off : Nat) (v : W32) : (s.wr off v).iramq = s.iramq := rfl
@[simp] theorem State.wr_sems (s : State) (off : Nat) (v : W32) : (s.wr off v).sems = s.sems := rfl
@[simp] theorem State.wr_spmBad (s : State) (off : Nat) (v : W32) : (s.wr off v).spmBad = s.spmBad := rfl
@[simp] theorem State.wr_resps (s : State) (off : Nat) (v : W32) : (s.wr off v).resps = s.resps := rfl
@[simp] theorem State.wr_abandons (s : State) (off : Nat) (v : W32) : (s.wr off v).abandons = s.abandons := rfl
@[simp] theorem State.wr_wipes (s : State) (off : Nat) (v : W32) : (s.wr off v).wipes = s.wipes := rfl
@[simp] theorem State.wr_ecs (s : State) (off : Nat) (v : W32) : (s.wr off v).ecs = s.ecs := rfl
@[simp] theorem State.wr_dmcs (s : State) (off : Nat) (v : W32) : (s.wr off v).dmcs = s.dmcs := rfl
@[simp] theorem State.wr_dramBad (s : State) (off : Nat) (v : W32) : (s.wr off v).dramBad = s.dramBad := rfl
@[simp] theorem State.wr_lines (s : State) (off : Nat) (v : W32) : (s.wr off v).lines = s.lines := rfl
@[simp] theorem State.wr_accs (s : State) (off : Nat) (v : W32) : (s.wr off v).accs = s.accs := rfl
@[simp] theorem State.wr_cvuCache (s : State) (off : Nat) (v : W32) : (s.wr off v).cvuCache = s.cvuCache := rfl
@[simp] theorem State.wr_rcd (s : State) (off : Nat) (v : W32) : (s.wr off v).rcd = s.rcd := rfl
@[simp] theorem State.wr_bcn (s : State) (off : Nat) (v : W32) : (s.wr off v).bcn = s.bcn := rfl
@[simp] theorem State.wr_fuse (s : State) (off : Nat) (v : W32) : (s.wr off v).fuse = s.fuse := rfl
@[simp] theorem State.wr_boot (s : State) (off : Nat) (v : W32) : (s.wr off v).boot = s.boot := rfl
@[simp] theorem State.wr_mlk (s : State) (off : Nat) (v : W32) : (s.wr off v).mlk = s.mlk := rfl
@[simp] theorem State.wr_txn (s : State) (off : Nat) (v : W32) : (s.wr off v).txn = s.txn := rfl
@[simp] theorem State.wr_rcv (s : State) (off : Nat) (v : W32) : (s.wr off v).rcv = s.rcv := rfl
@[simp] theorem State.wr_hif (s : State) (off : Nat) (v : W32) : (s.wr off v).hif = s.hif := rfl
@[simp] theorem State.wr_low (s : State) (off : Nat) (v : W32) : (s.wr off v).low = s.low := rfl
@[simp] theorem State.wf_pending (s : State) (off : Nat) (f : Fld) (x : Nat) : (s.wf off f x).pending = s.pending := rfl
@[simp] theorem State.wf_free (s : State) (off : Nat) (f : Fld) (x : Nat) : (s.wf off f x).free = s.free := rfl
@[simp] theorem State.wf_time (s : State) (off : Nat) (f : Fld) (x : Nat) : (s.wf off f x).time = s.time := rfl
@[simp] theorem State.wf_live (s : State) (off : Nat) (f : Fld) (x : Nat) : (s.wf off f x).live = s.live := rfl
@[simp] theorem State.wf_tally (s : State) (off : Nat) (f : Fld) (x : Nat) : (s.wf off f x).tally = s.tally := rfl
@[simp] theorem State.wf_mem (s : State) (off : Nat) (f : Fld) (x : Nat) : (s.wf off f x).mem = s.mem := rfl
@[simp] theorem State.wf_guards (s : State) (off : Nat) (f : Fld) (x : Nat) : (s.wf off f x).guards = s.guards := rfl
@[simp] theorem State.wf_lockSeen (s : State) (off : Nat) (f : Fld) (x : Nat) : (s.wf off f x).lockSeen = s.lockSeen := rfl
@[simp] theorem State.wf_err (s : State) (off : Nat) (f : Fld) (x : Nat) : (s.wf off f x).err = s.err := rfl
@[simp] theorem State.wf_rate (s : State) (off : Nat) (f : Fld) (x : Nat) : (s.wf off f x).rate = s.rate := rfl
@[simp] theorem State.wf_gens (s : State) (off : Nat) (f : Fld) (x : Nat) : (s.wf off f x).gens = s.gens := rfl
@[simp] theorem State.wf_lastGens (s : State) (off : Nat) (f : Fld) (x : Nat) : (s.wf off f x).lastGens = s.lastGens := rfl
@[simp] theorem State.wf_epoch (s : State) (off : Nat) (f : Fld) (x : Nat) : (s.wf off f x).epoch = s.epoch := rfl
@[simp] theorem State.wf_msix (s : State) (off : Nat) (f : Fld) (x : Nat) : (s.wf off f x).msix = s.msix := rfl
@[simp] theorem State.wf_snap (s : State) (off : Nat) (f : Fld) (x : Nat) : (s.wf off f x).snap = s.snap := rfl
@[simp] theorem State.wf_cmdRes (s : State) (off : Nat) (f : Fld) (x : Nat) : (s.wf off f x).cmdRes = s.cmdRes := rfl
@[simp] theorem State.wf_pipes (s : State) (off : Nat) (f : Fld) (x : Nat) : (s.wf off f x).pipes = s.pipes := rfl
@[simp] theorem State.wf_ports (s : State) (off : Nat) (f : Fld) (x : Nat) : (s.wf off f x).ports = s.ports := rfl
@[simp] theorem State.wf_fte (s : State) (off : Nat) (f : Fld) (x : Nat) : (s.wf off f x).fte = s.fte := rfl
@[simp] theorem State.wf_bpm (s : State) (off : Nat) (f : Fld) (x : Nat) : (s.wf off f x).bpm = s.bpm := rfl
@[simp] theorem State.wf_ods (s : State) (off : Nat) (f : Fld) (x : Nat) : (s.wf off f x).ods = s.ods := rfl
@[simp] theorem State.wf_evpend (s : State) (off : Nat) (f : Fld) (x : Nat) : (s.wf off f x).evpend = s.evpend := rfl
@[simp] theorem State.wf_threads (s : State) (off : Nat) (f : Fld) (x : Nat) : (s.wf off f x).threads = s.threads := rfl
@[simp] theorem State.wf_cycles (s : State) (off : Nat) (f : Fld) (x : Nat) : (s.wf off f x).cycles = s.cycles := rfl
@[simp] theorem State.wf_iramq (s : State) (off : Nat) (f : Fld) (x : Nat) : (s.wf off f x).iramq = s.iramq := rfl
@[simp] theorem State.wf_sems (s : State) (off : Nat) (f : Fld) (x : Nat) : (s.wf off f x).sems = s.sems := rfl
@[simp] theorem State.wf_spmBad (s : State) (off : Nat) (f : Fld) (x : Nat) : (s.wf off f x).spmBad = s.spmBad := rfl
@[simp] theorem State.wf_resps (s : State) (off : Nat) (f : Fld) (x : Nat) : (s.wf off f x).resps = s.resps := rfl
@[simp] theorem State.wf_abandons (s : State) (off : Nat) (f : Fld) (x : Nat) : (s.wf off f x).abandons = s.abandons := rfl
@[simp] theorem State.wf_wipes (s : State) (off : Nat) (f : Fld) (x : Nat) : (s.wf off f x).wipes = s.wipes := rfl
@[simp] theorem State.wf_ecs (s : State) (off : Nat) (f : Fld) (x : Nat) : (s.wf off f x).ecs = s.ecs := rfl
@[simp] theorem State.wf_dmcs (s : State) (off : Nat) (f : Fld) (x : Nat) : (s.wf off f x).dmcs = s.dmcs := rfl
@[simp] theorem State.wf_dramBad (s : State) (off : Nat) (f : Fld) (x : Nat) : (s.wf off f x).dramBad = s.dramBad := rfl
@[simp] theorem State.wf_lines (s : State) (off : Nat) (f : Fld) (x : Nat) : (s.wf off f x).lines = s.lines := rfl
@[simp] theorem State.wf_accs (s : State) (off : Nat) (f : Fld) (x : Nat) : (s.wf off f x).accs = s.accs := rfl
@[simp] theorem State.wf_cvuCache (s : State) (off : Nat) (f : Fld) (x : Nat) : (s.wf off f x).cvuCache = s.cvuCache := rfl
@[simp] theorem State.wf_rcd (s : State) (off : Nat) (f : Fld) (x : Nat) : (s.wf off f x).rcd = s.rcd := rfl
@[simp] theorem State.wf_bcn (s : State) (off : Nat) (f : Fld) (x : Nat) : (s.wf off f x).bcn = s.bcn := rfl
@[simp] theorem State.wf_fuse (s : State) (off : Nat) (f : Fld) (x : Nat) : (s.wf off f x).fuse = s.fuse := rfl
@[simp] theorem State.wf_boot (s : State) (off : Nat) (f : Fld) (x : Nat) : (s.wf off f x).boot = s.boot := rfl
@[simp] theorem State.wf_mlk (s : State) (off : Nat) (f : Fld) (x : Nat) : (s.wf off f x).mlk = s.mlk := rfl
@[simp] theorem State.wf_txn (s : State) (off : Nat) (f : Fld) (x : Nat) : (s.wf off f x).txn = s.txn := rfl
@[simp] theorem State.wf_rcv (s : State) (off : Nat) (f : Fld) (x : Nat) : (s.wf off f x).rcv = s.rcv := rfl
@[simp] theorem State.wf_hif (s : State) (off : Nat) (f : Fld) (x : Nat) : (s.wf off f x).hif = s.hif := rfl
@[simp] theorem State.wf_low (s : State) (off : Nat) (f : Fld) (x : Nat) : (s.wf off f x).low = s.low := rfl
@[simp] theorem State.orBits_pending (s : State) (off x : Nat) : (s.orBits off x).pending = s.pending := rfl
@[simp] theorem State.orBits_free (s : State) (off x : Nat) : (s.orBits off x).free = s.free := rfl
@[simp] theorem State.orBits_time (s : State) (off x : Nat) : (s.orBits off x).time = s.time := rfl
@[simp] theorem State.orBits_live (s : State) (off x : Nat) : (s.orBits off x).live = s.live := rfl
@[simp] theorem State.orBits_tally (s : State) (off x : Nat) : (s.orBits off x).tally = s.tally := rfl
@[simp] theorem State.orBits_mem (s : State) (off x : Nat) : (s.orBits off x).mem = s.mem := rfl
@[simp] theorem State.orBits_guards (s : State) (off x : Nat) : (s.orBits off x).guards = s.guards := rfl
@[simp] theorem State.orBits_lockSeen (s : State) (off x : Nat) : (s.orBits off x).lockSeen = s.lockSeen := rfl
@[simp] theorem State.orBits_err (s : State) (off x : Nat) : (s.orBits off x).err = s.err := rfl
@[simp] theorem State.orBits_rate (s : State) (off x : Nat) : (s.orBits off x).rate = s.rate := rfl
@[simp] theorem State.orBits_gens (s : State) (off x : Nat) : (s.orBits off x).gens = s.gens := rfl
@[simp] theorem State.orBits_lastGens (s : State) (off x : Nat) : (s.orBits off x).lastGens = s.lastGens := rfl
@[simp] theorem State.orBits_epoch (s : State) (off x : Nat) : (s.orBits off x).epoch = s.epoch := rfl
@[simp] theorem State.orBits_msix (s : State) (off x : Nat) : (s.orBits off x).msix = s.msix := rfl
@[simp] theorem State.orBits_snap (s : State) (off x : Nat) : (s.orBits off x).snap = s.snap := rfl
@[simp] theorem State.orBits_cmdRes (s : State) (off x : Nat) : (s.orBits off x).cmdRes = s.cmdRes := rfl
@[simp] theorem State.orBits_pipes (s : State) (off x : Nat) : (s.orBits off x).pipes = s.pipes := rfl
@[simp] theorem State.orBits_ports (s : State) (off x : Nat) : (s.orBits off x).ports = s.ports := rfl
@[simp] theorem State.orBits_fte (s : State) (off x : Nat) : (s.orBits off x).fte = s.fte := rfl
@[simp] theorem State.orBits_bpm (s : State) (off x : Nat) : (s.orBits off x).bpm = s.bpm := rfl
@[simp] theorem State.orBits_ods (s : State) (off x : Nat) : (s.orBits off x).ods = s.ods := rfl
@[simp] theorem State.orBits_evpend (s : State) (off x : Nat) : (s.orBits off x).evpend = s.evpend := rfl
@[simp] theorem State.orBits_threads (s : State) (off x : Nat) : (s.orBits off x).threads = s.threads := rfl
@[simp] theorem State.orBits_cycles (s : State) (off x : Nat) : (s.orBits off x).cycles = s.cycles := rfl
@[simp] theorem State.orBits_iramq (s : State) (off x : Nat) : (s.orBits off x).iramq = s.iramq := rfl
@[simp] theorem State.orBits_sems (s : State) (off x : Nat) : (s.orBits off x).sems = s.sems := rfl
@[simp] theorem State.orBits_spmBad (s : State) (off x : Nat) : (s.orBits off x).spmBad = s.spmBad := rfl
@[simp] theorem State.orBits_resps (s : State) (off x : Nat) : (s.orBits off x).resps = s.resps := rfl
@[simp] theorem State.orBits_abandons (s : State) (off x : Nat) : (s.orBits off x).abandons = s.abandons := rfl
@[simp] theorem State.orBits_wipes (s : State) (off x : Nat) : (s.orBits off x).wipes = s.wipes := rfl
@[simp] theorem State.orBits_ecs (s : State) (off x : Nat) : (s.orBits off x).ecs = s.ecs := rfl
@[simp] theorem State.orBits_dmcs (s : State) (off x : Nat) : (s.orBits off x).dmcs = s.dmcs := rfl
@[simp] theorem State.orBits_dramBad (s : State) (off x : Nat) : (s.orBits off x).dramBad = s.dramBad := rfl
@[simp] theorem State.orBits_lines (s : State) (off x : Nat) : (s.orBits off x).lines = s.lines := rfl
@[simp] theorem State.orBits_accs (s : State) (off x : Nat) : (s.orBits off x).accs = s.accs := rfl
@[simp] theorem State.orBits_cvuCache (s : State) (off x : Nat) : (s.orBits off x).cvuCache = s.cvuCache := rfl
@[simp] theorem State.orBits_rcd (s : State) (off x : Nat) : (s.orBits off x).rcd = s.rcd := rfl
@[simp] theorem State.orBits_bcn (s : State) (off x : Nat) : (s.orBits off x).bcn = s.bcn := rfl
@[simp] theorem State.orBits_fuse (s : State) (off x : Nat) : (s.orBits off x).fuse = s.fuse := rfl
@[simp] theorem State.orBits_boot (s : State) (off x : Nat) : (s.orBits off x).boot = s.boot := rfl
@[simp] theorem State.orBits_mlk (s : State) (off x : Nat) : (s.orBits off x).mlk = s.mlk := rfl
@[simp] theorem State.orBits_txn (s : State) (off x : Nat) : (s.orBits off x).txn = s.txn := rfl
@[simp] theorem State.orBits_rcv (s : State) (off x : Nat) : (s.orBits off x).rcv = s.rcv := rfl
@[simp] theorem State.orBits_hif (s : State) (off x : Nat) : (s.orBits off x).hif = s.hif := rfl
@[simp] theorem State.orBits_low (s : State) (off x : Nat) : (s.orBits off x).low = s.low := rfl
@[simp] theorem State.wr64_pending (s : State) (off : Nat) (v : W64) : (s.wr64 off v).pending = s.pending := rfl
@[simp] theorem State.wr64_free (s : State) (off : Nat) (v : W64) : (s.wr64 off v).free = s.free := rfl
@[simp] theorem State.wr64_time (s : State) (off : Nat) (v : W64) : (s.wr64 off v).time = s.time := rfl
@[simp] theorem State.wr64_live (s : State) (off : Nat) (v : W64) : (s.wr64 off v).live = s.live := rfl
@[simp] theorem State.wr64_tally (s : State) (off : Nat) (v : W64) : (s.wr64 off v).tally = s.tally := rfl
@[simp] theorem State.wr64_mem (s : State) (off : Nat) (v : W64) : (s.wr64 off v).mem = s.mem := rfl
@[simp] theorem State.wr64_guards (s : State) (off : Nat) (v : W64) : (s.wr64 off v).guards = s.guards := rfl
@[simp] theorem State.wr64_lockSeen (s : State) (off : Nat) (v : W64) : (s.wr64 off v).lockSeen = s.lockSeen := rfl
@[simp] theorem State.wr64_err (s : State) (off : Nat) (v : W64) : (s.wr64 off v).err = s.err := rfl
@[simp] theorem State.wr64_rate (s : State) (off : Nat) (v : W64) : (s.wr64 off v).rate = s.rate := rfl
@[simp] theorem State.wr64_gens (s : State) (off : Nat) (v : W64) : (s.wr64 off v).gens = s.gens := rfl
@[simp] theorem State.wr64_lastGens (s : State) (off : Nat) (v : W64) : (s.wr64 off v).lastGens = s.lastGens := rfl
@[simp] theorem State.wr64_epoch (s : State) (off : Nat) (v : W64) : (s.wr64 off v).epoch = s.epoch := rfl
@[simp] theorem State.wr64_msix (s : State) (off : Nat) (v : W64) : (s.wr64 off v).msix = s.msix := rfl
@[simp] theorem State.wr64_snap (s : State) (off : Nat) (v : W64) : (s.wr64 off v).snap = s.snap := rfl
@[simp] theorem State.wr64_cmdRes (s : State) (off : Nat) (v : W64) : (s.wr64 off v).cmdRes = s.cmdRes := rfl
@[simp] theorem State.wr64_pipes (s : State) (off : Nat) (v : W64) : (s.wr64 off v).pipes = s.pipes := rfl
@[simp] theorem State.wr64_ports (s : State) (off : Nat) (v : W64) : (s.wr64 off v).ports = s.ports := rfl
@[simp] theorem State.wr64_fte (s : State) (off : Nat) (v : W64) : (s.wr64 off v).fte = s.fte := rfl
@[simp] theorem State.wr64_bpm (s : State) (off : Nat) (v : W64) : (s.wr64 off v).bpm = s.bpm := rfl
@[simp] theorem State.wr64_ods (s : State) (off : Nat) (v : W64) : (s.wr64 off v).ods = s.ods := rfl
@[simp] theorem State.wr64_evpend (s : State) (off : Nat) (v : W64) : (s.wr64 off v).evpend = s.evpend := rfl
@[simp] theorem State.wr64_threads (s : State) (off : Nat) (v : W64) : (s.wr64 off v).threads = s.threads := rfl
@[simp] theorem State.wr64_cycles (s : State) (off : Nat) (v : W64) : (s.wr64 off v).cycles = s.cycles := rfl
@[simp] theorem State.wr64_iramq (s : State) (off : Nat) (v : W64) : (s.wr64 off v).iramq = s.iramq := rfl
@[simp] theorem State.wr64_sems (s : State) (off : Nat) (v : W64) : (s.wr64 off v).sems = s.sems := rfl
@[simp] theorem State.wr64_spmBad (s : State) (off : Nat) (v : W64) : (s.wr64 off v).spmBad = s.spmBad := rfl
@[simp] theorem State.wr64_resps (s : State) (off : Nat) (v : W64) : (s.wr64 off v).resps = s.resps := rfl
@[simp] theorem State.wr64_abandons (s : State) (off : Nat) (v : W64) : (s.wr64 off v).abandons = s.abandons := rfl
@[simp] theorem State.wr64_wipes (s : State) (off : Nat) (v : W64) : (s.wr64 off v).wipes = s.wipes := rfl
@[simp] theorem State.wr64_ecs (s : State) (off : Nat) (v : W64) : (s.wr64 off v).ecs = s.ecs := rfl
@[simp] theorem State.wr64_dmcs (s : State) (off : Nat) (v : W64) : (s.wr64 off v).dmcs = s.dmcs := rfl
@[simp] theorem State.wr64_dramBad (s : State) (off : Nat) (v : W64) : (s.wr64 off v).dramBad = s.dramBad := rfl
@[simp] theorem State.wr64_lines (s : State) (off : Nat) (v : W64) : (s.wr64 off v).lines = s.lines := rfl
@[simp] theorem State.wr64_accs (s : State) (off : Nat) (v : W64) : (s.wr64 off v).accs = s.accs := rfl
@[simp] theorem State.wr64_cvuCache (s : State) (off : Nat) (v : W64) : (s.wr64 off v).cvuCache = s.cvuCache := rfl
@[simp] theorem State.wr64_rcd (s : State) (off : Nat) (v : W64) : (s.wr64 off v).rcd = s.rcd := rfl
@[simp] theorem State.wr64_bcn (s : State) (off : Nat) (v : W64) : (s.wr64 off v).bcn = s.bcn := rfl
@[simp] theorem State.wr64_fuse (s : State) (off : Nat) (v : W64) : (s.wr64 off v).fuse = s.fuse := rfl
@[simp] theorem State.wr64_boot (s : State) (off : Nat) (v : W64) : (s.wr64 off v).boot = s.boot := rfl
@[simp] theorem State.wr64_mlk (s : State) (off : Nat) (v : W64) : (s.wr64 off v).mlk = s.mlk := rfl
@[simp] theorem State.wr64_txn (s : State) (off : Nat) (v : W64) : (s.wr64 off v).txn = s.txn := rfl
@[simp] theorem State.wr64_rcv (s : State) (off : Nat) (v : W64) : (s.wr64 off v).rcv = s.rcv := rfl
@[simp] theorem State.wr64_hif (s : State) (off : Nat) (v : W64) : (s.wr64 off v).hif = s.hif := rfl
@[simp] theorem State.wr64_low (s : State) (off : Nat) (v : W64) : (s.wr64 off v).low = s.low := rfl
@[simp] theorem State.countN_pending (s : State) (off n : Nat) : (s.countN off n).pending = s.pending := rfl
@[simp] theorem State.countN_free (s : State) (off n : Nat) : (s.countN off n).free = s.free := rfl
@[simp] theorem State.countN_time (s : State) (off n : Nat) : (s.countN off n).time = s.time := rfl
@[simp] theorem State.countN_regs (s : State) (off n : Nat) : (s.countN off n).regs = s.regs := rfl
@[simp] theorem State.countN_tally (s : State) (off n : Nat) : (s.countN off n).tally = s.tally := rfl
@[simp] theorem State.countN_mem (s : State) (off n : Nat) : (s.countN off n).mem = s.mem := rfl
@[simp] theorem State.countN_guards (s : State) (off n : Nat) : (s.countN off n).guards = s.guards := rfl
@[simp] theorem State.countN_lockSeen (s : State) (off n : Nat) : (s.countN off n).lockSeen = s.lockSeen := rfl
@[simp] theorem State.countN_err (s : State) (off n : Nat) : (s.countN off n).err = s.err := rfl
@[simp] theorem State.countN_rate (s : State) (off n : Nat) : (s.countN off n).rate = s.rate := rfl
@[simp] theorem State.countN_gens (s : State) (off n : Nat) : (s.countN off n).gens = s.gens := rfl
@[simp] theorem State.countN_lastGens (s : State) (off n : Nat) : (s.countN off n).lastGens = s.lastGens := rfl
@[simp] theorem State.countN_epoch (s : State) (off n : Nat) : (s.countN off n).epoch = s.epoch := rfl
@[simp] theorem State.countN_msix (s : State) (off n : Nat) : (s.countN off n).msix = s.msix := rfl
@[simp] theorem State.countN_snap (s : State) (off n : Nat) : (s.countN off n).snap = s.snap := rfl
@[simp] theorem State.countN_cmdRes (s : State) (off n : Nat) : (s.countN off n).cmdRes = s.cmdRes := rfl
@[simp] theorem State.countN_pipes (s : State) (off n : Nat) : (s.countN off n).pipes = s.pipes := rfl
@[simp] theorem State.countN_ports (s : State) (off n : Nat) : (s.countN off n).ports = s.ports := rfl
@[simp] theorem State.countN_fte (s : State) (off n : Nat) : (s.countN off n).fte = s.fte := rfl
@[simp] theorem State.countN_bpm (s : State) (off n : Nat) : (s.countN off n).bpm = s.bpm := rfl
@[simp] theorem State.countN_ods (s : State) (off n : Nat) : (s.countN off n).ods = s.ods := rfl
@[simp] theorem State.countN_evpend (s : State) (off n : Nat) : (s.countN off n).evpend = s.evpend := rfl
@[simp] theorem State.countN_threads (s : State) (off n : Nat) : (s.countN off n).threads = s.threads := rfl
@[simp] theorem State.countN_cycles (s : State) (off n : Nat) : (s.countN off n).cycles = s.cycles := rfl
@[simp] theorem State.countN_iramq (s : State) (off n : Nat) : (s.countN off n).iramq = s.iramq := rfl
@[simp] theorem State.countN_sems (s : State) (off n : Nat) : (s.countN off n).sems = s.sems := rfl
@[simp] theorem State.countN_spmBad (s : State) (off n : Nat) : (s.countN off n).spmBad = s.spmBad := rfl
@[simp] theorem State.countN_resps (s : State) (off n : Nat) : (s.countN off n).resps = s.resps := rfl
@[simp] theorem State.countN_abandons (s : State) (off n : Nat) : (s.countN off n).abandons = s.abandons := rfl
@[simp] theorem State.countN_wipes (s : State) (off n : Nat) : (s.countN off n).wipes = s.wipes := rfl
@[simp] theorem State.countN_ecs (s : State) (off n : Nat) : (s.countN off n).ecs = s.ecs := rfl
@[simp] theorem State.countN_dmcs (s : State) (off n : Nat) : (s.countN off n).dmcs = s.dmcs := rfl
@[simp] theorem State.countN_dramBad (s : State) (off n : Nat) : (s.countN off n).dramBad = s.dramBad := rfl
@[simp] theorem State.countN_lines (s : State) (off n : Nat) : (s.countN off n).lines = s.lines := rfl
@[simp] theorem State.countN_accs (s : State) (off n : Nat) : (s.countN off n).accs = s.accs := rfl
@[simp] theorem State.countN_cvuCache (s : State) (off n : Nat) : (s.countN off n).cvuCache = s.cvuCache := rfl
@[simp] theorem State.countN_rcd (s : State) (off n : Nat) : (s.countN off n).rcd = s.rcd := rfl
@[simp] theorem State.countN_bcn (s : State) (off n : Nat) : (s.countN off n).bcn = s.bcn := rfl
@[simp] theorem State.countN_fuse (s : State) (off n : Nat) : (s.countN off n).fuse = s.fuse := rfl
@[simp] theorem State.countN_boot (s : State) (off n : Nat) : (s.countN off n).boot = s.boot := rfl
@[simp] theorem State.countN_mlk (s : State) (off n : Nat) : (s.countN off n).mlk = s.mlk := rfl
@[simp] theorem State.countN_txn (s : State) (off n : Nat) : (s.countN off n).txn = s.txn := rfl
@[simp] theorem State.countN_rcv (s : State) (off n : Nat) : (s.countN off n).rcv = s.rcv := rfl
@[simp] theorem State.countN_hif (s : State) (off n : Nat) : (s.countN off n).hif = s.hif := rfl
@[simp] theorem State.countN_low (s : State) (off n : Nat) : (s.countN off n).low = s.low := rfl
@[simp] theorem State.count_pending (s : State) (off : Nat) : (s.count off).pending = s.pending := rfl
@[simp] theorem State.count_free (s : State) (off : Nat) : (s.count off).free = s.free := rfl
@[simp] theorem State.count_time (s : State) (off : Nat) : (s.count off).time = s.time := rfl
@[simp] theorem State.count_regs (s : State) (off : Nat) : (s.count off).regs = s.regs := rfl
@[simp] theorem State.count_tally (s : State) (off : Nat) : (s.count off).tally = s.tally := rfl
@[simp] theorem State.count_mem (s : State) (off : Nat) : (s.count off).mem = s.mem := rfl
@[simp] theorem State.count_guards (s : State) (off : Nat) : (s.count off).guards = s.guards := rfl
@[simp] theorem State.count_lockSeen (s : State) (off : Nat) : (s.count off).lockSeen = s.lockSeen := rfl
@[simp] theorem State.count_err (s : State) (off : Nat) : (s.count off).err = s.err := rfl
@[simp] theorem State.count_rate (s : State) (off : Nat) : (s.count off).rate = s.rate := rfl
@[simp] theorem State.count_gens (s : State) (off : Nat) : (s.count off).gens = s.gens := rfl
@[simp] theorem State.count_lastGens (s : State) (off : Nat) : (s.count off).lastGens = s.lastGens := rfl
@[simp] theorem State.count_epoch (s : State) (off : Nat) : (s.count off).epoch = s.epoch := rfl
@[simp] theorem State.count_msix (s : State) (off : Nat) : (s.count off).msix = s.msix := rfl
@[simp] theorem State.count_snap (s : State) (off : Nat) : (s.count off).snap = s.snap := rfl
@[simp] theorem State.count_cmdRes (s : State) (off : Nat) : (s.count off).cmdRes = s.cmdRes := rfl
@[simp] theorem State.count_pipes (s : State) (off : Nat) : (s.count off).pipes = s.pipes := rfl
@[simp] theorem State.count_ports (s : State) (off : Nat) : (s.count off).ports = s.ports := rfl
@[simp] theorem State.count_fte (s : State) (off : Nat) : (s.count off).fte = s.fte := rfl
@[simp] theorem State.count_bpm (s : State) (off : Nat) : (s.count off).bpm = s.bpm := rfl
@[simp] theorem State.count_ods (s : State) (off : Nat) : (s.count off).ods = s.ods := rfl
@[simp] theorem State.count_evpend (s : State) (off : Nat) : (s.count off).evpend = s.evpend := rfl
@[simp] theorem State.count_threads (s : State) (off : Nat) : (s.count off).threads = s.threads := rfl
@[simp] theorem State.count_cycles (s : State) (off : Nat) : (s.count off).cycles = s.cycles := rfl
@[simp] theorem State.count_iramq (s : State) (off : Nat) : (s.count off).iramq = s.iramq := rfl
@[simp] theorem State.count_sems (s : State) (off : Nat) : (s.count off).sems = s.sems := rfl
@[simp] theorem State.count_spmBad (s : State) (off : Nat) : (s.count off).spmBad = s.spmBad := rfl
@[simp] theorem State.count_resps (s : State) (off : Nat) : (s.count off).resps = s.resps := rfl
@[simp] theorem State.count_abandons (s : State) (off : Nat) : (s.count off).abandons = s.abandons := rfl
@[simp] theorem State.count_wipes (s : State) (off : Nat) : (s.count off).wipes = s.wipes := rfl
@[simp] theorem State.count_ecs (s : State) (off : Nat) : (s.count off).ecs = s.ecs := rfl
@[simp] theorem State.count_dmcs (s : State) (off : Nat) : (s.count off).dmcs = s.dmcs := rfl
@[simp] theorem State.count_dramBad (s : State) (off : Nat) : (s.count off).dramBad = s.dramBad := rfl
@[simp] theorem State.count_lines (s : State) (off : Nat) : (s.count off).lines = s.lines := rfl
@[simp] theorem State.count_accs (s : State) (off : Nat) : (s.count off).accs = s.accs := rfl
@[simp] theorem State.count_cvuCache (s : State) (off : Nat) : (s.count off).cvuCache = s.cvuCache := rfl
@[simp] theorem State.count_rcd (s : State) (off : Nat) : (s.count off).rcd = s.rcd := rfl
@[simp] theorem State.count_bcn (s : State) (off : Nat) : (s.count off).bcn = s.bcn := rfl
@[simp] theorem State.count_fuse (s : State) (off : Nat) : (s.count off).fuse = s.fuse := rfl
@[simp] theorem State.count_boot (s : State) (off : Nat) : (s.count off).boot = s.boot := rfl
@[simp] theorem State.count_mlk (s : State) (off : Nat) : (s.count off).mlk = s.mlk := rfl
@[simp] theorem State.count_txn (s : State) (off : Nat) : (s.count off).txn = s.txn := rfl
@[simp] theorem State.count_rcv (s : State) (off : Nat) : (s.count off).rcv = s.rcv := rfl
@[simp] theorem State.count_hif (s : State) (off : Nat) : (s.count off).hif = s.hif := rfl
@[simp] theorem State.count_low (s : State) (off : Nat) : (s.count off).low = s.low := rfl
@[simp] theorem State.countIf_pending (s : State) (c : Bool) (off : Nat) : (s.countIf c off).pending = s.pending := rfl
@[simp] theorem State.countIf_free (s : State) (c : Bool) (off : Nat) : (s.countIf c off).free = s.free := rfl
@[simp] theorem State.countIf_time (s : State) (c : Bool) (off : Nat) : (s.countIf c off).time = s.time := rfl
@[simp] theorem State.countIf_regs (s : State) (c : Bool) (off : Nat) : (s.countIf c off).regs = s.regs := rfl
@[simp] theorem State.countIf_tally (s : State) (c : Bool) (off : Nat) : (s.countIf c off).tally = s.tally := rfl
@[simp] theorem State.countIf_mem (s : State) (c : Bool) (off : Nat) : (s.countIf c off).mem = s.mem := rfl
@[simp] theorem State.countIf_guards (s : State) (c : Bool) (off : Nat) : (s.countIf c off).guards = s.guards := rfl
@[simp] theorem State.countIf_lockSeen (s : State) (c : Bool) (off : Nat) : (s.countIf c off).lockSeen = s.lockSeen := rfl
@[simp] theorem State.countIf_err (s : State) (c : Bool) (off : Nat) : (s.countIf c off).err = s.err := rfl
@[simp] theorem State.countIf_rate (s : State) (c : Bool) (off : Nat) : (s.countIf c off).rate = s.rate := rfl
@[simp] theorem State.countIf_gens (s : State) (c : Bool) (off : Nat) : (s.countIf c off).gens = s.gens := rfl
@[simp] theorem State.countIf_lastGens (s : State) (c : Bool) (off : Nat) : (s.countIf c off).lastGens = s.lastGens := rfl
@[simp] theorem State.countIf_epoch (s : State) (c : Bool) (off : Nat) : (s.countIf c off).epoch = s.epoch := rfl
@[simp] theorem State.countIf_msix (s : State) (c : Bool) (off : Nat) : (s.countIf c off).msix = s.msix := rfl
@[simp] theorem State.countIf_snap (s : State) (c : Bool) (off : Nat) : (s.countIf c off).snap = s.snap := rfl
@[simp] theorem State.countIf_cmdRes (s : State) (c : Bool) (off : Nat) : (s.countIf c off).cmdRes = s.cmdRes := rfl
@[simp] theorem State.countIf_pipes (s : State) (c : Bool) (off : Nat) : (s.countIf c off).pipes = s.pipes := rfl
@[simp] theorem State.countIf_ports (s : State) (c : Bool) (off : Nat) : (s.countIf c off).ports = s.ports := rfl
@[simp] theorem State.countIf_fte (s : State) (c : Bool) (off : Nat) : (s.countIf c off).fte = s.fte := rfl
@[simp] theorem State.countIf_bpm (s : State) (c : Bool) (off : Nat) : (s.countIf c off).bpm = s.bpm := rfl
@[simp] theorem State.countIf_ods (s : State) (c : Bool) (off : Nat) : (s.countIf c off).ods = s.ods := rfl
@[simp] theorem State.countIf_evpend (s : State) (c : Bool) (off : Nat) : (s.countIf c off).evpend = s.evpend := rfl
@[simp] theorem State.countIf_threads (s : State) (c : Bool) (off : Nat) : (s.countIf c off).threads = s.threads := rfl
@[simp] theorem State.countIf_cycles (s : State) (c : Bool) (off : Nat) : (s.countIf c off).cycles = s.cycles := rfl
@[simp] theorem State.countIf_iramq (s : State) (c : Bool) (off : Nat) : (s.countIf c off).iramq = s.iramq := rfl
@[simp] theorem State.countIf_sems (s : State) (c : Bool) (off : Nat) : (s.countIf c off).sems = s.sems := rfl
@[simp] theorem State.countIf_spmBad (s : State) (c : Bool) (off : Nat) : (s.countIf c off).spmBad = s.spmBad := rfl
@[simp] theorem State.countIf_resps (s : State) (c : Bool) (off : Nat) : (s.countIf c off).resps = s.resps := rfl
@[simp] theorem State.countIf_abandons (s : State) (c : Bool) (off : Nat) : (s.countIf c off).abandons = s.abandons := rfl
@[simp] theorem State.countIf_wipes (s : State) (c : Bool) (off : Nat) : (s.countIf c off).wipes = s.wipes := rfl
@[simp] theorem State.countIf_ecs (s : State) (c : Bool) (off : Nat) : (s.countIf c off).ecs = s.ecs := rfl
@[simp] theorem State.countIf_dmcs (s : State) (c : Bool) (off : Nat) : (s.countIf c off).dmcs = s.dmcs := rfl
@[simp] theorem State.countIf_dramBad (s : State) (c : Bool) (off : Nat) : (s.countIf c off).dramBad = s.dramBad := rfl
@[simp] theorem State.countIf_lines (s : State) (c : Bool) (off : Nat) : (s.countIf c off).lines = s.lines := rfl
@[simp] theorem State.countIf_accs (s : State) (c : Bool) (off : Nat) : (s.countIf c off).accs = s.accs := rfl
@[simp] theorem State.countIf_cvuCache (s : State) (c : Bool) (off : Nat) : (s.countIf c off).cvuCache = s.cvuCache := rfl
@[simp] theorem State.countIf_rcd (s : State) (c : Bool) (off : Nat) : (s.countIf c off).rcd = s.rcd := rfl
@[simp] theorem State.countIf_bcn (s : State) (c : Bool) (off : Nat) : (s.countIf c off).bcn = s.bcn := rfl
@[simp] theorem State.countIf_fuse (s : State) (c : Bool) (off : Nat) : (s.countIf c off).fuse = s.fuse := rfl
@[simp] theorem State.countIf_boot (s : State) (c : Bool) (off : Nat) : (s.countIf c off).boot = s.boot := rfl
@[simp] theorem State.countIf_mlk (s : State) (c : Bool) (off : Nat) : (s.countIf c off).mlk = s.mlk := rfl
@[simp] theorem State.countIf_txn (s : State) (c : Bool) (off : Nat) : (s.countIf c off).txn = s.txn := rfl
@[simp] theorem State.countIf_rcv (s : State) (c : Bool) (off : Nat) : (s.countIf c off).rcv = s.rcv := rfl
@[simp] theorem State.countIf_hif (s : State) (c : Bool) (off : Nat) : (s.countIf c off).hif = s.hif := rfl
@[simp] theorem State.countIf_low (s : State) (c : Bool) (off : Nat) : (s.countIf c off).low = s.low := rfl
@[simp] theorem State.setRes_pending (s : State) (off : Nat) (v : W32) : (s.setRes off v).pending = s.pending := rfl
@[simp] theorem State.setRes_free (s : State) (off : Nat) (v : W32) : (s.setRes off v).free = s.free := rfl
@[simp] theorem State.setRes_time (s : State) (off : Nat) (v : W32) : (s.setRes off v).time = s.time := rfl
@[simp] theorem State.setRes_regs (s : State) (off : Nat) (v : W32) : (s.setRes off v).regs = s.regs := rfl
@[simp] theorem State.setRes_live (s : State) (off : Nat) (v : W32) : (s.setRes off v).live = s.live := rfl
@[simp] theorem State.setRes_tally (s : State) (off : Nat) (v : W32) : (s.setRes off v).tally = s.tally := rfl
@[simp] theorem State.setRes_mem (s : State) (off : Nat) (v : W32) : (s.setRes off v).mem = s.mem := rfl
@[simp] theorem State.setRes_guards (s : State) (off : Nat) (v : W32) : (s.setRes off v).guards = s.guards := rfl
@[simp] theorem State.setRes_lockSeen (s : State) (off : Nat) (v : W32) : (s.setRes off v).lockSeen = s.lockSeen := rfl
@[simp] theorem State.setRes_err (s : State) (off : Nat) (v : W32) : (s.setRes off v).err = s.err := rfl
@[simp] theorem State.setRes_rate (s : State) (off : Nat) (v : W32) : (s.setRes off v).rate = s.rate := rfl
@[simp] theorem State.setRes_gens (s : State) (off : Nat) (v : W32) : (s.setRes off v).gens = s.gens := rfl
@[simp] theorem State.setRes_lastGens (s : State) (off : Nat) (v : W32) : (s.setRes off v).lastGens = s.lastGens := rfl
@[simp] theorem State.setRes_epoch (s : State) (off : Nat) (v : W32) : (s.setRes off v).epoch = s.epoch := rfl
@[simp] theorem State.setRes_msix (s : State) (off : Nat) (v : W32) : (s.setRes off v).msix = s.msix := rfl
@[simp] theorem State.setRes_snap (s : State) (off : Nat) (v : W32) : (s.setRes off v).snap = s.snap := rfl
@[simp] theorem State.setRes_pipes (s : State) (off : Nat) (v : W32) : (s.setRes off v).pipes = s.pipes := rfl
@[simp] theorem State.setRes_ports (s : State) (off : Nat) (v : W32) : (s.setRes off v).ports = s.ports := rfl
@[simp] theorem State.setRes_fte (s : State) (off : Nat) (v : W32) : (s.setRes off v).fte = s.fte := rfl
@[simp] theorem State.setRes_bpm (s : State) (off : Nat) (v : W32) : (s.setRes off v).bpm = s.bpm := rfl
@[simp] theorem State.setRes_ods (s : State) (off : Nat) (v : W32) : (s.setRes off v).ods = s.ods := rfl
@[simp] theorem State.setRes_evpend (s : State) (off : Nat) (v : W32) : (s.setRes off v).evpend = s.evpend := rfl
@[simp] theorem State.setRes_threads (s : State) (off : Nat) (v : W32) : (s.setRes off v).threads = s.threads := rfl
@[simp] theorem State.setRes_cycles (s : State) (off : Nat) (v : W32) : (s.setRes off v).cycles = s.cycles := rfl
@[simp] theorem State.setRes_iramq (s : State) (off : Nat) (v : W32) : (s.setRes off v).iramq = s.iramq := rfl
@[simp] theorem State.setRes_sems (s : State) (off : Nat) (v : W32) : (s.setRes off v).sems = s.sems := rfl
@[simp] theorem State.setRes_spmBad (s : State) (off : Nat) (v : W32) : (s.setRes off v).spmBad = s.spmBad := rfl
@[simp] theorem State.setRes_resps (s : State) (off : Nat) (v : W32) : (s.setRes off v).resps = s.resps := rfl
@[simp] theorem State.setRes_abandons (s : State) (off : Nat) (v : W32) : (s.setRes off v).abandons = s.abandons := rfl
@[simp] theorem State.setRes_wipes (s : State) (off : Nat) (v : W32) : (s.setRes off v).wipes = s.wipes := rfl
@[simp] theorem State.setRes_ecs (s : State) (off : Nat) (v : W32) : (s.setRes off v).ecs = s.ecs := rfl
@[simp] theorem State.setRes_dmcs (s : State) (off : Nat) (v : W32) : (s.setRes off v).dmcs = s.dmcs := rfl
@[simp] theorem State.setRes_dramBad (s : State) (off : Nat) (v : W32) : (s.setRes off v).dramBad = s.dramBad := rfl
@[simp] theorem State.setRes_lines (s : State) (off : Nat) (v : W32) : (s.setRes off v).lines = s.lines := rfl
@[simp] theorem State.setRes_accs (s : State) (off : Nat) (v : W32) : (s.setRes off v).accs = s.accs := rfl
@[simp] theorem State.setRes_cvuCache (s : State) (off : Nat) (v : W32) : (s.setRes off v).cvuCache = s.cvuCache := rfl
@[simp] theorem State.setRes_rcd (s : State) (off : Nat) (v : W32) : (s.setRes off v).rcd = s.rcd := rfl
@[simp] theorem State.setRes_bcn (s : State) (off : Nat) (v : W32) : (s.setRes off v).bcn = s.bcn := rfl
@[simp] theorem State.setRes_fuse (s : State) (off : Nat) (v : W32) : (s.setRes off v).fuse = s.fuse := rfl
@[simp] theorem State.setRes_boot (s : State) (off : Nat) (v : W32) : (s.setRes off v).boot = s.boot := rfl
@[simp] theorem State.setRes_mlk (s : State) (off : Nat) (v : W32) : (s.setRes off v).mlk = s.mlk := rfl
@[simp] theorem State.setRes_txn (s : State) (off : Nat) (v : W32) : (s.setRes off v).txn = s.txn := rfl
@[simp] theorem State.setRes_rcv (s : State) (off : Nat) (v : W32) : (s.setRes off v).rcv = s.rcv := rfl
@[simp] theorem State.setRes_hif (s : State) (off : Nat) (v : W32) : (s.setRes off v).hif = s.hif := rfl
@[simp] theorem State.setRes_low (s : State) (off : Nat) (v : W32) : (s.setRes off v).low = s.low := rfl
@[simp] theorem State.tookFree_pending (s : State) : (s.tookFree).pending = s.pending := rfl
@[simp] theorem State.tookFree_time (s : State) : (s.tookFree).time = s.time := rfl
@[simp] theorem State.tookFree_regs (s : State) : (s.tookFree).regs = s.regs := rfl
@[simp] theorem State.tookFree_live (s : State) : (s.tookFree).live = s.live := rfl
@[simp] theorem State.tookFree_tally (s : State) : (s.tookFree).tally = s.tally := rfl
@[simp] theorem State.tookFree_mem (s : State) : (s.tookFree).mem = s.mem := rfl
@[simp] theorem State.tookFree_guards (s : State) : (s.tookFree).guards = s.guards := rfl
@[simp] theorem State.tookFree_lockSeen (s : State) : (s.tookFree).lockSeen = s.lockSeen := rfl
@[simp] theorem State.tookFree_err (s : State) : (s.tookFree).err = s.err := rfl
@[simp] theorem State.tookFree_rate (s : State) : (s.tookFree).rate = s.rate := rfl
@[simp] theorem State.tookFree_gens (s : State) : (s.tookFree).gens = s.gens := rfl
@[simp] theorem State.tookFree_lastGens (s : State) : (s.tookFree).lastGens = s.lastGens := rfl
@[simp] theorem State.tookFree_epoch (s : State) : (s.tookFree).epoch = s.epoch := rfl
@[simp] theorem State.tookFree_msix (s : State) : (s.tookFree).msix = s.msix := rfl
@[simp] theorem State.tookFree_snap (s : State) : (s.tookFree).snap = s.snap := rfl
@[simp] theorem State.tookFree_cmdRes (s : State) : (s.tookFree).cmdRes = s.cmdRes := rfl
@[simp] theorem State.tookFree_pipes (s : State) : (s.tookFree).pipes = s.pipes := rfl
@[simp] theorem State.tookFree_ports (s : State) : (s.tookFree).ports = s.ports := rfl
@[simp] theorem State.tookFree_fte (s : State) : (s.tookFree).fte = s.fte := rfl
@[simp] theorem State.tookFree_bpm (s : State) : (s.tookFree).bpm = s.bpm := rfl
@[simp] theorem State.tookFree_ods (s : State) : (s.tookFree).ods = s.ods := rfl
@[simp] theorem State.tookFree_evpend (s : State) : (s.tookFree).evpend = s.evpend := rfl
@[simp] theorem State.tookFree_threads (s : State) : (s.tookFree).threads = s.threads := rfl
@[simp] theorem State.tookFree_cycles (s : State) : (s.tookFree).cycles = s.cycles := rfl
@[simp] theorem State.tookFree_iramq (s : State) : (s.tookFree).iramq = s.iramq := rfl
@[simp] theorem State.tookFree_sems (s : State) : (s.tookFree).sems = s.sems := rfl
@[simp] theorem State.tookFree_spmBad (s : State) : (s.tookFree).spmBad = s.spmBad := rfl
@[simp] theorem State.tookFree_resps (s : State) : (s.tookFree).resps = s.resps := rfl
@[simp] theorem State.tookFree_abandons (s : State) : (s.tookFree).abandons = s.abandons := rfl
@[simp] theorem State.tookFree_wipes (s : State) : (s.tookFree).wipes = s.wipes := rfl
@[simp] theorem State.tookFree_ecs (s : State) : (s.tookFree).ecs = s.ecs := rfl
@[simp] theorem State.tookFree_dmcs (s : State) : (s.tookFree).dmcs = s.dmcs := rfl
@[simp] theorem State.tookFree_dramBad (s : State) : (s.tookFree).dramBad = s.dramBad := rfl
@[simp] theorem State.tookFree_lines (s : State) : (s.tookFree).lines = s.lines := rfl
@[simp] theorem State.tookFree_accs (s : State) : (s.tookFree).accs = s.accs := rfl
@[simp] theorem State.tookFree_cvuCache (s : State) : (s.tookFree).cvuCache = s.cvuCache := rfl
@[simp] theorem State.tookFree_rcd (s : State) : (s.tookFree).rcd = s.rcd := rfl
@[simp] theorem State.tookFree_bcn (s : State) : (s.tookFree).bcn = s.bcn := rfl
@[simp] theorem State.tookFree_fuse (s : State) : (s.tookFree).fuse = s.fuse := rfl
@[simp] theorem State.tookFree_boot (s : State) : (s.tookFree).boot = s.boot := rfl
@[simp] theorem State.tookFree_mlk (s : State) : (s.tookFree).mlk = s.mlk := rfl
@[simp] theorem State.tookFree_txn (s : State) : (s.tookFree).txn = s.txn := rfl
@[simp] theorem State.tookFree_rcv (s : State) : (s.tookFree).rcv = s.rcv := rfl
@[simp] theorem State.tookFree_hif (s : State) : (s.tookFree).hif = s.hif := rfl
@[simp] theorem State.tookFree_low (s : State) : (s.tookFree).low = s.low := rfl
@[simp] theorem State.setByte_pending (s : State) (sp : Space) (a : Nat) (v : Byte) : (s.setByte sp a v).pending = s.pending := rfl
@[simp] theorem State.setByte_free (s : State) (sp : Space) (a : Nat) (v : Byte) : (s.setByte sp a v).free = s.free := rfl
@[simp] theorem State.setByte_time (s : State) (sp : Space) (a : Nat) (v : Byte) : (s.setByte sp a v).time = s.time := rfl
@[simp] theorem State.setByte_regs (s : State) (sp : Space) (a : Nat) (v : Byte) : (s.setByte sp a v).regs = s.regs := rfl
@[simp] theorem State.setByte_live (s : State) (sp : Space) (a : Nat) (v : Byte) : (s.setByte sp a v).live = s.live := rfl
@[simp] theorem State.setByte_tally (s : State) (sp : Space) (a : Nat) (v : Byte) : (s.setByte sp a v).tally = s.tally := rfl
@[simp] theorem State.setByte_guards (s : State) (sp : Space) (a : Nat) (v : Byte) : (s.setByte sp a v).guards = s.guards := rfl
@[simp] theorem State.setByte_lockSeen (s : State) (sp : Space) (a : Nat) (v : Byte) : (s.setByte sp a v).lockSeen = s.lockSeen := rfl
@[simp] theorem State.setByte_err (s : State) (sp : Space) (a : Nat) (v : Byte) : (s.setByte sp a v).err = s.err := rfl
@[simp] theorem State.setByte_rate (s : State) (sp : Space) (a : Nat) (v : Byte) : (s.setByte sp a v).rate = s.rate := rfl
@[simp] theorem State.setByte_gens (s : State) (sp : Space) (a : Nat) (v : Byte) : (s.setByte sp a v).gens = s.gens := rfl
@[simp] theorem State.setByte_lastGens (s : State) (sp : Space) (a : Nat) (v : Byte) : (s.setByte sp a v).lastGens = s.lastGens := rfl
@[simp] theorem State.setByte_epoch (s : State) (sp : Space) (a : Nat) (v : Byte) : (s.setByte sp a v).epoch = s.epoch := rfl
@[simp] theorem State.setByte_msix (s : State) (sp : Space) (a : Nat) (v : Byte) : (s.setByte sp a v).msix = s.msix := rfl
@[simp] theorem State.setByte_snap (s : State) (sp : Space) (a : Nat) (v : Byte) : (s.setByte sp a v).snap = s.snap := rfl
@[simp] theorem State.setByte_cmdRes (s : State) (sp : Space) (a : Nat) (v : Byte) : (s.setByte sp a v).cmdRes = s.cmdRes := rfl
@[simp] theorem State.setByte_pipes (s : State) (sp : Space) (a : Nat) (v : Byte) : (s.setByte sp a v).pipes = s.pipes := rfl
@[simp] theorem State.setByte_ports (s : State) (sp : Space) (a : Nat) (v : Byte) : (s.setByte sp a v).ports = s.ports := rfl
@[simp] theorem State.setByte_fte (s : State) (sp : Space) (a : Nat) (v : Byte) : (s.setByte sp a v).fte = s.fte := rfl
@[simp] theorem State.setByte_bpm (s : State) (sp : Space) (a : Nat) (v : Byte) : (s.setByte sp a v).bpm = s.bpm := rfl
@[simp] theorem State.setByte_ods (s : State) (sp : Space) (a : Nat) (v : Byte) : (s.setByte sp a v).ods = s.ods := rfl
@[simp] theorem State.setByte_evpend (s : State) (sp : Space) (a : Nat) (v : Byte) : (s.setByte sp a v).evpend = s.evpend := rfl
@[simp] theorem State.setByte_threads (s : State) (sp : Space) (a : Nat) (v : Byte) : (s.setByte sp a v).threads = s.threads := rfl
@[simp] theorem State.setByte_cycles (s : State) (sp : Space) (a : Nat) (v : Byte) : (s.setByte sp a v).cycles = s.cycles := rfl
@[simp] theorem State.setByte_iramq (s : State) (sp : Space) (a : Nat) (v : Byte) : (s.setByte sp a v).iramq = s.iramq := rfl
@[simp] theorem State.setByte_sems (s : State) (sp : Space) (a : Nat) (v : Byte) : (s.setByte sp a v).sems = s.sems := rfl
@[simp] theorem State.setByte_spmBad (s : State) (sp : Space) (a : Nat) (v : Byte) : (s.setByte sp a v).spmBad = s.spmBad := rfl
@[simp] theorem State.setByte_resps (s : State) (sp : Space) (a : Nat) (v : Byte) : (s.setByte sp a v).resps = s.resps := rfl
@[simp] theorem State.setByte_abandons (s : State) (sp : Space) (a : Nat) (v : Byte) : (s.setByte sp a v).abandons = s.abandons := rfl
@[simp] theorem State.setByte_wipes (s : State) (sp : Space) (a : Nat) (v : Byte) : (s.setByte sp a v).wipes = s.wipes := rfl
@[simp] theorem State.setByte_ecs (s : State) (sp : Space) (a : Nat) (v : Byte) : (s.setByte sp a v).ecs = s.ecs := rfl
@[simp] theorem State.setByte_dmcs (s : State) (sp : Space) (a : Nat) (v : Byte) : (s.setByte sp a v).dmcs = s.dmcs := rfl
@[simp] theorem State.setByte_dramBad (s : State) (sp : Space) (a : Nat) (v : Byte) : (s.setByte sp a v).dramBad = s.dramBad := rfl
@[simp] theorem State.setByte_lines (s : State) (sp : Space) (a : Nat) (v : Byte) : (s.setByte sp a v).lines = s.lines := rfl
@[simp] theorem State.setByte_accs (s : State) (sp : Space) (a : Nat) (v : Byte) : (s.setByte sp a v).accs = s.accs := rfl
@[simp] theorem State.setByte_cvuCache (s : State) (sp : Space) (a : Nat) (v : Byte) : (s.setByte sp a v).cvuCache = s.cvuCache := rfl
@[simp] theorem State.setByte_rcd (s : State) (sp : Space) (a : Nat) (v : Byte) : (s.setByte sp a v).rcd = s.rcd := rfl
@[simp] theorem State.setByte_bcn (s : State) (sp : Space) (a : Nat) (v : Byte) : (s.setByte sp a v).bcn = s.bcn := rfl
@[simp] theorem State.setByte_fuse (s : State) (sp : Space) (a : Nat) (v : Byte) : (s.setByte sp a v).fuse = s.fuse := rfl
@[simp] theorem State.setByte_boot (s : State) (sp : Space) (a : Nat) (v : Byte) : (s.setByte sp a v).boot = s.boot := rfl
@[simp] theorem State.setByte_mlk (s : State) (sp : Space) (a : Nat) (v : Byte) : (s.setByte sp a v).mlk = s.mlk := rfl
@[simp] theorem State.setByte_txn (s : State) (sp : Space) (a : Nat) (v : Byte) : (s.setByte sp a v).txn = s.txn := rfl
@[simp] theorem State.setByte_rcv (s : State) (sp : Space) (a : Nat) (v : Byte) : (s.setByte sp a v).rcv = s.rcv := rfl
@[simp] theorem State.setByte_hif (s : State) (sp : Space) (a : Nat) (v : Byte) : (s.setByte sp a v).hif = s.hif := rfl
@[simp] theorem State.setByte_low (s : State) (sp : Space) (a : Nat) (v : Byte) : (s.setByte sp a v).low = s.low := rfl
@[simp] theorem State.zero_pending (s : State) (sp : Space) (a n : Nat) : (s.zero sp a n).pending = s.pending := rfl
@[simp] theorem State.zero_free (s : State) (sp : Space) (a n : Nat) : (s.zero sp a n).free = s.free := rfl
@[simp] theorem State.zero_time (s : State) (sp : Space) (a n : Nat) : (s.zero sp a n).time = s.time := rfl
@[simp] theorem State.zero_regs (s : State) (sp : Space) (a n : Nat) : (s.zero sp a n).regs = s.regs := rfl
@[simp] theorem State.zero_live (s : State) (sp : Space) (a n : Nat) : (s.zero sp a n).live = s.live := rfl
@[simp] theorem State.zero_tally (s : State) (sp : Space) (a n : Nat) : (s.zero sp a n).tally = s.tally := rfl
@[simp] theorem State.zero_guards (s : State) (sp : Space) (a n : Nat) : (s.zero sp a n).guards = s.guards := rfl
@[simp] theorem State.zero_lockSeen (s : State) (sp : Space) (a n : Nat) : (s.zero sp a n).lockSeen = s.lockSeen := rfl
@[simp] theorem State.zero_err (s : State) (sp : Space) (a n : Nat) : (s.zero sp a n).err = s.err := rfl
@[simp] theorem State.zero_rate (s : State) (sp : Space) (a n : Nat) : (s.zero sp a n).rate = s.rate := rfl
@[simp] theorem State.zero_gens (s : State) (sp : Space) (a n : Nat) : (s.zero sp a n).gens = s.gens := rfl
@[simp] theorem State.zero_lastGens (s : State) (sp : Space) (a n : Nat) : (s.zero sp a n).lastGens = s.lastGens := rfl
@[simp] theorem State.zero_epoch (s : State) (sp : Space) (a n : Nat) : (s.zero sp a n).epoch = s.epoch := rfl
@[simp] theorem State.zero_msix (s : State) (sp : Space) (a n : Nat) : (s.zero sp a n).msix = s.msix := rfl
@[simp] theorem State.zero_snap (s : State) (sp : Space) (a n : Nat) : (s.zero sp a n).snap = s.snap := rfl
@[simp] theorem State.zero_cmdRes (s : State) (sp : Space) (a n : Nat) : (s.zero sp a n).cmdRes = s.cmdRes := rfl
@[simp] theorem State.zero_pipes (s : State) (sp : Space) (a n : Nat) : (s.zero sp a n).pipes = s.pipes := rfl
@[simp] theorem State.zero_ports (s : State) (sp : Space) (a n : Nat) : (s.zero sp a n).ports = s.ports := rfl
@[simp] theorem State.zero_fte (s : State) (sp : Space) (a n : Nat) : (s.zero sp a n).fte = s.fte := rfl
@[simp] theorem State.zero_bpm (s : State) (sp : Space) (a n : Nat) : (s.zero sp a n).bpm = s.bpm := rfl
@[simp] theorem State.zero_ods (s : State) (sp : Space) (a n : Nat) : (s.zero sp a n).ods = s.ods := rfl
@[simp] theorem State.zero_evpend (s : State) (sp : Space) (a n : Nat) : (s.zero sp a n).evpend = s.evpend := rfl
@[simp] theorem State.zero_threads (s : State) (sp : Space) (a n : Nat) : (s.zero sp a n).threads = s.threads := rfl
@[simp] theorem State.zero_cycles (s : State) (sp : Space) (a n : Nat) : (s.zero sp a n).cycles = s.cycles := rfl
@[simp] theorem State.zero_iramq (s : State) (sp : Space) (a n : Nat) : (s.zero sp a n).iramq = s.iramq := rfl
@[simp] theorem State.zero_sems (s : State) (sp : Space) (a n : Nat) : (s.zero sp a n).sems = s.sems := rfl
@[simp] theorem State.zero_spmBad (s : State) (sp : Space) (a n : Nat) : (s.zero sp a n).spmBad = s.spmBad := rfl
@[simp] theorem State.zero_resps (s : State) (sp : Space) (a n : Nat) : (s.zero sp a n).resps = s.resps := rfl
@[simp] theorem State.zero_abandons (s : State) (sp : Space) (a n : Nat) : (s.zero sp a n).abandons = s.abandons := rfl
@[simp] theorem State.zero_wipes (s : State) (sp : Space) (a n : Nat) : (s.zero sp a n).wipes = s.wipes := rfl
@[simp] theorem State.zero_ecs (s : State) (sp : Space) (a n : Nat) : (s.zero sp a n).ecs = s.ecs := rfl
@[simp] theorem State.zero_dmcs (s : State) (sp : Space) (a n : Nat) : (s.zero sp a n).dmcs = s.dmcs := rfl
@[simp] theorem State.zero_dramBad (s : State) (sp : Space) (a n : Nat) : (s.zero sp a n).dramBad = s.dramBad := rfl
@[simp] theorem State.zero_lines (s : State) (sp : Space) (a n : Nat) : (s.zero sp a n).lines = s.lines := rfl
@[simp] theorem State.zero_accs (s : State) (sp : Space) (a n : Nat) : (s.zero sp a n).accs = s.accs := rfl
@[simp] theorem State.zero_cvuCache (s : State) (sp : Space) (a n : Nat) : (s.zero sp a n).cvuCache = s.cvuCache := rfl
@[simp] theorem State.zero_rcd (s : State) (sp : Space) (a n : Nat) : (s.zero sp a n).rcd = s.rcd := rfl
@[simp] theorem State.zero_bcn (s : State) (sp : Space) (a n : Nat) : (s.zero sp a n).bcn = s.bcn := rfl
@[simp] theorem State.zero_fuse (s : State) (sp : Space) (a n : Nat) : (s.zero sp a n).fuse = s.fuse := rfl
@[simp] theorem State.zero_boot (s : State) (sp : Space) (a n : Nat) : (s.zero sp a n).boot = s.boot := rfl
@[simp] theorem State.zero_mlk (s : State) (sp : Space) (a n : Nat) : (s.zero sp a n).mlk = s.mlk := rfl
@[simp] theorem State.zero_txn (s : State) (sp : Space) (a n : Nat) : (s.zero sp a n).txn = s.txn := rfl
@[simp] theorem State.zero_rcv (s : State) (sp : Space) (a n : Nat) : (s.zero sp a n).rcv = s.rcv := rfl
@[simp] theorem State.zero_hif (s : State) (sp : Space) (a n : Nat) : (s.zero sp a n).hif = s.hif := rfl
@[simp] theorem State.zero_low (s : State) (sp : Space) (a n : Nat) : (s.zero sp a n).low = s.low := rfl
@[simp] theorem State.setGen_pending (s : State) (m : Nat) (g : BitVec 8) : (s.setGen m g).pending = s.pending := rfl
@[simp] theorem State.setGen_free (s : State) (m : Nat) (g : BitVec 8) : (s.setGen m g).free = s.free := rfl
@[simp] theorem State.setGen_time (s : State) (m : Nat) (g : BitVec 8) : (s.setGen m g).time = s.time := rfl
@[simp] theorem State.setGen_regs (s : State) (m : Nat) (g : BitVec 8) : (s.setGen m g).regs = s.regs := rfl
@[simp] theorem State.setGen_live (s : State) (m : Nat) (g : BitVec 8) : (s.setGen m g).live = s.live := rfl
@[simp] theorem State.setGen_tally (s : State) (m : Nat) (g : BitVec 8) : (s.setGen m g).tally = s.tally := rfl
@[simp] theorem State.setGen_mem (s : State) (m : Nat) (g : BitVec 8) : (s.setGen m g).mem = s.mem := rfl
@[simp] theorem State.setGen_guards (s : State) (m : Nat) (g : BitVec 8) : (s.setGen m g).guards = s.guards := rfl
@[simp] theorem State.setGen_lockSeen (s : State) (m : Nat) (g : BitVec 8) : (s.setGen m g).lockSeen = s.lockSeen := rfl
@[simp] theorem State.setGen_err (s : State) (m : Nat) (g : BitVec 8) : (s.setGen m g).err = s.err := rfl
@[simp] theorem State.setGen_rate (s : State) (m : Nat) (g : BitVec 8) : (s.setGen m g).rate = s.rate := rfl
@[simp] theorem State.setGen_lastGens (s : State) (m : Nat) (g : BitVec 8) : (s.setGen m g).lastGens = s.lastGens := rfl
@[simp] theorem State.setGen_epoch (s : State) (m : Nat) (g : BitVec 8) : (s.setGen m g).epoch = s.epoch := rfl
@[simp] theorem State.setGen_msix (s : State) (m : Nat) (g : BitVec 8) : (s.setGen m g).msix = s.msix := rfl
@[simp] theorem State.setGen_snap (s : State) (m : Nat) (g : BitVec 8) : (s.setGen m g).snap = s.snap := rfl
@[simp] theorem State.setGen_cmdRes (s : State) (m : Nat) (g : BitVec 8) : (s.setGen m g).cmdRes = s.cmdRes := rfl
@[simp] theorem State.setGen_pipes (s : State) (m : Nat) (g : BitVec 8) : (s.setGen m g).pipes = s.pipes := rfl
@[simp] theorem State.setGen_ports (s : State) (m : Nat) (g : BitVec 8) : (s.setGen m g).ports = s.ports := rfl
@[simp] theorem State.setGen_fte (s : State) (m : Nat) (g : BitVec 8) : (s.setGen m g).fte = s.fte := rfl
@[simp] theorem State.setGen_bpm (s : State) (m : Nat) (g : BitVec 8) : (s.setGen m g).bpm = s.bpm := rfl
@[simp] theorem State.setGen_ods (s : State) (m : Nat) (g : BitVec 8) : (s.setGen m g).ods = s.ods := rfl
@[simp] theorem State.setGen_evpend (s : State) (m : Nat) (g : BitVec 8) : (s.setGen m g).evpend = s.evpend := rfl
@[simp] theorem State.setGen_threads (s : State) (m : Nat) (g : BitVec 8) : (s.setGen m g).threads = s.threads := rfl
@[simp] theorem State.setGen_cycles (s : State) (m : Nat) (g : BitVec 8) : (s.setGen m g).cycles = s.cycles := rfl
@[simp] theorem State.setGen_iramq (s : State) (m : Nat) (g : BitVec 8) : (s.setGen m g).iramq = s.iramq := rfl
@[simp] theorem State.setGen_sems (s : State) (m : Nat) (g : BitVec 8) : (s.setGen m g).sems = s.sems := rfl
@[simp] theorem State.setGen_spmBad (s : State) (m : Nat) (g : BitVec 8) : (s.setGen m g).spmBad = s.spmBad := rfl
@[simp] theorem State.setGen_resps (s : State) (m : Nat) (g : BitVec 8) : (s.setGen m g).resps = s.resps := rfl
@[simp] theorem State.setGen_abandons (s : State) (m : Nat) (g : BitVec 8) : (s.setGen m g).abandons = s.abandons := rfl
@[simp] theorem State.setGen_wipes (s : State) (m : Nat) (g : BitVec 8) : (s.setGen m g).wipes = s.wipes := rfl
@[simp] theorem State.setGen_ecs (s : State) (m : Nat) (g : BitVec 8) : (s.setGen m g).ecs = s.ecs := rfl
@[simp] theorem State.setGen_dmcs (s : State) (m : Nat) (g : BitVec 8) : (s.setGen m g).dmcs = s.dmcs := rfl
@[simp] theorem State.setGen_dramBad (s : State) (m : Nat) (g : BitVec 8) : (s.setGen m g).dramBad = s.dramBad := rfl
@[simp] theorem State.setGen_lines (s : State) (m : Nat) (g : BitVec 8) : (s.setGen m g).lines = s.lines := rfl
@[simp] theorem State.setGen_accs (s : State) (m : Nat) (g : BitVec 8) : (s.setGen m g).accs = s.accs := rfl
@[simp] theorem State.setGen_cvuCache (s : State) (m : Nat) (g : BitVec 8) : (s.setGen m g).cvuCache = s.cvuCache := rfl
@[simp] theorem State.setGen_rcd (s : State) (m : Nat) (g : BitVec 8) : (s.setGen m g).rcd = s.rcd := rfl
@[simp] theorem State.setGen_bcn (s : State) (m : Nat) (g : BitVec 8) : (s.setGen m g).bcn = s.bcn := rfl
@[simp] theorem State.setGen_fuse (s : State) (m : Nat) (g : BitVec 8) : (s.setGen m g).fuse = s.fuse := rfl
@[simp] theorem State.setGen_boot (s : State) (m : Nat) (g : BitVec 8) : (s.setGen m g).boot = s.boot := rfl
@[simp] theorem State.setGen_mlk (s : State) (m : Nat) (g : BitVec 8) : (s.setGen m g).mlk = s.mlk := rfl
@[simp] theorem State.setGen_txn (s : State) (m : Nat) (g : BitVec 8) : (s.setGen m g).txn = s.txn := rfl
@[simp] theorem State.setGen_rcv (s : State) (m : Nat) (g : BitVec 8) : (s.setGen m g).rcv = s.rcv := rfl
@[simp] theorem State.setGen_hif (s : State) (m : Nat) (g : BitVec 8) : (s.setGen m g).hif = s.hif := rfl
@[simp] theorem State.setGen_low (s : State) (m : Nat) (g : BitVec 8) : (s.setGen m g).low = s.low := rfl
@[simp] theorem State.raise_pending (s : State) (r : ErrRec) : (s.raise r).pending = s.pending := rfl
@[simp] theorem State.raise_free (s : State) (r : ErrRec) : (s.raise r).free = s.free := rfl
@[simp] theorem State.raise_time (s : State) (r : ErrRec) : (s.raise r).time = s.time := rfl
@[simp] theorem State.raise_regs (s : State) (r : ErrRec) : (s.raise r).regs = s.regs := rfl
@[simp] theorem State.raise_live (s : State) (r : ErrRec) : (s.raise r).live = s.live := rfl
@[simp] theorem State.raise_tally (s : State) (r : ErrRec) : (s.raise r).tally = s.tally := rfl
@[simp] theorem State.raise_mem (s : State) (r : ErrRec) : (s.raise r).mem = s.mem := rfl
@[simp] theorem State.raise_guards (s : State) (r : ErrRec) : (s.raise r).guards = s.guards := rfl
@[simp] theorem State.raise_lockSeen (s : State) (r : ErrRec) : (s.raise r).lockSeen = s.lockSeen := rfl
@[simp] theorem State.raise_rate (s : State) (r : ErrRec) : (s.raise r).rate = s.rate := rfl
@[simp] theorem State.raise_gens (s : State) (r : ErrRec) : (s.raise r).gens = s.gens := rfl
@[simp] theorem State.raise_lastGens (s : State) (r : ErrRec) : (s.raise r).lastGens = s.lastGens := rfl
@[simp] theorem State.raise_epoch (s : State) (r : ErrRec) : (s.raise r).epoch = s.epoch := rfl
@[simp] theorem State.raise_msix (s : State) (r : ErrRec) : (s.raise r).msix = s.msix := rfl
@[simp] theorem State.raise_snap (s : State) (r : ErrRec) : (s.raise r).snap = s.snap := rfl
@[simp] theorem State.raise_cmdRes (s : State) (r : ErrRec) : (s.raise r).cmdRes = s.cmdRes := rfl
@[simp] theorem State.raise_pipes (s : State) (r : ErrRec) : (s.raise r).pipes = s.pipes := rfl
@[simp] theorem State.raise_ports (s : State) (r : ErrRec) : (s.raise r).ports = s.ports := rfl
@[simp] theorem State.raise_fte (s : State) (r : ErrRec) : (s.raise r).fte = s.fte := rfl
@[simp] theorem State.raise_bpm (s : State) (r : ErrRec) : (s.raise r).bpm = s.bpm := rfl
@[simp] theorem State.raise_ods (s : State) (r : ErrRec) : (s.raise r).ods = s.ods := rfl
@[simp] theorem State.raise_evpend (s : State) (r : ErrRec) : (s.raise r).evpend = s.evpend := rfl
@[simp] theorem State.raise_threads (s : State) (r : ErrRec) : (s.raise r).threads = s.threads := rfl
@[simp] theorem State.raise_cycles (s : State) (r : ErrRec) : (s.raise r).cycles = s.cycles := rfl
@[simp] theorem State.raise_iramq (s : State) (r : ErrRec) : (s.raise r).iramq = s.iramq := rfl
@[simp] theorem State.raise_sems (s : State) (r : ErrRec) : (s.raise r).sems = s.sems := rfl
@[simp] theorem State.raise_spmBad (s : State) (r : ErrRec) : (s.raise r).spmBad = s.spmBad := rfl
@[simp] theorem State.raise_resps (s : State) (r : ErrRec) : (s.raise r).resps = s.resps := rfl
@[simp] theorem State.raise_abandons (s : State) (r : ErrRec) : (s.raise r).abandons = s.abandons := rfl
@[simp] theorem State.raise_wipes (s : State) (r : ErrRec) : (s.raise r).wipes = s.wipes := rfl
@[simp] theorem State.raise_ecs (s : State) (r : ErrRec) : (s.raise r).ecs = s.ecs := rfl
@[simp] theorem State.raise_dmcs (s : State) (r : ErrRec) : (s.raise r).dmcs = s.dmcs := rfl
@[simp] theorem State.raise_dramBad (s : State) (r : ErrRec) : (s.raise r).dramBad = s.dramBad := rfl
@[simp] theorem State.raise_lines (s : State) (r : ErrRec) : (s.raise r).lines = s.lines := rfl
@[simp] theorem State.raise_accs (s : State) (r : ErrRec) : (s.raise r).accs = s.accs := rfl
@[simp] theorem State.raise_cvuCache (s : State) (r : ErrRec) : (s.raise r).cvuCache = s.cvuCache := rfl
@[simp] theorem State.raise_rcd (s : State) (r : ErrRec) : (s.raise r).rcd = s.rcd := rfl
@[simp] theorem State.raise_bcn (s : State) (r : ErrRec) : (s.raise r).bcn = s.bcn := rfl
@[simp] theorem State.raise_fuse (s : State) (r : ErrRec) : (s.raise r).fuse = s.fuse := rfl
@[simp] theorem State.raise_boot (s : State) (r : ErrRec) : (s.raise r).boot = s.boot := rfl
@[simp] theorem State.raise_mlk (s : State) (r : ErrRec) : (s.raise r).mlk = s.mlk := rfl
@[simp] theorem State.raise_txn (s : State) (r : ErrRec) : (s.raise r).txn = s.txn := rfl
@[simp] theorem State.raise_rcv (s : State) (r : ErrRec) : (s.raise r).rcv = s.rcv := rfl
@[simp] theorem State.raise_hif (s : State) (r : ErrRec) : (s.raise r).hif = s.hif := rfl
@[simp] theorem State.raise_low (s : State) (r : ErrRec) : (s.raise r).low = s.low := rfl
@[simp] theorem State.irq_pending (s : State) (v : Nat) : (s.irq v).pending = s.pending := rfl
@[simp] theorem State.irq_free (s : State) (v : Nat) : (s.irq v).free = s.free := rfl
@[simp] theorem State.irq_time (s : State) (v : Nat) : (s.irq v).time = s.time := rfl
@[simp] theorem State.irq_regs (s : State) (v : Nat) : (s.irq v).regs = s.regs := rfl
@[simp] theorem State.irq_live (s : State) (v : Nat) : (s.irq v).live = s.live := rfl
@[simp] theorem State.irq_tally (s : State) (v : Nat) : (s.irq v).tally = s.tally := rfl
@[simp] theorem State.irq_mem (s : State) (v : Nat) : (s.irq v).mem = s.mem := rfl
@[simp] theorem State.irq_guards (s : State) (v : Nat) : (s.irq v).guards = s.guards := rfl
@[simp] theorem State.irq_lockSeen (s : State) (v : Nat) : (s.irq v).lockSeen = s.lockSeen := rfl
@[simp] theorem State.irq_err (s : State) (v : Nat) : (s.irq v).err = s.err := rfl
@[simp] theorem State.irq_rate (s : State) (v : Nat) : (s.irq v).rate = s.rate := rfl
@[simp] theorem State.irq_gens (s : State) (v : Nat) : (s.irq v).gens = s.gens := rfl
@[simp] theorem State.irq_lastGens (s : State) (v : Nat) : (s.irq v).lastGens = s.lastGens := rfl
@[simp] theorem State.irq_epoch (s : State) (v : Nat) : (s.irq v).epoch = s.epoch := rfl
@[simp] theorem State.irq_snap (s : State) (v : Nat) : (s.irq v).snap = s.snap := rfl
@[simp] theorem State.irq_cmdRes (s : State) (v : Nat) : (s.irq v).cmdRes = s.cmdRes := rfl
@[simp] theorem State.irq_pipes (s : State) (v : Nat) : (s.irq v).pipes = s.pipes := rfl
@[simp] theorem State.irq_ports (s : State) (v : Nat) : (s.irq v).ports = s.ports := rfl
@[simp] theorem State.irq_fte (s : State) (v : Nat) : (s.irq v).fte = s.fte := rfl
@[simp] theorem State.irq_bpm (s : State) (v : Nat) : (s.irq v).bpm = s.bpm := rfl
@[simp] theorem State.irq_ods (s : State) (v : Nat) : (s.irq v).ods = s.ods := rfl
@[simp] theorem State.irq_evpend (s : State) (v : Nat) : (s.irq v).evpend = s.evpend := rfl
@[simp] theorem State.irq_threads (s : State) (v : Nat) : (s.irq v).threads = s.threads := rfl
@[simp] theorem State.irq_cycles (s : State) (v : Nat) : (s.irq v).cycles = s.cycles := rfl
@[simp] theorem State.irq_iramq (s : State) (v : Nat) : (s.irq v).iramq = s.iramq := rfl
@[simp] theorem State.irq_sems (s : State) (v : Nat) : (s.irq v).sems = s.sems := rfl
@[simp] theorem State.irq_spmBad (s : State) (v : Nat) : (s.irq v).spmBad = s.spmBad := rfl
@[simp] theorem State.irq_resps (s : State) (v : Nat) : (s.irq v).resps = s.resps := rfl
@[simp] theorem State.irq_abandons (s : State) (v : Nat) : (s.irq v).abandons = s.abandons := rfl
@[simp] theorem State.irq_wipes (s : State) (v : Nat) : (s.irq v).wipes = s.wipes := rfl
@[simp] theorem State.irq_ecs (s : State) (v : Nat) : (s.irq v).ecs = s.ecs := rfl
@[simp] theorem State.irq_dmcs (s : State) (v : Nat) : (s.irq v).dmcs = s.dmcs := rfl
@[simp] theorem State.irq_dramBad (s : State) (v : Nat) : (s.irq v).dramBad = s.dramBad := rfl
@[simp] theorem State.irq_lines (s : State) (v : Nat) : (s.irq v).lines = s.lines := rfl
@[simp] theorem State.irq_accs (s : State) (v : Nat) : (s.irq v).accs = s.accs := rfl
@[simp] theorem State.irq_cvuCache (s : State) (v : Nat) : (s.irq v).cvuCache = s.cvuCache := rfl
@[simp] theorem State.irq_rcd (s : State) (v : Nat) : (s.irq v).rcd = s.rcd := rfl
@[simp] theorem State.irq_bcn (s : State) (v : Nat) : (s.irq v).bcn = s.bcn := rfl
@[simp] theorem State.irq_fuse (s : State) (v : Nat) : (s.irq v).fuse = s.fuse := rfl
@[simp] theorem State.irq_boot (s : State) (v : Nat) : (s.irq v).boot = s.boot := rfl
@[simp] theorem State.irq_mlk (s : State) (v : Nat) : (s.irq v).mlk = s.mlk := rfl
@[simp] theorem State.irq_txn (s : State) (v : Nat) : (s.irq v).txn = s.txn := rfl
@[simp] theorem State.irq_rcv (s : State) (v : Nat) : (s.irq v).rcv = s.rcv := rfl
@[simp] theorem State.irq_hif (s : State) (v : Nat) : (s.irq v).hif = s.hif := rfl
@[simp] theorem State.irq_low (s : State) (v : Nat) : (s.irq v).low = s.low := rfl
@[simp] theorem State.irqIf_pending (s : State) (c : Bool) (v : Nat) : (s.irqIf c v).pending = s.pending := rfl
@[simp] theorem State.irqIf_free (s : State) (c : Bool) (v : Nat) : (s.irqIf c v).free = s.free := rfl
@[simp] theorem State.irqIf_time (s : State) (c : Bool) (v : Nat) : (s.irqIf c v).time = s.time := rfl
@[simp] theorem State.irqIf_regs (s : State) (c : Bool) (v : Nat) : (s.irqIf c v).regs = s.regs := rfl
@[simp] theorem State.irqIf_live (s : State) (c : Bool) (v : Nat) : (s.irqIf c v).live = s.live := rfl
@[simp] theorem State.irqIf_tally (s : State) (c : Bool) (v : Nat) : (s.irqIf c v).tally = s.tally := rfl
@[simp] theorem State.irqIf_mem (s : State) (c : Bool) (v : Nat) : (s.irqIf c v).mem = s.mem := rfl
@[simp] theorem State.irqIf_guards (s : State) (c : Bool) (v : Nat) : (s.irqIf c v).guards = s.guards := rfl
@[simp] theorem State.irqIf_lockSeen (s : State) (c : Bool) (v : Nat) : (s.irqIf c v).lockSeen = s.lockSeen := rfl
@[simp] theorem State.irqIf_err (s : State) (c : Bool) (v : Nat) : (s.irqIf c v).err = s.err := rfl
@[simp] theorem State.irqIf_rate (s : State) (c : Bool) (v : Nat) : (s.irqIf c v).rate = s.rate := rfl
@[simp] theorem State.irqIf_gens (s : State) (c : Bool) (v : Nat) : (s.irqIf c v).gens = s.gens := rfl
@[simp] theorem State.irqIf_lastGens (s : State) (c : Bool) (v : Nat) : (s.irqIf c v).lastGens = s.lastGens := rfl
@[simp] theorem State.irqIf_epoch (s : State) (c : Bool) (v : Nat) : (s.irqIf c v).epoch = s.epoch := rfl
@[simp] theorem State.irqIf_snap (s : State) (c : Bool) (v : Nat) : (s.irqIf c v).snap = s.snap := rfl
@[simp] theorem State.irqIf_cmdRes (s : State) (c : Bool) (v : Nat) : (s.irqIf c v).cmdRes = s.cmdRes := rfl
@[simp] theorem State.irqIf_pipes (s : State) (c : Bool) (v : Nat) : (s.irqIf c v).pipes = s.pipes := rfl
@[simp] theorem State.irqIf_ports (s : State) (c : Bool) (v : Nat) : (s.irqIf c v).ports = s.ports := rfl
@[simp] theorem State.irqIf_fte (s : State) (c : Bool) (v : Nat) : (s.irqIf c v).fte = s.fte := rfl
@[simp] theorem State.irqIf_bpm (s : State) (c : Bool) (v : Nat) : (s.irqIf c v).bpm = s.bpm := rfl
@[simp] theorem State.irqIf_ods (s : State) (c : Bool) (v : Nat) : (s.irqIf c v).ods = s.ods := rfl
@[simp] theorem State.irqIf_evpend (s : State) (c : Bool) (v : Nat) : (s.irqIf c v).evpend = s.evpend := rfl
@[simp] theorem State.irqIf_threads (s : State) (c : Bool) (v : Nat) : (s.irqIf c v).threads = s.threads := rfl
@[simp] theorem State.irqIf_cycles (s : State) (c : Bool) (v : Nat) : (s.irqIf c v).cycles = s.cycles := rfl
@[simp] theorem State.irqIf_iramq (s : State) (c : Bool) (v : Nat) : (s.irqIf c v).iramq = s.iramq := rfl
@[simp] theorem State.irqIf_sems (s : State) (c : Bool) (v : Nat) : (s.irqIf c v).sems = s.sems := rfl
@[simp] theorem State.irqIf_spmBad (s : State) (c : Bool) (v : Nat) : (s.irqIf c v).spmBad = s.spmBad := rfl
@[simp] theorem State.irqIf_resps (s : State) (c : Bool) (v : Nat) : (s.irqIf c v).resps = s.resps := rfl
@[simp] theorem State.irqIf_abandons (s : State) (c : Bool) (v : Nat) : (s.irqIf c v).abandons = s.abandons := rfl
@[simp] theorem State.irqIf_wipes (s : State) (c : Bool) (v : Nat) : (s.irqIf c v).wipes = s.wipes := rfl
@[simp] theorem State.irqIf_ecs (s : State) (c : Bool) (v : Nat) : (s.irqIf c v).ecs = s.ecs := rfl
@[simp] theorem State.irqIf_dmcs (s : State) (c : Bool) (v : Nat) : (s.irqIf c v).dmcs = s.dmcs := rfl
@[simp] theorem State.irqIf_dramBad (s : State) (c : Bool) (v : Nat) : (s.irqIf c v).dramBad = s.dramBad := rfl
@[simp] theorem State.irqIf_lines (s : State) (c : Bool) (v : Nat) : (s.irqIf c v).lines = s.lines := rfl
@[simp] theorem State.irqIf_accs (s : State) (c : Bool) (v : Nat) : (s.irqIf c v).accs = s.accs := rfl
@[simp] theorem State.irqIf_cvuCache (s : State) (c : Bool) (v : Nat) : (s.irqIf c v).cvuCache = s.cvuCache := rfl
@[simp] theorem State.irqIf_rcd (s : State) (c : Bool) (v : Nat) : (s.irqIf c v).rcd = s.rcd := rfl
@[simp] theorem State.irqIf_bcn (s : State) (c : Bool) (v : Nat) : (s.irqIf c v).bcn = s.bcn := rfl
@[simp] theorem State.irqIf_fuse (s : State) (c : Bool) (v : Nat) : (s.irqIf c v).fuse = s.fuse := rfl
@[simp] theorem State.irqIf_boot (s : State) (c : Bool) (v : Nat) : (s.irqIf c v).boot = s.boot := rfl
@[simp] theorem State.irqIf_mlk (s : State) (c : Bool) (v : Nat) : (s.irqIf c v).mlk = s.mlk := rfl
@[simp] theorem State.irqIf_txn (s : State) (c : Bool) (v : Nat) : (s.irqIf c v).txn = s.txn := rfl
@[simp] theorem State.irqIf_rcv (s : State) (c : Bool) (v : Nat) : (s.irqIf c v).rcv = s.rcv := rfl
@[simp] theorem State.irqIf_hif (s : State) (c : Bool) (v : Nat) : (s.irqIf c v).hif = s.hif := rfl
@[simp] theorem State.irqIf_low (s : State) (c : Bool) (v : Nat) : (s.irqIf c v).low = s.low := rfl
@[simp] theorem State.endPend_pending (s : State) (i : Nat) : (s.endPend i).pending = s.pending := rfl
@[simp] theorem State.endPend_free (s : State) (i : Nat) : (s.endPend i).free = s.free := rfl
@[simp] theorem State.endPend_time (s : State) (i : Nat) : (s.endPend i).time = s.time := rfl
@[simp] theorem State.endPend_regs (s : State) (i : Nat) : (s.endPend i).regs = s.regs := rfl
@[simp] theorem State.endPend_live (s : State) (i : Nat) : (s.endPend i).live = s.live := rfl
@[simp] theorem State.endPend_tally (s : State) (i : Nat) : (s.endPend i).tally = s.tally := rfl
@[simp] theorem State.endPend_mem (s : State) (i : Nat) : (s.endPend i).mem = s.mem := rfl
@[simp] theorem State.endPend_lockSeen (s : State) (i : Nat) : (s.endPend i).lockSeen = s.lockSeen := rfl
@[simp] theorem State.endPend_err (s : State) (i : Nat) : (s.endPend i).err = s.err := rfl
@[simp] theorem State.endPend_rate (s : State) (i : Nat) : (s.endPend i).rate = s.rate := rfl
@[simp] theorem State.endPend_gens (s : State) (i : Nat) : (s.endPend i).gens = s.gens := rfl
@[simp] theorem State.endPend_lastGens (s : State) (i : Nat) : (s.endPend i).lastGens = s.lastGens := rfl
@[simp] theorem State.endPend_epoch (s : State) (i : Nat) : (s.endPend i).epoch = s.epoch := rfl
@[simp] theorem State.endPend_msix (s : State) (i : Nat) : (s.endPend i).msix = s.msix := rfl
@[simp] theorem State.endPend_snap (s : State) (i : Nat) : (s.endPend i).snap = s.snap := rfl
@[simp] theorem State.endPend_cmdRes (s : State) (i : Nat) : (s.endPend i).cmdRes = s.cmdRes := rfl
@[simp] theorem State.endPend_pipes (s : State) (i : Nat) : (s.endPend i).pipes = s.pipes := rfl
@[simp] theorem State.endPend_ports (s : State) (i : Nat) : (s.endPend i).ports = s.ports := rfl
@[simp] theorem State.endPend_fte (s : State) (i : Nat) : (s.endPend i).fte = s.fte := rfl
@[simp] theorem State.endPend_bpm (s : State) (i : Nat) : (s.endPend i).bpm = s.bpm := rfl
@[simp] theorem State.endPend_ods (s : State) (i : Nat) : (s.endPend i).ods = s.ods := rfl
@[simp] theorem State.endPend_evpend (s : State) (i : Nat) : (s.endPend i).evpend = s.evpend := rfl
@[simp] theorem State.endPend_threads (s : State) (i : Nat) : (s.endPend i).threads = s.threads := rfl
@[simp] theorem State.endPend_cycles (s : State) (i : Nat) : (s.endPend i).cycles = s.cycles := rfl
@[simp] theorem State.endPend_iramq (s : State) (i : Nat) : (s.endPend i).iramq = s.iramq := rfl
@[simp] theorem State.endPend_sems (s : State) (i : Nat) : (s.endPend i).sems = s.sems := rfl
@[simp] theorem State.endPend_spmBad (s : State) (i : Nat) : (s.endPend i).spmBad = s.spmBad := rfl
@[simp] theorem State.endPend_resps (s : State) (i : Nat) : (s.endPend i).resps = s.resps := rfl
@[simp] theorem State.endPend_abandons (s : State) (i : Nat) : (s.endPend i).abandons = s.abandons := rfl
@[simp] theorem State.endPend_wipes (s : State) (i : Nat) : (s.endPend i).wipes = s.wipes := rfl
@[simp] theorem State.endPend_ecs (s : State) (i : Nat) : (s.endPend i).ecs = s.ecs := rfl
@[simp] theorem State.endPend_dmcs (s : State) (i : Nat) : (s.endPend i).dmcs = s.dmcs := rfl
@[simp] theorem State.endPend_dramBad (s : State) (i : Nat) : (s.endPend i).dramBad = s.dramBad := rfl
@[simp] theorem State.endPend_lines (s : State) (i : Nat) : (s.endPend i).lines = s.lines := rfl
@[simp] theorem State.endPend_accs (s : State) (i : Nat) : (s.endPend i).accs = s.accs := rfl
@[simp] theorem State.endPend_cvuCache (s : State) (i : Nat) : (s.endPend i).cvuCache = s.cvuCache := rfl
@[simp] theorem State.endPend_rcd (s : State) (i : Nat) : (s.endPend i).rcd = s.rcd := rfl
@[simp] theorem State.endPend_bcn (s : State) (i : Nat) : (s.endPend i).bcn = s.bcn := rfl
@[simp] theorem State.endPend_fuse (s : State) (i : Nat) : (s.endPend i).fuse = s.fuse := rfl
@[simp] theorem State.endPend_boot (s : State) (i : Nat) : (s.endPend i).boot = s.boot := rfl
@[simp] theorem State.endPend_mlk (s : State) (i : Nat) : (s.endPend i).mlk = s.mlk := rfl
@[simp] theorem State.endPend_txn (s : State) (i : Nat) : (s.endPend i).txn = s.txn := rfl
@[simp] theorem State.endPend_rcv (s : State) (i : Nat) : (s.endPend i).rcv = s.rcv := rfl
@[simp] theorem State.endPend_hif (s : State) (i : Nat) : (s.endPend i).hif = s.hif := rfl
@[simp] theorem State.endPend_low (s : State) (i : Nat) : (s.endPend i).low = s.low := rfl
@[simp] theorem State.pass_pending (s : State) (n : Nat) : (s.pass n).pending = s.pending := rfl
@[simp] theorem State.pass_free (s : State) (n : Nat) : (s.pass n).free = s.free := rfl
@[simp] theorem State.pass_regs (s : State) (n : Nat) : (s.pass n).regs = s.regs := rfl
@[simp] theorem State.pass_live (s : State) (n : Nat) : (s.pass n).live = s.live := rfl
@[simp] theorem State.pass_tally (s : State) (n : Nat) : (s.pass n).tally = s.tally := rfl
@[simp] theorem State.pass_mem (s : State) (n : Nat) : (s.pass n).mem = s.mem := rfl
@[simp] theorem State.pass_guards (s : State) (n : Nat) : (s.pass n).guards = s.guards := rfl
@[simp] theorem State.pass_lockSeen (s : State) (n : Nat) : (s.pass n).lockSeen = s.lockSeen := rfl
@[simp] theorem State.pass_err (s : State) (n : Nat) : (s.pass n).err = s.err := rfl
@[simp] theorem State.pass_rate (s : State) (n : Nat) : (s.pass n).rate = s.rate := rfl
@[simp] theorem State.pass_gens (s : State) (n : Nat) : (s.pass n).gens = s.gens := rfl
@[simp] theorem State.pass_lastGens (s : State) (n : Nat) : (s.pass n).lastGens = s.lastGens := rfl
@[simp] theorem State.pass_epoch (s : State) (n : Nat) : (s.pass n).epoch = s.epoch := rfl
@[simp] theorem State.pass_msix (s : State) (n : Nat) : (s.pass n).msix = s.msix := rfl
@[simp] theorem State.pass_snap (s : State) (n : Nat) : (s.pass n).snap = s.snap := rfl
@[simp] theorem State.pass_cmdRes (s : State) (n : Nat) : (s.pass n).cmdRes = s.cmdRes := rfl
@[simp] theorem State.pass_pipes (s : State) (n : Nat) : (s.pass n).pipes = s.pipes := rfl
@[simp] theorem State.pass_ports (s : State) (n : Nat) : (s.pass n).ports = s.ports := rfl
@[simp] theorem State.pass_fte (s : State) (n : Nat) : (s.pass n).fte = s.fte := rfl
@[simp] theorem State.pass_bpm (s : State) (n : Nat) : (s.pass n).bpm = s.bpm := rfl
@[simp] theorem State.pass_ods (s : State) (n : Nat) : (s.pass n).ods = s.ods := rfl
@[simp] theorem State.pass_evpend (s : State) (n : Nat) : (s.pass n).evpend = s.evpend := rfl
@[simp] theorem State.pass_threads (s : State) (n : Nat) : (s.pass n).threads = s.threads := rfl
@[simp] theorem State.pass_cycles (s : State) (n : Nat) : (s.pass n).cycles = s.cycles := rfl
@[simp] theorem State.pass_iramq (s : State) (n : Nat) : (s.pass n).iramq = s.iramq := rfl
@[simp] theorem State.pass_sems (s : State) (n : Nat) : (s.pass n).sems = s.sems := rfl
@[simp] theorem State.pass_spmBad (s : State) (n : Nat) : (s.pass n).spmBad = s.spmBad := rfl
@[simp] theorem State.pass_resps (s : State) (n : Nat) : (s.pass n).resps = s.resps := rfl
@[simp] theorem State.pass_abandons (s : State) (n : Nat) : (s.pass n).abandons = s.abandons := rfl
@[simp] theorem State.pass_wipes (s : State) (n : Nat) : (s.pass n).wipes = s.wipes := rfl
@[simp] theorem State.pass_ecs (s : State) (n : Nat) : (s.pass n).ecs = s.ecs := rfl
@[simp] theorem State.pass_dmcs (s : State) (n : Nat) : (s.pass n).dmcs = s.dmcs := rfl
@[simp] theorem State.pass_dramBad (s : State) (n : Nat) : (s.pass n).dramBad = s.dramBad := rfl
@[simp] theorem State.pass_lines (s : State) (n : Nat) : (s.pass n).lines = s.lines := rfl
@[simp] theorem State.pass_accs (s : State) (n : Nat) : (s.pass n).accs = s.accs := rfl
@[simp] theorem State.pass_cvuCache (s : State) (n : Nat) : (s.pass n).cvuCache = s.cvuCache := rfl
@[simp] theorem State.pass_rcd (s : State) (n : Nat) : (s.pass n).rcd = s.rcd := rfl
@[simp] theorem State.pass_bcn (s : State) (n : Nat) : (s.pass n).bcn = s.bcn := rfl
@[simp] theorem State.pass_fuse (s : State) (n : Nat) : (s.pass n).fuse = s.fuse := rfl
@[simp] theorem State.pass_boot (s : State) (n : Nat) : (s.pass n).boot = s.boot := rfl
@[simp] theorem State.pass_mlk (s : State) (n : Nat) : (s.pass n).mlk = s.mlk := rfl
@[simp] theorem State.pass_txn (s : State) (n : Nat) : (s.pass n).txn = s.txn := rfl
@[simp] theorem State.pass_rcv (s : State) (n : Nat) : (s.pass n).rcv = s.rcv := rfl
@[simp] theorem State.pass_hif (s : State) (n : Nat) : (s.pass n).hif = s.hif := rfl
@[simp] theorem State.pass_low (s : State) (n : Nat) : (s.pass n).low = s.low := rfl

/-! ## Registers -/

@[simp] theorem State.rd_wr_self (s : State) (off : Nat) (v : W32) : (s.wr off v).rd off = v :=
  SMap.get_set_self cardReset s.regs off v

theorem State.rd_wr_ne (s : State) {off o : Nat} (v : W32) (h : o ≠ off) : (s.wr off v).rd o = s.rd o :=
  SMap.get_set_ne cardReset s.regs v h

/-- What a register write leaves to be read. -/
theorem State.rd_wr (s : State) (off o : Nat) (v : W32) : (s.wr off v).rd o = if o = off then v else s.rd o :=
  SMap.get_set cardReset s.regs off o v

theorem State.rd_wf_ne (s : State) {off o : Nat} (f : Fld) (x : Nat) (h : o ≠ off) : (s.wf off f x).rd o = s.rd o :=
  State.rd_wr_ne s _ h

theorem State.rd_orBits_ne (s : State) {off o : Nat} (x : Nat) (h : o ≠ off) : (s.orBits off x).rd o = s.rd o :=
  State.rd_wr_ne s _ h

theorem State.rd_of_regs {s t : State} (h : t.regs = s.regs) (o : Nat) : t.rd o = s.rd o := by
  unfold State.rd; rw [h]

/-! ## Bit fields -/

theorem putBits_div (v lo w x : Nat) : putBits v lo w x / 2 ^ lo = 2 ^ w * (v / 2 ^ lo / 2 ^ w) + x % 2 ^ w := by
  unfold putBits bitsOf lowBits
  rw [Nat.add_mul_div_right _ _ (Nat.two_pow_pos lo), Nat.mul_comm (v / 2 ^ lo % 2 ^ w), Nat.sub_mul_div]
  have := Nat.div_add_mod (v / 2 ^ lo) (2 ^ w)
  omega

theorem putBits_mod (v lo w x : Nat) : putBits v lo w x % 2 ^ lo = v % 2 ^ lo := by
  unfold putBits bitsOf lowBits
  rw [Nat.add_mul_mod_self_right, Nat.mul_comm, Nat.sub_mul_mod]
  rw [Nat.mul_comm]
  exact Nat.le_trans (Nat.mul_le_mul_right _ (Nat.mod_le _ _)) (Nat.div_mul_le_self v _)

/-- A field put into a number reads back. -/
theorem bitsOf_putBits (v lo w x : Nat) : bitsOf (putBits v lo w x) lo w = x % 2 ^ w := by
  unfold bitsOf
  rw [putBits_div, Nat.mul_add_mod, Nat.mod_mod]

/-- A field depends only on the bits below its top. -/
theorem bitsOf_mod (v lo w n : Nat) (h : lo + w ≤ n) : bitsOf (v % 2 ^ n) lo w = bitsOf v lo w := by
  unfold bitsOf
  have e : 2 ^ n = 2 ^ lo * 2 ^ (n - lo) := by rw [← Nat.pow_add]; congr 1; omega
  rw [e, Nat.mod_mul_right_div_self, Nat.mod_mod_of_dvd _ (Nat.pow_dvd_pow 2 (by omega : w ≤ n - lo))]

/-- A field put into a number leaves every other field alone. -/
theorem bitsOf_putBits_ne (v lo w x l k : Nat) (h : l + k ≤ lo ∨ lo + w ≤ l) :
    bitsOf (putBits v lo w x) l k = bitsOf v l k := by
  rcases h with h | h
  · rw [← bitsOf_mod _ l k lo h, putBits_mod, bitsOf_mod _ l k lo h]
  · unfold bitsOf
    have e : 2 ^ l = 2 ^ lo * (2 ^ w * 2 ^ (l - lo - w)) := by rw [← Nat.pow_add, ← Nat.pow_add]; congr 1; omega
    have m : x % 2 ^ w < 2 ^ w := Nat.mod_lt _ (Nat.two_pow_pos w)
    rw [e, ← Nat.div_div_eq_div_mul, ← Nat.div_div_eq_div_mul, ← Nat.div_div_eq_div_mul, ← Nat.div_div_eq_div_mul,
      putBits_div, Nat.mul_add_div (Nat.two_pow_pos w), Nat.div_eq_of_lt m, Nat.add_zero]

/-- A field of a register reads back what was set in it. -/
theorem State.fd_wf_self (s : State) (off : Nat) (f : Fld) (x : Nat) (h : f.lo + f.w ≤ 32) :
    (s.wf off f x).fd off f = x % 2 ^ f.w := by
  unfold State.fd State.wf
  rw [State.rd_wr_self, BitVec.toNat_ofNat, bitsOf_mod _ _ _ _ h, bitsOf_putBits]

/-- Setting a field leaves every other field of the register alone. -/
theorem State.fd_wf_field (s : State) (off : Nat) (f g : Fld) (x : Nat) (h : g.lo + g.w ≤ 32)
    (d : g.lo + g.w ≤ f.lo ∨ f.lo + f.w ≤ g.lo) : (s.wf off f x).fd off g = s.fd off g := by
  unfold State.fd State.wf
  rw [State.rd_wr_self, BitVec.toNat_ofNat, bitsOf_mod _ _ _ _ h, bitsOf_putBits_ne _ _ _ _ _ _ d]

/-- Setting a field leaves every other register alone. -/
theorem State.fd_wf_ne (s : State) {off o : Nat} (f g : Fld) (x : Nat) (h : o ≠ off) : (s.wf off f x).fd o g = s.fd o g := by
  unfold State.fd; rw [State.rd_wf_ne s f x h]

/-! ## Counters and memory -/

/-- What counting leaves to be read. -/
theorem State.liveAt_countN (s : State) (off n o : Nat) :
    (s.countN off n).liveAt o = if o = off then s.liveAt off + BitVec.ofNat 64 n else s.liveAt o :=
  SMap.get_set (fun _ => 0) s.live off o _

/-- What a byte write leaves to be read. -/
theorem State.byte_setByte (s : State) (sp : Space) (a : Nat) (v : Byte) (sq : Space) (b : Nat) :
    (s.setByte sp a v).byte sq b = if sq.base + b = sp.base + a then v else s.byte sq b :=
  SMap.get_set memDefault s.mem (sp.base + a) (sq.base + b) v

theorem State.byte_of_mem {s t : State} (h : t.mem = s.mem) (sp : Space) (a : Nat) : t.byte sp a = s.byte sp a := by
  unfold State.byte; rw [h]

/-! ## The memory's canonical form -/

theorem State.setByte_canonical (s : State) (sp : Space) (a : Nat) (v : Byte) (h : Memory.wf s.mem = true) :
    Memory.wf (s.setByte sp a v).mem = true := SMap.wf_set memDefault _ _ _ h

theorem State.setBytes_canonical (s : State) (sp : Space) (a : Nat) (bs : List Byte) (h : Memory.wf s.mem = true) :
    Memory.wf (s.setBytes sp a bs).mem = true := by
  induction bs generalizing s a with
  | nil => exact h
  | cons b bs ih => exact ih _ _ (State.setByte_canonical s sp a b h)

theorem State.stN_canonical (s : State) (sp : Space) (a n v : Nat) (h : Memory.wf s.mem = true) :
    Memory.wf (s.stN sp a n v).mem = true := State.setBytes_canonical s sp a _ h

theorem State.zero_canonical (s : State) (sp : Space) (a n : Nat) (h : Memory.wf s.mem = true) :
    Memory.wf (s.zero sp a n).mem = true := SMap.wf_filter memDefault _ _ h

theorem State.oldView_canonical (s : State) (h : Memory.wf s.mem = true) : Memory.wf s.oldView.mem = true :=
  overlay_wf memDefault _ _ h

/-- The memory after reset has the canonical form. -/
theorem State.reset_canonical : Memory.wf State.reset.mem = true := rfl

/-! ## Error records -/

/-- What a record leaves in the queues. -/
theorem State.errOf_raise (s : State) (r : ErrRec) (u : Nat) :
    (s.raise r).errOf u = if u = r.unit.toNat
      then (s.errOf r.unit.toNat).push { r with ts := s.stamp, tskind := !s.timeRuns } else s.errOf u :=
  SMap.get_set (fun _ => ({} : ErrUnit)) s.err r.unit.toNat u _

end Sys2Proof.Machine
end

