-- ==== Sys2Proof/WellFormed.lean ====
section
/-! DEFINITION. Well-formed commands: every operand that numbers a thing of the device lies in the range that the spec gives
that thing. A meaning is total all the same: a command outside these ranges changes nothing. -/
namespace Sys2Proof

/-- A master identifier has 12 bits (R46). -/
def okMid (x : Nat) : Bool := decide (x < 4096)

/-- Numbers a port (R24). -/
def okPort (x : Nat) : Bool := decide (x < 144)

/-- Numbers a pipeline (R24). -/
def okPipe (x : Nat) : Bool := decide (x < 4)

/-- Numbers a DRAM channel (R448). -/
def okChannel (x : Nat) : Bool := decide (x < 8)

/-- Numbers a slot of a token window (R259). -/
def okSlot (x : Nat) : Bool := decide (x < 8)

/-- Numbers a side of the Molma link (R570). -/
def okSide (x : Nat) : Bool := decide (x < 2)

/-- Numbers a lane of the Molma link (R570). -/
def okLane (x : Nat) : Bool := decide (x < 4)

/-- Numbers an island (R24, R532). -/
def okIsland (x : Nat) : Bool := decide (x < 45)

/-- Numbers a byte (R679). -/
def okByte (x : Nat) : Bool := decide (x < 256)

/-- Numbers an MSI-X vector (R67). -/
def okVector (x : Nat) : Bool := decide (x < 2048)

/-- Numbers a port group (R24). -/
def okGroup (x : Nat) : Bool := decide (x < 12)

/-- Numbers a cluster (R258). -/
def okCluster (x : Nat) : Bool := decide (x < 16)

/-- Numbers a cluster, or 16 for the management pair (R281). -/
def okComplex (x : Nat) : Bool := decide (x < 17)

/-- Numbers a core of a cluster (R258). -/
def okCore (x : Nat) : Bool := decide (x < 9)

/-- Numbers a thread of a core (R258). -/
def okThread (x : Nat) : Bool := decide (x < 8)

/-- Numbers an accelerator of a cluster (R366). -/
def okAcc (x : Nat) : Bool := decide (x < 4)

/-- Numbers a namespace (R490). -/
def okNs (x : Nat) : Bool := decide (x < 64)

/-- Numbers a recorder region (chapter 15, "Frozen regions"). -/
def okRegion (x : Nat) : Bool := decide (x < 16)

/-- Numbers a recoverer (R633). -/
def okRecoverer (x : Nat) : Bool := decide (x < 17)

/-- Numbers a semaphore (R436). -/
def okSem (x : Nat) : Bool := decide (x < 4160)

/-- Numbers a buffer pool (chapter 06). -/
def okPool (x : Nat) : Bool := decide (x < 8)

/-- Numbers a root port (R671). -/
def okRootPort (x : Nat) : Bool := decide (x < 4)

/-- Numbers a GPIO pin (R686). -/
def okPin (x : Nat) : Bool := decide (x < 32)

/-- Numbers a driver queue (R659). -/
def okQueue (x : Nat) : Bool := decide (x < 1792)

/-- Numbers an I2C controller (R682). -/
def okI2c (x : Nat) : Bool := decide (x < 4)

/-- Numbers an MDIO master (R685). -/
def okMdio (x : Nat) : Bool := decide (x < 2)

/-- Numbers an owner key slot (chapter 17, IMG header byte 21). -/
def okKeySlot (x : Nat) : Bool := decide (x < 4)

/-- Numbers a condition of R681, 5 for edges after word 9 (R681). -/
def okFrameKind (x : Nat) : Bool := decide (x < 6)

/-- Numbers a BAR, or 7 for configuration space (R659). -/
def okBar (x : Nat) : Bool := decide (x < 8)

/-- An offset in BAR0 of an aligned 32-bit word (R8). -/
def okOff (x : Nat) : Bool := decide (x < 0x1000000 ∧ x % 4 = 0)

/-- Whether a command is well-formed. -/
def Instr.wf (i : Instr) : Bool :=
  match i with
  | .registerWrite mid _ off _ _ => okMid mid && okOff off
  | .guardFirstWrite mid _ off _ => okMid mid && okOff off
  | .guardTimeout off => okOff off
  | .guardComplementBad mid _ off _ => okMid mid && okOff off
  | .lockWrite mid _ off _ => okMid mid && okOff off
  | .tallySnap mid _ => okMid mid
  | .tallyDone => true
  | .regDenied mid _ off _ _ => okMid mid && okOff off
  | .beaconPowerOn => true
  | .resetNAssert _ => true
  | .resetNRelease _ => true
  | .supplyLoss _ => true
  | .supplyRestore => true
  | .perstNRise => true
  | .beaconUp => true
  | .fuseSense _ => true
  | .bootRomEntry => true
  | .imageRead _ _ => true
  | .imageAuth _ _ _ _ => true
  | .slotFail => true
  | .bootTmo => true
  | .sectionApply => true
  | .featureNegotiation => true
  | .clusterRelease => true
  | .bootWrite mid _ off _ => okMid mid && okOff off
  | .bootRetry mid _ => okMid mid
  | .keyProgram mid _ slot => okMid mid && okKeySlot slot
  | .lcRequest mid _ _ _ => okMid mid
  | .driverFeatures mid _ _ => okMid mid
  | .sramFillDone => true
  | .ddrTrainingDone ch _ _ _ _ _ _ => okChannel ch
  | .dramFillDone ch _ => okChannel ch
  | .frameReceive port _ _ _ _ _ _ => okPort port
  | .cutFrameEnd port _ _ => okPort port
  | .macControlReceive port _ => okPort port
  | .pauseQuantaExpire port _ => okPort port
  | .pauseFrameSend port => okPort port
  | .pauseRepeat port => okPort port
  | .transmitFrame port _ => okPort port
  | .transmitDone port => okPort port
  | .tsqPop port => okPort port
  | .portModePair mid _ port _ => okMid mid && okPort port
  | .quadPair mid _ grp _ => okMid mid && okGroup grp
  | .anRestart mid _ port _ => okMid mid && okPort port
  | .linkUp port _ _ _ => okPort port
  | .linkDown port _ => okPort port
  | .downHoldExpire port => okPort port
  | .laneFault port lane _ => okPort port && okLane lane
  | .faultRetry port => okPort port
  | .parseFrame pl _ _ => okPipe pl
  | .tapOffer pl _ => okPipe pl
  | .controlCellPass _ pl => okPipe pl
  | .prsRead mid _ _ _ => okMid mid
  | .prsWrite mid _ _ => okMid mid
  | .prsInsert mid _ _ => okMid mid
  | .prsUpdate mid _ _ => okMid mid
  | .prsDelete mid _ _ => okMid mid
  | .prsSearch mid _ _ _ => okMid mid
  | .prsBadOp mid _ _ _ => okMid mid
  | .prsCommandDone => true
  | .profCtrlPair mid _ _ _ => okMid mid
  | .profClearDone _ => true
  | .ingressAlloc pl => okPipe pl
  | .allocLen mid _ _ => okMid mid
  | .allocPool mid _ _ => okMid mid
  | .share mid _ _ _ => okMid mid
  | .release mid _ _ => okMid mid
  | .give mid _ _ _ => okMid mid
  | .free mid _ _ => okMid mid
  | .freeLater mid _ _ => okMid mid
  | .freeAddr mid _ _ _ => okMid mid
  | .complete mid _ _ => okMid mid
  | .bpmOpRange mid _ _ _ => okMid mid
  | .ringRefill p => okPool p
  | .ringSpill p => okPool p
  | .poolUe p _ _ => okPool p
  | .poolLayoutPair mid _ p _ _ => okMid mid && okPool p
  | .poolEnable mid _ p _ => okMid mid && okPool p
  | .poolDisable mid _ p _ => okMid mid && okPool p
  | .poolBuildDone p => okPool p
  | .metaRead mid _ => okMid mid
  | .reclaim mid => okMid mid
  | .audit mid => okMid mid
  | .forceFree mid => okMid mid
  | .bpmCommandDone => true
  | .fteResolve pl _ => okPipe pl
  | .learnMessage => true
  | .recentFilterExpire pl => okPipe pl
  | .agePass => true
  | .ageDelete => true
  | .fteFlushCell pl => okPipe pl
  | .portFlush => true
  | .mlkLearnApply => true
  | .lnqPop => true
  | .fteRead mid _ _ _ => okMid mid
  | .fteWrite mid _ _ => okMid mid
  | .fteInsert mid _ _ => okMid mid
  | .fteDelete mid _ _ => okMid mid
  | .fteSearch mid _ _ _ => okMid mid
  | .ageStep mid _ => okMid mid
  | .fteFlush mid _ => okMid mid
  | .fteUpdate mid _ _ => okMid mid
  | .fteBadOp mid _ _ _ => okMid mid
  | .fteCommandDone => true
  | .layoutPair mid _ _ _ => okMid mid
  | .layoutClearDone _ => true
  | .admitCell pl => okPipe pl
  | .heldCellAdmit => true
  | .tokenEntry pl _ => okPipe pl
  | .dispatch c _ => okCluster c
  | .tkpGet mid _ => okMid mid
  | .tkpGetNb mid _ _ => okMid mid
  | .tkpPut mid _ slot => okMid mid && okSlot slot
  | .tkpPutAt mid _ slot _ => okMid mid && okSlot slot
  | .tkpUnlock mid _ slot => okMid mid && okSlot slot
  | .tkpDiscard mid _ slot => okMid mid && okSlot slot
  | .tkpSoft mid _ slot => okMid mid && okSlot slot
  | .tkpTimer mid _ slot _ _ _ => okMid mid && okSlot slot
  | .tkpCancel mid _ _ => okMid mid
  | .orderTimeout _ => true
  | .releaseHandoff _ => true
  | .dlistExpire _ => true
  | .tokenSpill _ => true
  | .tokenUnspill _ _ => true
  | .putStallEnd _ => true
  | .markArrive pl => okPipe pl
  | .epochDrained => true
  | .odsFlushCell pl => okPipe pl
  | .drainTmo n => okPort n
  | .probeInject pipe _ => okPipe pipe
  | .odsStorePair mid _ _ => okMid mid
  | .odsFlowmemPair mid _ _ => okMid mid
  | .bundleIssue c k _ _ => okComplex c && okCore k
  | .shortUnitResult mid _ _ => okMid mid
  | .longUnitResult mid _ _ _ _ => okMid mid
  | .interruptEntry c k => okComplex c && okCore k
  | .iramWriteLand c => okComplex c
  | .windowLineFetch mid slot _ => okMid mid && okSlot slot
  | .reservationExpire mid => okMid mid
  | .threadHalt mid _ c k t => okMid mid && okCluster c && okCore k && okThread t
  | .threadResume mid _ c k t _ => okMid mid && okCluster c && okCore k && okThread t
  | .threadResumeAt mid _ c k t _ => okMid mid && okCluster c && okCore k && okThread t
  | .threadReset mid _ c k t => okMid mid && okCluster c && okCore k && okThread t
  | .threadResetDone mid => okMid mid
  | .threadStep mid _ c k t => okMid mid && okCluster c && okCore k && okThread t
  | .accAcquire mid _ a => okMid mid && okAcc a
  | .acquireTimeout mid a => okMid mid && okAcc a
  | .accRelease c a => okCluster c && okAcc a
  | .ctxSave c a _ => okCluster c && okAcc a
  | .ctxClear c a _ => okCluster c && okAcc a
  | .accFence c a => okCluster c && okAcc a
  | .accCommandDone c a => okCluster c && okAcc a
  | .accForce c a => okCluster c && okAcc a
  | .smxFir c _ => okCluster c
  | .smxFirStream c _ => okCluster c
  | .smxRms c _ => okCluster c
  | .smxMinmax c _ => okCluster c
  | .smxSum c _ => okCluster c
  | .smxLimit c _ => okCluster c
  | .hashxEm c _ => okCluster c
  | .hashxL2 c _ => okCluster c
  | .hashxLpm4 c _ => okCluster c
  | .hashxLpm6 c _ => okCluster c
  | .hashxRead c _ => okCluster c
  | .verify c a _ => okCluster c && okAcc a
  | .calc c a _ => okCluster c && okAcc a
  | .sStart c a _ => okCluster c && okAcc a
  | .sData c a _ => okCluster c && okAcc a
  | .sEnd c a _ => okCluster c && okAcc a
  | .cvuDescRead mid _ _ => okMid mid
  | .cvuDescWrite mid _ => okMid mid
  | .resetState mid _ => okMid mid
  | .invalidate mid _ => okMid mid
  | .cvuCommandDone => true
  | .cvuTablePair mid _ _ => okMid mid
  | .dmaStarved c _ => okCluster c
  | .mailbox mid c _ _ => okMid mid && okCluster c
  | .spmClear mid _ c _ => okMid mid && okCluster c
  | .vaultAccess mid _ _ _ _ _ => okMid mid
  | .vaultLockSet mid _ _ _ => okMid mid
  | .vaultHideSet mid _ _ _ => okMid mid
  | .vaultWipeCmd mid _ _ => okMid mid
  | .vaultWipe => true
  | .vaultWipeDone => true
  | .semAcquire mid _ n => okMid mid && okSem n
  | .semTry mid _ n => okMid mid && okSem n
  | .semWaitTimeout n mid => okSem n && okMid mid
  | .semRelease mid _ n => okMid mid && okSem n
  | .semForce mid _ n => okMid mid && okSem n
  | .semAbandon => true
  | .leaseRenew mid _ _ => okMid mid
  | .leaseExpire _ => true
  | .dramRead mid _ _ => okMid mid
  | .dramWrite mid _ _ _ _ _ _ => okMid mid
  | .dramReadComplete ch _ _ _ => okChannel ch
  | .caParityError ch _ => okChannel ch
  | .freezeTimeout ch => okChannel ch
  | .thaw mid _ ch => okMid mid && okChannel ch
  | .retire mid _ ch _ => okMid mid && okChannel ch
  | .dmcMapPair mid _ _ => okMid mid
  | .dramRefresh ch => okChannel ch
  | .scrubRead ch _ off _ _ _ => okChannel ch && okOff off
  | .retireSet mid _ _ => okMid mid
  | .spareSet mid _ _ => okMid mid
  | .spareCopyDone _ => true
  | .ecsClear mid _ _ => okMid mid
  | .recordCompress _ _ => true
  | .logSeal _ => true
  | .logWrite _ => true
  | .nvmeCompletion _ _ => true
  | .raftFlush => true
  | .raftResume _ => true
  | .recTrigger => true
  | .swtrig _ => true
  | .freezeCellReturn => true
  | .freezeCellTimeout r => okRegion r
  | .regionClose r => okRegion r
  | .raftFormat mid _ _ => okMid mid
  | .raftJoin mid _ n _ => okMid mid && okNs n
  | .raftLeave mid _ n => okMid mid && okNs n
  | .regionRelease mid _ r => okMid mid && okRegion r
  | .rctlDone => true
  | .memberLost n _ => okNs n
  | .nvmeIoTimeout n => okNs n
  | .sigRead mid _ _ => okMid mid
  | .sigWrite mid _ => okMid mid
  | .curveRead mid _ => okMid mid
  | .curveWrite mid _ => okMid mid
  | .findTime mid _ => okMid mid
  | .findLsn mid _ => okMid mid
  | .readLog mid _ => okMid mid
  | .recCommandDone _ _ => true
  | .recCfgPair mid _ _ _ => okMid mid
  | .timeSet mid _ _ => okMid mid
  | .timeStep mid _ _ => okMid mid
  | .timeChangeApply => true
  | .holdClr mid _ _ => okMid mid
  | .timeReadLatch mid => okMid mid
  | .bcntReadLatch mid => okMid mid
  | .ppsCapture off => okOff off
  | .ppsMiss => true
  | .ppsOutEdge => true
  | .ref10mSecond _ _ => true
  | .alarmFire _ => true
  | .vsenseEvent _ => true
  | .tempEvent island _ => okIsland island
  | .thermalShutdown island _ => okIsland island
  | .thermalPointBar island => okIsland island
  | .tamper _ => true
  | .crossingHold island other _ => okIsland island && okIsland other
  | .crossingResume island other => okIsland island && okIsland other
  | .dvfsChange island _ => okIsland island
  | .powerRequest mid _ _ => okMid mid
  | .powerEntryStage => true
  | .entryDrainTimeout => true
  | .wakeCause _ => true
  | .powerExit _ _ => true
  | .wakeTimeout => true
  | .wakeWithdrawn => true
  | .mlkLaneTrained lane => okLane lane
  | .mlkTrainRetry => true
  | .laneDown lane => okLane lane
  | .replayTimeout side => okSide side
  | .dataFrameReceive side _ _ _ => okSide side
  | .dataFrameSend => true
  | .learnFrameReceive side _ _ _ => okSide side
  | .learnPackTimeout => true
  | .buoySend => true
  | .buoyReceive side _ _ _ => okSide side
  | .buoyLost side => okSide side
  | .frameBad side _ _ _ => okSide side
  | .helloSend side => okSide side
  | .helloReceive side _ _ _ => okSide side
  | .helloTmo side => okSide side
  | .electReceive side _ _ _ => okSide side
  | .electionEnd => true
  | .prepareReceive side _ _ _ => okSide side
  | .voteReceive side _ _ _ => okSide side
  | .voteTimeout => true
  | .commitReceive side _ _ _ => okSide side
  | .commitInstant => true
  | .abortReceive side _ _ _ => okSide side
  | .txnDoubt => true
  | .epochSplit side => okSide side
  | .pairFrameReceive side _ _ _ => okSide side
  | .pairSwap mid _ _ => okMid mid
  | .holdoffExpire => true
  | .timeRequestSend => true
  | .timeFrameReceive side _ _ _ => okSide side
  | .syncTimeout => true
  | .modePair mid _ _ => okMid mid
  | .txnOpen mid _ => okMid mid
  | .txnStageEntry mid _ _ => okMid mid
  | .txnCommit mid _ _ => okMid mid
  | .txnLoad mid _ => okMid mid
  | .txnAbort mid _ => okMid mid
  | .txnCheck => true
  | .checkTimeout => true
  | .txnLoadingDone _ => true
  | .markInject pl => okPipe pl
  | .recordDelivery => true
  | .recoveryTimeout r => okRecoverer r
  | .revoke mid _ => okMid mid
  | .readmit mid _ => okMid mid
  | .readmission => true
  | .coreReset mid _ => okMid mid
  | .coreSubst mid _ => okMid mid
  | .cluOut mid _ => okMid mid
  | .cluReset mid _ => okMid mid
  | .cluIn mid _ => okMid mid
  | .flowRebuild mid _ _ => okMid mid
  | .recoveryDone mid _ => okMid mid
  | .recoveryEscalate mid _ => okMid mid
  | .rcvCommandDone => true
  | .spareReturn c => okCluster c
  | .mgtLockstep => true
  | .mgtWdog => true
  | .watchdogKick mid _ _ => okMid mid
  | .mgtRestart => true
  | .headlessEnd => true
  | .mgtNoreturn => true
  | .chipFault => true
  | .autoRestart => true
  | .elogPop mid _ => okMid mid
  | .hostRead bar off _ be => okBar bar && okOff off && okByte be
  | .hostWrite bar off be _ _ => okBar bar && okOff off && okByte be
  | .hostRdTmo _ => true
  | .bar4Access off _ be _ _ _ _ => okOff off && okByte be
  | .hostReset _ => true
  | .msixSend v => okVector v
  | .keeperBell mid _ => okMid mid
  | .queueEnable q _ => okQueue q
  | .queueDoorbell q _ _ => okQueue q
  | .rxDeliver _ _ => true
  | .h2dCopy q _ => okQueue q
  | .d2hBell mid _ q => okMid mid && okQueue q
  | .queueDmaError q _ => okQueue q
  | .rcCfgPair mid _ _ => okMid mid
  | .rootPortBringup mid _ p => okMid mid && okRootPort p
  | .rcInbound p _ _ _ => okRootPort p
  | .rootPortDown p _ => okRootPort p
  | .spifRead mid _ _ => okMid mid
  | .spifProgram mid _ _ => okMid mid
  | .spifErase4k mid _ => okMid mid
  | .spifErase64k mid _ => okMid mid
  | .spifReadSr mid _ => okMid mid
  | .spifDone _ => true
  | .spitRead off seq => okOff off && okByte seq
  | .spitWrite off _ seq _ => okOff off && okByte seq
  | .spitNop seq => okByte seq
  | .spitFrameFault kind _ => okFrameKind kind
  | .i2cTransfer mid _ i _ => okMid mid && okI2c i
  | .i2cTransferDone i _ _ _ _ => okI2c i
  | .i2cStretchTimeout i _ => okI2c i
  | .i2cReset mid _ i _ _ => okMid mid && okI2c i
  | .i2cRecover mid _ i _ _ => okMid mid && okI2c i
  | .mdioC22Write mid _ m _ _ _ => okMid mid && okMdio m
  | .mdioC22Read mid _ m _ _ => okMid mid && okMdio m
  | .mdioC45Addr mid _ m _ _ _ => okMid mid && okMdio m
  | .mdioC45Write mid _ m _ _ _ => okMid mid && okMdio m
  | .mdioC45Read mid _ m _ _ => okMid mid && okMdio m
  | .mdioC45ReadInc mid _ m _ _ => okMid mid && okMdio m
  | .mdioDone m _ => okMdio m
  | .gpioEdge p _ => okPin p
  | .jtagExtest => true
  | .jtagSamplePreload _ => true
  | .jtagClamp => true
  | .jtagHighz => true
  | .jtagDbgReg off _ => okOff off
  | .jtagDbgMem off _ _ _ _ => okOff off
  | .jtagIdcode => true
  | .jtagBypass => true
  | .avsEnable mid _ _ _ => okMid mid
  | .avsStep _ => true
  | .avsFail _ => true
  | .hostLinkUp _ _ => true
  | .rootPortReady p _ _ _ _ => okRootPort p
  | .epochCommitRetry => true

end Sys2Proof
end

