-- ==== Sys2Proof/Tests/Slice0.lean ====
section
/-! SUPPORT. Tests: ill-formed commands that the checks refuse, worked values of the spec, and, for every statement with hypotheses,
states and operands that meet them, at bounds of their ranges where there are such. -/
namespace Sys2Proof.Tests
open Sys2Proof Sys2Proof.Machine
set_option linter.unusedVariables false
set_option Elab.async false

/-! ## Well-formed commands -/

/-- One ill-formed command for each check (okMid, okOff, okKeySlot, okChannel, okPort, okGroup, okLane, okPipe, okPool, okCluster, okSlot, okComplex, okCore, okThread, okAcc, okSem, okRegion, okNs, okIsland, okSide, okRecoverer, okBar, okByte, okVector, okQueue, okRootPort, okFrameKind, okI2c, okMdio, okPin), and an offset that is not aligned. -/
theorem test_ill_formed_refused : ([.registerWrite 4096 0 0 0 false,
    .registerWrite 0 0 0x1000000 0 false,
    .keyProgram 0 0 4,
    .ddrTrainingDone 8 0 0 0 0 0 0,
    .frameReceive 144 [] false false 0 0 0,
    .quadPair 0 0 12 0,
    .laneFault 0 4 0,
    .parseFrame 4 none false,
    .ringRefill 8,
    .dispatch 16 false,
    .tkpPut 0 0 8,
    .bundleIssue 17 0 0 false,
    .bundleIssue 0 9 0 false,
    .threadHalt 0 0 0 0 8,
    .accAcquire 0 0 4,
    .semAcquire 0 0 4160,
    .freezeCellTimeout 16,
    .raftJoin 0 0 64 0,
    .tempEvent 45 0,
    .replayTimeout 2,
    .recoveryTimeout 17,
    .hostRead 8 0 0 0,
    .hostRead 0 0 0 256,
    .msixSend 2048,
    .queueEnable 1792 0,
    .rootPortBringup 0 0 4,
    .spitFrameFault 6 0,
    .i2cTransfer 0 0 4 0,
    .mdioC22Write 0 0 2 0 0 0,
    .gpioEdge 32 false,
    .guardTimeout 2] : List Instr).all (fun i => !i.wf) = true := by decide

/-- Commands at the greatest operands of their checks are well-formed. -/
theorem test_well_formed_bounds : ([.pauseRepeat 143, .lcRequest 4095 0 0 false, .guardTimeout 0xFFFFFC, .ringSpill 7, .memberLost 63 0,
    .bundleIssue 16 8 0 false] : List Instr).all Instr.wf = true := by decide

/-- No row of the command table gives bits, so no word spells a command. -/
theorem test_no_word_decodes : decodeTableWord 32 0 = none ∧ decodeTableWord 0 5 = none := by decide

/-! ## Worked values of the spec -/

/-- R396: the Check column, over the nine ASCII bytes of 123456789 with seed 0. -/
theorem test_preset_checks : (List.range 6).map (fun k => (presetOf k).value 0 [0x31, 0x32, 0x33, 0x34, 0x35, 0x36, 0x37, 0x38, 0x39]) =
    [0xCBF43926, 0xE3069283, 0x7979BD, 0x29B1, 0xBB3D, 0xF4] := by decide +kernel

/-- R39: the two ends of the range in which one SEQ value precedes another, and a wrap. -/
theorem test_seq_order : seqBefore 0xFFFFFF 0 = true ∧ seqBefore 0 8388607 = true ∧ seqBefore 0 8388608 = false ∧ seqBefore 5 5 = false := by
  decide

/-- R3: what GLB_ID reads as after reset on stepping A1 of an industrial part: DEVICE 0x7144 and STEPPING 0x0A1. -/
theorem test_glb_id : (State.reset.rd R.GLB_ID).toNat / 65536 = 0x7144 ∧ (State.reset.rd R.GLB_ID).toNat % 4096 = 0x0A1 := by decide +kernel

/-- A running device: start-up has ended. -/
def live : State := { State.reset with boot := { resetLow := false, released := true }, wipes := [] }

/-- The card of a register. -/
def cardOf (off : Nat) : Card := (cardAt off).getD ⟨"", 0, 0, [], 0, 0, 0, 0, 0, 0, false, false, false⟩

/-- A state in which the first write of a pair is pending: value `v` at `off`, from thread 0 of the management pair. -/
def offer (s : State) (off : Nat) (v : W32) : State :=
  { s with guards := [(guardInst off, { off := off, value := v, mid := 0x800, gen := 1, since := s.time.clock })] }

/-- The state with that pair taken. -/
def taken (s : State) (off : Nat) (v : W32) : State := (s.takePair off 0x800 1 v).getD s

/-- A running device whose port `n` is up at 10 Gb/s. -/
def upPort (n : Nat) : State :=
  ((live.wr (R.PX_PORT_MODE n) 4).wf (R.PX_GRP_CTRL (n / 12)) F.PX_GRP_CTRL_TX_RELEASE 1).setLink n 2

/-- A running device whose pool 7 holds eight buffers of 256 bytes in packet memory. -/
def poolLive : State :=
  ((((((live.wr (R.BPM_POOL_SIZE 7) 0x80000004).wr (R.BPM_POOL_COUNT 7) 8).wr (R.BPM_POOL_BASE 7) 0x10).wr (R.BPM_POOL_META 7)
    0x20).wr (R.BPM_POOL_RING 7) 0x03000001).wr (R.BPM_POOL_FREE 7) 5).setPool 7 { cache := [mkHandle 7 3, mkHandle 7 4] }

/-- `poolLive` with buffer 2 of the pool allocated. -/
def bufLive (m : Meta) : State := poolLive.setMeta 7 2 m

/-- A running device whose ten forwarding tables are laid out. -/
def fteLive : State :=
  ([(0, 32, 10), (1, 40, 10), (2, 48, 10), (3, 64, 16), (4, 130, 8), (5, 140, 1), (6, 141, 1), (7, 142, 1), (8, 143, 1),
    (9, 144, 4)] : List (Nat × Nat × Nat)).foldl
    (fun s t => s.wr (R.FTE_LAYOUT t.1) (BitVec.ofNat 32 (t.2.1 * 2 ^ 21 + t.2.2 * 2 ^ 16))) live

/-- A state whose FTE_TBUF stages two words from a place on. -/
def stage (s : State) (i : Nat) (lo hi : W32) : State := (s.wr (R.FTE_TBUF i) lo).wr (R.FTE_TBUF (i + 1)) hi

/-- A running device that admits tokens: node 1 queues, node 2 releases, node 3 releases at an instant. -/
def odsLive : State :=
  (((((((live.wr R.ODS_CFG 0x80000000).wr R.ODS_STORE 14).wr (R.ODS_NODE_A 1) 0x40000000).wr (R.ODS_NODE_B 1) 0xFFFF0000).wr
    (R.ODS_NODE_A 2) 0x80000000).wr (R.ODS_NODE_A 3) 0x80000000).wr (R.ODS_NODE_B 3) 0xF800).wr (R.ODS_GROUP 0) 8

/-- `odsLive` with token 9 in slot 7 of thread 3's window, on its way to a node. -/
def heldLive (node : BitVec 6) : State :=
  (odsLive.setSlot 9 { used := true, tok := { id := 9, node := node, length := 20 } }).giveThread 3 7 9


/-- A good frame arrives where every check of it holds and the header's ACK, CREDIT and RX SEQ have acted. -/
theorem mlkGets_of {s u : State} {typ i h0 h1 : Nat} {pl : List Byte} {fr : MlkFrame}
    (h : s.sideOn i = true ∧ h0 % 16 = typ ∧ headerOk h0 h1 = true ∧ bitsOf h0 40 14 = pl.length ∧ fr = mlkParse h0 h1 pl
      ∧ (replayed typ = true → fr.seq = ((s.mside i).rxSeq + 1) % 4096)
      ∧ u = if replayed typ then ((s.mlkCnt 1).mlkAck i (bitsOf h0 28 12) (bitsOf h0 54 10)).setMside i
          { (((s.mlkCnt 1).mlkAck i (bitsOf h0 28 12) (bitsOf h0 54 10)).mside i) with rxSeq := fr.seq }
        else (s.mlkCnt 1).mlkAck i (bitsOf h0 28 12) (bitsOf h0 54 10)) : MlkGets s typ i h0 h1 pl fr u :=
  ⟨h.1, h.2.1, h.2.2.1, h.2.2.2.1, h.2.2.2.2.1, h.2.2.2.2.2.1, _, rfl, h.2.2.2.2.2.2⟩

/-- A step takes the first of two waiting commands and leaves the second. -/
theorem test_step_takes_front : step { live with pending := [.perstNRise, .beaconUp] } =
    .next { live with pending := [.beaconUp], boot := { live.boot with perst := true } } := rfl

/-! ## What meets the hypotheses of the statements -/

namespace P01


/-- States and operands that meet the hypotheses of clauses 1, 2, 3 of RegisterPathCompletes. -/
theorem met_RegisterPathCompletes_a :
    (∃ (s : State) (mid : Nat) (gen : BitVec 8) (off : Nat) (v : W32) (ue : Bool) (c : Card), off ∈ plainRegs ∧ cardAt off = some c ∧ s.Reached mid gen off v) ∧
    (∃ (s : State) (mid : Nat) (gen : BitVec 8) (off : Nat) (v : W32) (ue : Bool) (c : Card), off ∈ plainRegs ∧ cardAt off = some c ∧ s.Reached mid gen off v) ∧
    (∃ (s : State) (mid : Nat) (gen : BitVec 8) (off : Nat) (v : W32), isFirst off = true ∧ s.Reached mid gen off v ∧ s.pendOf (guardInst off) = none) ∧
    (∃ (s : State) (off : Nat) (p : GuardPend), s.pendOf (guardInst off) = some p) :=
  ⟨⟨live, 0x800, 1, R.BCN_TIME_RATE, 0xFFFFFFFF, false, cardOf R.BCN_TIME_RATE, by delta Sys2Proof.Machine.State.Reached; decide +kernel⟩,
   ⟨live, 0x800, 1, R.ECS_SCRUB_CFG, 0xFFFFFFFF, false, cardOf R.ECS_SCRUB_CFG, by delta Sys2Proof.Machine.State.Reached; decide +kernel⟩,
   ⟨live, 0x800, 1, R.GLB_MODE, 1, by delta Sys2Proof.Machine.State.Reached; decide +kernel⟩,
   ⟨{ live with guards := [(0, { off := R.GLB_MODE, value := 1, mid := 0x800, gen := 1, since := 0 })] }, R.GLB_MODE, { off := R.GLB_MODE, value := 1, mid := 0x800, gen := 1, since := 0 }, by decide +kernel⟩⟩

/-- States and operands that meet the hypotheses of clauses 4, 5, 6 of RegisterPathCompletes. -/
theorem met_RegisterPathCompletes_b :
    (∃ (s : State) (mid : Nat) (gen : BitVec 8) (off : Nat) (v : W32) (p : GuardPend), isFirst off = true ∧ isFirst (off + 4) = false ∧ isSecond (off + 4) = true ∧ s.Reached mid gen (off + 4) v ∧ s.pendOf (guardInst off) = some p ∧ p.off = off ∧ p.mid = mid ∧ p.gen = gen ∧ s.time.clock ≤ p.since + 16 ∧ v ≠ ~~~p.value) ∧
    (∃ (s : State) (mid : Nat) (gen : BitVec 8) (off : Nat) (v : W32), s.turnedAway mid gen off true v = none ∧ s.heldWrite off = false ∧ s.locked = true ∧ lockMarked off = true ∧ isSecond off = false ∧ s.pendOf (guardInst off) = none ∧ s.lockSeen = none) ∧
    (∃ (s : State) (mid : Nat) (gen : BitVec 8) (off : Nat) (w : Bool) (v : W32), s.inReset = false ∧ s.headless = false ∧ s.xingHeld 41 (islandOf off) = false ∧ midIsThread mid = true ∧ s.pathRights mid off w = false ∧ isFirst off = false ∧ isSecond off = false) ∧
    (∃ (s : State) (mid : Nat) (gen : BitVec 8) (off : Nat) (w : Bool) (v : W32), s.inReset = false ∧ s.headless = false ∧ s.xingHeld 41 (islandOf off) = false ∧ midIsThread mid = true ∧ s.pathRights mid off w = false ∧ isFirst off = false ∧ isSecond off = false) :=
  ⟨⟨{ live with guards := [(0, { off := R.GLB_MODE, value := 1, mid := 0x800, gen := 1, since := 0 })] }, 0x800, 1, R.GLB_MODE, 5, { off := R.GLB_MODE, value := 1, mid := 0x800, gen := 1, since := 0 }, by delta Sys2Proof.Machine.State.Reached; decide +kernel⟩,
   ⟨live.wf R.GLB_MODE F.GLB_MODE_LOCK 1, 0x800, 1, R.PX_PORT_CTRL 3, 5, by decide +kernel⟩,
   ⟨live, 3, 1, R.PX_PORT_CTRL 3, true, 7, by decide +kernel⟩,
   ⟨live, 3, 1, R.BCN_TIME_NS, false, 7, by decide +kernel⟩⟩

/-- States and operands that meet the hypotheses of clauses 7, 8 of RegisterPathCompletes. -/
theorem met_RegisterPathCompletes_c :
    (∃ (s : State) (mid : Nat) (gen : BitVec 8), s.Reached mid gen R.GLB_TALLY_SNAP 1 ∧ s.flag R.GLB_TALLY_STATUS F.GLB_TALLY_STATUS_BUSY = false ∧ s.pendOf (guardInst R.GLB_TALLY_SNAP) = none) ∧
    (∃ s : State, s.flag R.GLB_TALLY_STATUS F.GLB_TALLY_STATUS_BUSY = true) :=
  ⟨⟨live, 0x800, 1, by delta Sys2Proof.Machine.State.Reached; decide +kernel⟩,
   ⟨{ live.wf R.GLB_TALLY_STATUS F.GLB_TALLY_STATUS_BUSY 1 with live := [(R.GLB_REG_CNT 0, 5)], snap := { instant := 77, counts := [(R.GLB_REG_CNT 0, 4)] } }, by decide +kernel⟩⟩

end P01

namespace P02
def fr : List Byte := List.replicate 64 7
def pauseIn : List Byte := toBe 6 0x0180C2000001 ++ toBe 6 5 ++ toBe 2 0x8808 ++ toBe 2 1 ++ toBe 2 9 ++ List.replicate 46 0
def cutting : State := (upPort 3).setPort 3 { cutting := true, cutLen := 256, rxq := [{ bytes := List.replicate 256 1, cut := true }] }
def eg : EgTok := { tok := { length := 20, handle := 1, cls := 2 } }
def wantsPause : State := ((upPort 3).wf (R.PX_PORT_PAUSE 3) F.PX_PORT_PAUSE_GEN 2).setPort 3 { fifoPause := true, epq := [eg] }

/-- States and operands that meet the hypotheses of clauses 1, 2, 3 of PortFramesComplete. -/
theorem met_PortFramesComplete_a :
    (∃ (s : State) (n k : Nat) (bytes : List Byte) (fcsOk : Bool) (sfd : W64) (corr : Nat), s.receives n = true ∧ (s.port n).cutting = false ∧ rxFault bytes.length (s.mtu n) fcsOk = some k) ∧
    (∃ (s : State) (n k : Nat) (bytes : List Byte) (fcsOk : Bool) (sfd : W64) (corr : Nat), s.receives n = true ∧ (s.port n).cutting = false ∧ rxFault bytes.length (s.mtu n) fcsOk = some k) ∧
    (∃ (s : State) (n : Nat) (bytes : List Byte) (fcsOk : Bool) (sfd : W64) (corr : Nat), s.receives n = true ∧ (s.port n).cutting = false ∧ rxFault bytes.length (s.mtu n) fcsOk = none ∧ beAt bytes 12 2 ≠ 0x8808 ∧ s.fifoUsed n + bytes.length ≤ s.fifoSize n) ∧
    (∃ (s : State) (n k : Nat) (rest : List Byte) (fcsOk : Bool), (s.port n).cutting = true ∧ 4 ≤ rest.length ∧ (s.port n).rxq.any (·.cut) = true ∧ rxFault ((s.port n).cutLen + rest.length) (s.mtu n) fcsOk = some k) :=
  ⟨⟨upPort 3, 3, 3, List.replicate 63 0, true, 1000, 0, by decide +kernel⟩,
   ⟨upPort 3, 3, 4, List.replicate 2000 0, true, 1000, 0, by decide +kernel⟩,
   ⟨upPort 3, 3, fr, true, 1000, 0, by decide +kernel⟩,
   ⟨cutting, 3, 2, fr, false, by decide +kernel⟩⟩

/-- States and operands that meet the hypotheses of clauses 4, 5, 6, 7 of PortFramesComplete. -/
theorem met_PortFramesComplete_b :
    (∃ (s : State) (n : Nat) (rest : List Byte) (fcsOk : Bool), (s.port n).cutting = true ∧ 4 ≤ rest.length ∧ (s.port n).rxq.any (·.cut) = true ∧ rxFault ((s.port n).cutLen + rest.length) (s.mtu n) fcsOk = none) ∧
    (∃ (s : State) (n : Nat) (bytes : List Byte), s.receives n = true ∧ beAt bytes 12 2 = 0x8808 ∧ 64 ≤ bytes.length ∧ beAt bytes 0 6 = 0x0180C2000001 ∧ beAt bytes 14 2 = 1 ∧ beAt bytes 16 2 ≠ 0 ∧ s.flag (R.PX_PORT_CTRL n) F.PX_PORT_CTRL_RX_PAUSE_EN = true ∧ bitAt (s.port n).anPause 1 = true) ∧
    (∃ (s : State) (n classes : Nat), n < 144) ∧
    (∃ (s : State) (n : Nat), s.up n = true ∧ s.pauseGen n ≠ 0 ∧ (s.port n).sending = none ∧ Nat.land (s.pauseWanted n) (0xFF - (s.port n).sentPause) ≠ 0) :=
  ⟨⟨cutting, 3, fr, true, by decide +kernel⟩,
   ⟨(upPort 3).wf (R.PX_PORT_CTRL 3) F.PX_PORT_CTRL_RX_PAUSE_EN 1, 3, pauseIn, by decide +kernel⟩,
   ⟨(upPort 3).wf (R.PX_PORT_STATUS 3) F.PX_PORT_STATUS_TX_PAUSED 0xFF, 3, 0x81, by decide +kernel⟩,
   ⟨wantsPause, 3, by decide +kernel⟩⟩

/-- States and operands that meet the hypotheses of clauses 8, 9, 10, 11 of PortFramesComplete. -/
theorem met_PortFramesComplete_c :
    (∃ (s : State) (n : Nat), s.up n = true ∧ s.pauseGen n ≠ 0 ∧ (s.port n).sending = none ∧ Nat.land (s.pauseWanted n) (s.port n).sentPause ≠ 0) ∧
    (∃ (s : State) (n : Nat) (sfd : W64) (e : EgTok), s.up n = true ∧ s.powerStep = 0 ∧ (s.port n).sending = none ∧ s.nextEgress n = some e ∧ findPtp (s.egressBytes e) (s.flag (R.PX_PORT_PTP n) F.PX_PORT_PTP_L2) (s.flag (R.PX_PORT_PTP n) F.PX_PORT_PTP_UDP4) (s.flag (R.PX_PORT_PTP n) F.PX_PORT_PTP_UDP6) = none) ∧
    (∃ (s : State) (n : Nat) (e : EgTok), (s.port n).sending = some e ∧ e.cut = none) ∧
    (∃ (s : State) (n : Nat), n < 144) :=
  ⟨⟨wantsPause.setPort 3 { fifoPause := true, sentPause := 0xF0 }, 3, by decide +kernel⟩,
   ⟨wantsPause, 3, 77, eg, by decide +kernel⟩,
   ⟨wantsPause.setPort 3 { sending := some eg }, 3, eg, by decide +kernel⟩,
   ⟨wantsPause.setPort 3 { tsq := [{ seqId := 1, time := 5 }, { seqId := 2, time := 6 }] }, 3, by decide +kernel⟩⟩

/-- States and operands that meet the hypotheses of clauses 11 of PortFramesComplete. -/
theorem met_PortFramesComplete_d :
    (∃ (s : State) (n : Nat), n < 144) :=
  ⟨wantsPause.setPort 3 { tsq := [{ seqId := 1, time := 5 }] }, 143, by decide +kernel⟩

/-- States and operands that meet the hypotheses of clauses 1, 2, 3 of PortLinksComplete. -/
theorem met_PortLinksComplete_a :
    (∃ (s u : State) (mid : Nat) (gen : BitVec 8) (n : Nat) (v : W32), n < 144 ∧ s.takePair (R.PX_PORT_MODE n) mid gen v = some u ∧ s.modeOk n v = true ∧ s.up n = false) ∧
    (∃ (s u : State) (mid : Nat) (gen : BitVec 8) (n : Nat) (v : W32), n < 144 ∧ s.takePair (R.PX_PORT_MODE n) mid gen v = some u ∧ s.modeOk n v = false) ∧
    (∃ (s u : State) (mid : Nat) (gen : BitVec 8) (g : Nat) (v : W32), g < 12 ∧ s.takePair (R.PX_GRP_QUAD g) mid gen v = some u) ∧
    (∃ (s u : State) (mid : Nat) (gen : BitVec 8) (g : Nat) (v : W32), g < 12 ∧ s.takePair (R.PX_GRP_QUAD g) mid gen v = some u) :=
  ⟨⟨offer live (R.PX_PORT_MODE 143) 5, taken (offer live (R.PX_PORT_MODE 143) 5) (R.PX_PORT_MODE 143) 5, 0x800, 1, 143, 5, by decide +kernel⟩,
   ⟨offer live (R.PX_PORT_MODE 143) 6, taken (offer live (R.PX_PORT_MODE 143) 6) (R.PX_PORT_MODE 143) 6, 0x800, 1, 143, 6, by decide +kernel⟩,
   ⟨offer live (R.PX_GRP_QUAD 11) 4, taken (offer live (R.PX_GRP_QUAD 11) 4) (R.PX_GRP_QUAD 11) 4, 0x800, 1, 11, 4, by decide +kernel⟩,
   ⟨offer (upPort 140) (R.PX_GRP_QUAD 11) 4, taken (offer (upPort 140) (R.PX_GRP_QUAD 11) 4) (R.PX_GRP_QUAD 11) 4, 0x800, 1, 11, 4, by decide +kernel⟩⟩

/-- States and operands that meet the hypotheses of clauses 4, 5, 6, 7 of PortLinksComplete. -/
theorem met_PortLinksComplete_b :
    (∃ (s : State) (mid : Nat) (gen : BitVec 8) (n : Nat) (v : W32), n < 144 ∧ s.Reached mid gen (R.PX_PORT_CTRL n) (v ||| 0x8000) ∧ s.up n = false) ∧
    (∃ (s : State) (n lpPause speed : Nat), s.portExists n = true ∧ s.link n = 1 ∧ s.released n = true ∧ s.powerStep ≤ 1) ∧
    (∃ (s : State) (n reason : Nat), s.up n = true) ∧
    (∃ (s : State) (n : Nat), n < 144 ∧ (s.port n).hold = true) :=
  ⟨⟨live.wr (R.PX_PORT_MODE 3) 1, 0x800, 1, 3, 0x4000, by delta Sys2Proof.Machine.State.Reached; decide +kernel⟩,
   ⟨(upPort 143).setLink 143 1, 143, 0, 0, by decide +kernel⟩,
   ⟨upPort 143, 143, 1, by decide +kernel⟩,
   ⟨(upPort 143).setPort 143 { hold := true }, 143, by decide +kernel⟩⟩

/-- States and operands that meet the hypotheses of clauses 8, 9 of PortLinksComplete. -/
theorem met_PortLinksComplete_c :
    (∃ (s : State) (n lane reason : Nat), s.portExists n = true) ∧
    (∃ (s : State) (n lane reason : Nat), s.portExists n = true) ∧
    (∃ (s : State) (n : Nat), s.link n = 3) :=
  ⟨⟨upPort 143, 143, 3, 1, by decide +kernel⟩,
   ⟨(upPort 143).setLink 143 1, 143, 3, 1, by decide +kernel⟩,
   ⟨(upPort 143).setLink 143 3, 143, by decide +kernel⟩⟩

end P02

namespace P03
def prsV : W32 := 32 * 2 ^ 21 + 10 * 2 ^ 16
def prsLive : State := live.wr (R.PRS_PROF_CTRL 7) prsV
def prsHit : State := (prsLive.emTab 7).put prsLive 0 ((prsLive.emTab 7).slotOf 0 (prsLive.tbufBytes 8)) (toLe 16 (2 ^ 127))
def flight : Flight := { tok := { id := 5, length := 20 }, frame := List.replicate 20 3, taps := [{ sig := 9, sample := 4 }] }
def pipe0 (p : PipeSt) : State := live.setPipe 3 p
def parsing : State := (((live.setPort 143 { rxq := [{ bytes := List.replicate 60 1, its := 5 }, { bytes := [1] }] }).setPipe 3 { grants := [(5, 1), (6, 2)] }))

/-- States and operands that meet the hypotheses of clauses 1, 2, 3 of PrsCommandsComplete. -/
theorem met_PrsCommandsComplete_a :
    (∃ (s : State) (mid : Nat) (gen : BitVec 8) (k i : Nat), PrsTakes s mid gen k 1 ∧ 8 ≤ k ∧ k ≤ 12 ∧ s.tidx.2 = i ∧ i < (prsTab k).2.2) ∧
    (∃ (s : State) (mid : Nat) (gen : BitVec 8) (k i : Nat), PrsTakes s mid gen k 1 ∧ 8 ≤ k ∧ k ≤ 12 ∧ s.tidx.2 = i ∧ i < (prsTab k).2.2) ∧
    (∃ (s : State) (mid : Nat) (gen : BitVec 8) (k w i : Nat), PrsTakes s mid gen k 1 ∧ k < 8 ∧ s.prsClearing k = false ∧ s.tidx = (w, i) ∧ i < s.waySlots k) ∧
    (∃ (s : State) (mid : Nat) (gen : BitVec 8) (k i : Nat), PrsTakes s mid gen k 2 ∧ 8 ≤ k ∧ k ≤ 12 ∧ s.tidx.2 = i ∧ i < (prsTab k).2.2 ∧ s.prsWriteOk k = true) :=
  ⟨⟨live.wr R.PRS_TIDX 7, 0x800, 1, 12, 7, by delta PrsTakes Sys2Proof.Machine.State.Reached; decide +kernel⟩,
   ⟨live.wr R.PRS_TIDX 255, 0x800, 1, 8, 255, by delta PrsTakes Sys2Proof.Machine.State.Reached; decide +kernel⟩,
   ⟨prsLive.wr R.PRS_TIDX 0x3003FF, 0x800, 1, 7, 3, 0x3FF, by delta PrsTakes Sys2Proof.Machine.State.Reached; decide +kernel⟩,
   ⟨(live.wr R.PRS_TIDX 255).wr (R.PRS_TBUF 0) 0x12345678, 0x800, 1, 8, 255, by delta PrsTakes Sys2Proof.Machine.State.Reached; decide +kernel⟩⟩

/-- States and operands that meet the hypotheses of clauses 3, 4, 5 of PrsCommandsComplete. -/
theorem met_PrsCommandsComplete_b :
    (∃ (s : State) (mid : Nat) (gen : BitVec 8) (k i : Nat), PrsTakes s mid gen k 2 ∧ 8 ≤ k ∧ k ≤ 12 ∧ s.tidx.2 = i ∧ i < (prsTab k).2.2 ∧ s.prsWriteOk k = true) ∧
    (∃ (s : State) (mid : Nat) (gen : BitVec 8) (k : Nat), PrsTakes s mid gen k 3 ∧ k < 8 ∧ s.prsClearing k = false) ∧
    (∃ (s : State) (mid : Nat) (gen : BitVec 8) (k : Nat), PrsTakes s mid gen k 3 ∧ k < 8 ∧ s.prsClearing k = false) ∧
    (∃ (s : State) (mid : Nat) (gen : BitVec 8) (k : Nat), PrsTakes s mid gen k 4 ∧ k < 8 ∧ s.prsClearing k = false) :=
  ⟨⟨live.wr R.PRS_TIDX 4095, 0x800, 1, 11, 4095, by delta PrsTakes Sys2Proof.Machine.State.Reached; decide +kernel⟩,
   ⟨prsLive, 0x800, 1, 7, by delta PrsTakes Sys2Proof.Machine.State.Reached; decide +kernel⟩,
   ⟨live, 0x800, 1, 0, by delta PrsTakes Sys2Proof.Machine.State.Reached; decide +kernel⟩,
   ⟨prsHit, 0x800, 1, 7, by delta PrsTakes Sys2Proof.Machine.State.Reached; decide +kernel⟩⟩

/-- States and operands that meet the hypotheses of clauses 5, 6, 7 of PrsCommandsComplete. -/
theorem met_PrsCommandsComplete_c :
    (∃ (s : State) (mid : Nat) (gen : BitVec 8) (k : Nat), PrsTakes s mid gen k 4 ∧ k < 8 ∧ s.prsClearing k = false) ∧
    (∃ (s : State) (mid : Nat) (gen : BitVec 8) (k : Nat), PrsTakes s mid gen k 5 ∧ k < 8 ∧ s.prsClearing k = false) ∧
    (∃ (s : State) (mid : Nat) (gen : BitVec 8) (k : Nat), PrsTakes s mid gen k 5 ∧ k < 8 ∧ s.prsClearing k = false) ∧
    (∃ (s : State) (mid : Nat) (gen : BitVec 8) (k : Nat), PrsTakes s mid gen k 6 ∧ k < 8 ∧ s.prsClearing k = false) :=
  ⟨⟨prsLive, 0x800, 1, 7, by delta PrsTakes Sys2Proof.Machine.State.Reached; decide +kernel⟩,
   ⟨prsHit, 0x800, 1, 7, by delta PrsTakes Sys2Proof.Machine.State.Reached; decide +kernel⟩,
   ⟨prsLive, 0x800, 1, 7, by delta PrsTakes Sys2Proof.Machine.State.Reached; decide +kernel⟩,
   ⟨prsHit, 0x800, 1, 7, by delta PrsTakes Sys2Proof.Machine.State.Reached; decide +kernel⟩⟩

/-- States and operands that meet the hypotheses of clauses 7, 8, 9 of PrsCommandsComplete. -/
theorem met_PrsCommandsComplete_d :
    (∃ (s : State) (mid : Nat) (gen : BitVec 8) (k : Nat), PrsTakes s mid gen k 6 ∧ k < 8 ∧ s.prsClearing k = false) ∧
    (∃ (s : State) (mid : Nat) (gen : BitVec 8) (k op : Nat), PrsTakes s mid gen k op ∧ (op = 0 ∨ 7 ≤ op) ∧ op < 16) ∧
    (∃ (s : State) (mid : Nat) (gen : BitVec 8) (k op : Nat), PrsTakes s mid gen k op ∧ (op = 0 ∨ 7 ≤ op) ∧ op < 16) ∧
    (∃ s : State, s.prsBusy = true) :=
  ⟨⟨prsLive, 0x800, 1, 0, by delta PrsTakes Sys2Proof.Machine.State.Reached; decide +kernel⟩,
   ⟨live, 0x800, 1, 31, 15, by delta PrsTakes Sys2Proof.Machine.State.Reached; decide +kernel⟩,
   ⟨live, 0x800, 1, 0, 7, by delta PrsTakes Sys2Proof.Machine.State.Reached; decide +kernel⟩,
   ⟨(live.wf R.PRS_TCMD F.PRS_TCMD_BUSY 1).setRes R.PRS_TSTAT 5, by decide +kernel⟩⟩

/-- States and operands that meet the hypotheses of clauses 1, 2, 3, 4 of PrsWorkCompletes. -/
theorem met_PrsWorkCompletes_a :
    (∃ (s : State) (pl n id : Nat) (adm : BitVec 12) (g : List (Nat × BitVec 12)) (i : RxItem) (rest : List RxItem), pl < 4 ∧ s.throttles pl = false ∧ (s.pipe pl).grants = (id, adm) :: g ∧ s.prsNext pl = some n ∧ (s.port n).rxq = i :: rest ∧ i.cut = false ∧ ((s.view (s.pipe pl).prsEpoch).decideFrame pl (i.bytes.take 256) (metaBlock (inportOf n) (((s.view (s.pipe pl).prsEpoch).walk pl i.bytes i.bytes.length (prsPort (s.view (s.pipe pl).prsEpoch) n).1 none).ended.getD 0) ((s.view (s.pipe pl).prsEpoch).walk pl i.bytes i.bytes.length (prsPort (s.view (s.pipe pl).prsEpoch) n).1 none).pflags ((s.view (s.pipe pl).prsEpoch).walk pl i.bytes i.bytes.length (prsPort (s.view (s.pipe pl).prsEpoch) n).1 none).pushed i.bytes.length) ((s.view (s.pipe pl).prsEpoch).walk pl i.bytes i.bytes.length (prsPort (s.view (s.pipe pl).prsEpoch) n).1 none) (prsPort (s.view (s.pipe pl).prsEpoch) n).2.1 false).2.drop = false) ∧
    (∃ (s u : State) (pl a : Nat) (f : Flight) (rest : List Flight), pl < 4 ∧ (s.pipe pl).toTap = f :: rest ∧ s.offerTaps pl f.tok.its f.taps = (u, a)) ∧
    (∃ (s : State) (pl : Nat) (f : Flight) (rest : List Flight), pl < 4 ∧ (s.pipe pl).cells = f :: rest) ∧
    (∃ (s : State) (pl : Nat) (f : Flight) (rest : List Flight), pl < 4 ∧ (s.pipe pl).toBpm = f :: rest ∧ f.tok.ctype ≠ 0) :=
  ⟨⟨parsing, 3, 143, 5, 1, [(6, 2)], { bytes := List.replicate 60 1, its := 5 }, [{ bytes := [1] }], by decide +kernel⟩,
   ⟨pipe0 { toTap := [flight] }, ((pipe0 { toTap := [flight] }).offerTaps 3 flight.tok.its flight.taps).1, 3, ((pipe0 { toTap := [flight] }).offerTaps 3 flight.tok.its flight.taps).2, flight, [], by decide +kernel⟩,
   ⟨pipe0 { cells := [{ tok := { ctype := 1, epoch := 5 } }] }, 3, { tok := { ctype := 1, epoch := 5 } }, [], by decide +kernel⟩,
   ⟨pipe0 { toBpm := [{ tok := { ctype := 1, epoch := 5 } }] }, 3, { tok := { ctype := 1, epoch := 5 } }, [], by decide +kernel⟩⟩

/-- States and operands that meet the hypotheses of clauses 5, 6, 7 of PrsWorkCompletes. -/
theorem met_PrsWorkCompletes_b :
    (∃ (s : State) (pl : Nat) (f : Flight) (rest : List Flight), pl < 4 ∧ (s.pipe pl).toFte = f :: rest ∧ f.tok.ctype ≠ 0 ∧ f.tok.ctype ≠ 5) ∧
    (∃ (s u : State) (mid : Nat) (gen : BitVec 8) (p : Nat) (v : W32), p < 8 ∧ s.takePair (R.PRS_PROF_CTRL p) mid gen v = some u) ∧
    (∃ (s u : State) (mid : Nat) (gen : BitVec 8) (p : Nat) (v : W32), p < 8 ∧ s.takePair (R.PRS_PROF_CTRL p) mid gen v = some u) ∧
    (∃ (s : State) (p : Nat), p < 8 ∧ s.prsClearing p = true) :=
  ⟨⟨pipe0 { toFte := [{ tok := { ctype := 7, epoch := 5 } }] }, 3, { tok := { ctype := 7, epoch := 5 } }, [], by decide +kernel⟩,
   ⟨offer live (R.PRS_PROF_CTRL 7) prsV, taken (offer live (R.PRS_PROF_CTRL 7) prsV) (R.PRS_PROF_CTRL 7) prsV, 0x800, 1, 7, prsV, by decide +kernel⟩,
   ⟨offer live (R.PRS_PROF_CTRL 7) 5, taken (offer live (R.PRS_PROF_CTRL 7) 5) (R.PRS_PROF_CTRL 7) 5, 0x800, 1, 7, 5, by decide +kernel⟩,
   ⟨(prsHit.wf R.PRS_STATUS F.PRS_STATUS_CLEARING 128), 7, by decide +kernel⟩⟩

end P03

namespace P04
def m0 : Meta := { alloc := true, holders := 1, owner := 3, gen := 1 }
def two : Meta := { m0 with holders := 2, owner := 4 }
def fl : Flight := { tok := { id := 5, length := 20, cls := 7 }, frame := List.replicate 20 3 }
def ing : State := poolLive.setPipe 3 { toBpm := [fl] }
def dramPool : State := poolLive.wr (R.BPM_POOL_SIZE 7) 0xC0000004
def refill : State := (poolLive.setPool 7 { cache := [], fill := 3, head := 2 })
def spill : State := (poolLive.setPool 7 { cache := (List.range 449).map (mkHandle 7) })
def offPool : State := poolLive.wr (R.BPM_POOL_SIZE 7) 0x4
def dramOff : State := offPool.wr R.DMC_GSTATUS 0x4
def argd (s : State) (a b c : W32) : State := ((s.wr (R.BPM_CARG 0) a).wr (R.BPM_CARG 1) b).wr (R.BPM_CARG 2) c

/-- States and operands that meet the hypotheses of clauses 1, 2, 3 of BufferOperationsComplete. -/
theorem met_BufferOperationsComplete_a :
    (∃ (s u : State) (mid : Nat) (gen : BitVec 8) (n p : Nat) (up : Bool) (h : W32) (c : List W32), midDefined mid = true ∧ gen = s.genOf mid ∧ s.pickFrom none (s.poolsFor n) false = .gives p up ∧ s.quotaTake mid p = some u ∧ (s.pool p).cache = h :: c) ∧
    (∃ (s u : State) (mid : Nat) (gen : BitVec 8) (n p : Nat) (up : Bool) (h : W32) (c : List W32), midDefined mid = true ∧ gen = s.genOf mid ∧ s.pickFrom none (s.poolsFor n) false = .gives p up ∧ s.quotaTake mid p = some u ∧ (s.pool p).cache = h :: c) ∧
    (∃ (s u : State) (mid : Nat) (gen : BitVec 8) (p : Nat) (h : W32) (c : List W32), midDefined mid = true ∧ gen = s.genOf mid ∧ s.poolOn p = true ∧ s.poolRefuses p none = 0 ∧ s.quotaTake mid p = some u ∧ (s.pool p).cache = h :: c) ∧
    (∃ (s : State) (mid : Nat) (gen : BitVec 8) (h : W32) (k : Nat) (m : Meta), BpmServes s mid gen h ∧ s.metaOf (hPool h) (hIdx h) = m ∧ m.alloc = true ∧ m.pend = false ∧ m.owner = mid ∧ m.gen = gen.toNat ∧ m.holders + k ≤ 255) :=
  ⟨⟨poolLive, poolLive, 0x900, 1, 256, 7, false, mkHandle 7 3, [mkHandle 7 4], by decide +kernel⟩,
   ⟨poolLive.setQuota 3 7 { quota := 1, held := 0 }, (poolLive.setQuota 3 7 { quota := 1, held := 1 }), 3, 1, 0, 7, false, mkHandle 7 3, [mkHandle 7 4], by decide +kernel⟩,
   ⟨poolLive, poolLive, 0x98F, 1, 7, mkHandle 7 3, [mkHandle 7 4], by decide +kernel⟩,
   ⟨bufLive m0, 3, 1, mkHandle 7 2, 254, m0, by delta BpmServes; decide +kernel⟩⟩

/-- States and operands that meet the hypotheses of clauses 4, 5, 6, 7 of BufferOperationsComplete. -/
theorem met_BufferOperationsComplete_b :
    (∃ (s : State) (mid : Nat) (gen : BitVec 8) (h : W32) (m : Meta), BpmServes s mid gen h ∧ s.metaOf (hPool h) (hIdx h) = m ∧ m.alloc = true ∧ m.owner ≠ mid ∧ 2 ≤ m.holders ∧ ((m.holders = 2 → m.pend = false))) ∧
    (∃ (s u : State) (mid : Nat) (gen : BitVec 8) (h : W32) (dst : Nat) (m : Meta), BpmServes s mid gen h ∧ dst < 4096 ∧ s.metaOf (hPool h) (hIdx h) = m ∧ m.alloc = true ∧ m.pend = false ∧ m.owner = mid ∧ m.gen = gen.toNat ∧ m.holders = 1 ∧ s.quotaTake dst (hPool h) = some u) ∧
    (∃ (s : State) (mid : Nat) (gen : BitVec 8) (h : W32) (m : Meta), BpmServes s mid gen h ∧ s.metaOf (hPool h) (hIdx h) = m ∧ m.alloc = true ∧ m.pend = false ∧ m.owner = mid ∧ m.gen = gen.toNat ∧ m.holders = 1 ∧ s.bufRetired (hPool h) (hIdx h) = none) ∧
    (∃ (s : State) (mid : Nat) (gen : BitVec 8) (h : W32) (m : Meta), BpmServes s mid gen h ∧ s.metaOf (hPool h) (hIdx h) = m ∧ m.alloc = true ∧ m.pend = false ∧ m.owner = mid ∧ m.gen = gen.toNat ∧ m.holders ≠ 1) :=
  ⟨⟨bufLive two, 3, 1, mkHandle 7 2, two, by delta BpmServes; decide +kernel⟩,
   ⟨bufLive m0, bufLive m0, 3, 1, mkHandle 7 2, 0x900, m0, by delta BpmServes; decide +kernel⟩,
   ⟨bufLive m0, 3, 1, mkHandle 7 2, m0, by delta BpmServes; decide +kernel⟩,
   ⟨bufLive { m0 with holders := 2 }, 3, 1, mkHandle 7 2, { m0 with holders := 2 }, by delta BpmServes; decide +kernel⟩⟩

/-- States and operands that meet the hypotheses of clauses 8, 9, 10 of BufferOperationsComplete. -/
theorem met_BufferOperationsComplete_c :
    (∃ (s : State) (mid : Nat) (gen : BitVec 8) (a p i : Nat) (m : Meta), s.poolAtAddr false a = some p ∧ a = s.poolBase p + i * s.poolBytes p ∧ i ≠ 0 ∧ 0 < s.poolBytes p ∧ BpmServes s mid gen (mkHandle p i) ∧ hPool (mkHandle p i) = p ∧ hIdx (mkHandle p i) = i ∧ s.metaOf p i = m ∧ m.alloc = true ∧ m.pend = false ∧ m.owner = mid ∧ m.gen = gen.toNat ∧ m.holders = 1 ∧ s.bufRetired p i = none) ∧
    (∃ (s : State) (mid : Nat) (gen : BitVec 8) (h : W32) (m : Meta), BpmServes s mid gen h ∧ s.metaOf (hPool h) (hIdx h) = m ∧ m.alloc = true ∧ m.owner ≠ mid ∧ 2 ≤ m.holders ∧ ((m.holders = 2 → m.pend = false))) ∧
    (∃ (s : State) (mid : Nat) (gen : BitVec 8) (op arg : Nat), ((op = 0 ∨ 10 ≤ op)) ∧ midDefined mid = true ∧ gen = s.genOf mid) ∧
    (∃ (s : State) (mid : Nat) (gen : BitVec 8) (op arg : Nat), ((op = 0 ∨ 10 ≤ op)) ∧ midDefined mid = true ∧ gen = s.genOf mid) :=
  ⟨⟨(bufLive m0).wr (R.BPM_POOL_SIZE 7) 0xC0000004 |>.setMeta 7 2 m0, 3, 1, 0x10200, 7, 2, m0, by delta BpmServes; decide +kernel⟩,
   ⟨bufLive two, 3, 1, mkHandle 7 2, two, by delta BpmServes; decide +kernel⟩,
   ⟨poolLive, 3, 1, 0, 5, by decide +kernel⟩,
   ⟨poolLive, 3, 1, 10, 5, by decide +kernel⟩⟩

/-- States and operands that meet the hypotheses of clauses 1, 2, 3, 4 of PoolsComplete. -/
theorem met_PoolsComplete_a :
    (∃ (s : State) (pl p : Nat) (up : Bool) (f : Flight) (rest : List Flight) (h : W32) (c : List W32), pl < 4 ∧ (s.pipe pl).toBpm = f :: rest ∧ f.tok.ctype = 0 ∧ s.pickFrom (some f.tok.cls.toNat) (s.poolsFor (s.ingressLen f)) false = .gives p up ∧ (s.pool p).cache = h :: c) ∧
    (∃ (s : State) (p : Nat), s.poolOn p = true ∧ (s.pool p).cache.length < 256 ∧ (s.pool p).fill ≠ 0) ∧
    (∃ (s : State) (p : Nat), s.poolOn p = true ∧ 448 < (s.pool p).cache.length) ∧
    (∃ (s : State) (p addr : Nat) (md : Bool), p < 8 ∧ s.poolOn p = true ∧ s.poolSpace p = .dram ∧ (s.pool p).held = []) :=
  ⟨⟨ing, 3, 7, false, fl, [], mkHandle 7 3, [mkHandle 7 4], by decide +kernel⟩,
   ⟨refill, 7, by decide +kernel⟩,
   ⟨spill, 7, by decide +kernel⟩,
   ⟨dramPool, 7, 0x1000, true, by decide +kernel⟩⟩

/-- States and operands that meet the hypotheses of clauses 5, 6, 7 of PoolsComplete. -/
theorem met_PoolsComplete_b :
    (∃ (s u : State) (mid : Nat) (gen : BitVec 8) (p k : Nat) (v : W32), p < 8 ∧ k < 4 ∧ s.takePair (poolReg p k) mid gen v = some u) ∧
    (∃ (s u : State) (mid : Nat) (gen : BitVec 8) (p k : Nat) (v : W32), p < 8 ∧ k < 4 ∧ s.takePair (poolReg p k) mid gen v = some u) ∧
    (∃ (s u : State) (mid : Nat) (gen : BitVec 8) (p : Nat) (v : W32), p < 8 ∧ s.takePair (R.BPM_POOL_SIZE p) mid gen (v ||| 0x80000000) = some u ∧ s.poolOn p = false ∧ v ||| 0x80000000 ≠ s.rd (R.BPM_POOL_SIZE p) ∧ (s.wr (R.BPM_POOL_SIZE p) (v ||| 0x80000000)).enableOk p = true) ∧
    (∃ (s u : State) (mid : Nat) (gen : BitVec 8) (p : Nat) (v : W32), p < 8 ∧ s.takePair (R.BPM_POOL_SIZE p) mid gen (v &&& 0x7FFFFFFF) = some u ∧ s.poolOn p = true ∧ s.poolBusy p = false ∧ v &&& 0x7FFFFFFF = s.rd (R.BPM_POOL_SIZE p) &&& 0x7FFFFFFF ∧ v &&& 0x7FFFFFFF ≠ s.rd (R.BPM_POOL_SIZE p)) :=
  ⟨⟨offer poolLive (R.BPM_POOL_BASE 7) 9, taken (offer poolLive (R.BPM_POOL_BASE 7) 9) (R.BPM_POOL_BASE 7) 9, 0x800, 1, 7, 0, 9, by decide +kernel⟩,
   ⟨offer offPool (R.BPM_POOL_META 7) 9, taken (offer offPool (R.BPM_POOL_META 7) 9) (R.BPM_POOL_META 7) 9, 0x800, 1, 7, 3, 9, by decide +kernel⟩,
   ⟨offer dramOff (R.BPM_POOL_SIZE 7) 0x80000004, taken (offer dramOff (R.BPM_POOL_SIZE 7) 0x80000004) (R.BPM_POOL_SIZE 7) 0x80000004, 0x800, 1, 7, 4, by decide +kernel⟩,
   ⟨offer poolLive (R.BPM_POOL_SIZE 7) 4, taken (offer poolLive (R.BPM_POOL_SIZE 7) 4) (R.BPM_POOL_SIZE 7) 4, 0x800, 1, 7, 4, by decide +kernel⟩⟩

/-- States and operands that meet the hypotheses of clauses 8, 9, 10, 11 of PoolsComplete. -/
theorem met_PoolsComplete_c :
    (∃ (s : State) (p : Nat), p < 8 ∧ s.poolStat F.BPM_STATUS_INIT p = true) ∧
    (∃ (s : State) (mid : Nat), s.flag R.BPM_CMD F.BPM_CMD_BUSY = false ∧ s.handleOk (s.rd (R.BPM_CARG 0)) = true) ∧
    (∃ (s : State) (mid : Nat) (is : List Nat), s.flag R.BPM_CMD F.BPM_CMD_BUSY = false ∧ s.bpmMay mid = true ∧ s.poolOn (s.carg 0) = true ∧ s.ownedBy (s.carg 0) (bitsOf (s.carg 1) 0 12) (some (bitsOf (s.carg 1) 12 8)) = is) ∧
    (∃ (s : State) (mid : Nat), s.flag R.BPM_CMD F.BPM_CMD_BUSY = false ∧ s.poolOn (s.carg 0) = true) :=
  ⟨⟨poolLive.setPoolStat F.BPM_STATUS_INIT 7 true, 7, by decide +kernel⟩,
   ⟨(bufLive m0).wr (R.BPM_CARG 0) (mkHandle 7 2), 0x800, by decide +kernel⟩,
   ⟨argd (bufLive m0) 7 0x1003 0x2004, 0x800, [2], by decide +kernel⟩,
   ⟨argd (bufLive m0) 7 3 0, 0x800, by decide +kernel⟩⟩

/-- States and operands that meet the hypotheses of clauses 12, 13 of PoolsComplete. -/
theorem met_PoolsComplete_d :
    (∃ (s : State) (mid : Nat) (h : W32), s.flag R.BPM_CMD F.BPM_CMD_BUSY = false ∧ s.bpmMay mid = true ∧ s.rd (R.BPM_CARG 0) = h ∧ s.handleOk h = true ∧ (s.metaOf (hPool h) (hIdx h)).alloc = true ∧ s.bufRetired (hPool h) (hIdx h) = none) ∧
    (∃ s : State, s.flag R.BPM_CMD F.BPM_CMD_BUSY = true) :=
  ⟨⟨(bufLive m0).wr (R.BPM_CARG 0) (mkHandle 7 2), 0x800, mkHandle 7 2, by decide +kernel⟩,
   ⟨(live.wf R.BPM_CMD F.BPM_CMD_BUSY 1).setRes R.BPM_CMD 3, by decide +kernel⟩⟩

end P04

namespace P05
def key5 : Nat := l2Key 0x020000000005 7
def st5 : State := stage (stage fteLive 0 0x00000005 0x00070200) 2 0x80000000 0x80008000
def ins (s : State) : State := match s.l2Insert key5 (e1Make 3 9 0) with | some (t, _, _) => t | none => s
def hit5 : State := ins st5
def plc (s : State) : State × (Nat × Nat) × Nat := ((s.fteTab 1).place s (fun _ => false) (s.fteStaged 16)).getD (s, (0, 0), 0)
def rt4 : State := stage fteLive 0 0x0A000000 8
def rt24 : State := stage fteLive 0 0x0A0B0C00 24
def fcell : Flight := { tok := { ctype := 5, inport := 143 } }
def fpk : Flight := { tok := { id := 5, inport := 3, length := 60 }, frame := List.replicate 60 2, layers := [(1, 0)] }
def fteW : State := fteLive.setPipe 3 { toFte := [fpk] }
def fixed : State := fteW.wr (R.FTE_PORT_CFG 3) 0x10000007
def lm : LearnMsg := { port := 3, mac := 0x020000000005, vid := 7, now := 0 }
def learn0 : State := fteLive.setLearnQ 3 [lm, lm]
def flq : State := hit5.setLearnQ 2 [{ flush := true, port := 3 }]
def aging : State := { (hit5.wr R.FTE_AGE_CFG 0x80010000) with fte := { hit5.fte with aging := [key5], turn := 5 }, time := { hit5.time with secs := 20 } }
def lv : W32 := 32 * 2 ^ 21 + 10 * 2 ^ 16

/-- States and operands that meet the hypotheses of clauses 1, 2 of FteCommandsComplete. -/
theorem met_FteCommandsComplete_a :
    (∃ (s : State) (mid : Nat) (gen : BitVec 8) (k : Nat), FteTakes s mid gen k 1 ∧ k ≤ 9 ∧ s.fteIn k = true) ∧
    (∃ (s : State) (mid : Nat) (gen : BitVec 8) (k : Nat), FteTakes s mid gen k 1 ∧ k ≤ 9 ∧ s.fteIn k = true) ∧
    (∃ (s : State) (mid : Nat) (gen : BitVec 8) (k : Nat), FteTakes s mid gen k 2 ∧ 5 ≤ k ∧ k ≤ 9 ∧ s.fteIn k = true) ∧
    (∃ (s : State) (mid : Nat) (gen : BitVec 8) (k : Nat), FteTakes s mid gen k 2 ∧ 5 ≤ k ∧ k ≤ 9 ∧ s.fteIn k = true) :=
  ⟨⟨fteLive, 0x800, 1, 9, by delta FteTakes Sys2Proof.Machine.State.Reached; decide +kernel⟩,
   ⟨fteLive.wr R.FTE_TIDX 0x3003FF, 0x800, 1, 0, by delta FteTakes Sys2Proof.Machine.State.Reached; decide +kernel⟩,
   ⟨st5.wr R.FTE_TIDX 1, 0x800, 1, 5, by delta FteTakes Sys2Proof.Machine.State.Reached; decide +kernel⟩,
   ⟨st5.wr R.FTE_TIDX 15, 0x800, 1, 9, by delta FteTakes Sys2Proof.Machine.State.Reached; decide +kernel⟩⟩

/-- States and operands that meet the hypotheses of clauses 3, 4, 5 of FteCommandsComplete. -/
theorem met_FteCommandsComplete_b :
    (∃ (s : State) (mid : Nat) (gen : BitVec 8), FteTakes s mid gen 0 2 ∧ s.fteIn 0 = true) ∧
    (∃ (s : State) (mid : Nat) (gen : BitVec 8), FteTakes s mid gen 0 3) ∧
    (∃ (s : State) (mid : Nat) (gen : BitVec 8), FteTakes s mid gen 0 3) ∧
    (∃ (s u v : State) (mid : Nat) (gen : BitVec 8) (k m : Nat) (q : Nat × Nat), FteTakes s mid gen k 3 ∧ (k = 1 ∨ k = 2) ∧ routeOk k (stagedRoute k (s.fteStaged (fteEntB k))) = true ∧ (s.fteTab k).find s ((s.fteStaged (fteEntB k)).take (fteKeyB k)) = none ∧ s.routeLimit k (stagedRoute k (s.fteStaged (fteEntB k))) = 0 ∧ (s.fteTab k).place s (fun _ => false) (s.fteStaged (fteEntB k)) = some (u, q, m) ∧ u.filterRaise k (stagedRoute k (s.fteStaged (fteEntB k))) = some v) :=
  ⟨⟨st5, 0x800, 1, by delta FteTakes Sys2Proof.Machine.State.Reached; decide +kernel⟩,
   ⟨st5, 0x800, 1, by delta FteTakes Sys2Proof.Machine.State.Reached; decide +kernel⟩,
   ⟨live, 0x800, 1, by delta FteTakes Sys2Proof.Machine.State.Reached; decide +kernel⟩,
   ⟨rt4, (plc rt4).1, ((plc rt4).1.filterRaise 1 (stagedRoute 1 (rt4.fteStaged 16))).getD rt4, 0x800, 1, 1, (plc rt4).2.2, (plc rt4).2.1, by delta FteTakes Sys2Proof.Machine.State.Reached; decide +kernel⟩⟩

/-- States and operands that meet the hypotheses of clauses 5, 6, 7 of FteCommandsComplete. -/
theorem met_FteCommandsComplete_c :
    (∃ (s u v : State) (mid : Nat) (gen : BitVec 8) (k m : Nat) (q : Nat × Nat), FteTakes s mid gen k 3 ∧ (k = 1 ∨ k = 2) ∧ routeOk k (stagedRoute k (s.fteStaged (fteEntB k))) = true ∧ (s.fteTab k).find s ((s.fteStaged (fteEntB k)).take (fteKeyB k)) = none ∧ s.routeLimit k (stagedRoute k (s.fteStaged (fteEntB k))) = 0 ∧ (s.fteTab k).place s (fun _ => false) (s.fteStaged (fteEntB k)) = some (u, q, m) ∧ u.filterRaise k (stagedRoute k (s.fteStaged (fteEntB k))) = some v) ∧
    (∃ (s : State) (mid : Nat) (gen : BitVec 8), FteTakes s mid gen 0 4) ∧
    (∃ (s : State) (mid : Nat) (gen : BitVec 8), FteTakes s mid gen 0 4) ∧
    (∃ (s : State) (mid : Nat) (gen : BitVec 8) (k : Nat), FteTakes s mid gen k 5 ∧ (k ≤ 2 ∨ k = 4)) :=
  ⟨⟨rt24, (plc rt24).1, ((plc rt24).1.filterRaise 1 (stagedRoute 1 (rt24.fteStaged 16))).getD rt4, 0x800, 1, 1, (plc rt24).2.2, (plc rt24).2.1, by delta FteTakes Sys2Proof.Machine.State.Reached; decide +kernel⟩,
   ⟨hit5, 0x800, 1, by delta FteTakes Sys2Proof.Machine.State.Reached; decide +kernel⟩,
   ⟨st5, 0x800, 1, by delta FteTakes Sys2Proof.Machine.State.Reached; decide +kernel⟩,
   ⟨hit5, 0x800, 1, 0, by delta FteTakes Sys2Proof.Machine.State.Reached; decide +kernel⟩⟩

/-- States and operands that meet the hypotheses of clauses 7, 8, 9, 10 of FteCommandsComplete. -/
theorem met_FteCommandsComplete_d :
    (∃ (s : State) (mid : Nat) (gen : BitVec 8) (k : Nat), FteTakes s mid gen k 5 ∧ (k ≤ 2 ∨ k = 4)) ∧
    (∃ (s : State) (mid : Nat) (gen : BitVec 8), FteTakes s mid gen 0 6 ∧ s.fteIn 0 = true ∧ s.settled.flag R.FTE_AGE_CFG F.FTE_AGE_CFG_AUTO = false) ∧
    (∃ (s : State) (mid : Nat) (gen : BitVec 8) (qs : List (Nat × Nat)), FteTakes s mid gen 0 7 ∧ qs = (s.l2.inUse s).filter (fun q => flushHits (s.rd (R.FTE_TBUF 0)).toNat (s.l2At q).1 (s.l2At q).2)) ∧
    (∃ (s : State) (mid : Nat) (gen : BitVec 8), FteTakes s mid gen 0 8) :=
  ⟨⟨st5, 0x800, 1, 4, by delta FteTakes Sys2Proof.Machine.State.Reached; decide +kernel⟩,
   ⟨{ hit5.wr R.FTE_AGE_CFG 0x00010000 with time := { hit5.time with secs := 20 } }, 0x800, 1, by delta FteTakes Sys2Proof.Machine.State.Reached; decide +kernel⟩,
   ⟨hit5.wr (R.FTE_TBUF 0) 0x403, 0x800, 1, [hit5.l2Find key5 |>.getD ((0,0),0) |>.1], by delta FteTakes Sys2Proof.Machine.State.Reached; decide +kernel⟩,
   ⟨hit5, 0x800, 1, by delta FteTakes Sys2Proof.Machine.State.Reached; decide +kernel⟩⟩

/-- States and operands that meet the hypotheses of clauses 10, 11, 12 of FteCommandsComplete. -/
theorem met_FteCommandsComplete_e :
    (∃ (s : State) (mid : Nat) (gen : BitVec 8), FteTakes s mid gen 0 8) ∧
    (∃ (s : State) (mid : Nat) (gen : BitVec 8) (k op : Nat), FteTakes s mid gen k op ∧ ftePair op k = false) ∧
    (∃ (s : State) (mid : Nat) (gen : BitVec 8) (k op : Nat), FteTakes s mid gen k op ∧ ftePair op k = false) ∧
    (∃ s : State, s.fteBusy = true) :=
  ⟨⟨st5, 0x800, 1, by delta FteTakes Sys2Proof.Machine.State.Reached; decide +kernel⟩,
   ⟨live, 0x800, 1, 31, 15, by delta FteTakes Sys2Proof.Machine.State.Reached; decide +kernel⟩,
   ⟨live, 0x800, 1, 10, 1, by delta FteTakes Sys2Proof.Machine.State.Reached; decide +kernel⟩,
   ⟨(live.wf R.FTE_TCMD F.FTE_TCMD_BUSY 1).setRes R.FTE_TSTAT 9, by decide +kernel⟩⟩

/-- States and operands that meet the hypotheses of clauses 1, 2, 3 of FteWorkCompletes. -/
theorem met_FteWorkCompletes_a :
    (∃ (s u : State) (pl : Nat) (f : Flight) (rest : List Flight), pl < 4 ∧ (s.pipe pl).toFte = f :: rest ∧ f.isCell = false ∧ u = s.setPipe pl { (s.pipe pl) with toFte := rest }) ∧
    (∃ (s u : State) (pl : Nat) (f : Flight) (rest : List Flight), pl < 4 ∧ (s.pipe pl).toFte = f :: rest ∧ f.isCell = false ∧ u = s.setPipe pl { (s.pipe pl) with toFte := rest }) ∧
    (∃ (s w u : State) (p m : Nat) (q : Nat × Nat) (x : LearnMsg) (rest : List LearnMsg), p < 4 ∧ s.engineNext = some p ∧ s.learnQ p = x :: rest ∧ w = ((s.setLearnQ p rest).engineServed p).noteRecent (l2Key x.mac x.vid) ∧ s.l2Clearing = false ∧ s.l2Find (l2Key x.mac x.vid) = none ∧ s.learnFull x.port = false ∧ s.l2Insert (l2Key x.mac x.vid) (e1Make x.port x.now 0) = some (u, q, m)) ∧
    (∃ (s : State) (pl : Nat), pl < 4) :=
  ⟨⟨fteW, fteW.setPipe 3 {}, 3, fpk, [], by decide +kernel⟩,
   ⟨fixed, fixed.setPipe 3 {}, 3, fpk, [], by decide +kernel⟩,
   ⟨learn0, ((learn0.setLearnQ 3 [lm]).engineServed 3).noteRecent (l2Key lm.mac lm.vid), ((learn0.l2Insert (l2Key lm.mac lm.vid) (e1Make 3 0 0)).map (·.1)).getD learn0, 3, ((learn0.l2Insert (l2Key lm.mac lm.vid) (e1Make 3 0 0)).map (·.2.2)).getD 0, ((learn0.l2Insert (l2Key lm.mac lm.vid) (e1Make 3 0 0)).map (·.2.1)).getD (0,0), lm, [lm], by decide +kernel⟩,
   ⟨{ live with fte := { recent := [(3, [(5, 1), (6, 1)])] } }, 3, by decide +kernel⟩⟩

/-- States and operands that meet the hypotheses of clauses 4, 5, 6, 7 of FteWorkCompletes. -/
theorem met_FteWorkCompletes_b :
    (∃ s : State, s.fteNow ≠ s.fte.passed ∧ s.settled.flag R.FTE_AGE_CFG F.FTE_AGE_CFG_AUTO = true ∧ s.l2Clearing = false) ∧
    (∃ (s : State) (key e : Nat) (rest : List Nat) (q : Nat × Nat), s.engineNext = some 5 ∧ s.fte.aging = key :: rest ∧ s.l2Find key = some (q, e) ∧ s.aged e = true ∧ s.l2Clearing = false) ∧
    (∃ (s : State) (pl : Nat) (f : Flight) (rest : List Flight), pl < 4 ∧ (s.pipe pl).toFte = f :: rest ∧ f.tok.ctype = 5) ∧
    (∃ (s : State) (p : Nat) (x : LearnMsg) (rest : List LearnMsg), s.flushFirst = some p ∧ s.learnQ p = x :: rest) :=
  ⟨⟨{ aging with fte := { aging.fte with aging := [] } }, by decide +kernel⟩,
   ⟨aging, key5, (aging.l2Find key5 |>.getD ((0,0),0)).2, [], (aging.l2Find key5 |>.getD ((0,0),0)).1, by decide +kernel⟩,
   ⟨(live.setPipe 3 { toFte := [fcell] }).wr (R.FTE_PORT_CFG 143) 0x40000000, 3, fcell, [], by decide +kernel⟩,
   ⟨flq, 2, { flush := true, port := 3 }, [], by decide +kernel⟩⟩

/-- States and operands that meet the hypotheses of clauses 8, 10, 11 of FteWorkCompletes. -/
theorem met_FteWorkCompletes_c :
    (∃ (s : State) (m : W64 × W64) (rest : List (W64 × W64)), s.engineNext = some 4 ∧ s.fte.mlkRx = m :: rest) ∧
    (∃ (s u : State) (mid : Nat) (gen : BitVec 8) (k : Nat) (v : W32), k < 10 ∧ s.takePair (R.FTE_LAYOUT k) mid gen v = some u) ∧
    (∃ (s u : State) (mid : Nat) (gen : BitVec 8) (k : Nat) (v : W32), k < 10 ∧ s.takePair (R.FTE_LAYOUT k) mid gen v = some u) ∧
    (∃ (s : State) (k : Nat), k < 10 ∧ bitAt (s.fd R.FTE_STATUS F.FTE_STATUS_CLEARING) k = true) :=
  ⟨⟨{ hit5 with fte := { hit5.fte with mlkRx := [((0x3 : W64) <<< 60, 5)], turn := 4 } }, ((0x3 : W64) <<< 60, 5), [], by decide +kernel⟩,
   ⟨offer live (R.FTE_LAYOUT 0) lv, taken (offer live (R.FTE_LAYOUT 0) lv) (R.FTE_LAYOUT 0) lv, 0x800, 1, 0, lv, by decide +kernel⟩,
   ⟨offer live (R.FTE_LAYOUT 9) 0xFFFF0000, taken (offer live (R.FTE_LAYOUT 9) 0xFFFF0000) (R.FTE_LAYOUT 9) 0xFFFF0000, 0x800, 1, 9, 0xFFFF0000, by decide +kernel⟩,
   ⟨hit5.setClearing 0 true, 0, by decide +kernel⟩⟩

end P05

namespace P06
def fresh : State := odsLive.setPort 143 { rxq := [{ bytes := List.replicate 60 1 }] }
def alloc (s : State) (p : Nat) (t : Token) : State × Nat := (s.allocSlot p t).getD (s, 0)
def hc : HeldCell := { kind := 0, tok := { ctype := 1, epoch := 3 }, at_ := 3 }
def heldC : State := { odsLive with ods := { held := [{ kind := 5 }, hc] } }
def ft : Flight := { tok := { id := 5, node := 1, flow := 3, length := 9 } }
def entering : State := (odsLive.wf R.GLB_MODE F.GLB_MODE_TIMED 1).setPipe 3 { toOds := [ft] }
def enteringT : State := entering.wf R.GLB_MODE F.GLB_MODE_TOTAL 1
def waiting : State := { (odsLive.setSlot 5 { used := true, tok := { id := 5, node := 1 }, place := .queue 0 }).setQueue 0 [5] with ods := { ((odsLive.setSlot 5 { used := true, tok := { id := 5, node := 1 }, place := .queue 0 }).setQueue 0 [5]).ods with gets := [(1863, 1)] } }
def ordered : State := (odsLive.setSlot 5 { used := true, place := .ordered, dom := some 3 , tok := { seq := 2, node := 2 } }).wf R.ODS_CFG F.ODS_CFG_ORDER_TMO 1 |>.setDom 3 { out := 0, next := 3, wait := [5] }
def rel0 : State := ((upPort 143).setSlot 5 { used := true }).relPush 143 { id := 5, tok := { length := 20 } }
def tim (k : DlKind) : DlEnt := { kind := k, tick := 5, tag := 3, mid := 3, id := 5, node := 1, target := false }
def timed (k : DlKind) : State := ((odsLive.wr (R.ODS_DLIST 15) 0x80000000).wf R.BCN_TIME_STATUS F.BCN_TIME_STATUS_RUNNING 1).setDl 15 0 (tim k)
def spl : State := ((timed .token).setDl 15 0 { tim .token with tick := 1000000 }).setSlot 5 { used := true, place := .listed 15 0 } |>.wf R.ODS_SPILL F.ODS_SPILL_EN 1
def fl5 : Flight := { tok := { id := 5, ctype := 5, inport := 143 } }
def flushing : State := (odsLive.setSlot 5 { used := true, tok := fl5.tok }).setPipe 3 { toOds := [fl5] }
def draining : State := { odsLive with ods := { drains := [{ port := 143 }] } }
def prb : Token := Token.stampProbe { ctype := 7, flow := BitVec.ofNat 22 77, epoch := odsLive.epoch, inport := 0xFF, egress := 0x1F0, its := odsLive.time.ptp } 0 odsLive.time.ptp.toNat
def off0 : State := odsLive.wr R.ODS_CFG 0
def sv : W32 := 0x100000 + 19
def tgt3 : State := (odsLive.setSlot 5 { used := true, place := .timerFor 3 })
def at3 : State := ((heldLive 3).wr (R.ODS_DLIST 15) 0x80000000).wf R.GLB_MODE F.GLB_MODE_TIMED 1
def x7 (s : State) : Token := s.winToken 3 7
def lockd : State := ((heldLive 1).setSlot 9 { ((heldLive 1).slot 9) with lock := true }).setLock 0 { holder := some 9, waiters := [10] } |>.setSlot 10 { used := true, place := .lockWait 0, fromQ := 4 }
def softS : State := odsLive.setWinToken 3 7 { node := 1 }
def tmS : State := (odsLive.wr (R.ODS_DLIST 15) 0x80000000).setWinToken 3 7 { node := 1, flow := 5, cresult := 9 }
def tmE : DlEnt := { kind := .timer, tick := tmS.dlNow 15 + 0xFFFFFF, mid := 3, node := 1, flow := 5, cookie := 9, target := true }
def stl : StalledOp := { op := 7, mid := 3, gen := 1, slot := 7, a := 15, b := 5, c := 0 }
def stS : State := { tmS with ods := { tmS.ods with stalls := [stl] } }
def thrS (st : Nat) : State := live.setThr (threadMid 15 8 7) { (live.thr (threadMid 15 8 7)) with st := st, fq := [{ idx := 9 }, { idx := 10 }] }

/-- States and operands that meet the hypotheses of clauses 1, 2, 3 of OrderDispatchCompletes. -/
theorem met_OrderDispatchCompletes_a :
    (∃ (s u : State) (pl n id : Nat), pl < 4 ∧ s.throttles pl = false ∧ s.powerStep = 0 ∧ s.bcn.draining = false ∧ (s.pipe pl).grants = [] ∧ s.prsNext pl = some n ∧ s.allocSlot pl { inport := 0xFF } = some (u, id)) ∧
    (∃ (s u : State) (c : HeldCell) (id : Nat), firstHeld s.ods.held = some c ∧ c.kind = 0 ∧ s.allocSlot 4 c.tok = some (u, id)) ∧
    (∃ (s v : State) (pl q d id : Nat) (f : Flight) (rest : List Flight), pl < 4 ∧ (s.pipe pl).toOds = f :: rest ∧ f.tok.ctype = 0 ∧ s.epochLive f.tok.epoch = true ∧ s.mode F.GLB_MODE_TIMED = true ∧ v = s.tokView f.tok ∧ id = f.tok.id.toNat ∧ nodeKind v f.tok.node.toNat = 1 ∧ nodeA v f.tok.node.toNat F.ODS_NODE_A_WHOLE ≠ 1 ∧ q = f.queue.getD (nodeQueue v f.tok.node.toNat f.tok.flow) ∧ d = (if s.mode F.GLB_MODE_TOTAL then 2 ^ 20 + f.tok.inport.toNat else f.tok.lockIdx)) ∧
    (∃ (s v : State) (pl q d id : Nat) (f : Flight) (rest : List Flight), pl < 4 ∧ (s.pipe pl).toOds = f :: rest ∧ f.tok.ctype = 0 ∧ s.epochLive f.tok.epoch = true ∧ s.mode F.GLB_MODE_TIMED = true ∧ v = s.tokView f.tok ∧ id = f.tok.id.toNat ∧ nodeKind v f.tok.node.toNat = 1 ∧ nodeA v f.tok.node.toNat F.ODS_NODE_A_WHOLE ≠ 1 ∧ q = f.queue.getD (nodeQueue v f.tok.node.toNat f.tok.flow) ∧ d = (if s.mode F.GLB_MODE_TOTAL then 2 ^ 20 + f.tok.inport.toNat else f.tok.lockIdx)) :=
  ⟨⟨fresh, (alloc fresh 3 { inport := 0xFF }).1, 3, 143, (alloc fresh 3 { inport := 0xFF }).2, by decide +kernel⟩,
   ⟨heldC, (alloc heldC 4 hc.tok).1, hc, (alloc heldC 4 hc.tok).2, by decide +kernel⟩,
   ⟨entering, entering.tokView ft.tok, 3, 1, 3, 5, ft, [], by decide +kernel⟩,
   ⟨enteringT, enteringT.tokView ft.tok, 3, 1, 2 ^ 20, 5, ft, [], by decide +kernel⟩⟩

/-- States and operands that meet the hypotheses of clauses 4, 5, 6, 7 of OrderDispatchCompletes. -/
theorem met_OrderDispatchCompletes_b :
    (∃ (s w : State) (c q id mid slot : Nat), c < 16 ∧ s.waitersOf c ≠ [] ∧ w = s.shedGroup (s.dispOf c).group ∧ w.groupPick c (s.dispOf c).group = some (q, id, mid) ∧ w.fd (R.ODS_GROUP (s.dispOf c).group) F.ODS_GROUP_QUANTUM ≠ 0 ∧ w.costOf id ≤ w.deficitOf c (s.dispOf c).group + (if (s.dispOf c).started then 0 else w.fd (R.ODS_GROUP (s.dispOf c).group) F.ODS_GROUP_QUANTUM) ∧ w.mayHold mid = some slot) ∧
    (∃ (s : State) (id d : Nat), (s.slot id).dom = some d ∧ (s.slot id).place = .ordered ∧ s.fd R.ODS_CFG F.ODS_CFG_ORDER_TMO ≠ 0) ∧
    (∃ (s : State) (n : Nat) (e : RelEnt) (rest : List RelEnt), n < 144 ∧ s.relList n = e :: rest ∧ s.up n = true ∧ (s.port n).epq.length < 64) ∧
    (∃ (s u : State) (l i : Nat) (e : DlEnt), s.dlNext l = some (i, e) ∧ u = s.until (e.tick * s.dlTick l) ∧ e.tick ≤ u.dlNow l ∧ ¬ (e.kind = .token ∧ (s.slot e.id).spilled = true)) :=
  ⟨⟨waiting, waiting.shedGroup 0, 14, 0, 5, 1863, 0, by decide +kernel⟩,
   ⟨ordered, 5, 3, by decide +kernel⟩,
   ⟨rel0, 143, { id := 5, tok := { length := 20 } }, [], by decide +kernel⟩,
   ⟨timed .timer, (timed .timer).until (5 * (timed .timer).dlTick 15), 15, 0, (timed .timer).dlEnt 15 0, by decide +kernel⟩⟩

/-- States and operands that meet the hypotheses of clauses 8, 9, 10, 11 of OrderDispatchCompletes. -/
theorem met_OrderDispatchCompletes_c :
    (∃ (s u w : State) (l i id : Nat) (e : DlEnt), s.dlNext l = some (i, e) ∧ e.kind = .timer ∧ u = s.until (e.tick * s.dlTick l) ∧ u.dlNow l = e.tick ∧ u.allocSlot 4 (u.timerTok e) = some (w, id)) ∧
    (∃ (s : State) (id l i : Nat), (s.slot id).place = .listed l i ∧ s.flag R.ODS_SPILL F.ODS_SPILL_EN = true ∧ (s.slot id).spilled = false ∧ s.time.ptp.toNat + 1000000 < (s.dlEnt l i).tick * s.dlTick l) ∧
    (∃ (s : State) (id : Nat), (s.slot id).spilled = true) ∧
    (∃ (s : State) (pl n : Nat) (f : Flight) (rest : List Flight), pl < 4 ∧ (s.pipe pl).toOds = f :: rest ∧ f.tok.ctype = 5 ∧ n = f.tok.inport.toNat ∧ n < 144) :=
  ⟨⟨timed .timer, (timed .timer).until (5 * (timed .timer).dlTick 15), (alloc ((timed .timer).until (5 * (timed .timer).dlTick 15)) 4 (((timed .timer).until (5 * (timed .timer).dlTick 15)).timerTok ((timed .timer).dlEnt 15 0))).1, 15, 0, (alloc ((timed .timer).until (5 * (timed .timer).dlTick 15)) 4 (((timed .timer).until (5 * (timed .timer).dlTick 15)).timerTok ((timed .timer).dlEnt 15 0))).2, (timed .timer).dlEnt 15 0, by decide +kernel⟩,
   ⟨spl, 5, 15, 0, by decide +kernel⟩,
   ⟨spl.setSlot 5 { (spl.slot 5) with spilled := true }, 5, by decide +kernel⟩,
   ⟨flushing, 3, 143, fl5, [], by decide +kernel⟩⟩

/-- States and operands that meet the hypotheses of clauses 12, 13, 14, 15 of OrderDispatchCompletes. -/
theorem met_OrderDispatchCompletes_d :
    (∃ (s : State) (n : Nat) (d : DrainWait), n < 144 ∧ s.ods.drains.find? (fun d => d.port == n) = some d) ∧
    (∃ (s u : State) (pl flow id : Nat) (x : Token), pl < 4 ∧ flow < 2 ^ 22 ∧ x = Token.stampProbe { ctype := 7, flow := BitVec.ofNat 22 flow, epoch := s.epoch, inport := 0xFF, egress := 0x1F0, its := s.time.ptp } 0 s.time.ptp.toNat ∧ s.allocSlot 4 x = some (u, id)) ∧
    (∃ (s u : State) (mid : Nat) (gen : BitVec 8) (v : W32) (log : Nat), s.takePair R.ODS_STORE mid gen v = some u ∧ s.odsRuns = false ∧ log = bitsOf v.toNat 0 5 ∧ 14 ≤ log ∧ log ≤ 19 ∧ bitsOf v.toNat 20 7 * 2 ^ 20 + 2 ^ log * 64 ≤ 128 * 2 ^ 20 ∧ ((s.fd R.ODS_FLOWMEM F.ODS_FLOWMEM_BASE < 32 ∨ flowFits (s.fd R.ODS_FLOWMEM F.ODS_FLOWMEM_BASE) log = true))) ∧
    (∃ (s u : State) (mid : Nat) (gen : BitVec 8) (v : W32), s.takePair R.ODS_FLOWMEM mid gen v = some u) :=
  ⟨⟨draining, 143, { port := 143 }, by decide +kernel⟩,
   ⟨odsLive, (alloc odsLive 4 prb).1, 3, 77, (alloc odsLive 4 prb).2, prb, by decide +kernel⟩,
   ⟨offer off0 R.ODS_STORE sv, taken (offer off0 R.ODS_STORE sv) R.ODS_STORE sv, 0x800, 1, sv, 19, by decide +kernel⟩,
   ⟨offer off0 R.ODS_FLOWMEM 32, taken (offer off0 R.ODS_FLOWMEM 32) R.ODS_FLOWMEM 32, 0x800, 1, 32, by decide +kernel⟩⟩

/-- States and operands that meet the hypotheses of clauses 15 of OrderDispatchCompletes. -/
theorem met_OrderDispatchCompletes_e :
    (∃ (s u : State) (mid : Nat) (gen : BitVec 8) (v : W32), s.takePair R.ODS_FLOWMEM mid gen v = some u) :=
  ⟨offer odsLive R.ODS_FLOWMEM 32, taken (offer odsLive R.ODS_FLOWMEM 32) R.ODS_FLOWMEM 32, 0x800, 1, 32, by decide +kernel⟩

/-- States and operands that meet the hypotheses of clauses 1, 2, 3, 4 of TokenPortCompletes. -/
theorem met_TokenPortCompletes_a :
    (∃ (s : State) (mid : Nat) (gen : BitVec 8), OdsServes s mid gen ∧ s.heldBy mid < s.holdMax mid ∧ s.timerCell mid = none ∧ s.isSpareThread mid = false) ∧
    (∃ (s : State) (mid : Nat) (gen : BitVec 8) (id slot : Nat), OdsServes s mid gen ∧ s.heldBy mid < s.holdMax mid ∧ s.timerCell mid = some id ∧ s.mayHold mid = some slot) ∧
    (∃ (s u : State) (mid : Nat) (gen : BitVec 8), OdsServes s mid gen ∧ s.heldBy mid < s.holdMax mid ∧ s.timerCell mid = none ∧ mid / 128 < 16 ∧ State.dispatch { s with ods := { s.ods with gets := [(mid, gen)] } } (mid / 128) false dispatchFuel = some u ∧ u.ods.gets = []) ∧
    (∃ (s : State) (mid : Nat) (gen : BitVec 8), OdsServes s mid gen ∧ s.heldBy mid < s.holdMax mid ∧ s.timerCell mid = none ∧ mid / 128 < 16 ∧ State.dispatch { s with ods := { s.ods with gets := [(mid, gen)] } } (mid / 128) false dispatchFuel = none) :=
  ⟨⟨odsLive, 3, 1, by delta OdsServes; decide +kernel⟩,
   ⟨tgt3, 3, 1, 5, 0, by delta OdsServes; decide +kernel⟩,
   ⟨{ waiting with ods := { waiting.ods with gets := [] } }, ({ waiting with ods := { waiting.ods with gets := [(1863, 1)] } }.dispatch 14 false dispatchFuel).getD waiting, 1863, 1, by delta OdsServes; decide +kernel⟩,
   ⟨odsLive, 3, 1, by delta OdsServes; decide +kernel⟩⟩

/-- States and operands that meet the hypotheses of clauses 5, 6, 7, 8 of TokenPortCompletes. -/
theorem met_TokenPortCompletes_b :
    (∃ (s v : State) (mid : Nat) (gen : BitVec 8) (slot id q : Nat) (x : Token), OdsServes s mid gen ∧ slot < 8 ∧ s.windowBusy mid = false ∧ s.holds mid gen slot = some id ∧ v = s.tokView (s.slot id).tok ∧ x = s.winToken mid slot ∧ s.putChecks v (s.slot id).tok.handle x (s.slot id).cut.isNone = 0 ∧ nodeKind v x.node.toNat = 1 ∧ q = nodeQueue v x.node.toNat x.flow ∧ s.queueStalls v q = false ∧ nodeA v x.node.toNat F.ODS_NODE_A_WHOLE ≠ 1) ∧
    (∃ (s v r : State) (mid : Nat) (gen : BitVec 8) (slot id instant l tick : Nat) (x y : Token), OdsServes s mid gen ∧ slot < 8 ∧ s.windowBusy mid = false ∧ s.holds mid gen slot = some id ∧ v = s.tokView (s.slot id).tok ∧ x = s.winToken mid slot ∧ s.putChecks v (s.slot id).tok.handle x (s.slot id).cut.isNone = 0 ∧ nodeKind v x.node.toNat = 2 ∧ v.fd (R.ODS_NODE_B x.node.toNat) F.ODS_NODE_B_TMODE = 2 ∧ s.mode F.GLB_MODE_TIMED = true ∧ y = (s.slot id).tok.taken x ∧ s.timedPick (s.nodeList y) (instantOf s.time.ptp.toNat (instant % 2 ^ 40)) = .on l tick ∧ r = (s.putTake mid slot id x).reserveFor id l tick mid) ∧
    (∃ (s : State) (mid : Nat) (gen : BitVec 8) (slot id : Nat), OdsServes s mid gen ∧ slot < 8 ∧ s.holds mid gen slot = some id ∧ (s.slot id).lock = true) ∧
    (∃ (s : State) (mid : Nat) (gen : BitVec 8) (slot id : Nat), OdsServes s mid gen ∧ slot < 8 ∧ s.windowBusy mid = false ∧ s.holds mid gen slot = some id) :=
  ⟨⟨heldLive 1, (heldLive 1).tokView ((heldLive 1).slot 9).tok, 3, 1, 7, 9, 0, x7 (heldLive 1), by delta OdsServes; decide +kernel⟩,
   ⟨at3, at3.tokView (at3.slot 9).tok, (at3.putTake 3 7 9 (x7 at3)).reserveFor 9 15 10 3, 3, 1, 7, 9, 80, 15, 10, x7 at3, (at3.slot 9).tok.taken (x7 at3), by delta OdsServes; decide +kernel⟩,
   ⟨lockd, 3, 1, 7, 9, by delta OdsServes; decide +kernel⟩,
   ⟨heldLive 1, 3, 1, 7, 9, by delta OdsServes; decide +kernel⟩⟩

/-- States and operands that meet the hypotheses of clauses 9, 10, 11, 12 of TokenPortCompletes. -/
theorem met_TokenPortCompletes_c :
    (∃ (s u : State) (mid : Nat) (gen : BitVec 8) (slot id : Nat) (x : Token), OdsServes s mid gen ∧ slot < 8 ∧ s.windowBusy mid = false ∧ x = s.softTok mid slot ∧ (s.thr mid).tokenIn slot = none ∧ s.putChecks (s.tokView x) 0 x true = 0 ∧ s.softStalls (s.tokView x) x = false ∧ s.ods.held = [] ∧ s.allocSlot 4 x = some (u, id)) ∧
    (∃ (s u : State) (mid : Nat) (gen : BitVec 8) (slot list delay i : Nat) (target : Bool) (e : DlEnt), OdsServes s mid gen ∧ slot < 8 ∧ list < 16 ∧ s.windowBusy mid = false ∧ (s.thr mid).tokenIn slot = none ∧ 1 ≤ delay ∧ delay < 2 ^ 24 ∧ s.dlOn list = true ∧ e = { kind := .timer, tick := s.dlNow list + delay, mid := mid, node := (s.winToken mid slot).node, flow := (s.winToken mid slot).flow, cookie := (s.winToken mid slot).cresult, target := target } ∧ s.dlReserve list e = some (u, i)) ∧
    (∃ (s : State) (mid : Nat) (gen : BitVec 8) (h l i : Nat), OdsServes s mid gen ∧ l = bitsOf h 20 4 ∧ i = bitsOf h 4 16 ∧ (s.dlEnt l i).kind ≠ .none ∧ (s.dlEnt l i).tag = BitVec.ofNat 4 h ∧ (s.dlEnt l i).mid = mid) ∧
    (∃ (s u : State) (k : Nat) (o : StalledOp), s.ods.stalls[k]? = some o ∧ State.runOp { s with ods := { s.ods with stalls := s.ods.stalls.eraseIdx k } } o = some u) :=
  ⟨⟨softS, (alloc softS 4 (softS.softTok 3 7)).1, 3, 1, 7, (alloc softS 4 (softS.softTok 3 7)).2, softS.softTok 3 7, by delta OdsServes; decide +kernel⟩,
   ⟨tmS, ((tmS.dlReserve 15 tmE).map (·.1)).getD tmS, 3, 1, 7, 15, 0xFFFFFF, ((tmS.dlReserve 15 tmE).map (·.2)).getD 0, true, tmE, by delta OdsServes; decide +kernel⟩,
   ⟨timed .timer, 3, 1, 15 * 2 ^ 20 + 3, 15, 0, by delta OdsServes; decide +kernel⟩,
   ⟨stS, (State.runOp { stS with ods := { stS.ods with stalls := stS.ods.stalls.eraseIdx 0 } } stl).getD stS, 0, stl, by decide +kernel⟩⟩

/-- States and operands that meet the hypotheses of clauses 1, 2, 3 of ThreadCommandsComplete. -/
theorem met_ThreadCommandsComplete_a :
    (∃ (s : State) (mid : Nat) (gen : BitVec 8) (c k t : Nat), ThrReached s mid gen c k t 1 0 ∧ (s.thr (threadMid c k t)).st = 1) ∧
    (∃ (s : State) (mid : Nat) (gen : BitVec 8) (c k t pc : Nat), ThrReached s mid gen c k t 2 pc ∧ 2 ≤ (s.thr (threadMid c k t)).st ∧ (s.thr (threadMid c k t)).st ≤ 4) ∧
    (∃ (s : State) (mid : Nat) (gen : BitVec 8) (c k t pc : Nat), ThrReached s mid gen c k t 2 pc ∧ 2 ≤ (s.thr (threadMid c k t)).st ∧ (s.thr (threadMid c k t)).st ≤ 4) ∧
    (∃ (s : State) (mid : Nat) (gen : BitVec 8) (c k t pc : Nat), ThrReached s mid gen c k t 3 pc ∧ pc < 2 ^ 14 ∧ (s.thr (threadMid c k t)).st ≠ 1 ∧ (s.thr (threadMid c k t)).st ≤ 4) :=
  ⟨⟨thrS 1, 0x800, 1, 15, 8, 7, by delta ThrReached Sys2Proof.Machine.State.Reached; decide +kernel⟩,
   ⟨thrS 4, 0x800, 1, 15, 8, 7, 5, by delta ThrReached Sys2Proof.Machine.State.Reached; decide +kernel⟩,
   ⟨thrS 2, 0x800, 1, 15, 8, 7, 5, by delta ThrReached Sys2Proof.Machine.State.Reached; decide +kernel⟩,
   ⟨thrS 0, 0x800, 1, 15, 8, 7, 0x3FFF, by delta ThrReached Sys2Proof.Machine.State.Reached; decide +kernel⟩⟩

/-- States and operands that meet the hypotheses of clauses 4, 5, 6 of ThreadCommandsComplete. -/
theorem met_ThreadCommandsComplete_b :
    (∃ (s : State) (mid : Nat) (gen : BitVec 8) (c k t : Nat), ThrReached s mid gen c k t 4 0 ∧ (s.thr (threadMid c k t)).st ≠ 5) ∧
    (∃ (s : State) (mid : Nat) (gen : BitVec 8) (c k t : Nat), ThrReached s mid gen c k t 5 0 ∧ 2 ≤ (s.thr (threadMid c k t)).st ∧ (s.thr (threadMid c k t)).st ≤ 4 ∧ s.flag (R.CLU_DBG c) F.CLU_DBG_EN = true ∧ s.locked = false) ∧
    (∃ (s : State) (mid : Nat), isThread mid = true ∧ s.resetReady mid = true) :=
  ⟨⟨thrS 1, 0x800, 1, 15, 8, 7, by delta ThrReached Sys2Proof.Machine.State.Reached; decide +kernel⟩,
   ⟨(thrS 3).wf (R.CLU_DBG 15) F.CLU_DBG_EN 1, 0x800, 1, 15, 8, 7, by delta ThrReached Sys2Proof.Machine.State.Reached; decide +kernel⟩,
   ⟨thrS 5, threadMid 15 8 7, by decide +kernel⟩⟩

end P06

namespace P07
def tm : Nat := threadMid 15 8 7
def bunN : Nat := 8 * 2 ^ 8 + 8 * 2 ^ 38 + 8 * 2 ^ 68 + 8 * 2 ^ 98
def bunOf (dst src : Nat) : Nat := (src * 16 + dst * 2 ^ 16 + 2 ^ 28) * 2 ^ 8 + 8 * 2 ^ 38 + 8 * 2 ^ 68 + 8 * 2 ^ 98
def coreS (x : ThreadSt) : State := ([0, 1, 2, 3].foldl (fun s j => s.wr (R.CLU_CORE_SLOT 15 8 j) 0xFFFFFFFF) live).setThr tm { x with st := 1 }
def issS : State := coreS { fq := [{ idx := 0x3FFF, bits := some (bunOf 3 5) }] }
def donS : State := (coreS { fq := [{ idx := 5, bits := some (bunOf 3 5), due := 3 }] }).wr (R.CLU_CORE_SLOT 15 8 0) 0xFFFFF000
def mvs : List Move := (decodeBundle (bunOf 3 5)).getD []
def irqS : State := { coreS { fq := [{ idx := 9, bits := some bunN }], sock := [(0x388, 2), (0x38A, 0x30), (0x38B, 1)], resv := some (5, 9) } with evpend := [(tm, 3)] }
def sho (e : ShortEff) : State := coreS { shorts := [{ unit := 0x100, due := 0, eff := e }] }
def lng (o : LongOp) : State := coreS { longs := [{ unit := 0x3C0, op := 1, ports := [5] }, o] }
def fenceOp : LongOp := { unit := 0x400, ports := [0x420, 0x421] }
def fenceS : State := coreS { longs := [fenceOp] }
def irw : IramWr := { c := 15, mid := tm, addr := 16, bytes := toLe 16 7, due := 0 }
def winS : State := ((((bufLive { owner := 15, gen := 1, holders := 1, alloc := true }).setThr tm { st := 1, slots := [(7, 10)], fq := [{ bits := some (bunOf 0x250 64) }], sock := [(0x240, 0x870000)] }).setWinToken tm 7 { handle := mkHandle 7 2 }).setBytes .packet 0 []).setBytes (poolLive.poolSpace 7) (poolLive.bufAddr (mkHandle 7 2) + 64) (toLe 64 0x123456)
def cmd (op : Nat) (t : Nat := 0) (o0 o1 o2 o3 : Nat := 0) : AccCmd := { mid := tm, gen := 1, t := BitVec.ofNat 40 (op + t), o0 := BitVec.ofNat 40 o0, o1 := BitVec.ofNat 40 o1, o2 := BitVec.ofNat 40 o2, o3 := BitVec.ofNat 40 o3 }
def accS (a : Nat) (x : AccSt) : State := live.setAcc 15 a { x with owner := some (tm, 1) }
def wt (m : Nat) : SemWait := { mid := m, gen := 1 }
def onLive (s : State) (a : Nat) : State := s.wr (R.CLU_CPQ_LIVE 15 a) (BitVec.ofNat 32 (2 ^ 31 + tm))
def other : AccCmd := cmd 0x3C
def sig3 : List Byte := [3, -4, 7].flatMap (fun v => formStore 7 (w40 v))
def smxS (x : AccCmd) : State := ((accS 2 { q := [x, other] }).setBytes (.spad 15) 0x7FFF0 sig3).setBytes (.spad 15) 0x7FF00 sig3
def smx (op : Nat) : AccCmd := cmd op (3 * 2 ^ 14 + 2 * 2 ^ 28 + 2 ^ 35) 0x7FFF0 0x7FFF0 0x7FF00
def rawFir (s : State) (x : AccCmd) : List Int := fir (s.samples 15 x.o0.toNat x.packed x.n) 0 x.n x.shift (s.cells 15 x.o2.toNat x.k)
def fstS : State := let s := onLive (smxS (smx 1)) 2; s.setAcc 15 2 { s.acc 15 2 with hist := [5, 6] }
def fstFull : List Int := (fstS.acc 15 2).hist.map s40 ++ fstS.samples 15 0x7FFF0 false 3
def limS : State := ((smxS (smx 5)).setBytes (.spad 15) 0x7FF00 (toLe 5 (pair20 (-2) 5).toNat ++ toLe 5 (pair20 (-5) 5).toNat ++ toLe 5 (pair20 0 9).toNat))
def limBad : List Bool := (limS.samples 15 0x7FFF0 false 3).zipWith (fun v l => decide (v < s20 l ∨ hi20 l < v)) ((List.range 3).map (fun i => BitVec.ofNat 40 (limS.ldN (.spad 15) (0x7FF00 + 5 * i) 5)))
def hsh (s : State) (x : AccCmd) : State := s.setAcc 15 3 { q := [x, other], owner := some (tm, 1) }
def key5 : Nat := l2Key 0x020000000005 7
def st5 : State := stage (stage fteLive 0 0x00000005 0x00070200) 2 0x80000000 0x80008000
def hit5 : State := match st5.l2Insert key5 (e1Make 3 9 0) with | some (t, _, _) => t | none => st5
def emLive : State := live.wr (R.PRS_PROF_CTRL 7) (32 * 2 ^ 21 + 10 * 2 ^ 16)
def emHit : State := (emLive.emTab 7).put emLive 0 ((emLive.emTab 7).slotOf 0 (emLive.bytes (.spad 15) 0 8)) (toLe 16 (2 ^ 127 + 5 * 2 ^ 64))
def rt (t : Nat) (lo hi : W32) : State := let s := stage fteLive 0 lo hi; match (s.fteTab t).place s (fun _ => false) (s.fteStaged (fteEntB t)) with | some (u, _) => (u.filterRaise t (stagedRoute t (s.fteStaged (fteEntB t)))).getD u | none => s
def rt4 : State := rt 1 0x0A0B0C00 24
def pdu : List Byte := [1, 2, 3, 4]
def crcOk (ok : Bool) : List Byte := toLe 4 ((presetOf 0).value 5 pdu + if ok then 0 else 1)
def dd0 : Nat := 2 ^ 63 + 2 ^ 62 + 2 ^ 58 + 4 * 2 ^ 30 + 4 * 2 ^ 10
def vS (ok : Bool) (d0 : Nat) : State :=
  (((((live.wr R.CVU_GCFG 0).wf R.CVU_GCFG F.CVU_GCFG_RUN 1).wr R.CVU_TABLE 0x12000010).setAcc 15 1 { q := [cmd 0 0 0x7FFF0 0x3FFFF 8, other], owner := some (tm, 1) }).setBytes (.spad 15) 0x7FFF0 (pdu ++ crcOk ok)).setCvuSet 31 0x3FFFF [(5, 1, 2), (0x3FFFF, d0, 8 * 2 ^ 54 + 5)]
def vK (ok : Bool) (d0 : Nat) : Checked := verifyDecide d0 (8 * 2 ^ 54 + 5) 0 0 (pdu ++ crcOk ok) (vS ok d0).time.ptp.toNat
def strm (op : Nat) (a : Nat) : AccCmd := cmd op (8 * 2 ^ 14 + 1 * 2 ^ 30) 0x7FFF0 7
def cvS (x : AccCmd) (k : Option CvuCtx := none) : State := onLive ((live.setAcc 15 1 { q := [x, other], owner := some (tm, 1), ctx := k }).setBytes (.spad 15) 0x7FFF0 (pdu ++ pdu)) 1
def ck : CvuCtx := ⟨5, 0x12, 3, 9⟩
def tS (i : W32) : State := ((live.wf R.CVU_GCFG F.CVU_GCFG_RUN 1).wr R.CVU_TABLE 0x12000010).wr R.CVU_TIDX i |>.setBytes .dram (0x10 * 65536 + i.toNat * 32) (toLe 8 99)

/-- States and operands that meet the hypotheses of clauses 1, 2, 3 of CoreStepsComplete. -/
theorem met_CoreStepsComplete_a :
    (∃ (s u : State) (c k idle m : Nat) (donated : Bool) (ms : List Move), Issues s u c k idle m donated ms) ∧
    (∃ (s u : State) (c k idle m : Nat) (donated : Bool) (ms : List Move), Issues s u c k idle m donated ms) ∧
    (∃ (s u : State) (c k m : Nat) (donated : Bool), s.coreRuns c k = true ∧ u = s.cycleStart c k ∧ u.pick c k = some (m, donated) ∧ u.entryDue m = true ∧ (u.thr m).step = false) ∧
    (∃ (s : State) (mid unit : Nat) (o : ShortOp) (outs : List (Nat × W40)), isThread mid = true ∧ (s.thr mid).shorts.find? (fun o => o.unit == unit && decide (o.due ≤ s.cycle (coreKey mid))) = some o ∧ o.eff = .ports outs) :=
  ⟨⟨issS, issS.cycleStart 15 8, 15, 8, 0, tm, false, mvs, by delta Issues; decide +kernel⟩,
   ⟨donS.wr (R.CLU_CORE_SLOT 15 8 0) 0, (State.idleCycles 15 8 9 (donS.wr (R.CLU_CORE_SLOT 15 8 0) 0)).cycleStart 15 8, 15, 8, 9, tm, true, mvs, by delta Issues; decide +kernel⟩,
   ⟨irqS, irqS.cycleStart 15 8, 15, 8, tm, false, by decide +kernel⟩,
   ⟨sho (.ports [(0x121, 5)]), tm, 0x100, { unit := 0x100, due := 0, eff := .ports [(0x121, 5)] }, [(0x121, 5)], by decide +kernel⟩⟩

/-- States and operands that meet the hypotheses of clauses 4, 5, 6 of CoreStepsComplete. -/
theorem met_CoreStepsComplete_b :
    (∃ (s : State) (mid unit : Nat) (o : ShortOp), isThread mid = true ∧ (s.thr mid).shorts.find? (fun o => o.unit == unit && decide (o.due ≤ s.cycle (coreKey mid))) = some o) ∧
    (∃ (s : State) (mid unit : Nat) (o : ShortOp), isThread mid = true ∧ (s.thr mid).shorts.find? (fun o => o.unit == unit && decide (o.due ≤ s.cycle (coreKey mid))) = some o) ∧
    (∃ (s : State) (mid n : Nat) (o : LongOp) (rs : List W40), isThread mid = true ∧ s.coreRuns (mid / 128) (mid / 8 % 16) = true ∧ (s.thr mid).longs[n]? = some o ∧ o.res = some rs ∧ o.err = false ∧ (∀ e ∈ (s.thr mid).longs.take n, ∀ p ∈ e.ports, p ∉ o.ports)) ∧
    (∃ (s u : State) (mid n : Nat) (o : LongOp) (rs : List W40), isThread mid = true ∧ s.coreRuns (mid / 128) (mid / 8 % 16) = true ∧ (s.thr mid).longs[n]? = some o ∧ o.res = none ∧ o.isBpm = false ∧ s.unitRun mid o ((s.thr mid).longs.take n) 0 0 false = (u, .done rs)) :=
  ⟨⟨sho (.load 6 0x7FFFB), tm, 0x100, { unit := 0x100, due := 0, eff := .load 6 0x7FFFB }, by decide +kernel⟩,
   ⟨sho (.store 0x7FFFF [5]), tm, 0x100, { unit := 0x100, due := 0, eff := .store 0x7FFFF [5] }, by decide +kernel⟩,
   ⟨lng { unit := 0x280, ports := [0x2A0], res := some [7] }, tm, 1, { unit := 0x280, ports := [0x2A0], res := some [7] }, [7], by decide +kernel⟩,
   ⟨fenceS, fenceS, tm, 0, fenceOp, [0], by decide +kernel⟩⟩

/-- States and operands that meet the hypotheses of clauses 7, 8, 9 of CoreStepsComplete. -/
theorem met_CoreStepsComplete_c :
    (∃ (s : State) (c k : Nat) (w : IramWr), c < 16 ∧ k < 9 ∧ s.iramq = [w] ∧ coreKey w.mid = c * 9 + k ∧ w.due ≤ s.cycle (c * 9 + k)) ∧
    (∃ (s : State) (mid slot line : Nat), isThread mid = true ∧ s.wantsLine mid slot line = true) ∧
    (∃ (s : State) (mid b e : Nat), isThread mid = true ∧ (s.thr mid).resv = some (b, e) ∧ e ≤ s.cycle (coreKey mid)) :=
  ⟨⟨{ live with iramq := [irw] }, 15, 8, irw, by decide +kernel⟩,
   ⟨winS, tm, 7, 1, by decide +kernel⟩,
   ⟨irqS.setCycle (coreKey tm) 9, tm, 5, 9, by decide +kernel⟩⟩

/-- States and operands that meet the hypotheses of clauses 1, 2, 3 of AcceleratorLocksComplete. -/
theorem met_AcceleratorLocksComplete_a :
    (∃ (s : State) (mid : Nat) (gen : BitVec 8) (a : Nat), a < 4 ∧ midIsThread mid = true ∧ (∀ w ∈ (s.acc (mid / 128) a).waiters, w.mid ≠ mid) ∧ (s.acc (mid / 128) a).owner = none) ∧
    (∃ (s : State) (mid : Nat) (gen : BitVec 8) (a : Nat), a < 4 ∧ midIsThread mid = true ∧ (∀ w ∈ (s.acc (mid / 128) a).waiters, w.mid ≠ mid) ∧ (s.acc (mid / 128) a).owner = none) ∧
    (∃ (s : State) (mid a : Nat) (w : SemWait), (s.acc (mid / 128) a).waiters.find? (fun w => w.mid == mid) = some w) ∧
    (∃ (s : State) (c a : Nat) (x : AccCmd) (rest : List AccCmd), AccHead s c a 0x39 x rest ∧ (s.acc c a).owner = some (x.mid, x.gen)) :=
  ⟨⟨live, tm, 1, 3, by decide +kernel⟩,
   ⟨live.setAcc 15 0 { abandoned := true, waiters := [wt 3] }, tm, 1, 0, by decide +kernel⟩,
   ⟨accS 3 { waiters := [wt 3, wt tm] }, tm, 3, wt tm, by decide +kernel⟩,
   ⟨accS 0 { q := [cmd 0x39, other], waiters := [wt 3, wt 5] }, 15, 0, cmd 0x39, [other], by delta AccHead; decide +kernel⟩⟩

/-- States and operands that meet the hypotheses of clauses 4, 5, 6 of AcceleratorLocksComplete. -/
theorem met_AcceleratorLocksComplete_b :
    (∃ (s : State) (c a : Nat) (x : AccCmd) (rest : List AccCmd), AccHead s c a 0x3C x rest) ∧
    (∃ (s : State) (c a m : Nat) (g : BitVec 8), c < 16 ∧ a < 4 ∧ (s.acc c a).owner = some (m, g)) ∧
    (∃ (s : State) (c a m : Nat) (g : BitVec 8), c < 16 ∧ a < 4 ∧ (s.acc c a).owner = some (m, g)) ∧
    (∃ (s : State) (c a : Nat) (x : AccCmd) (rest : List AccCmd), AccHead s c a 0x3A x rest ∧ s.liveMid c a = some x.mid) :=
  ⟨⟨accS 3 { q := [cmd 0x3C, other] }, 15, 3, cmd 0x3C, [other], by delta AccHead; decide +kernel⟩,
   ⟨accS 3 { q := [cmd 0x3C, other], waiters := [wt 3] }, 15, 3, tm, 1, by decide +kernel⟩,
   ⟨onLive (accS 2 {}) 2, 15, 2, tm, 1, by decide +kernel⟩,
   ⟨onLive (accS 2 { q := [cmd 0x3A, other], hist := [5, 6] }) 2, 15, 2, cmd 0x3A, [other], by delta AccHead; decide +kernel⟩⟩

/-- States and operands that meet the hypotheses of clauses 6, 7, 8 of AcceleratorLocksComplete. -/
theorem met_AcceleratorLocksComplete_c :
    (∃ (s : State) (c a : Nat) (x : AccCmd) (rest : List AccCmd), AccHead s c a 0x3A x rest ∧ s.liveMid c a = some x.mid) ∧
    (∃ (s : State) (c a : Nat) (x : AccCmd) (rest : List AccCmd), AccHead s c a 0x3B x rest ∧ a ≠ 3) ∧
    (∃ (s : State) (c a : Nat) (x : AccCmd) (rest : List AccCmd) (r : AccRes), c < 16 ∧ a < 4 ∧ (s.acc c a).q = x :: rest ∧ x.res = some r ∧ x.drop = false) ∧
    (∃ (s : State) (c a : Nat) (x : AccCmd) (rest : List AccCmd) (r : AccRes), c < 16 ∧ a < 4 ∧ (s.acc c a).q = x :: rest ∧ x.res = some r ∧ x.drop = false) :=
  ⟨⟨onLive (accS 1 { q := [cmd 0x3A, other] }) 1, 15, 1, cmd 0x3A, [other], by delta AccHead; decide +kernel⟩,
   ⟨onLive (accS 2 { q := [cmd 0x3B, other], hist := [5, 6] }) 2, 15, 2, cmd 0x3B, [other], by delta AccHead; decide +kernel⟩,
   ⟨accS 3 { q := [{ cmd 0 with res := some { st := 8 } }, other] }, 15, 3, { cmd 0 with res := some { st := 8 } }, [other], { st := 8 }, by decide +kernel⟩,
   ⟨accS 1 { q := [{ cmd 0 with res := some { r := 9 }, fused := true }, other] }, 15, 1, { cmd 0 with res := some { r := 9 }, fused := true }, [other], { r := 9 }, by decide +kernel⟩⟩

/-- States and operands that meet the hypotheses of clauses 1, 2, 3, 4 of SmxCompletes. -/
theorem met_SmxCompletes_a :
    (∃ (s : State) (c : Nat) (x : AccCmd) (rest : List AccCmd) (ys : List Int), AccHead s c 2 0 x rest ∧ SmxReads s c x true [x.inRegion, x.coefRegion] [x.outRegion] true ∧ ys = fir (s.samples c x.o0.toNat x.packed x.n) 0 x.n x.shift (s.cells c x.o2.toNat x.k)) ∧
    (∃ (s : State) (c : Nat) (x : AccCmd) (rest : List AccCmd) (full ys : List Int), AccHead s c 2 1 x rest ∧ s.liveMid c 2 = some x.mid ∧ SmxReads s c x true [x.inRegion, x.coefRegion] [x.outRegion] true ∧ full = (s.acc c 2).hist.map s40 ++ s.samples c x.o0.toNat x.packed x.n ∧ ys = fir full (s.acc c 2).hist.length x.n x.shift (s.cells c x.o2.toNat x.k)) ∧
    (∃ (s : State) (c q : Nat) (x : AccCmd) (rest : List AccCmd), AccHead s c 2 2 x rest ∧ SmxReads s c x false [x.inRegion] [] false ∧ q = ((s.samples c x.o0.toNat x.packed x.n).map (fun v => v * v)).sum.toNat / x.n) ∧
    (∃ (s : State) (c : Nat) (x : AccCmd) (rest : List AccCmd) (y : Int) (ys : List Int), AccHead s c 2 3 x rest ∧ SmxReads s c x false [x.inRegion] [] false ∧ s.samples c x.o0.toNat x.packed x.n = y :: ys) :=
  ⟨⟨smxS (smx 0), 15, smx 0, [other], rawFir (smxS (smx 0)) (smx 0), by delta SmxReads AccHead; decide +kernel⟩,
   ⟨fstS, 15, smx 1, [other], fstFull, fir fstFull 2 3 1 (fstS.cells 15 0x7FF00 2), by delta SmxReads AccHead; decide +kernel⟩,
   ⟨smxS (smx 2), 15, (((smxS (smx 2)).samples 15 0x7FFF0 false 3).map (fun v => v * v)).sum.toNat / 3, smx 2, [other], by delta SmxReads AccHead; decide +kernel⟩,
   ⟨smxS (smx 3), 15, smx 3, [other], 3, [-4, 7], by delta SmxReads AccHead; decide +kernel⟩⟩

/-- States and operands that meet the hypotheses of clauses 5, 6 of SmxCompletes. -/
theorem met_SmxCompletes_b :
    (∃ (s : State) (c : Nat) (x : AccCmd) (rest : List AccCmd), AccHead s c 2 4 x rest ∧ SmxReads s c x false [x.inRegion] [] false) ∧
    (∃ (s : State) (c : Nat) (x : AccCmd) (rest : List AccCmd) (bad : List Bool), AccHead s c 2 5 x rest ∧ bitAt x.flags 1 = false ∧ SmxReads s c x false [x.inRegion, (x.o2.toNat, 5 * x.n)] [] false ∧ (bad = (s.samples c x.o0.toNat x.packed x.n).zipWith (fun v l => decide (v < s20 l ∨ hi20 l < v)) ((List.range x.n).map (fun i => BitVec.ofNat 40 (s.ldN (.spad c) (x.o2.toNat + 5 * i) 5))))) :=
  ⟨⟨smxS (smx 4), 15, smx 4, [other], by delta SmxReads AccHead; decide +kernel⟩,
   ⟨limS, 15, smx 5, [other], limBad, by delta SmxReads AccHead; decide +kernel⟩⟩

/-- States and operands that meet the hypotheses of clauses 1, 2, 3 of HashxCompletes. -/
theorem met_HashxCompletes_a :
    (∃ (s v : State) (c p kb : Nat) (x : AccCmd) (rest : List AccCmd), AccHead s c 3 0 x rest ∧ p = bitsOf x.t.toNat 14 3 ∧ v = s.view (BitVec.ofNat 8 x.o2.toNat) ∧ kb = v.keyBytes p ∧ HashxReads s c x [(x.o0.toNat, kb)]) ∧
    (∃ (s v : State) (c p kb : Nat) (x : AccCmd) (rest : List AccCmd), AccHead s c 3 0 x rest ∧ p = bitsOf x.t.toNat 14 3 ∧ v = s.view (BitVec.ofNat 8 x.o2.toNat) ∧ kb = v.keyBytes p ∧ HashxReads s c x [(x.o0.toNat, kb)]) ∧
    (∃ (s : State) (c : Nat) (x : AccCmd) (rest : List AccCmd), AccHead s c 3 1 x rest ∧ HashxReads s c x []) ∧
    (∃ (s v : State) (c : Nat) (x : AccCmd) (rest : List AccCmd), AccHead s c 3 2 x rest ∧ HashxReads s c x [] ∧ v = s.view (BitVec.ofNat 8 x.o2.toNat)) :=
  ⟨⟨hsh emHit (cmd 0 (7 * 2 ^ 14)), (hsh emHit (cmd 0 (7 * 2 ^ 14))).view 0, 15, 7, (emHit.keyBytes 7), cmd 0 (7 * 2 ^ 14), [other], by delta HashxReads AccHead; decide +kernel⟩,
   ⟨hsh live (cmd 0 (7 * 2 ^ 14)), hsh live (cmd 0 (7 * 2 ^ 14)), 15, 7, live.keyBytes 7, cmd 0 (7 * 2 ^ 14), [other], by delta HashxReads AccHead; decide +kernel⟩,
   ⟨hsh hit5 (cmd 1 (7 * 2 ^ 14) 0x0000000005 0x02), 15, cmd 1 (7 * 2 ^ 14) 0x0000000005 0x02, [other], by delta HashxReads AccHead; decide +kernel⟩,
   ⟨hsh rt4 (cmd 2 0 0x0A0B0C0D), (hsh rt4 (cmd 2 0 0x0A0B0C0D)), 15, cmd 2 0 0x0A0B0C0D, [other], by delta HashxReads AccHead; decide +kernel⟩⟩

/-- States and operands that meet the hypotheses of clauses 4, 5 of HashxCompletes. -/
theorem met_HashxCompletes_b :
    (∃ (s v : State) (c : Nat) (x : AccCmd) (rest : List AccCmd) (d : Nat), AccHead s c 3 3 x rest ∧ HashxReads s c x [(x.o0.toNat, 16)] ∧ v = s.view (BitVec.ofNat 8 x.o2.toNat) ∧ d = beNat (s.bytes (.spad c) x.o0.toNat 16)) ∧
    (∃ (s v : State) (c k : Nat) (x : AccCmd) (rest : List AccCmd), AccHead s c 3 4 x rest ∧ k = bitsOf x.t.toNat 14 4 ∧ 5 ≤ k ∧ k ≤ 9 ∧ x.o1.toNat + fteEntB k ≤ 0x80000 ∧ HashxReads s c x [] ∧ v = s.view (BitVec.ofNat 8 x.o2.toNat) ∧ v.fteGone k = false ∧ x.o0.toNat < v.fteSize k) :=
  ⟨⟨hsh live (cmd 3 0 0x7FFF0), hsh live (cmd 3 0 0x7FFF0), 15, cmd 3 0 0x7FFF0, [other], 0, by delta HashxReads AccHead; decide +kernel⟩,
   ⟨hsh fteLive (cmd 4 (9 * 2 ^ 14) 15 0x7FFF0), hsh fteLive (cmd 4 (9 * 2 ^ 14) 15 0x7FFF0), 15, 9, cmd 4 (9 * 2 ^ 14) 15 0x7FFF0, [other], by delta HashxReads AccHead; decide +kernel⟩⟩

/-- States and operands that meet the hypotheses of clauses 1, 2, 3 of CvuCompletes. -/
theorem met_CvuCompletes_a :
    (∃ (s : State) (c a n i at_ : Nat) (x : AccCmd) (rest : List AccCmd) (d : Nat × Nat) (j : Nat) (k : Checked), a < 2 ∧ AccHead s c a 0 x rest ∧ n = 2 * c + a ∧ x.o1.toNat = i ∧ i < 2 ^ 18 ∧ x.o2.toNat % 1024 ≠ 0 ∧ bitAt x.flags 0 = false ∧ x.tok = none ∧ CvuReads s c x (x.o2.toNat % 1024) ∧ s.settled.flag R.CVU_GCFG F.CVU_GCFG_RUN = true ∧ i < s.settled.cvuCount ∧ at_ = s.settled.descAt i ∧ (s.cvuSet n i).find? (fun e => e.1 == i) = some (j, d) ∧ k = verifyDecide d.1 d.2 (s.ldN .dram (at_ + 16) 8) (s.ldN .dram (at_ + 24) 8) (s.bytes (.spad c) x.o0.toNat (x.o2.toNat % 1024)) s.time.ptp.toNat) ∧
    (∃ (s : State) (c a n i at_ : Nat) (x : AccCmd) (rest : List AccCmd) (d : Nat × Nat) (j : Nat) (k : Checked), a < 2 ∧ AccHead s c a 0 x rest ∧ n = 2 * c + a ∧ x.o1.toNat = i ∧ i < 2 ^ 18 ∧ x.o2.toNat % 1024 ≠ 0 ∧ bitAt x.flags 0 = false ∧ x.tok = none ∧ CvuReads s c x (x.o2.toNat % 1024) ∧ s.settled.flag R.CVU_GCFG F.CVU_GCFG_RUN = true ∧ i < s.settled.cvuCount ∧ at_ = s.settled.descAt i ∧ (s.cvuSet n i).find? (fun e => e.1 == i) = some (j, d) ∧ k = verifyDecide d.1 d.2 (s.ldN .dram (at_ + 16) 8) (s.ldN .dram (at_ + 24) 8) (s.bytes (.spad c) x.o0.toNat (x.o2.toNat % 1024)) s.time.ptp.toNat) ∧
    (∃ (s : State) (c a : Nat) (x : AccCmd) (rest : List AccCmd), a < 2 ∧ AccHead s c a 1 x rest ∧ x.preset ≤ 5 ∧ CvuReads s c x x.len) ∧
    (∃ (s : State) (c a : Nat) (x : AccCmd) (rest : List AccCmd), a < 2 ∧ AccHead s c a 2 x rest ∧ s.liveMid c a = some x.mid ∧ x.preset ≤ 5) :=
  ⟨⟨vS true dd0, 15, 1, 31, 0x3FFFF, (vS true dd0).descAt 0x3FFFF, cmd 0 0 0x7FFF0 0x3FFFF 8, [other], (dd0, 8 * 2 ^ 54 + 5), 0x3FFFF, vK true dd0, by delta CvuReads AccHead; decide +kernel⟩,
   ⟨vS true 0, 15, 1, 31, 0x3FFFF, (vS true 0).descAt 0x3FFFF, cmd 0 0 0x7FFF0 0x3FFFF 8, [other], (0, 8 * 2 ^ 54 + 5), 0x3FFFF, vK true 0, by delta CvuReads AccHead; decide +kernel⟩,
   ⟨cvS (strm 1 1), 15, 1, strm 1 1, [other], by delta CvuReads AccHead; decide +kernel⟩,
   ⟨cvS (strm 2 1), 15, 1, strm 2 1, [other], by delta AccHead; decide +kernel⟩⟩

/-- States and operands that meet the hypotheses of clauses 4, 5 of CvuCompletes. -/
theorem met_CvuCompletes_b :
    (∃ (s : State) (c a : Nat) (x : AccCmd) (rest : List AccCmd) (k : CvuCtx) (y : Nat), a < 2 ∧ AccHead s c a 3 x rest ∧ s.liveMid c a = some x.mid ∧ (s.acc c a).ctx = some k ∧ CvuReads s c x x.len ∧ y = (presetOf k.preset).run k.reg (s.bytes (.spad c) x.o0.toNat x.len)) ∧
    (∃ (s : State) (c a : Nat) (x : AccCmd) (rest : List AccCmd) (k : CvuCtx) (y : Nat), a < 2 ∧ AccHead s c a 4 x rest ∧ s.liveMid c a = some x.mid ∧ (s.acc c a).ctx = some k ∧ CvuReads s c x x.len ∧ bitAt x.flags 2 = false ∧ y = (presetOf k.preset).run k.reg (s.bytes (.spad c) x.o0.toNat x.len)) :=
  ⟨⟨cvS (strm 3 1) ck, 15, 1, strm 3 1, [other], ck, (presetOf 5).run 0x12 ((cvS (strm 3 1)).bytes (.spad 15) 0x7FFF0 (strm 3 1).len), by delta CvuReads AccHead; decide +kernel⟩,
   ⟨cvS (strm 4 1) ck, 15, 1, strm 4 1, [other], ck, (presetOf 5).run 0x12 ((cvS (strm 4 1)).bytes (.spad 15) 0x7FFF0 (strm 4 1).len), by delta CvuReads AccHead; decide +kernel⟩⟩

/-- States and operands that meet the hypotheses of clauses 1, 2, 3, 4 of CvuTableCompletes. -/
theorem met_CvuTableCompletes_a :
    (∃ (s : State) (mid : Nat) (gen : BitVec 8) (i at_ : Nat), CvuTakes s mid gen 1 ∧ i = s.fd R.CVU_TIDX F.CVU_TIDX_INDEX ∧ i < s.settled.cvuCount ∧ at_ = s.settled.descAt i) ∧
    (∃ (s : State) (mid : Nat) (gen : BitVec 8) (i at_ : Nat), CvuTakes s mid gen 2 ∧ i = s.fd R.CVU_TIDX F.CVU_TIDX_INDEX ∧ i < s.settled.cvuCount ∧ at_ = s.settled.descAt i) ∧
    (∃ (s : State) (mid : Nat) (gen : BitVec 8) (i at_ : Nat), CvuTakes s mid gen 3 ∧ i = s.fd R.CVU_TIDX F.CVU_TIDX_INDEX ∧ i < s.settled.cvuCount ∧ at_ = s.settled.descAt i) ∧
    (∃ (s : State) (mid : Nat) (gen : BitVec 8), CvuTakes s mid gen 4) :=
  ⟨⟨tS 0x3FFFF, 0x800, 1, 0x3FFFF, (tS 0x3FFFF).descAt 0x3FFFF, by delta CvuTakes Sys2Proof.Machine.State.Reached; decide +kernel⟩,
   ⟨tS 0, 0x800, 1, 0, (tS 0).descAt 0, by delta CvuTakes Sys2Proof.Machine.State.Reached; decide +kernel⟩,
   ⟨tS 0x3FFFF, 0x800, 1, 0x3FFFF, (tS 0x3FFFF).descAt 0x3FFFF, by delta CvuTakes Sys2Proof.Machine.State.Reached; decide +kernel⟩,
   ⟨tS 0 |>.setCvuSet 3 9 [(9, 1, 2)], 0x800, 1, by delta CvuTakes Sys2Proof.Machine.State.Reached; decide +kernel⟩⟩

/-- States and operands that meet the hypotheses of clauses 5, 6 of CvuTableCompletes. -/
theorem met_CvuTableCompletes_b :
    (∃ s : State, s.cvuBusy = true) ∧
    (∃ (s u : State) (mid : Nat) (gen : BitVec 8) (v : W32), s.takePair R.CVU_TABLE mid gen v = some u) ∧
    (∃ (s u : State) (mid : Nat) (gen : BitVec 8) (v : W32), s.takePair R.CVU_TABLE mid gen v = some u) :=
  ⟨⟨(tS 0).setRes R.CVU_TSTAT 0x30000000 |>.wf R.CVU_TCMD F.CVU_TCMD_BUSY 1, by decide +kernel⟩,
   ⟨offer live R.CVU_TABLE 0x12000010, taken (offer live R.CVU_TABLE 0x12000010) R.CVU_TABLE 0x12000010, 0x800, 1, 0x12000010, by decide +kernel⟩,
   ⟨offer (tS 0) R.CVU_TABLE 0x12000010, taken (offer (tS 0) R.CVU_TABLE 0x12000010) R.CVU_TABLE 0x12000010, 0x800, 1, 0x12000010, by decide +kernel⟩⟩

end P07

namespace P08
def tm : Nat := threadMid 15 8 7
def mbox : State := (live.wf (R.CLU_SPM_CFG 15) F.CLU_SPM_CFG_MBOX_EN 1).wf (R.CLU_SPM_CFG 15) F.CLU_SPM_CFG_MBOX_BASE 16
def vlt : State := { (live.setBytes .vault 0x3FFC0 (toLe 64 0x123456789)) with wipes := [] }
def semO (n : Nat) (x : SemSt) (s : State := live) : State := { s with sems := s.sems.set (fun _ => {}) n x }
def wt (m : Nat) : SemWait := { mid := m, gen := 1 }
def own (m : Nat) (ws : List SemWait := []) : SemSt := { owner := some (m, 1), waiters := ws }
def dLive : State := (((live.wf (R.DMC_CH_STATUS 7) F.DMC_CH_STATUS_STATE 3).wf (R.DMC_CH_STATUS 7) F.DMC_CH_STATUS_CAP 128).wr R.DMC_MAP 0x8002).wf R.DMC_GSTATUS F.DMC_GSTATUS_INSTALLED 128
def dTop : Nat := 128 * 2 ^ 30 - 1
def frz (tmo : Bool := false) : State := { (dLive.wf (R.DMC_CH_STATUS 7) F.DMC_CH_STATUS_STATE 4) with dmcs := [(7, { wq := [{ line := 5, mask := 3, old := [1, 2] }], rq := [{ line := 6 }], tmo := tmo })] }
def rdS : State := { dLive with dmcs := [(7, { rq := [{ line := 6 }, { line := 9, mid := 3, data := toLe 64 0x12345 }] })] }
def trn : State := live.wf (R.DMC_CH_STATUS 7) F.DMC_CH_STATUS_STATE 1
def fil : State := live.wf (R.DMC_CH_STATUS 7) F.DMC_CH_STATUS_STATE 2
def twoCh : State := (((live.wf (R.DMC_CH_STATUS 6) F.DMC_CH_STATUS_STATE 3).wf (R.DMC_CH_STATUS 6) F.DMC_CH_STATUS_CAP 64).wf (R.DMC_CH_STATUS 7) F.DMC_CH_STATUS_STATE 3).wf (R.DMC_CH_STATUS 7) F.DMC_CH_STATUS_CAP 64
def scr : State := { (dLive.wf R.ECS_SCRUB_CFG F.ECS_SCRUB_CFG_MODE 1) with dmcs := [(7, { scrub := 5 })] }
def scrEnd : State := { (dLive.wf R.ECS_SCRUB_CFG F.ECS_SCRUB_CFG_MODE 2) with dmcs := [(7, { scrub := 2 ^ 31 - 1 })] }
def ecsA : State := live.wr (R.ECS_CLEAR 0) 3
def cp : State := { live with ecs := { copying := [3, 9] } }
def spv : W32 := 0xB1000000 + 0x1FFFF

/-- States and operands that meet the hypotheses of clauses 1, 2, 3, 4 of ScratchVaultComplete. -/
theorem met_ScratchVaultComplete_a :
    (∃ (s : State) (c bank : Nat), c < 16 ∧ s.fd (R.CLU_SPM_CFG c) F.CLU_SPM_CFG_DMA_WARN ≠ 0) ∧
    (∃ (s : State) (mid c addr m : Nat) (bs : List Byte), c < 16 ∧ bs ≠ [] ∧ addr + bs.length ≤ spadSize c ∧ s.mailboxOf c addr = some m) ∧
    (∃ (s : State) (mid : Nat) (gen : BitVec 8) (c addr : Nat), c < 16 ∧ addr < 2 ^ 19 ∧ 0x800 ≤ mid ∧ mid ≤ 0x807 ∧ s.Reached mid gen (R.CLU_SPM_CLEAR c) (BitVec.ofNat 32 addr)) ∧
    (∃ (s : State) (mid : Nat) (gen : BitVec 8) (a n : Nat), s.vaultWiping = false ∧ s.flag R.MGT_VAULT_STATUS F.MGT_VAULT_STATUS_RETIRED = false ∧ 0x800 ≤ mid ∧ mid ≤ 0x808 ∧ a + n ≤ 0x40000 ∧ n ≠ 0 ∧ a / 64 = (a + n - 1) / 64 ∧ ((mid = 0x808 ∨ s.vaultPage R.MGT_VAULT_HIDE a = false)) ∧ s.spmPoisoned 17 a n = false) :=
  ⟨⟨live.wf (R.CLU_SPM_CFG 15) F.CLU_SPM_CFG_DMA_WARN 9, 15, 7, by decide +kernel⟩,
   ⟨mbox, 3, 15, 1024 + 4607, tm, [5], by decide +kernel⟩,
   ⟨{ live with spmBad := [spmKey 15 0x7FFFF] }, 0x800, 1, 15, 0x7FFFF, by delta Sys2Proof.Machine.State.Reached; decide +kernel⟩,
   ⟨vlt, 0x800, 1, 0x3FFC0, 4, by decide +kernel⟩⟩

/-- States and operands that meet the hypotheses of clauses 4, 5, 6, 7 of ScratchVaultComplete. -/
theorem met_ScratchVaultComplete_b :
    (∃ (s : State) (mid : Nat) (gen : BitVec 8) (a n : Nat), s.vaultWiping = false ∧ s.flag R.MGT_VAULT_STATUS F.MGT_VAULT_STATUS_RETIRED = false ∧ 0x800 ≤ mid ∧ mid ≤ 0x808 ∧ a + n ≤ 0x40000 ∧ n ≠ 0 ∧ a / 64 = (a + n - 1) / 64 ∧ ((mid = 0x808 ∨ s.vaultPage R.MGT_VAULT_HIDE a = false)) ∧ s.spmPoisoned 17 a n = false) ∧
    (∃ (s : State) (mid : Nat) (gen : BitVec 8) (a n : Nat) (bs : List Byte), s.vaultWiping = false ∧ s.flag R.MGT_VAULT_STATUS F.MGT_VAULT_STATUS_RETIRED = false ∧ 0x800 ≤ mid ∧ mid ≤ 0x808 ∧ a + n ≤ 0x40000 ∧ n ≠ 0 ∧ a / 64 = (a + n - 1) / 64 ∧ s.vaultPage R.MGT_VAULT_LOCK a = false) ∧
    (∃ (s : State) (mid : Nat) (gen : BitVec 8) (j : Nat) (v : W32), j < 2 ∧ 0x800 ≤ mid ∧ mid ≤ 0x808 ∧ s.Reached mid gen (R.MGT_VAULT_LOCK j) v) ∧
    (∃ (s : State) (mid : Nat) (gen : BitVec 8) (j : Nat) (v : W32), j < 2 ∧ 0x800 ≤ mid ∧ mid ≤ 0x808 ∧ s.Reached mid gen (R.MGT_VAULT_HIDE j) v) :=
  ⟨⟨vlt.wr (R.MGT_VAULT_HIDE 1) 0xFFFFFFFF, 0x808, 1, 0x3FFC0, 64, by decide +kernel⟩,
   ⟨vlt, 0x807, 1, 0x3FFFE, 2, [5, 6, 7], by decide +kernel⟩,
   ⟨live.wr (R.MGT_VAULT_LOCK 1) 5, 0x800, 1, 1, 0x80000000, by delta Sys2Proof.Machine.State.Reached; decide +kernel⟩,
   ⟨live.wr (R.MGT_VAULT_HIDE 0) 5, 0x807, 1, 0, 0x80000000, by delta Sys2Proof.Machine.State.Reached; decide +kernel⟩⟩

/-- States and operands that meet the hypotheses of clauses 8, 9, 10 of ScratchVaultComplete. -/
theorem met_ScratchVaultComplete_c :
    (∃ (s u : State) (mid : Nat) (gen : BitVec 8) (v : W32), s.takePair R.MGT_VAULT_WIPE mid gen v = some u ∧ 0x800 ≤ mid ∧ mid ≤ 0x808 ∧ bitAt v.toNat 0 = true) ∧
    (∃ (s : State) (c : Nat) (rest : List Nat), s.wipes = c :: rest ∧ c < 16 ∧ s.flag R.MGT_VAULT_STATUS F.MGT_VAULT_STATUS_WIPING = false) ∧
    (∃ s : State, s.flag R.MGT_VAULT_STATUS F.MGT_VAULT_STATUS_WIPING = true) :=
  ⟨⟨offer live R.MGT_VAULT_WIPE 1, taken (offer live R.MGT_VAULT_WIPE 1) R.MGT_VAULT_WIPE 1, 0x800, 1, 1, by decide +kernel⟩,
   ⟨{ live with wipes := [5, 3] }, 5, [3], by decide +kernel⟩,
   ⟨(vlt.wr (R.MGT_VAULT_LOCK 1) 5).wf R.MGT_VAULT_STATUS F.MGT_VAULT_STATUS_WIPING 1 |>.wf R.MGT_VAULT_STATUS F.MGT_VAULT_STATUS_CAUSE 5, by decide +kernel⟩⟩

/-- States and operands that meet the hypotheses of clauses 1, 2, 3 of SemaphoresComplete. -/
theorem met_SemaphoresComplete_a :
    (∃ (s : State) (mid : Nat) (gen : BitVec 8) (n : Nat), SemServes s mid gen n (R.SEM_ACQ n) false ∧ (s.sem n).owner = none) ∧
    (∃ (s : State) (mid : Nat) (gen : BitVec 8) (n : Nat), SemServes s mid gen n (R.SEM_ACQ n) false ∧ (s.sem n).owner = none) ∧
    (∃ (s : State) (mid : Nat) (gen : BitVec 8) (n : Nat) (o : Nat × BitVec 8), SemServes s mid gen n (R.SEM_ACQ n) false ∧ (s.sem n).owner = some o ∧ o ≠ (mid, gen) ∧ s.fd R.SEM_CFG F.SEM_CFG_TMO ≠ 0 ∧ s.semWaiters < 256) ∧
    (∃ (s : State) (mid : Nat) (gen : BitVec 8) (n : Nat) (o : Nat × BitVec 8), SemServes s mid gen n (R.SEM_TRY n) false ∧ (s.sem n).owner = some o ∧ o ≠ (mid, gen)) :=
  ⟨⟨semO 4095 { abandoned := true }, tm, 1, 4095, by delta SemServes; decide +kernel⟩,
   ⟨live, 0x800, 1, 4159, by delta SemServes; decide +kernel⟩,
   ⟨semO 0 (own 3), (tm), 1, 0, (3, 1), by delta SemServes; decide +kernel⟩,
   ⟨semO 4095 (own 3), 0xA60, 1, 4095, (3, 1), by delta SemServes; decide +kernel⟩⟩

/-- States and operands that meet the hypotheses of clauses 4, 5, 6, 7 of SemaphoresComplete. -/
theorem met_SemaphoresComplete_b :
    (∃ (s : State) (mid : Nat) (gen : BitVec 8) (n : Nat), SemServes s mid gen n (R.SEM_TRY n) false ∧ (s.sem n).owner = none) ∧
    (∃ (s : State) (n mid : Nat) (w : SemWait), (s.sem n).waiters.find? (fun w => w.mid == mid) = some w) ∧
    (∃ (s : State) (mid : Nat) (gen : BitVec 8) (n : Nat), SemServes s mid gen n (R.SEM_REL n) true ∧ (s.sem n).owner = some (mid, gen)) ∧
    (∃ (s : State) (mid : Nat) (gen : BitVec 8) (n m : Nat) (g : BitVec 8), n < 4160 ∧ 0x800 ≤ mid ∧ mid ≤ 0x807 ∧ s.Reached mid gen R.SEM_FORCE (BitVec.ofNat 32 n) ∧ (s.sem n).owner = some (m, g)) :=
  ⟨⟨live, tm, 1, 0, by delta SemServes; decide +kernel⟩,
   ⟨semO 7 (own 3 [wt 4, wt tm]), 7, tm, wt tm, by decide +kernel⟩,
   ⟨semO 4095 (own tm [wt 4, wt 5]), tm, 1, 4095, by delta SemServes; decide +kernel⟩,
   ⟨semO 4095 (own 3), 0x800, 1, 4095, 3, 1, by delta Sys2Proof.Machine.State.Reached; decide +kernel⟩⟩

/-- States and operands that meet the hypotheses of clauses 7, 8, 9 of SemaphoresComplete. -/
theorem met_SemaphoresComplete_c :
    (∃ (s : State) (mid : Nat) (gen : BitVec 8) (n m : Nat) (g : BitVec 8), n < 4160 ∧ 0x800 ≤ mid ∧ mid ≤ 0x807 ∧ s.Reached mid gen R.SEM_FORCE (BitVec.ofNat 32 n) ∧ (s.sem n).owner = some (m, g)) ∧
    (∃ (s : State) (m why : Nat) (rest : List (Nat × Nat)), s.abandons = (m, why) :: rest) ∧
    (∃ (s : State) (m why : Nat) (rest : List (Nat × Nat)), s.abandons = (m, why) :: rest) ∧
    (∃ (s : State) (mid : Nat) (gen : BitVec 8) (j : Nat), j < 64 ∧ SemServes s mid gen (4096 + j) (R.SEM_RENEW j) false ∧ (s.sem (4096 + j)).owner = some (mid, gen)) :=
  ⟨⟨semO 4159 (own 3 [wt 4]), 0x807, 1, 4159, 3, 1, by delta Sys2Proof.Machine.State.Reached; decide +kernel⟩,
   ⟨{ semO 7 (own 3 [wt 4]) (semO 9 (own 3)) with abandons := [(3, 1), (5, 2)] }, 3, 1, [(5, 2)], by decide +kernel⟩,
   ⟨{ live with abandons := [(3, 1)] }, 3, 1, [], by decide +kernel⟩,
   ⟨semO 4159 (own 0x807), 0x807, 1, 63, by delta SemServes; decide +kernel⟩⟩

/-- States and operands that meet the hypotheses of clauses 10 of SemaphoresComplete. -/
theorem met_SemaphoresComplete_d :
    (∃ (s : State) (j m : Nat) (g : BitVec 8), j < 64 ∧ (s.sem (4096 + j)).owner = some (m, g)) :=
  ⟨semO 4159 (own 0x807 [wt 0x800]), 63, 0x807, 1, by decide +kernel⟩

/-- States and operands that meet the hypotheses of clauses 1, 2, 3, 4 of DramCommandsComplete. -/
theorem met_DramCommandsComplete_a :
    (∃ (s : State) (mid : Nat) (gen : BitVec 8) (a n : Nat), DmcServes s mid gen (a / 64) n ∧ ((s.dmc n).rq.filter (fun r => lineSub r.line == lineSub (a / 64))).length < 64 ∧ (∀ w ∈ (s.dmc n).wq, w.line ≠ a / 64)) ∧
    (∃ (s : State) (mid : Nat) (gen : BitVec 8) (a n : Nat) (mask : W64) (data : List Byte), DmcServes s mid gen (a / 64) n ∧ ((s.dmc n).wq.filter (fun w => lineSub w.line == lineSub (a / 64))).length < 64 ∧ a / 64 ∉ s.dramBad) ∧
    (∃ (s : State) (ch i : Nat) (r : DmcRd), ch < 8 ∧ s.chState ch = 3 ∧ (s.dmc ch).rq[i]? = some r ∧ r.line ∉ s.dramBad) ∧
    (∃ (s : State) (ch dimm : Nat), ch < 8 ∧ s.chState ch = 3) :=
  ⟨⟨dLive, 3, 1, dTop, 7, by delta DmcServes; decide +kernel⟩,
   ⟨dLive, 3, 1, dTop, 7, 0xF00000000000000F, toLe 64 0x123456789, by delta DmcServes; decide +kernel⟩,
   ⟨rdS, 7, 1, { line := 9, mid := 3, data := toLe 64 0x12345 }, by decide +kernel⟩,
   ⟨rdS, 7, 1, by decide +kernel⟩⟩

/-- States and operands that meet the hypotheses of clauses 5, 6, 7 of DramCommandsComplete. -/
theorem met_DramCommandsComplete_b :
    (∃ (s : State) (ch : Nat), ch < 8 ∧ s.chState ch = 4 ∧ (s.dmc ch).tmo = false) ∧
    (∃ (s u : State) (mid : Nat) (gen : BitVec 8) (ch : Nat), ch < 8 ∧ s.takePair (R.DMC_CH_CTRL ch) mid gen 1 = some u ∧ s.ctrlMay mid = true ∧ s.chState ch = 4) ∧
    (∃ (s u : State) (mid : Nat) (gen : BitVec 8) (ch : Nat) (thaw : Bool), ch < 8 ∧ s.takePair (R.DMC_CH_CTRL ch) mid gen (BitVec.ofNat 32 (2 + b2n thaw)) = some u ∧ s.ctrlMay mid = true ∧ (s.chState ch = 3 ∨ s.chState ch = 4)) ∧
    (∃ (s u : State) (mid : Nat) (gen : BitVec 8) (ch : Nat) (thaw : Bool), ch < 8 ∧ s.takePair (R.DMC_CH_CTRL ch) mid gen (BitVec.ofNat 32 (2 + b2n thaw)) = some u ∧ s.ctrlMay mid = true ∧ (s.chState ch = 3 ∨ s.chState ch = 4)) :=
  ⟨⟨frz, 7, by decide +kernel⟩,
   ⟨offer (frz true) (R.DMC_CH_CTRL 7) 1, taken (offer (frz true) (R.DMC_CH_CTRL 7) 1) (R.DMC_CH_CTRL 7) 1, 0x800, 1, 7, by decide +kernel⟩,
   ⟨offer (frz true) (R.DMC_CH_CTRL 7) 3, taken (offer (frz true) (R.DMC_CH_CTRL 7) 3) (R.DMC_CH_CTRL 7) 3, 0x800, 1, 7, true, by decide +kernel⟩,
   ⟨offer rdS (R.DMC_CH_CTRL 7) 2, taken (offer rdS (R.DMC_CH_CTRL 7) 2) (R.DMC_CH_CTRL 7) 2, 0x800, 1, 7, false, by decide +kernel⟩⟩

/-- States and operands that meet the hypotheses of clauses 8, 10, 11 of DramCommandsComplete. -/
theorem met_DramCommandsComplete_c :
    (∃ (s u : State) (mid : Nat) (gen : BitVec 8) (v : W32), s.takePair R.DMC_MAP mid gen v = some u) ∧
    (∃ (s u : State) (mid : Nat) (gen : BitVec 8) (v : W32), s.takePair R.DMC_MAP mid gen v = some u) ∧
    (∃ (s : State) (ch speed dimms ranks density cap : Nat), ch < 8 ∧ s.chState ch = 1 ∧ 1 ≤ cap ∧ cap ≤ 128 ∧ 1 ≤ dimms ∧ dimms ≤ 2 ∧ 1 ≤ ranks ∧ ranks ≤ 2 ∧ speed ≤ 2 ∧ density ≤ 1) ∧
    (∃ (s : State) (ch : Nat), ch < 8 ∧ s.chState ch = 2) :=
  ⟨⟨offer twoCh R.DMC_MAP 0xC001, taken (offer twoCh R.DMC_MAP 0xC001) R.DMC_MAP 0xC001, 0x800, 1, 0xC001, by decide +kernel⟩,
   ⟨offer live R.DMC_MAP 0xC001, taken (offer live R.DMC_MAP 0xC001) R.DMC_MAP 0xC001, 0x800, 1, 0xC001, by decide +kernel⟩,
   ⟨trn, 7, 2, 2, 2, 1, 128, by decide +kernel⟩,
   ⟨fil, 7, by decide +kernel⟩⟩

/-- States and operands that meet the hypotheses of clauses 12 of DramCommandsComplete. -/
theorem met_DramCommandsComplete_d :
    (∃ s : State, 3 ≤ s.fd R.MGT_BOOT_STATUS F.MGT_BOOT_STATUS_STEP) :=
  ⟨live.wf R.MGT_BOOT_STATUS F.MGT_BOOT_STATUS_STEP 3, by decide +kernel⟩

/-- States and operands that meet the hypotheses of clauses 1, 2, 3 of EcsCommandsComplete. -/
theorem met_EcsCommandsComplete_a :
    (∃ (s : State) (ch mem off lag a : Nat), ch < 8 ∧ s.scrubs = true ∧ s.chState ch = 3 ∧ s.unmapAddr (s.rd R.DMC_MAP).toNat ch ((s.dmc ch).scrub * 64) = some a ∧ a / 64 ∉ s.dramBad ∧ (∀ w ∈ (s.dmc ch).wq, w.line ≠ a / 64) ∧ s.retiredPage a 64 = none) ∧
    (∃ (s : State) (ch mem off lag a : Nat), ch < 8 ∧ s.scrubs = true ∧ s.chState ch = 3 ∧ s.unmapAddr (s.rd R.DMC_MAP).toNat ch ((s.dmc ch).scrub * 64) = some a ∧ a / 64 ∉ s.dramBad ∧ (∀ w ∈ (s.dmc ch).wq, w.line ≠ a / 64) ∧ s.retiredPage a 64 = none) ∧
    (∃ (s : State) (ch mem off lag corr : Nat) (sp : Space), 8 ≤ ch ∧ corr ≠ 0 ∧ arrayOf mem = some (sp, none)) ∧
    (∃ (s u : State) (mid : Nat) (gen : BitVec 8) (v : W32), s.takePair R.ECS_RT_ENT mid gen v = some u) :=
  ⟨⟨scr, 7, 0, 0, 0, 320, by decide +kernel⟩,
   ⟨scrEnd, 7, 0, 0, 0, 2 ^ 37 - 64, by decide +kernel⟩,
   ⟨live, 8, 0x32, 2 ^ 16 - 8, 0, 1, .mgmtIram, by decide +kernel⟩,
   ⟨offer (live.wr R.ECS_RT_IDX 63) R.ECS_RT_ENT 0x80000005, taken (offer (live.wr R.ECS_RT_IDX 63) R.ECS_RT_ENT 0x80000005) R.ECS_RT_ENT 0x80000005, 0x800, 1, 0x80000005, by decide +kernel⟩⟩

/-- States and operands that meet the hypotheses of clauses 4, 5, 6 of EcsCommandsComplete. -/
theorem met_EcsCommandsComplete_b :
    (∃ (s u : State) (mid : Nat) (gen : BitVec 8) (v : W32) (x : Space × Option Nat), s.takePair R.ECS_SP_ENT mid gen v = some u ∧ arrayOf (bitsOf v.toNat 24 6) = some x) ∧
    (∃ (s : State) (i : Nat), i ∈ s.ecs.copying) ∧
    (∃ (s : State) (mid : Nat) (gen : BitVec 8) (v : W32) (line : Nat), s.Reached mid gen (R.ECS_CLEAR 1) v ∧ 0x800 ≤ mid ∧ mid ≤ 0x807 ∧ bitAt (s.rd (R.ECS_CLEAR 0)).toNat 31 = false ∧ line = v.toNat + (s.rd (R.ECS_CLEAR 0)).toNat % 4 * 2 ^ 32) :=
  ⟨⟨offer (live.wr R.ECS_SP_IDX 31) R.ECS_SP_ENT spv, taken (offer (live.wr R.ECS_SP_IDX 31) R.ECS_SP_ENT spv) R.ECS_SP_ENT spv, 0x800, 1, spv, (.mgmtSpad, some 16), by decide +kernel⟩,
   ⟨cp, 9, by decide +kernel⟩,
   ⟨ecsA, 0x807, 1, 0xFFFFFFFF, 0x3FFFFFFFF, by delta Sys2Proof.Machine.State.Reached; decide +kernel⟩⟩

end P08

namespace P09
def recOn : State := ((((((live.wf R.GLB_MODE F.GLB_MODE_RECORD 1).wf R.GLB_MODE F.GLB_MODE_FREEZE 1).wf R.REC_CTRL F.REC_CTRL_RUN 1).wf R.REC_STATUS F.REC_STATUS_STATE 2).wr R.REC_STAGE 0x02000100).wr R.REC_SIG 0x0A000010).wr R.REC_IDX 0x80 |>.wf R.REC_SLOTS F.REC_SLOTS_P 4 |>.wr64 (R.REC_HEAD 0) 5
def mem2 : State := ((recOn.setNs 9 1).setNs 63 1).wf (R.REC_NS 63) F.REC_NS_EN 1 |>.wf (R.REC_NS 9) F.REC_NS_EN 1
def x9 : SigRec := { sig := 1023, sample := 0x80005, qual := 3, time := 123456 }
def fifo (s : State) : State := s.setRec { s.rcd with fifos := [(20, [x9, x9])], rr := 3 }
def popd (s : State) : State := s.setRec { s.rcd with fifos := s.rcd.fifos.set (fun _ => []) 20 [x9], rr := 21 }
def sigd : State := fifo (recOn.stN .dram (0x100000 + 1023 * 16) 8 (2 ^ 63))
def lg : RecLog := { buf := 1, lsn := 4, records := 3, used := 40, inBlock := 3, opened := 0, tseal := 7 }
def logS (s : State) : State := s.setRec { s.rcd with log := some { lg with lsn := 0, buf := 0 } }
def sealdS : State := let s := mem2; s.setRec { s.rcd with sealed := [lg], valid := [(slotKey 63 0, (3, 7))] }
def flyS (k : NvKind) (left : Nat := 1) : State := mem2.setRec { mem2.rcd with fly := [{ log := lg, n := 63, j := 3, left := left }], ios := [{ n := 9, kind := .flush }, { n := 63, kind := k, len := 4096 }], valid := [(slotKey 63 0, (3, 7))], dirty := [9] }
def io63 (k : NvKind) : NvIo := { n := 63, kind := k, len := 4096 }
def resm : State := ((recOn.wf R.REC_STATUS F.REC_STATUS_STATE 1).wf (R.REC_NS 63) F.REC_NS_EN 1).wf (R.REC_NS 9) F.REC_NS_EN 1
def lblS : State := (recOn.setNs 63 1).setRec { recOn.rcd with labelSeq := 8 }
def lbl : List Byte := lblS.labelBytes 63
def drv : DriveInfo := { n := 63, cap := 2 ^ 30, label := lbl, area := [] }
def bad9 : DriveInfo := { n := 9, label := [1, 2] }
def lbl' : Label := let at_ (o n : Nat) : Nat := leNat ((lbl.drop o).take n); { raft := at_ 6 2, n := at_ 8 1, p := at_ 12 4, seq := at_ 16 8, mask := at_ 32 8, rgn := (lbl.drop 64).take 1024 }
def resU (ds : List DriveInfo) : State := (resm.offered ds).foldl (fun t d => t.nsResume (some lbl') d) ((List.range 64).foldl (fun t n => t.setNs n 0)
      (resm.setRec { resm.rcd with valid := [], tmap := [], wp := [], unflushed := [], dirty := [], ios := [] }))
theorem resU_eq (ds : List DriveInfo) : resU ds = (resm.offered ds).foldl (fun t d => t.nsResume (some lbl') d) ((List.range 64).foldl (fun t n => t.setNs n 0)
      (resm.setRec { resm.rcd with valid := [], tmap := [], wp := [], unflushed := [], dirty := [], ios := [] })) := rfl
def trg : State := mem2.wr (R.REC_TRIG_CFG 63) 0x80000000 |>.wf (R.REC_TRIG_CFG 63) F.REC_TRIG_CFG_EN 1 |>.setRgnState 0 3
def armed (st : Nat) (s : State := mem2) : State := (s.setRgnQ 15 0 (st + 63 * 256)).setRgnQ 15 1 0
def cellS : State := let s := ((armed 1).setSlot 9 { used := true, place := .release }).relPush 146 { id := 9 }; s.setRec { s.rcd with cells := [(15, 10)] }
def rel9 : RelEnt := ((cellS.relList 146).headD {})
def rc (s : State) (op arg : Nat) : State := offer s R.REC_RCTL (rctlWord op arg)
def rcU (s : State) (op arg : Nat) : State := taken (rc s op arg) R.REC_RCTL (rctlWord op arg)
def cm (a0 a1 a2 a3 a4 : W32) : State := ((((recOn.wr (R.REC_ARG 0) a0).wr (R.REC_ARG 1) a1).wr (R.REC_ARG 2) a2).wr (R.REC_ARG 3) a3).wr (R.REC_ARG 4) a4
def ent (s : State) : State := let t := s.setRec { s.rcd with valid := [(slotKey 63 3, (5, 7)), (slotKey 63 2, (4, 6))] }; (t.setBytes .dram (t.mirrorAt 63 3) (toLe 8 (2 ^ 63 + 5) ++ toLe 8 3 ++ toLe 8 99 ++ toLe 8 (3 + 63 * 2 ^ 32 + 9 * 2 ^ 40))).setBytes .dram (t.mirrorAt 63 2) (toLe 8 (2 ^ 63 + 4) ++ toLe 8 3 ++ toLe 8 50)
def blk : List Byte := let h := toLe 8 5 ++ toLe 2 0 ++ toLe 2 16; h ++ toLe 4 (crc32c h)
def rdCmd : State := ent (cm 3 63 5 0 0x00080000)
def off9 : State := (live.wf R.REC_SLOTS F.REC_SLOTS_P 4).wf R.DMC_GSTATUS F.DMC_GSTATUS_INSTALLED 1
theorem crcReflSteps_lt (n c : Nat) (h : c < 2 ^ 32) : crcReflSteps 0x82F63B78 n c < 2 ^ 32 := by
  induction n generalizing c with
  | zero => exact h
  | succ n ih =>
    unfold crcReflSteps
    apply ih
    split
    · exact Nat.xor_lt_two_pow (by omega) (by decide)
    · omega

theorem crc32c_lt (bs : List Byte) : crc32c bs < 2 ^ 32 := by
  have h : ∀ (l : List Byte) (c : Nat), c < 2 ^ 32 → crcRefl 0x82F63B78 c l < 2 ^ 32 := by
    intro l
    induction l with
    | nil => intro c hc; exact hc
    | cons b l ih =>
      intro c hc
      exact ih _ (crcReflSteps_lt 8 _ (Nat.xor_lt_two_pow hc (Nat.lt_trans b.isLt (by decide))))
  exact Nat.xor_lt_two_pow (h bs _ (by decide)) (by decide)

theorem leNat_toLe4 (v : Nat) (h : v < 2 ^ 32) : leNat (toLe 4 v) = v := by
  simp only [toLe, leNat, BitVec.toNat_ofNat]; omega

theorem lbl_crc : crc32c (lbl.take 4092) = leNat ((lbl.drop 4092).take 4) := by
  have hl : (lblS.labelBody 63).length = 4092 := by decide +kernel
  have h : lbl = lblS.labelBody 63 ++ toLe 4 (crc32c (lblS.labelBody 63)) := rfl
  rw [h, List.take_left' hl, List.drop_left' hl, List.take_of_length_le (by simp [toLe]), leNat_toLe4 _ (crc32c_lt _)]

theorem lbl_parsed : parseLabel lbl = some lbl' := by
  unfold parseLabel
  rw [if_pos ⟨by decide +kernel, lbl_crc, by decide +kernel, by decide +kernel⟩]
  rfl

theorem drv_label : drv.label = lbl := rfl
theorem bestLabel_two (s : State) (d e : DriveInfo) (l : Label)
    (h1 : (decide (d.n < 64) && s.flag (R.REC_NS d.n) F.REC_NS_EN) = true)
    (h2 : (decide (e.n < 64) && s.flag (R.REC_NS e.n) F.REC_NS_EN) = true) (h3 : parseLabel d.label = none)
    (h4 : parseLabel e.label = some l) (h5 : s.labelFits e l = true ∧ e.lbaOk = true) :
    s.bestLabel (s.offered [d, e]) = some l := by
  simp only [State.offered, List.filter_cons, List.filter_nil, h1, h2, if_true, State.bestLabel, List.foldl_cons, List.foldl_nil, h3, h4, h5,
    and_self]
theorem lbl_best : resm.bestLabel (resm.offered [bad9, drv]) = some lbl' :=
  bestLabel_two _ _ _ _ (by decide +kernel) (by decide +kernel) (by decide +kernel) (drv_label ▸ lbl_parsed) (by decide +kernel)

/-- States and operands that meet the hypotheses of clauses 1, 2, 3 of RecorderWorkCompletes. -/
theorem met_RecorderWorkCompletes_a :
    (∃ (s v u : State) (p : Nat) (x : SigRec) (rest : List SigRec), s.nextPort = some p ∧ s.rcd.fifos.get (fun _ => []) p = x :: rest ∧ v = s.setRec { s.rcd with fifos := s.rcd.fifos.set (fun _ => []) p rest, rr := p + 1 } ∧ v.compress x false false = some u) ∧
    (∃ (s v u : State) (p : Nat) (x : SigRec) (rest : List SigRec), s.nextPort = some p ∧ s.rcd.fifos.get (fun _ => []) p = x :: rest ∧ v = s.setRec { s.rcd with fifos := s.rcd.fifos.set (fun _ => []) p rest, rr := p + 1 } ∧ v.compress x false false = some u) ∧
    (∃ (s v u : State) (p a : Nat) (x : SigRec) (rest : List SigRec), s.nextPort = some p ∧ s.rcd.fifos.get (fun _ => []) p = x :: rest ∧ v = s.setRec { s.rcd with fifos := s.rcd.fifos.set (fun _ => []) p rest, rr := p + 1 } ∧ x.sig.toNat < s.sigCount ∧ a = s.sigAt x.sig.toNat ∧ bitAt (s.ldN .dram a 8) 63 = true ∧ s.storeIt (s.ldN .dram a 8) (s.ldN .dram (a + 8) 8) x = true ∧ v.appendRecord x = some u) ∧
    (∃ (s : State) (l : RecLog), s.rcd.log = some l ∧ ((s.mode F.GLB_MODE_RECORD = false ∨ s.flag R.REC_CTRL F.REC_CTRL_RUN = false ∨ s.rcd.hold = true))) :=
  ⟨⟨sigd, popd sigd, ((popd sigd).compress x9 false false).getD sigd, 20, x9, [x9], by decide +kernel⟩,
   ⟨fifo recOn, popd (fifo recOn), ((popd (fifo recOn)).compress x9 false false).getD sigd, 20, x9, [x9], by decide +kernel⟩,
   ⟨sigd, popd sigd, ((popd sigd).appendRecord x9).getD sigd, 20, 0x100000 + 1023 * 16, x9, [x9], by decide +kernel⟩,
   ⟨(logS mem2).wf R.GLB_MODE F.GLB_MODE_RECORD 0, { lg with lsn := 0, buf := 0 }, by decide +kernel⟩⟩

/-- States and operands that meet the hypotheses of clauses 3, 4, 5 of RecorderWorkCompletes. -/
theorem met_RecorderWorkCompletes_b :
    (∃ (s : State) (l : RecLog), s.rcd.log = some l ∧ ((s.mode F.GLB_MODE_RECORD = false ∨ s.flag R.REC_CTRL F.REC_CTRL_RUN = false ∨ s.rcd.hold = true))) ∧
    (∃ (s : State) (l : RecLog) (rest : List RecLog) (n j : Nat), s.rcd.sealed = l :: rest ∧ s.rcd.fly.length < 16 ∧ s.pickSlot s.memberOrder = some (n, j) ∧ (∀ f ∈ s.rcd.fly, f.n ≠ n)) ∧
    (∃ (s : State) (i : Nat) (io : NvIo), s.rcd.ios[i]? = some io) ∧
    (∃ (s : State) (i : Nat) (io : NvIo), s.rcd.ios[i]? = some io) :=
  ⟨⟨(logS recOn).setRec { (logS recOn).rcd with hold := true }, { lg with lsn := 0, buf := 0 }, by decide +kernel⟩,
   ⟨sealdS, lg, [], 9, 0, by decide +kernel⟩,
   ⟨flyS .inval, 1, io63 .inval, by decide +kernel⟩,
   ⟨flyS .data, 0, { n := 9, kind := .flush }, by decide +kernel⟩⟩

/-- States and operands that meet the hypotheses of clauses 6, 8, 9 of RecorderWorkCompletes. -/
theorem met_RecorderWorkCompletes_c :
    (∃ (s : State) (i : Nat) (io : NvIo) (f : RecFly), s.rcd.ios[i]? = some io ∧ io.kind = .final ∧ s.rcd.fly.find? (fun f => f.n == io.n) = some f ∧ io.n ∉ s.rcd.leaving) ∧
    (∃ (s : State) (ds : List DriveInfo), s.recState = 1 ∧ s.bestLabel (s.offered ds) = none) ∧
    (∃ (s : State) (ds : List DriveInfo), s.recState = 1 ∧ s.bestLabel (s.offered ds) = none) ∧
    (∃ (s u : State) (ds : List DriveInfo) (l : Label), s.recState = 1 ∧ s.bestLabel (s.offered ds) = some l ∧ u = (s.offered ds).foldl (fun t d => t.nsResume (some l) d) ((List.range 64).foldl (fun t n => t.setNs n 0) (s.setRec { s.rcd with valid := [], tmap := [], wp := [], unflushed := [], dirty := [], ios := [] }))) :=
  ⟨⟨flyS .final, 1, io63 .final, { log := lg, n := 63, j := 3, left := 1 }, by decide +kernel⟩,
   ⟨resm, [bad9], by decide +kernel⟩,
   ⟨resm, [], by decide +kernel⟩,
   ⟨resm, resU [bad9, drv], [bad9, drv], lbl', by decide +kernel, lbl_best, resU_eq _⟩⟩

/-- States and operands that meet the hypotheses of clauses 10, 11 of RecorderWorkCompletes. -/
theorem met_RecorderWorkCompletes_d :
    (∃ (s : State) (n cause : Nat), n < 64 ∧ s.nsState n = 1) ∧
    (∃ (s : State) (n cause : Nat), n < 64 ∧ s.nsState n = 1) ∧
    (∃ (s : State) (n : Nat), n < 64 ∧ s.nsState n = 1 ∧ (∃ io ∈ s.rcd.ios, io.n = n)) :=
  ⟨⟨flyS .final, 63, 2, by decide +kernel⟩,
   ⟨flyS .final, 9, 3, by decide +kernel⟩,
   ⟨flyS .data, 63, by decide +kernel⟩⟩

/-- States and operands that meet the hypotheses of clauses 1, 2, 3, 4 of RecorderRegionsComplete. -/
theorem met_RecorderRegionsComplete_a :
    (∃ (s : State) (src r : Nat) (rest : List Nat), s.rcd.trigs = src :: rest ∧ TriggerMakes s src r) ∧
    (∃ (s : State) (src r : Nat), TriggerMakes s src r) ∧
    (∃ (s : State) (e : RelEnt) (rest : List RelEnt) (r : Nat), s.relList 146 = e :: rest ∧ s.releasedBefore e.ord = false ∧ s.cellRegion e.id = some r) ∧
    (∃ (s : State) (r : Nat), r < 16 ∧ s.rgnState r = 1 ∧ (∀ w ∈ s.rcd.wants, w.1 ≠ r)) :=
  ⟨⟨trg.setRec { trg.rcd with trigs := [63, 4] }, 63, 1, [4], by delta TriggerMakes; decide +kernel⟩,
   ⟨trg, 63, 1, by delta TriggerMakes; decide +kernel⟩,
   ⟨cellS, rel9, [], 15, by decide +kernel⟩,
   ⟨armed 1, 15, by decide +kernel⟩⟩

/-- States and operands that meet the hypotheses of clauses 4, 5, 6 of RecorderRegionsComplete. -/
theorem met_RecorderRegionsComplete_b :
    (∃ (s : State) (r : Nat), r < 16 ∧ s.rgnState r = 1 ∧ (∀ w ∈ s.rcd.wants, w.1 ≠ r)) ∧
    (∃ (s u : State) (r : Nat), r < 16 ∧ s.rgnState r = 2 ∧ (∀ w ∈ s.rcd.wants, w.1 ≠ r) ∧ s.rcd.log = none ∧ u = s.until (s.rgnQ r 1 + bitsOf (s.rgnQ r 6) 16 12 * 10000000)) ∧
    (∃ (s u : State) (mid : Nat) (gen : BitVec 8) (caps : List (Nat × Nat)), s.takePair R.REC_RCTL mid gen (rctlWord 1 0) = some u ∧ s.formatOk = true) ∧
    (∃ (s u : State) (mid : Nat) (gen : BitVec 8) (caps : List (Nat × Nat)), s.takePair R.REC_RCTL mid gen (rctlWord 1 0) = some u ∧ s.formatOk = true) :=
  ⟨⟨armed 1 (logS mem2), 15, by decide +kernel⟩,
   ⟨armed 2, (armed 2).until 0, 15, by decide +kernel⟩,
   ⟨rc mem2 1 0, rcU mem2 1 0, 0x800, 1, [(63, 2 ^ 33), (9, 2 ^ 30)], by decide +kernel⟩,
   ⟨rc recOn 1 0, rcU recOn 1 0, 0x800, 1, [], by decide +kernel⟩⟩

/-- States and operands that meet the hypotheses of clauses 7, 8 of RecorderRegionsComplete. -/
theorem met_RecorderRegionsComplete_c :
    (∃ (s u : State) (mid : Nat) (gen : BitVec 8) (n cap : Nat), n < 64 ∧ s.takePair R.REC_RCTL mid gen (rctlWord 2 n) = some u ∧ s.rctlFree = true ∧ s.flag (R.REC_NS n) F.REC_NS_EN = true ∧ s.nsState n ≠ 1 ∧ cap ≠ 0 ∧ s.recP ≠ 0 ∧ slotsStart s.recP + s.recP * 2 ^ 22 ≤ cap) ∧
    (∃ (s u : State) (mid : Nat) (gen : BitVec 8) (n cap : Nat), n < 64 ∧ s.takePair R.REC_RCTL mid gen (rctlWord 2 n) = some u ∧ s.rctlFree = true ∧ s.flag (R.REC_NS n) F.REC_NS_EN = true ∧ s.nsState n ≠ 1 ∧ cap ≠ 0 ∧ s.recP ≠ 0 ∧ slotsStart s.recP + s.recP * 2 ^ 22 ≤ cap) ∧
    (∃ (s u : State) (mid : Nat) (gen : BitVec 8) (n : Nat), n < 64 ∧ s.takePair R.REC_RCTL mid gen (rctlWord 3 n) = some u ∧ s.rctlFree = true ∧ s.nsState n = 1) ∧
    (∃ (s u : State) (mid : Nat) (gen : BitVec 8) (n : Nat), n < 64 ∧ s.takePair R.REC_RCTL mid gen (rctlWord 3 n) = some u ∧ s.rctlFree = true ∧ s.nsState n = 1) :=
  ⟨⟨rc (mem2.setNs 63 7) 2 63, rcU (mem2.setNs 63 7) 2 63, 0x800, 1, 63, slotsStart 4 + 4 * 2 ^ 22, by decide +kernel⟩,
   ⟨rc (logS (mem2.setNs 63 7)) 2 63, rcU (logS (mem2.setNs 63 7)) 2 63, 0x800, 1, 63, slotsStart 4 + 4 * 2 ^ 22, by decide +kernel⟩,
   ⟨rc mem2 3 9, rcU mem2 3 9, 0x800, 1, 9, by decide +kernel⟩,
   ⟨rc (flyS .data) 3 63, rcU (flyS .data) 3 63, 0x800, 1, 63, by decide +kernel⟩⟩

/-- States and operands that meet the hypotheses of clauses 9, 10 of RecorderRegionsComplete. -/
theorem met_RecorderRegionsComplete_d :
    (∃ (s u : State) (mid : Nat) (gen : BitVec 8) (r : Nat), r < 16 ∧ s.takePair R.REC_RCTL mid gen (rctlWord 4 r) = some u ∧ s.rctlFree = true ∧ s.rgnState r = 3) ∧
    (∃ (s : State) (op arg : Nat), s.rcd.rctl = some (op, arg) ∧ (∀ io ∈ s.rcd.ios, io.kind.formats = false) ∧ arg ∉ s.rcd.joining ∧ arg ∉ s.rcd.leaving) :=
  ⟨⟨rc (armed 3) 4 15, rcU (armed 3) 4 15, 0x800, 1, 15, by decide +kernel⟩,
   ⟨(mem2.setRec { mem2.rcd with rctl := some (4, 15), ios := [io63 .data] }).wf R.REC_STATUS F.REC_STATUS_RCTL_BUSY 1, 4, 15, by decide +kernel⟩⟩

/-- States and operands that meet the hypotheses of clauses 1, 2, 3, 4 of RecorderCommandsComplete. -/
theorem met_RecorderCommandsComplete_a :
    (∃ (s : State) (mid : Nat) (gen : BitVec 8) (id : Nat), RecTakes s mid gen 1 ∧ id = s.recArg 0 % 2 ^ 24 ∧ id < s.sigCount) ∧
    (∃ (s : State) (mid : Nat) (gen : BitVec 8) (id : Nat), RecTakes s mid gen 2 ∧ id = s.recArg 0 % 2 ^ 24 ∧ id < s.sigCount) ∧
    (∃ (s : State) (mid : Nat) (gen : BitVec 8), RecTakes s mid gen 3) ∧
    (∃ (s u : State) (mid : Nat) (gen : BitVec 8) (k : Nat), RecTakes s mid gen 4 ∧ k = s.recArg 0 % 2048 ∧ u = s.setRec { s.rcd with curves := s.rcd.curves.set (fun _ => 0) k (s.rd64 (R.REC_ARG 2)) }) :=
  ⟨⟨cm 1023 0 0 0 0, 0x800, 1, 1023, by delta RecTakes Sys2Proof.Machine.State.Reached; decide +kernel⟩,
   ⟨cm 1023 0 5 6 7, 0x800, 1, 1023, by delta RecTakes Sys2Proof.Machine.State.Reached; decide +kernel⟩,
   ⟨(cm 2047 0 5 6 7).setRec { recOn.rcd with curves := [(2047, 99)] }, 0x800, 1, by delta RecTakes Sys2Proof.Machine.State.Reached; decide +kernel⟩,
   ⟨cm 2047 0 5 6 7, (cm 2047 0 5 6 7).setRec { recOn.rcd with curves := [(2047, 0x600000005)] }, 0x800, 1, 2047, by delta RecTakes Sys2Proof.Machine.State.Reached; decide +kernel⟩⟩

/-- States and operands that meet the hypotheses of clauses 4, 5, 6, 7 of RecorderCommandsComplete. -/
theorem met_RecorderCommandsComplete_b :
    (∃ (s u : State) (mid : Nat) (gen : BitVec 8) (k : Nat), RecTakes s mid gen 4 ∧ k = s.recArg 0 % 2048 ∧ u = s.setRec { s.rcd with curves := s.rcd.curves.set (fun _ => 0) k (s.rd64 (R.REC_ARG 2)) }) ∧
    (∃ (s : State) (mid : Nat) (gen : BitVec 8) (n j : Nat), RecTakes s mid gen 5 ∧ s.findLog (fun n j _ => decide (s.recArg64 0 ≤ s.ldN .dram (s.mirrorAt n j + 16) 8)) = some (n, j)) ∧
    (∃ (s : State) (mid : Nat) (gen : BitVec 8) (n j : Nat), RecTakes s mid gen 6 ∧ s.findLog (fun _ _ l => l == s.recArg64 0 % 2 ^ 48) = some (n, j)) ∧
    (∃ (s : State) (mid : Nat) (gen : BitVec 8) (n j lsn first cnt : Nat), RecTakes s mid gen 7 ∧ s.readWhat = (n, j, lsn, first, cnt) ∧ s.slotLsn n j = some lsn ∧ first + cnt ≤ bitsOf (s.ldN .dram (s.mirrorAt n j + 24) 8) 40 11) :=
  ⟨⟨(cm 2041 0 5 0x80000000 7).setRec { recOn.rcd with curves := [(2040, 0x8000000000000009)] }, (cm 2041 0 5 0x80000000 7).setRec { recOn.rcd with curves := [(2040, 0x8000000000000009), (2041, 0x8000000000000005)] }, 0x800, 1, 2041, by delta RecTakes Sys2Proof.Machine.State.Reached; decide +kernel⟩,
   ⟨ent (cm 60 0 0 0 0), 0x800, 1, 63, 3, by delta RecTakes Sys2Proof.Machine.State.Reached; decide +kernel⟩,
   ⟨ent (cm 4 0 0 0 0), 0x800, 1, 63, 2, by delta RecTakes Sys2Proof.Machine.State.Reached; decide +kernel⟩,
   ⟨rdCmd, 0x800, 1, 63, 3, 5, 0, 9, by delta RecTakes Sys2Proof.Machine.State.Reached; decide +kernel⟩⟩

/-- States and operands that meet the hypotheses of clauses 8, 9, 10 of RecorderCommandsComplete. -/
theorem met_RecorderCommandsComplete_c :
    (∃ s : State, s.recBusy = true ∧ (s.resOf R.REC_CMD).toNat < 8) ∧
    (∃ (s : State) (blocks : List (List Byte)) (n j lsn first cnt : Nat), s.recBusy = true ∧ s.resOf R.REC_CMD = 15 ∧ s.readWhat = (n, j, lsn, first, cnt) ∧ s.slotLsn n j = some lsn ∧ (∀ b ∈ blocks, blockGood b = true)) ∧
    (∃ (s : State) (blocks : List (List Byte)) (n j lsn first cnt : Nat), s.recBusy = true ∧ s.resOf R.REC_CMD = 15 ∧ s.readWhat = (n, j, lsn, first, cnt) ∧ s.slotLsn n j = some lsn ∧ (∀ b ∈ blocks, blockGood b = true)) ∧
    (∃ (s u : State) (mid : Nat) (gen : BitVec 8) (k : Nat) (v : W32), s.takePair (recCfgReg k) mid gen v = some u) :=
  ⟨⟨(recOn.wf R.REC_CMD F.REC_CMD_BUSY 1).setRes R.REC_CMD 5, by decide +kernel⟩,
   ⟨((rdCmd.wr (R.REC_ARG 5) 0x1000).wf R.REC_CMD F.REC_CMD_BUSY 1).setRes R.REC_CMD 15, [blk, blk], 63, 3, 5, 0, 9, by decide +kernel⟩,
   ⟨(((rdCmd.wr (R.REC_ARG 7) 1).wr (R.REC_ARG 5) 0x1000).wf R.REC_CMD F.REC_CMD_BUSY 1).setRes R.REC_CMD 15, [blk], 63, 3, 5, 0, 9, by decide +kernel⟩,
   ⟨offer off9 R.REC_STAGE 0x02000010, taken (offer off9 R.REC_STAGE 0x02000010) R.REC_STAGE 0x02000010, 0x800, 1, 0, 0x02000010, by decide +kernel⟩⟩

/-- States and operands that meet the hypotheses of clauses 10 of RecorderCommandsComplete. -/
theorem met_RecorderCommandsComplete_d :
    (∃ (s u : State) (mid : Nat) (gen : BitVec 8) (k : Nat) (v : W32), s.takePair (recCfgReg k) mid gen v = some u) :=
  ⟨offer recOn R.REC_IDX 5, taken (offer recOn R.REC_IDX 5) R.REC_IDX 5, 0x800, 1, 2, 5, by decide +kernel⟩

end P09

namespace P10
def dirtyB : State := (((((live.wr (R.BCN_ALARM 1 1) 5).wr (R.ODS_NODE_A 1) 7).setBytes .save 9 [1, 2]).setBytes .flash 0 [3]).setBytes .dram 5 [7]).setBytes .packet 0 [9] |>.count (R.BCN_CNT 8) |>.count (R.SEM_CNT 0)
def dirty2 : State := { dirtyB with fuse := { lc := 2 }, gens := [(3, 9)], time := { bcnt := 7, clock := 99 }, pending := [.dramRefresh 3] }
def down : State := { live with boot := { resetLow := true } }
def lowR : State := { live with boot := { low := 31 } , bcn := {} }
def chg (c : TimeChange) (s : State := live) : State := { (s.wf R.BCN_TIME_STATUS F.BCN_TIME_STATUS_HOLDOVER 1) with bcn := { changes := [c, .step 4] }, time := { secs := 5, ns := 999999999, frac := 77, bcnt := 3 } }
def setD : State := ((live.wr (R.BCN_TIME_SET 0) 0x7FFFFFFF).wr (R.BCN_TIME_SET 1) 5).wr (R.BCN_TIME_SET 2) 0x1FFFF
def tim5 : State := { live with time := { secs := 0xFFFFFFFFFFFF, ns := 999999999, bcnt := 0x123456789A, clock := 7 } }
def pps : State := { (tim5.wf R.BCN_PPS_CFG F.BCN_PPS_CFG_IN_EN 1).wf R.BCN_PPS_ADJ F.BCN_PPS_ADJ_IN_ADJ 0x7FFF with bcn := { ppsMissed := true } } |>.wr (R.BCN_PPS_IN 2) 0xFFFF0000
def ppsN : Nat := ((((0xFFFFFFFFFFFF * 1000000000 + 999999999 + 7 % 4 : Nat) : Int) + 32767) % (2 ^ 48 * 1000000000 : Int)).toNat
def ppo : State := ((live.wf R.BCN_PPS_CFG F.BCN_PPS_CFG_OUT_EN 1).wf R.BCN_TIME_STATUS F.BCN_TIME_STATUS_RUNNING 1).wf R.BCN_PPS_ADJ F.BCN_PPS_ADJ_OUT_ADJ 0xFFF0
def ref : State := (live.wf R.BCN_REF_CFG F.BCN_REF_CFG_MODE 2).wf R.BCN_TIME_STATUS F.BCN_TIME_STATUS_RUNNING 1
def alm : State := ((live.wf R.BCN_ALARM_CTRL F.BCN_ALARM_CTRL_ARM 3).wr (R.BCN_ALARM 1 0) 9)
def almSleep : State := (alm.wf R.BCN_PWR_STATUS F.BCN_PWR_STATUS_STEP 5).wf R.BCN_WAKE_CFG F.BCN_WAKE_CFG_EN 2
def vs : State := (((live.wf R.BCN_VSENSE_CFG F.BCN_VSENSE_CFG_EN 1).wf R.BCN_VSENSE_CFG F.BCN_VSENSE_CFG_VTH 100).wf R.BCN_VSENSE_CFG F.BCN_VSENSE_CFG_HYST 2).wf R.BCN_VSENSE_CFG F.BCN_VSENSE_CFG_POL 1
def vsS : State := (vs.wf R.BCN_PWR_STATUS F.BCN_PWR_STATUS_STEP 3).wf R.BCN_WAKE_CFG F.BCN_WAKE_CFG_EN 4
def vsH : State := vs.wf R.BCN_SENSE F.BCN_SENSE_VSENSE 1
def hot : State := (live.wf R.BCN_TEMP_CFG F.BCN_TEMP_CFG_EN_HI 1).wf R.BCN_TEMP_CFG F.BCN_TEMP_CFG_HI 90
def crv (tmp : Nat) : State := { (live.wf R.MGT_AVS_STATUS F.MGT_AVS_STATUS_SET_MV 750) with bcn := { curve := [(44 * 8, some (1, 700, 100)), (44 * 8 + 1, some (2, 720, 90)), (44 * 8 + 7, some (2, 800, 90))], point := [(44, 2)], temps := [(44, some tmp)] } }
def tmpr : State := live.wf R.BCN_TAMPER_CFG F.BCN_TAMPER_CFG_EN 15
def xg : State := ({ live with bcn := { xings := [(41, 44), (3, 30)] } } : State).showXings
def avs : State := { (crv 30).wf R.MGT_AVS_CFG F.MGT_AVS_CFG_EN 1 |>.wf R.MGT_AVS_CFG F.MGT_AVS_CFG_MARGIN 30 with bcn := { (crv 30).bcn with want := [(44, 8)] } }

/-- States and operands that meet the hypotheses of clauses 2, 3, 4, 5 of ResetEventsComplete. -/
theorem met_ResetEventsComplete_a :
    (∃ (s : State) (ns : Nat), 1000 ≤ ns) ∧
    (∃ (s : State) (ns : Nat), ns < 500) ∧
    (∃ (s : State) (role : Bool), s.boot.resetLow = true ∧ s.boot.low = 0 ∧ s.bcn.shutdown = false) ∧
    (∃ (s : State) (rails : Nat), rails % 32 ≠ 0 ∧ s.boot.resetLow = false) :=
  ⟨⟨dirty2, 1000, by decide +kernel⟩,
   ⟨dirty2, 499, by decide +kernel⟩,
   ⟨down, true, by decide +kernel⟩,
   ⟨dirty2, 33, by decide +kernel⟩⟩

/-- States and operands that meet the hypotheses of clauses 6 of ResetEventsComplete. -/
theorem met_ResetEventsComplete_b :
    (∃ s : State, s.boot.low ≠ 0) :=
  ⟨lowR, by decide +kernel⟩

/-- States and operands that meet the hypotheses of clauses 1, 2, 3, 4 of TimeCommandsComplete. -/
theorem met_TimeCommandsComplete_a :
    (∃ (s : State) (mid : Nat) (gen : BitVec 8) (v : W32), s.Reached mid gen R.BCN_TIME_CTRL (v ||| 0x40000000)) ∧
    (∃ (s : State) (mid : Nat) (gen : BitVec 8) (v : W32), s.Reached mid gen (R.BCN_TIME_STEP 1) v) ∧
    (∃ (s : State) (secs : BitVec 48) (ns : Nat) (rest : List TimeChange), s.bcn.changes = .set secs ns :: rest ∧ ns < 1000000000) ∧
    (∃ (s : State) (d : Int) (rest : List TimeChange), s.bcn.changes = .step d :: rest) :=
  ⟨⟨setD, 0x800, 1, 0x80000000, by delta Sys2Proof.Machine.State.Reached; decide +kernel⟩,
   ⟨live.wr (R.BCN_TIME_STEP 0) 0xFFFFFFFF, 0x800, 1, 0x80000000, by delta Sys2Proof.Machine.State.Reached; decide +kernel⟩,
   ⟨chg (.set 0xFFFFFFFFFFFF 999999999), 0xFFFFFFFFFFFF, 999999999, [.step 4], by decide +kernel⟩,
   ⟨chg (.step (-6000000001)), -6000000001, [.step 4], by decide +kernel⟩⟩

/-- States and operands that meet the hypotheses of clauses 5, 8, 9, 10 of TimeCommandsComplete. -/
theorem met_TimeCommandsComplete_b :
    (∃ (s : State) (mid : Nat) (gen : BitVec 8) (v : W32), s.Reached mid gen R.BCN_TIME_CTRL (v ||| 0x20000000)) ∧
    (∃ (s : State) (off n : Nat), s.flag R.BCN_PPS_CFG F.BCN_PPS_CFG_IN_EN = true ∧ ((s.bcn.ppsMissed = true ∨ s.fd (R.BCN_PPS_IN 2) ⟨16, 16⟩ = 0 ∨ s.bcn.ppsFrom + 125000000 ≤ s.time.clock)) ∧ (n : Int) = (((s.time.secs.toNat * 1000000000 + s.time.ns + off % 4 : Nat) : Int) + signed 16 (s.fd R.BCN_PPS_ADJ F.BCN_PPS_ADJ_IN_ADJ)) % (2 ^ 48 * 1000000000)) ∧
    (∃ s : State, s.flag R.BCN_PPS_CFG F.BCN_PPS_CFG_IN_EN = true ∧ s.bcn.ppsMissed = false) ∧
    (∃ (s u : State), s.ppsLow = false ∧ u = s.until ((((s.time.ptp.toNat : Int) + signed 16 (s.fd R.BCN_PPS_ADJ F.BCN_PPS_ADJ_OUT_ADJ)) / 1000000000 + 1) * 1000000000 - signed 16 (s.fd R.BCN_PPS_ADJ F.BCN_PPS_ADJ_OUT_ADJ)).toNat) :=
  ⟨⟨chg (.step 4), 0x800, 1, 0, by delta Sys2Proof.Machine.State.Reached; decide +kernel⟩,
   ⟨pps, 7, ppsN, by decide +kernel⟩,
   ⟨{ pps with bcn := { ppsFrom := 9 } }, by decide +kernel⟩,
   ⟨ppo, ppo.until ((((ppo.time.ptp.toNat : Int) + signed 16 (ppo.fd R.BCN_PPS_ADJ F.BCN_PPS_ADJ_OUT_ADJ)) / 1000000000 + 1) * 1000000000 - signed 16 (ppo.fd R.BCN_PPS_ADJ F.BCN_PPS_ADJ_OUT_ADJ)).toNat, by decide +kernel⟩⟩

/-- States and operands that meet the hypotheses of clauses 11, 12 of TimeCommandsComplete. -/
theorem met_TimeCommandsComplete_c :
    (∃ (s : State) (count phase : Nat), s.fd R.BCN_REF_CFG F.BCN_REF_CFG_MODE = 2 ∧ s.timeRuns = true) ∧
    (∃ (s : State) (a : Nat), a < 2 ∧ bitAt (s.fd R.BCN_ALARM_CTRL F.BCN_ALARM_CTRL_ARM) a = true) ∧
    (∃ (s : State) (a : Nat), a < 2 ∧ bitAt (s.fd R.BCN_ALARM_CTRL F.BCN_ALARM_CTRL_ARM) a = true) :=
  ⟨⟨ref, 10000000, 99, by decide +kernel⟩,
   ⟨alm, 1, by decide +kernel⟩,
   ⟨almSleep, 1, by decide +kernel⟩⟩

/-- States and operands that meet the hypotheses of clauses 1, 2 of SupervisionCommandsComplete. -/
theorem met_SupervisionCommandsComplete_a :
    (∃ (s : State) (mv lo : Nat) (now : Bool), s.flag R.BCN_VSENSE_CFG F.BCN_VSENSE_CFG_EN = true ∧ lo = s.fd R.BCN_VSENSE_CFG F.BCN_VSENSE_CFG_VTH * 5 ∧ now = (if lo + s.fd R.BCN_VSENSE_CFG F.BCN_VSENSE_CFG_HYST * 5 < mv then true else if mv < lo then false else s.flag R.BCN_SENSE F.BCN_SENSE_VSENSE)) ∧
    (∃ (s : State) (mv lo : Nat) (now : Bool), s.flag R.BCN_VSENSE_CFG F.BCN_VSENSE_CFG_EN = true ∧ lo = s.fd R.BCN_VSENSE_CFG F.BCN_VSENSE_CFG_VTH * 5 ∧ now = (if lo + s.fd R.BCN_VSENSE_CFG F.BCN_VSENSE_CFG_HYST * 5 < mv then true else if mv < lo then false else s.flag R.BCN_SENSE F.BCN_SENSE_VSENSE)) ∧
    (∃ (s u : State) (island reading : Nat), island < 45 ∧ u = s.senseTemp island reading ∧ signed 8 u.hottest.1 < 125) ∧
    (∃ (s u : State) (island reading : Nat), island < 45 ∧ u = s.senseTemp island reading ∧ signed 8 u.hottest.1 < 125) :=
  ⟨⟨vs, 511, 500, true, by decide +kernel⟩,
   ⟨vsH, 499, 500, false, by decide +kernel⟩,
   ⟨hot, hot.senseTemp 44 90, 44, 90, by decide +kernel⟩,
   ⟨hot, hot.senseTemp 44 0xF0, 44, 0xF0, by decide +kernel⟩⟩

/-- States and operands that meet the hypotheses of clauses 3, 4, 5, 6 of SupervisionCommandsComplete. -/
theorem met_SupervisionCommandsComplete_b :
    (∃ (s u : State) (island reading : Nat), island < 45 ∧ 125 ≤ signed 8 reading ∧ u = s.senseTemp island reading ∧ 125 ≤ signed 8 u.hottest.1 ∧ s.bcn.shutdown = false) ∧
    (∃ (s : State) (island p q : Nat), s.pointOf island = some p ∧ s.pointOk island p = false ∧ s.bestPoint island p = some q) ∧
    (∃ (s : State) (d : Nat), d < 4 ∧ bitAt (s.fd R.BCN_TAMPER_CFG F.BCN_TAMPER_CFG_EN) d = true ∧ s.powerStep ≤ 3) ∧
    (∃ (s : State) (island other limit : Nat), neighbours island other = true ∧ s.islandRuns island = true ∧ s.islandRuns other = true ∧ s.xingHeld island other = false) :=
  ⟨⟨live, live.senseTemp 44 125, 44, 125, by decide +kernel⟩,
   ⟨crv 95, 44, 1, 0, by decide +kernel⟩,
   ⟨tmpr, 3, by decide +kernel⟩,
   ⟨live, 44, 41, 3, by decide +kernel⟩⟩

/-- States and operands that meet the hypotheses of clauses 7, 8, 9 of SupervisionCommandsComplete. -/
theorem met_SupervisionCommandsComplete_c :
    (∃ (s : State) (island other : Nat), s.xingHeld island other = true) ∧
    (∃ (s : State) (island p : Nat), island < 45 ∧ (s.curvePoint island p).isSome = true) ∧
    (∃ (s : State) (island p : Nat), island < 45 ∧ (s.curvePoint island p).isSome = true) ∧
    (∃ (s : State) (mid : Nat) (gen : BitVec 8) (v : W32) (vmode : BitVec 8), s.Reached mid gen R.MGT_AVS_CFG (v ||| 0x80000000) ∧ s.flag (R.HIF_I2C_CMD 0) F.HIF_I2C_CMD_BUSY = false) :=
  ⟨⟨xg, 44, 41, by decide +kernel⟩,
   ⟨crv 30, 44, 0, by decide +kernel⟩,
   ⟨crv 30, 44, 7, by decide +kernel⟩,
   ⟨live, 0x800, 1, 0, 0x14, by delta Sys2Proof.Machine.State.Reached; decide +kernel⟩⟩

/-- States and operands that meet the hypotheses of clauses 9, 10, 11 of SupervisionCommandsComplete. -/
theorem met_SupervisionCommandsComplete_d :
    (∃ (s : State) (mid : Nat) (gen : BitVec 8) (v : W32) (vmode : BitVec 8), s.Reached mid gen R.MGT_AVS_CFG (v ||| 0x80000000) ∧ s.flag (R.HIF_I2C_CMD 0) F.HIF_I2C_CMD_BUSY = false) ∧
    (∃ (s : State) (vmode : BitVec 8), s.avsRuns = true ∧ s.bcn.vmodeDue = false) ∧
    (∃ (s : State) (kind : Nat), s.avsRuns = true ∧ 2 ≤ kind ∧ kind ≤ 4) :=
  ⟨⟨live, 0x800, 1, 0, 0x34, by delta Sys2Proof.Machine.State.Reached; decide +kernel⟩,
   ⟨avs, 0, by decide +kernel⟩,
   ⟨avs, 4, by decide +kernel⟩⟩

end P10

namespace P11
def st (n : Nat) (s : State := live) : State := s.wf R.BCN_PWR_STATUS F.BCN_PWR_STATUS_STEP n
def ent (target stage : Nat) (b : BcnSt := {}) : State := { ((live.wf R.BCN_PWR_STATUS F.BCN_PWR_STATUS_TARGET target).wf R.BCN_PWR_STATUS F.BCN_PWR_STATUS_STAGE stage).wf R.BCN_PWR_STATUS F.BCN_PWR_STATUS_STEP stage with bcn := b }
def slot1 (s : State) : State := s.setSlot 5 { used := true }
def ent1 : State := let s := ent 2 1; s.setRec { s.rcd with log := some { lsn := 0, records := 1, used := 30, inBlock := 1 } }
def wk (n step : Nat) : State := (st step).wf R.BCN_WAKE_CFG F.BCN_WAKE_CFG_EN (2 ^ n)
def exi (step : Nat) : State := { st step ((live.wf R.BCN_WAKE_CAUSE F.BCN_WAKE_CAUSE_CAUSES 8).setBytes .packet 5 [3]) with bcn := { exiting := true } }
def low : State := { live with bcn := { wakeN := true, wakeSince := 5 } }
def timd : State := ((live.wf R.GLB_MODE F.GLB_MODE_TIMED 1).setSlot 5 { used := true }).setDl 15 0 { kind := .token, id := 5 }
def stg (s : State := live) : State := { s.setTxn 1 with txn := { entries := [{ word0 := 0x80000040 }] } }
def txn (n : Nat) (es : List TxnEnt := []) : State := { live.setTxn n with txn := { entries := es, inject := [0, 3] } }
def okE : TxnEnt := { word0 := BitVec.ofNat 32 (R.PRS_PORT_CFG 143), value := 5 }
def badE : TxnEnt := { word0 := BitVec.ofNat 32 (R.BPM_POOL_SIZE 7), value := 5 }
def maskE : TxnEnt := { word0 := BitVec.ofNat 32 R.REC_CFG, value := 5 }
def old (s : State) : State := { s.setSlot 5 { used := true, tok := { epoch := 0xFF }, place := .queue 0 } with epoch := 0 }
def pBad : State := (txn 2 [okE, badE]).wr (R.BPM_POOL_SIZE 7) 0x80000004
def view (s : State) : State := { s with txn := { s.txn with viewNew := some s.newEpoch } }
def ldd (es : List TxnEnt) : State := ((view (txn 3 es)).loadAll none 0 es).1
def inj : State := { odsLive.setTxn 5 with txn := { inject := [0, 3] } }
def inj1 : State := { inj with txn := { inj.txn with inject := [0] } }
def injR : State × Nat := (inj1.allocSlot 4 inj.markTok).getD (inj1, 0)
def mk : Flight := { tok := { ctype := 1, epoch := 9, id := 7 } }
def mkD : Flight := { tok := { ctype := 2, epoch := 9, id := 7 } }
def arr (f : Flight) (n : Nat) : State := let s := (txn 5).setPipe 3 { toOds := [f, {}] }; { s with ods := { s.ods with marks := List.replicate n f } }
def v5 : W32 := 5
def rq (s : State) (v : W32) : State := offer s R.BCN_PWR_REQ v

/-- States and operands that meet the hypotheses of clauses 1, 2 of PowerLadderCompletes. -/
theorem met_PowerLadderCompletes_a :
    (∃ (s u : State) (mid : Nat) (gen : BitVec 8) (v : W32), s.takePair R.BCN_PWR_REQ mid gen v = some u ∧ pwrMay mid = true ∧ v.toNat % 8 ≠ 0 ∧ u.pwrRefuses (v.toNat % 8) = 0) ∧
    (∃ (s u : State) (mid : Nat) (gen : BitVec 8) (v : W32), s.takePair R.BCN_PWR_REQ mid gen v = some u ∧ pwrMay mid = true ∧ v.toNat % 8 ≠ 0 ∧ u.pwrRefuses (v.toNat % 8) = 0) ∧
    (∃ (s : State) (target : Nat), target = s.fd R.BCN_PWR_STATUS F.BCN_PWR_STATUS_TARGET ∧ target ≠ 0 ∧ s.bcn.exiting = false ∧ s.bcn.draining = false ∧ s.fd R.BCN_PWR_STATUS F.BCN_PWR_STATUS_STAGE = 0) ∧
    (∃ (s : State) (target : Nat), target = s.fd R.BCN_PWR_STATUS F.BCN_PWR_STATUS_TARGET ∧ target ≠ 0 ∧ s.bcn.exiting = false ∧ s.bcn.draining = false ∧ s.fd R.BCN_PWR_STATUS F.BCN_PWR_STATUS_STAGE = 0) :=
  ⟨⟨rq live 1, taken (rq live 1) R.BCN_PWR_REQ 1, 0x800, 1, 1, by decide +kernel⟩,
   ⟨rq live 3, taken (rq live 3) R.BCN_PWR_REQ 3, 0x800, 1, 3, by decide +kernel⟩,
   ⟨ent 1 0, 1, by decide +kernel⟩,
   ⟨ent 5 0, 5, by decide +kernel⟩⟩

/-- States and operands that meet the hypotheses of clauses 3, 4, 5 of PowerLadderCompletes. -/
theorem met_PowerLadderCompletes_b :
    (∃ s : State, s.entering = true ∧ s.bcn.exiting = false ∧ s.bcn.draining = false ∧ s.fd R.BCN_PWR_STATUS F.BCN_PWR_STATUS_STAGE = 1) ∧
    (∃ s : State, s.entering = true ∧ s.bcn.exiting = false ∧ s.bcn.draining = true ∧ s.drained = true ∧ ((s.fd R.BCN_PWR_STATUS F.BCN_PWR_STATUS_TARGET < 4 ∨ ∀ p ∈ s.packetPools, s.poolBusy p = false))) ∧
    (∃ s : State, s.entering = true ∧ s.bcn.exiting = false ∧ s.bcn.draining = true ∧ s.drained = true ∧ ((s.fd R.BCN_PWR_STATUS F.BCN_PWR_STATUS_TARGET < 4 ∨ ∀ p ∈ s.packetPools, s.poolBusy p = false))) ∧
    (∃ (s u : State), s.entering = true ∧ s.bcn.exiting = false ∧ s.bcn.draining = false ∧ s.fd R.BCN_PWR_STATUS F.BCN_PWR_STATUS_STAGE = 2 ∧ u = s.pass (s.cyclesToTick 1)) :=
  ⟨⟨ent1, by decide +kernel⟩,
   ⟨ent 5 1 { draining := true }, by decide +kernel⟩,
   ⟨ent 2 1 { draining := true }, by decide +kernel⟩,
   ⟨ent 5 2, (ent 5 2).pass ((ent 5 2).cyclesToTick 1), by decide +kernel⟩⟩

/-- States and operands that meet the hypotheses of clauses 6, 7, 8, 9 of PowerLadderCompletes. -/
theorem met_PowerLadderCompletes_c :
    (∃ s : State, s.entering = true ∧ s.bcn.exiting = false ∧ s.bcn.draining = false ∧ s.fd R.BCN_PWR_STATUS F.BCN_PWR_STATUS_STAGE = 3) ∧
    (∃ s : State, s.entering = true ∧ s.bcn.exiting = false ∧ s.bcn.draining = false ∧ s.fd R.BCN_PWR_STATUS F.BCN_PWR_STATUS_STAGE = 4) ∧
    (∃ s : State, s.bcn.draining = true ∧ s.drained = false) ∧
    (∃ (s : State) (cause : Nat), 5 ≤ cause ∧ cause ≤ 9 ∧ (causeSteps cause).1 ≤ s.powerStep ∧ s.powerStep ≤ (causeSteps cause).2 ∧ ((cause = 8 → s.powerStep < 3)) ∧ bitAt (s.fd R.BCN_WAKE_CFG F.BCN_WAKE_CFG_EN) cause = true) :=
  ⟨⟨ent 5 3, by decide +kernel⟩,
   ⟨(ent 5 4).setBytes .vault 0 [5], by decide +kernel⟩,
   ⟨slot1 (ent 5 1 { draining := true }), by decide +kernel⟩,
   ⟨wk 8 2, 8, by decide +kernel⟩⟩

/-- States and operands that meet the hypotheses of clauses 9, 10, 11 of PowerLadderCompletes. -/
theorem met_PowerLadderCompletes_d :
    (∃ (s : State) (cause : Nat), 5 ≤ cause ∧ cause ≤ 9 ∧ (causeSteps cause).1 ≤ s.powerStep ∧ s.powerStep ≤ (causeSteps cause).2 ∧ ((cause = 8 → s.powerStep < 3)) ∧ bitAt (s.fd R.BCN_WAKE_CFG F.BCN_WAKE_CFG_EN) cause = true) ∧
    (∃ (s : State) (image : Nat) (begins : Bool), s.bcn.exiting = true ∧ ((s.powerStep < 4 ∨ image = 0))) ∧
    (∃ (s : State) (image : Nat) (begins : Bool), s.bcn.exiting = true ∧ ((s.powerStep < 4 ∨ image = 0))) ∧
    (∃ (s : State) (image : Nat) (begins : Bool), s.bcn.exiting = true ∧ 4 ≤ s.powerStep ∧ image ≠ 0) :=
  ⟨⟨wk 9 1, 9, by decide +kernel⟩,
   ⟨exi 3, 2, true, by decide +kernel⟩,
   ⟨exi 5, 0, false, by decide +kernel⟩,
   ⟨exi 5, 1, true, by decide +kernel⟩⟩

/-- States and operands that meet the hypotheses of clauses 11, 12, 13 of PowerLadderCompletes. -/
theorem met_PowerLadderCompletes_e :
    (∃ (s : State) (image : Nat) (begins : Bool), s.bcn.exiting = true ∧ 4 ≤ s.powerStep ∧ image ≠ 0) ∧
    (∃ s : State, s.bcn.wakeN = true ∧ s.fd R.BCN_PWR_CFG F.BCN_PWR_CFG_WAKE_TMO ≠ 0) ∧
    (∃ s : State, s.bcn.wakeN = true) :=
  ⟨⟨exi 4, 2, false, by decide +kernel⟩,
   ⟨low.wf R.BCN_PWR_CFG F.BCN_PWR_CFG_WAKE_TMO 255, by decide +kernel⟩,
   ⟨low, by decide +kernel⟩⟩

/-- States and operands that meet the hypotheses of clauses 1, 2, 3 of TransactionOperationsComplete. -/
theorem met_TransactionOperationsComplete_a :
    (∃ (s u : State) (mid : Nat) (gen : BitVec 8) (v : W32), s.takePair R.GLB_MODE mid gen v = some u) ∧
    (∃ (s u : State) (mid : Nat) (gen : BitVec 8) (v : W32), s.takePair R.GLB_MODE mid gen v = some u) ∧
    (∃ (s : State) (mid : Nat) (gen : BitVec 8), s.Reached mid gen R.MGT_TXN_CTRL 1 ∧ txnMay mid = true ∧ s.txnState = 0 ∧ s.txnNum ≠ 0xFFFFFFFF ∧ s.txn.lastNum ≠ some s.txnNum) ∧
    (∃ (s : State) (mid : Nat) (gen : BitVec 8) (v : W32), s.Reached mid gen (R.MGT_TXN_ENT 2) v ∧ txnMay mid = true ∧ s.txnState = 1 ∧ s.txn.entries.length < 4096 ∧ stageableRec ((s.rd (R.MGT_TXN_ENT 0)).toNat % 2 ^ 24) (s.rd (R.MGT_TXN_ENT 1)) = true) :=
  ⟨⟨offer live R.GLB_MODE 0xFFFFFFFF, taken (offer live R.GLB_MODE 0xFFFFFFFF) R.GLB_MODE 0xFFFFFFFF, 0x800, 1, 0xFFFFFFFF, by decide +kernel⟩,
   ⟨offer timd R.GLB_MODE 0, taken (offer timd R.GLB_MODE 0) R.GLB_MODE 0, 0x800, 1, 0, by decide +kernel⟩,
   ⟨live.wr R.MGT_TXN_NUM 0xFFFFFFFE, 0x807, 1, by delta Sys2Proof.Machine.State.Reached; decide +kernel⟩,
   ⟨(stg.wr (R.MGT_TXN_ENT 0) 0x40).wr (R.MGT_TXN_ENT 1) 9, 0x800, 1, 0xFFFFFFFF, by delta Sys2Proof.Machine.State.Reached; decide +kernel⟩⟩

/-- States and operands that meet the hypotheses of clauses 4, 5, 6 of TransactionOperationsComplete. -/
theorem met_TransactionOperationsComplete_b :
    (∃ (s : State) (mid : Nat) (gen : BitVec 8) (chain : Bool), s.Reached mid gen R.MGT_TXN_CTRL (if chain then 0x102 else 2) ∧ txnMay mid = true ∧ s.txnState = 1 ∧ s.txnAsleepNow = false ∧ s.flag R.MGT_TXN_STATUS F.MGT_TXN_STATUS_STAGE_ERR = false ∧ ((chain = false → s.mlkState ≠ 5)) ∧ ((chain = true → s.flag R.MLK_STATUS F.MLK_STATUS_COORD = true))) ∧
    (∃ (s : State) (mid : Nat) (gen : BitVec 8) (chain : Bool), s.Reached mid gen R.MGT_TXN_CTRL (if chain then 0x102 else 2) ∧ txnMay mid = true ∧ s.txnState = 1 ∧ s.txnAsleepNow = false ∧ s.flag R.MGT_TXN_STATUS F.MGT_TXN_STATUS_STAGE_ERR = false ∧ ((chain = false → s.mlkState ≠ 5)) ∧ ((chain = true → s.flag R.MLK_STATUS F.MLK_STATUS_COORD = true))) ∧
    (∃ (s : State) (mid : Nat) (gen : BitVec 8), s.Reached mid gen R.MGT_TXN_CTRL 3 ∧ txnMay mid = true ∧ s.txnState = 1 ∧ s.txnAsleepNow = false ∧ s.flag R.MGT_TXN_STATUS F.MGT_TXN_STATUS_STAGE_ERR = false) ∧
    (∃ (s : State) (mid : Nat) (gen : BitVec 8), s.Reached mid gen R.MGT_TXN_CTRL 4 ∧ txnMay mid = true ∧ ((s.txnState = 1 ∨ s.txnState = 2)) ∧ s.mlk.voted = none ∧ s.mlk.taking = none) :=
  ⟨⟨stg, 0x800, 1, false, by delta Sys2Proof.Machine.State.Reached; decide +kernel⟩,
   ⟨stg (live.wf R.MLK_STATUS F.MLK_STATUS_COORD 1), 0x800, 1, true, by delta Sys2Proof.Machine.State.Reached; decide +kernel⟩,
   ⟨stg, 0x800, 1, by delta Sys2Proof.Machine.State.Reached; decide +kernel⟩,
   ⟨stg, 0x800, 1, by delta Sys2Proof.Machine.State.Reached; decide +kernel⟩⟩

/-- States and operands that meet the hypotheses of clauses 6, 7, 8 of TransactionOperationsComplete. -/
theorem met_TransactionOperationsComplete_c :
    (∃ (s : State) (mid : Nat) (gen : BitVec 8), s.Reached mid gen R.MGT_TXN_CTRL 4 ∧ txnMay mid = true ∧ ((s.txnState = 1 ∨ s.txnState = 2)) ∧ s.mlk.voted = none ∧ s.mlk.taking = none) ∧
    (∃ (s : State) (mid : Nat) (gen : BitVec 8), s.Reached mid gen R.MGT_TXN_CTRL 4 ∧ txnMay mid = true ∧ ((s.txnState = 3 ∨ s.txnState = 4)) ∧ s.mlk.voted = none) ∧
    (∃ (s : State) (mid : Nat) (gen : BitVec 8), s.Reached mid gen R.MGT_TXN_CTRL 4 ∧ txnMay mid = true ∧ ((s.txnState = 3 ∨ s.txnState = 4)) ∧ s.mlk.voted = none) ∧
    (∃ s : State, s.txnState = 2 ∧ s.oldLive ≠ 0 ∧ s.mlk.taking = none) :=
  ⟨⟨txn 2, 0x800, 1, by delta Sys2Proof.Machine.State.Reached; decide +kernel⟩,
   ⟨txn 3, 0x800, 1, by delta Sys2Proof.Machine.State.Reached; decide +kernel⟩,
   ⟨txn 4, 0x800, 1, by delta Sys2Proof.Machine.State.Reached; decide +kernel⟩,
   ⟨old (txn 2), by decide +kernel⟩⟩

/-- States and operands that meet the hypotheses of clauses 1, 2, 3, 4 of TransactionPhasesComplete. -/
theorem met_TransactionPhasesComplete_a :
    (∃ s : State, s.txnState = 2 ∧ s.oldLive = 0 ∧ s.checkAll 0 s.txn.entries = none) ∧
    (∃ (s : State) (i c : Nat) (e : TxnEnt), s.txnState = 2 ∧ s.oldLive = 0 ∧ s.checkAll 0 s.txn.entries = some (i, c, e) ∧ s.mlk.taking = none ∧ i < 4096) ∧
    (∃ (s u : State), s.txnState = 3 ∧ s.prsBusy = false ∧ s.fteBusy = false ∧ ({ s with txn := { s.txn with viewNew := some s.newEpoch } } : State).loadAll none 0 s.txn.entries = (u, none) ∧ u.verifyBad = none ∧ u.txn.load = false) ∧
    (∃ (s : State) (k : Nat) (e : TxnEnt), s.txnState = 3 ∧ s.prsBusy = false ∧ s.fteBusy = false ∧ s.txn.entries = [e] ∧ k = 0) :=
  ⟨⟨txn 2 [okE], by decide +kernel⟩,
   ⟨pBad, 1, ((pBad.checkAll 0 pBad.txn.entries).getD (0, 0, okE)).2.1, ((pBad.checkAll 0 pBad.txn.entries).getD (0, 0, okE)).2.2, by decide +kernel⟩,
   ⟨txn 3 [okE, maskE], ldd [okE, maskE], by decide +kernel⟩,
   ⟨txn 3 [okE], 0, okE, by decide +kernel⟩⟩

/-- States and operands that meet the hypotheses of clauses 5, 6, 7 of TransactionPhasesComplete. -/
theorem met_TransactionPhasesComplete_b :
    (∃ (s s1 s2 : State) (pl id : Nat), pl ∈ s.txn.inject ∧ s1 = { s with txn := { s.txn with inject := s.txn.inject.filter (fun p => p != pl) } } ∧ s1.allocSlot 4 s.markTok = some (s2, id)) ∧
    (∃ (s : State) (pl : Nat) (f : Flight) (rest : List Flight), (s.pipe pl).toOds = f :: rest ∧ pl < 4 ∧ ((f.tok.ctype = 1 ∨ f.tok.ctype = 2)) ∧ (s.copiesOf f).length < 3) ∧
    (∃ (s : State) (pl : Nat) (f : Flight) (rest : List Flight), (s.pipe pl).toOds = f :: rest ∧ pl < 4 ∧ ((f.tok.ctype = 1 ∨ f.tok.ctype = 2)) ∧ (s.copiesOf f).length < 3) ∧
    (∃ (s : State) (pl : Nat) (f : Flight) (rest : List Flight), (s.pipe pl).toOds = f :: rest ∧ pl < 4 ∧ f.tok.ctype = 1 ∧ (s.copiesOf f).length = 3 ∧ s.txnState = 5 ∧ s.txn.pend = []) :=
  ⟨⟨inj, inj1, injR.1, 3, injR.2, by decide +kernel⟩,
   ⟨arr mk 2, 3, mk, [{}], by decide +kernel⟩,
   ⟨arr mkD 0, 3, mkD, [{}], by decide +kernel⟩,
   ⟨arr mk 3, 3, mk, [{}], by decide +kernel⟩⟩

/-- States and operands that meet the hypotheses of clauses 8 of TransactionPhasesComplete. -/
theorem met_TransactionPhasesComplete_c :
    (∃ s : State, s.txnState = 6 ∧ s.oldLive = 0 ∧ s.mlk.taking = none) :=
  ⟨{ txn 6 with txn := { oldRegs := [(R.REC_CFG, none)], oldMem := [(5, none)], viewNew := some 3 } }, by decide +kernel⟩

end P11

namespace P12
def ml (st : Nat := 3) : State := ((((live.wf R.MLK_CFG F.MLK_CFG_EN 1).wf R.MLK_CFG F.MLK_CFG_TOPO 1).wf (R.MLK_SIDE 0) F.MLK_SIDE_STATE 3).wf (R.MLK_SIDE 1) F.MLK_SIDE_STATE st).wr64 (R.MGT_SERIAL 0) 5
def hd (typ len : Nat) (bcast : Bool := true) (dst : Nat := 0) (src : Nat := 3) (seq : Nat := 0) : Nat := typ + src * 2 ^ 4 + 2 ^ 7 + dst * 2 ^ 8 + b2n bcast * 2 ^ 11 + 7 * 2 ^ 12 + seq * 2 ^ 16 + 0 * 2 ^ 28 + len * 2 ^ 40 + 1023 * 2 ^ 54
def fr (typ : Nat) (pl : List Byte) (bcast : Bool := true) (dst : Nat := 0) : MlkFrame := mlkParse (hd typ pl.length bcast dst) 0x705 pl
def uu (s : State) (typ i : Nat) (pl : List Byte) (bcast : Bool := true) (dst : Nat := 0) : State := let v := (s.mlkCnt 1).mlkAck i 0 1023; if replayed typ then v.setMside i { (v.mside i) with rxSeq := 0 } else v
def ww (s : State) (typ i : Nat) (pl : List Byte) : State := (uu s typ i pl).mlkForward i (fr typ pl)
def mem2 (coord : Bool) (s : State := ml) : State := ((s.wf R.MLK_STATUS F.MLK_STATUS_MEMBERS 9).wf R.MLK_STATUS F.MLK_STATUS_CHIP 0).wf R.MLK_STATUS F.MLK_STATUS_COORD (b2n coord)
def lrn : List Byte := toLe 16 5 ++ toLe 16 6
def byB : List Byte := toLe 8 9 ++ toLe 24 0
def elB (n : Nat) : List Byte := ({ serial := BitVec.ofNat 64 n } : Member).bytes ++ ({ serial := 77 } : Member).bytes
def elect : State := let s := ml; s.setMlk { s.mlk with electing := true, members := [s.selfMember] }
def prp (s : State) (num : W32) (e : BitVec 8) : State := s.setMlk { s.mlk with prepared := some (num, e, 99) }
def txs (n : Nat) (s : State := mem2 true) : State := (s.setTxn n).wr R.MGT_TXN_NUM 7
def prB : List Byte := toLe 4 7 ++ toLe 4 1 ++ toLe 8 50
def voB (v : Nat) : List Byte := toLe 4 7 ++ toLe 4 v
def coB (t : Nat) : List Byte := toLe 4 7 ++ toLe 4 1 ++ toLe 8 t
def paB (st c : Nat) : List Byte := toLe 8 (st + c * 256) ++ toLe 8 9
def pair (st : Nat) (s : State := mem2 false) : State := ((s.wf R.GLB_MODE F.GLB_MODE_PAIR 1).wf R.MLK_PAIR_STATUS F.MLK_PAIR_STATUS_STATE st).wf R.MLK_PAIR_STATUS F.MLK_PAIR_STATUS_ROLE_PIN 1
def timB (a b c : Nat) : List Byte := toLe 8 a ++ toLe 8 b ++ toLe 8 c ++ toLe 8 0
def tmS : State := let s := ml; { s.setMside 1 { (s.mside 1) with t1 := 1000 } with time := { secs := 0, ns := 5000 } }
def una (n : Nat) (s : State := ml) : State := s.setMside 1 { (s.mside 1) with unacked := [{ typ := 2 }, { typ := 5, seq := 1 }], resends := n }
def lanes (m : Nat) (s : State := ml) : State := s.wf R.MLK_STATUS F.MLK_STATUS_LANES m
def outS : State := ((ml.wf R.MLK_CFG F.MLK_CFG_DATA_SIDE 1).setSlot 5 { used := true, refs := 1 }).relPush 144 { id := 5, tok := { length := 20 } }
def e0 : RelEnt := (outS.relList 144).headD {}
def ltx (n : Nat) : State := let s := ml; { s with fte := { s.fte with tx := List.replicate n (1, 2) } }
def hel (s : State := ml) : State := s.setMside 1 { (s.mside 1) with hello := true, lastBuoy := 9 }
def spl : State := let s := ml; s.setMside 1 { (s.mside 1) with splitFrom := some 5 }
def syn : State := (mem2 true).setMlkState 4
def mlA : State := ml 2

/-- States and operands that meet the hypotheses of clauses 1, 2, 3, 4 of MolmaFramesComplete. -/
theorem met_MolmaFramesComplete_a :
    (∃ (s u : State) (i h0 h1 : Nat) (pl : List Byte) (fr : MlkFrame), MlkGets s 1 i h0 h1 pl fr u ∧ u.sideState i = 3 ∧ u.rxCredits i + mlkCredits pl.length ≤ 512) ∧
    (∃ (s u w : State) (i h0 h1 : Nat) (pl : List Byte) (fr : MlkFrame), MlkGets s 2 i h0 h1 pl fr u ∧ s.fte.mlkRx = [] ∧ MlkHears u i fr w) ∧
    (∃ (s u : State) (i h0 h1 : Nat) (pl : List Byte) (fr : MlkFrame), MlkGets s 3 i h0 h1 pl fr u ∧ u.sideState i = 3) ∧
    (∃ (s u : State) (i h0 h1 : Nat) (pl : List Byte) (fr : MlkFrame), MlkGets s 4 i h0 h1 pl fr u ∧ i < 2) :=
  ⟨⟨ml, uu ml 1 1 (List.replicate 60 4), 1, hd 1 60, 0x705, List.replicate 60 4, fr 1 (List.replicate 60 4), mlkGets_of (by decide +kernel), by decide +kernel, by decide +kernel⟩,
   ⟨ml, uu ml 2 1 lrn, ww ml 2 1 lrn, 1, hd 2 32, 0x705, lrn, fr 2 lrn, mlkGets_of (by decide +kernel), by decide +kernel, by delta MlkHears; decide +kernel⟩,
   ⟨ml, uu ml 3 1 byB, 1, hd 3 32, 0x705, byB, fr 3 byB, mlkGets_of (by decide +kernel), by decide +kernel⟩,
   ⟨mlA, uu mlA 4 1 byB, 1, hd 4 32, 0x705, byB, fr 4 byB, mlkGets_of (by decide +kernel), by decide +kernel⟩⟩

/-- States and operands that meet the hypotheses of clauses 5, 6, 7, 8 of MolmaFramesComplete. -/
theorem met_MolmaFramesComplete_b :
    (∃ (s u : State) (i h0 h1 : Nat) (pl : List Byte) (fr : MlkFrame), MlkGets s 5 i h0 h1 pl fr u ∧ u.mlkSides = [0, 1] ∧ ((memberList pl).head?.map (·.serial)).getD 0 = u.serial) ∧
    (∃ (s u w : State) (i h0 h1 : Nat) (pl : List Byte) (fr : MlkFrame), MlkGets s 5 i h0 h1 pl fr u ∧ ((memberList pl).head?.map (·.serial)).getD 0 ≠ u.serial ∧ MlkHears u i fr w ∧ w.mlk.electing = true) ∧
    (∃ (s u w : State) (i h0 h1 : Nat) (pl : List Byte) (fr : MlkFrame) (num : W32) (e : Nat), MlkGets s 6 i h0 h1 pl fr u ∧ MlkHears u i fr w ∧ numAnd pl = (num, e) ∧ w.mlk.voted = none ∧ BitVec.ofNat 8 e = w.odsEpoch + 1 ∧ w.txnState = 4 ∧ w.txnNum = num ∧ w.mlkState ≠ 4) ∧
    (∃ (s u w : State) (i h0 h1 : Nat) (pl : List Byte) (fr : MlkFrame) (num : W32) (e : BitVec 8) (dl : Nat), MlkGets s 7 i h0 h1 pl fr u ∧ MlkHears u i fr w ∧ w.mlk.prepared = some (num, e, dl) ∧ (numAnd pl).1 = num ∧ (numAnd pl).2 = 1) :=
  ⟨⟨ml, uu ml 5 1 (elB 5), 1, hd 5 32, 0x705, elB 5, fr 5 (elB 5), mlkGets_of (by decide +kernel), by decide +kernel, by decide +kernel⟩,
   ⟨elect, uu elect 5 1 (elB 9), ww elect 5 1 (elB 9), 1, hd 5 32, 0x705, elB 9, fr 5 (elB 9), mlkGets_of (by decide +kernel), by decide +kernel, by delta MlkHears; decide +kernel, by decide +kernel⟩,
   ⟨txs 4, uu (txs 4) 6 1 prB, ww (txs 4) 6 1 prB, 1, hd 6 16, 0x705, prB, fr 6 prB, 7, 1, mlkGets_of (by decide +kernel), by delta MlkHears; decide +kernel, by decide +kernel, by decide +kernel, by decide +kernel, by decide +kernel, by decide +kernel, by decide +kernel⟩,
   ⟨prp (mem2 true) 7 1, uu (prp (mem2 true) 7 1) 7 1 (voB 1) false, uu (prp (mem2 true) 7 1) 7 1 (voB 1) false, 1, hd 7 8 false, 0x705, voB 1, fr 7 (voB 1) false, 7, 1, 99, mlkGets_of (by decide +kernel), by delta MlkHears; decide +kernel, by decide +kernel, by decide +kernel, by decide +kernel⟩⟩

/-- States and operands that meet the hypotheses of clauses 8, 9, 10, 11 of MolmaFramesComplete. -/
theorem met_MolmaFramesComplete_c :
    (∃ (s u w : State) (i h0 h1 : Nat) (pl : List Byte) (fr : MlkFrame) (num : W32) (e : BitVec 8) (dl : Nat), MlkGets s 7 i h0 h1 pl fr u ∧ MlkHears u i fr w ∧ w.mlk.prepared = some (num, e, dl) ∧ (numAnd pl).1 = num ∧ (numAnd pl).2 = 1) ∧
    (∃ (s u w : State) (i h0 h1 : Nat) (pl : List Byte) (fr : MlkFrame) (num : W32) (e : BitVec 8) (dl : Nat), MlkGets s 7 i h0 h1 pl fr u ∧ MlkHears u i fr w ∧ w.mlk.prepared = some (num, e, dl) ∧ (numAnd pl).1 = num ∧ (numAnd pl).2 ≠ 1) ∧
    (∃ (s u w : State) (i h0 h1 : Nat) (pl : List Byte) (fr : MlkFrame) (num : W32) (e at_ : Nat), MlkGets s 8 i h0 h1 pl fr u ∧ MlkHears u i fr w ∧ numAnd pl = (num, e) ∧ w.txnState = 4 ∧ w.txnNum = num ∧ w.mlk.instant = none ∧ at_ = leNat ((pl.drop 8).take 8)) ∧
    (∃ (s u w : State) (i h0 h1 : Nat) (pl : List Byte) (fr : MlkFrame) (num : W32), MlkGets s 9 i h0 h1 pl fr u ∧ MlkHears u i fr w ∧ (numAnd pl).1 = num ∧ w.txnNum = num ∧ ((w.txnState = 3 ∨ w.txnState = 4))) :=
  ⟨⟨prp ((mem2 true).wf R.MLK_STATUS F.MLK_STATUS_MEMBERS 0x89) 7 1, uu (prp ((mem2 true).wf R.MLK_STATUS F.MLK_STATUS_MEMBERS 0x89) 7 1) 7 1 (voB 1) false, uu (prp ((mem2 true).wf R.MLK_STATUS F.MLK_STATUS_MEMBERS 0x89) 7 1) 7 1 (voB 1) false, 1, hd 7 8 false, 0x705, voB 1, fr 7 (voB 1) false, 7, 1, 99, mlkGets_of (by decide +kernel), by delta MlkHears; decide +kernel, by decide +kernel, by decide +kernel, by decide +kernel⟩,
   ⟨prp (mem2 true) 7 1, uu (prp (mem2 true) 7 1) 7 1 (voB 0x300) false, uu (prp (mem2 true) 7 1) 7 1 (voB 0x300) false, 1, hd 7 8 false, 0x705, voB 0x300, fr 7 (voB 0x300) false, 7, 1, 99, mlkGets_of (by decide +kernel), by delta MlkHears; decide +kernel, by decide +kernel, by decide +kernel, by decide +kernel⟩,
   ⟨txs 4, uu (txs 4) 8 1 (coB 5), ww (txs 4) 8 1 (coB 5), 1, hd 8 16, 0x705, coB 5, fr 8 (coB 5), 7, 1, 5, mlkGets_of (by decide +kernel), by delta MlkHears; decide +kernel, by decide +kernel, by decide +kernel, by decide +kernel, by decide +kernel, by decide +kernel⟩,
   ⟨txs 4, uu (txs 4) 9 1 (voB 0), ww (txs 4) 9 1 (voB 0), 1, hd 9 8, 0x705, voB 0, fr 9 (voB 0), 7, mlkGets_of (by decide +kernel), by delta MlkHears; decide +kernel, by decide +kernel, by decide +kernel, by decide +kernel⟩⟩

/-- States and operands that meet the hypotheses of clauses 12, 13, 14, 15 of MolmaFramesComplete. -/
theorem met_MolmaFramesComplete_d :
    (∃ (s u w : State) (i h0 h1 : Nat) (pl : List Byte) (fr : MlkFrame), MlkGets s 10 i h0 h1 pl fr u ∧ MlkHears u i fr w ∧ w.partnerSide = some i ∧ leNat (pl.take 1) = 6 ∧ w.pairState = 2) ∧
    (∃ (s u w : State) (i h0 h1 : Nat) (pl : List Byte) (fr : MlkFrame), MlkGets s 10 i h0 h1 pl fr u ∧ MlkHears u i fr w ∧ w.partnerSide = some i ∧ leNat (pl.take 1) = 2 ∧ w.pairState = 1) ∧
    (∃ (s u : State) (i h0 h1 : Nat) (pl : List Byte) (fr : MlkFrame) (t1 t2 t3 now : Nat), MlkGets s 11 i h0 h1 pl fr u ∧ u.sideState i = 3 ∧ i < 2 ∧ t1 = leNat (pl.take 8) ∧ t2 = leNat ((pl.drop 8).take 8) ∧ t3 = leNat ((pl.drop 16).take 8) ∧ now = u.time.ptp.toNat ∧ ¬ (t2 = 0 ∧ t3 = 0) ∧ t1 = (u.mside i).t1.toNat) ∧
    (∃ (s : State) (side h0 h1 : Nat), s.sideOn side = true) :=
  ⟨⟨pair 2, uu (pair 2) 10 1 (paB 6 2) false, uu (pair 2) 10 1 (paB 6 2) false, 1, hd 10 16 false, 0x705, paB 6 2, fr 10 (paB 6 2) false, mlkGets_of (by decide +kernel), by delta MlkHears; decide +kernel, by decide +kernel, by decide +kernel, by decide +kernel⟩,
   ⟨pair 1, uu (pair 1) 10 1 (paB 2 1) false, uu (pair 1) 10 1 (paB 2 1) false, 1, hd 10 16 false, 0x705, paB 2 1, fr 10 (paB 2 1) false, mlkGets_of (by decide +kernel), by delta MlkHears; decide +kernel, by decide +kernel, by decide +kernel, by decide +kernel⟩,
   ⟨tmS, uu tmS 11 1 (timB 1000 3000 3100), 1, hd 11 32, 0x705, timB 1000 3000 3100, fr 11 (timB 1000 3000 3100), 1000, 3000, 3100, 5000, mlkGets_of (by decide +kernel), by decide +kernel, by decide +kernel, by decide +kernel, by decide +kernel, by decide +kernel, by decide +kernel, by decide +kernel, by decide +kernel⟩,
   ⟨ml, 1, hd 12 60, 0, by decide +kernel⟩⟩

/-- States and operands that meet the hypotheses of clauses 1, 2, 3 of MolmaLinkWorkCompletes. -/
theorem met_MolmaLinkWorkCompletes_a :
    (∃ (s : State) (lane : Nat), lane < 4 ∧ s.mlkRuns = true ∧ s.sideState (s.laneSide lane) = 1) ∧
    (∃ s : State, s.mlkRuns = true) ∧
    (∃ s : State, s.mlkRuns = true) ∧
    (∃ (s : State) (lane : Nat), lane < 4 ∧ bitAt (s.fd R.MLK_STATUS F.MLK_STATUS_LANES) lane = true ∧ (∃ l ∈ s.sideLanes (s.laneSide lane), l ≠ lane)) :=
  ⟨⟨ml 1, 3, by decide +kernel⟩,
   ⟨ml 4, by decide +kernel⟩,
   ⟨ml 0, by decide +kernel⟩,
   ⟨lanes 15, 3, by decide +kernel⟩⟩

/-- States and operands that meet the hypotheses of clauses 4, 5, 6 of MolmaLinkWorkCompletes. -/
theorem met_MolmaLinkWorkCompletes_b :
    (∃ (s : State) (lane : Nat), lane < 4 ∧ s.sideLanes (s.laneSide lane) = [lane] ∧ ((s.sideState (s.laneSide lane) = 2 ∨ s.sideState (s.laneSide lane) = 3))) ∧
    (∃ (s : State) (lane : Nat), lane < 4 ∧ s.sideLanes (s.laneSide lane) = [lane] ∧ ((s.sideState (s.laneSide lane) = 2 ∨ s.sideState (s.laneSide lane) = 3))) ∧
    (∃ (s : State) (side : Nat), s.sideOn side = true ∧ (s.mside side).unacked ≠ [] ∧ (s.mside side).resends < 8) ∧
    (∃ (s : State) (side : Nat), s.sideOn side = true ∧ (s.mside side).unacked ≠ [] ∧ 8 ≤ (s.mside side).resends) :=
  ⟨⟨lanes 8, 3, by decide +kernel⟩,
   ⟨lanes 9 (ml 2), 3, by decide +kernel⟩,
   ⟨una 7, 1, by decide +kernel⟩,
   ⟨una 8, 1, by decide +kernel⟩⟩

/-- States and operands that meet the hypotheses of clauses 7, 8, 10 of MolmaLinkWorkCompletes. -/
theorem met_MolmaLinkWorkCompletes_c :
    (∃ (s : State) (e : RelEnt) (rest : List RelEnt) (n : Nat), s.relList 144 = e :: rest ∧ (s.slot e.id).cut = none ∧ n = max 60 e.tok.length.toNat ∧ s.sideOn s.dataSide = true ∧ s.sideState s.dataSide = 3 ∧ mlkCredits n ≤ (s.mside s.dataSide).credits) ∧
    (∃ s : State, 60 ≤ s.fte.tx.length ∧ s.floodSides.filter s.sideOn ≠ []) ∧
    (∃ s : State, 60 ≤ s.fte.tx.length ∧ s.floodSides.filter s.sideOn ≠ []) ∧
    (∃ (s : State) (side : Nat), s.mlkRuns = true ∧ (s.mside side).hello = true ∧ side ∈ s.mlkSides ∧ s.sideState side = 3) :=
  ⟨⟨outS, e0, [], 60, by decide +kernel⟩,
   ⟨ltx 60, by decide +kernel⟩,
   ⟨ltx 99, by decide +kernel⟩,
   ⟨hel, 1, by decide +kernel⟩⟩

/-- States and operands that meet the hypotheses of clauses 10, 11, 12 of MolmaLinkWorkCompletes. -/
theorem met_MolmaLinkWorkCompletes_d :
    (∃ (s : State) (side : Nat), s.mlkRuns = true ∧ (s.mside side).hello = true ∧ side ∈ s.mlkSides ∧ s.sideState side = 3) ∧
    (∃ (s : State) (side : Nat) (f : MlkFrame), s.boot.released = true ∧ s.sideOn side = true ∧ s.sideState side = 2 ∧ f = { s.mlkOwn 4 (s.buoyBytes side) with bcast := false, hops := 0, seq := (s.mside side).txSeq }) ∧
    (∃ (s : State) (side : Nat), s.mlkRuns = true ∧ s.boot.released = true ∧ side ∈ s.mlkSides ∧ s.sideState side ≠ 3 ∧ (s.mside side).helloTmo = false) ∧
    (∃ (s : State) (side : Nat), s.mlkRuns = true ∧ s.boot.released = true ∧ side ∈ s.mlkSides ∧ s.sideState side ≠ 3 ∧ (s.mside side).helloTmo = false) :=
  ⟨⟨hel (pair 2), 1, by decide +kernel⟩,
   ⟨ml 2, 1, { (ml 2).mlkOwn 4 ((ml 2).buoyBytes 1) with bcast := false, hops := 0, seq := 0 }, by decide +kernel⟩,
   ⟨ml 2, 1, by decide +kernel⟩,
   ⟨(ml 2).wf R.MLK_CFG F.MLK_CFG_TOPO 0 |>.wf (R.MLK_SIDE 0) F.MLK_SIDE_STATE 2, 0, by decide +kernel⟩⟩

/-- States and operands that meet the hypotheses of clauses 13, 14, 15 of MolmaLinkWorkCompletes. -/
theorem met_MolmaLinkWorkCompletes_e :
    (∃ s : State, s.mlk.electing = true) ∧
    (∃ s : State, s.mlk.electing = true) ∧
    (∃ (s : State) (side c : Nat), (s.mside side).splitFrom = some c ∧ (s.mside side).split = false ∧ s.sideState side = 3 ∧ (¬ (s.partnerSide = some side ∧ ((s.mside side).peer.pair = 6 ∨ s.pairState = 6)))) ∧
    (∃ s : State, s.mlkState = 4 ∧ s.flag R.MLK_STATUS F.MLK_STATUS_COORD = true) :=
  ⟨⟨elect, by decide +kernel⟩,
   ⟨(let s := elect; s.setMlk { s.mlk with members := (List.range 9).map (fun i => { serial := BitVec.ofNat 64 i }) }), by decide +kernel⟩,
   ⟨spl, 1, 5, by decide +kernel⟩,
   ⟨syn, by decide +kernel⟩⟩

/-- States and operands that meet the hypotheses of clauses 16 of MolmaLinkWorkCompletes. -/
theorem met_MolmaLinkWorkCompletes_f :
    (∃ (s : State) (c : Nat), s.mlk.retryFrom = some c ∧ s.mlkState = 4 ∧ s.flag R.MLK_STATUS F.MLK_STATUS_COORD = true ∧ s.txnState = 0 ∧ s.txnAsleepNow = false ∧ s.txn.lastNum = none) :=
  ⟨(let s := syn; s.setMlk { s.mlk with retryFrom := some 9 }), 9, by decide +kernel⟩

/-- States and operands that meet the hypotheses of clauses 1, 2, 3, 4 of MolmaPairWorkCompletes. -/
theorem met_MolmaPairWorkCompletes_a :
    (∃ (s : State) (num : W32) (e : BitVec 8) (dl : Nat), s.mlk.prepared = some (num, e, dl)) ∧
    (∃ (s : State) (i : Nat), s.mlk.instant = some i ∧ s.txnState = 4) ∧
    (∃ (s : State) (num : W32) (at_ : Nat), s.mlk.voted = some (num, at_) ∧ s.mlk.instant = none ∧ s.txnState = 4 ∧ s.mlk.doubt = false) ∧
    (∃ (s u : State) (mid : Nat) (gen : BitVec 8) (v : W32), s.takePair R.MLK_PAIR_CTRL mid gen v = some u ∧ bitAt v.toNat 0 = true ∧ s.pairState = 1) :=
  ⟨⟨prp (txs 4) 7 1, 7, 1, 99, by decide +kernel⟩,
   ⟨(let s := txs 4; s.setMlk { s.mlk with instant := some 0 }), 0, by decide +kernel⟩,
   ⟨(let s := txs 4; s.setMlk { s.mlk with voted := some (7, 3) }), 7, 3, by decide +kernel⟩,
   ⟨offer (pair 1) R.MLK_PAIR_CTRL 1, taken (offer (pair 1) R.MLK_PAIR_CTRL 1) R.MLK_PAIR_CTRL 1, 0x800, 1, 1, by decide +kernel⟩⟩

/-- States and operands that meet the hypotheses of clauses 5, 6 of MolmaPairWorkCompletes. -/
theorem met_MolmaPairWorkCompletes_b :
    (∃ (s : State) (c : Nat), s.mlk.holdFrom = some c ∧ s.pairState = 2) ∧
    (∃ (s : State) (c : Nat), s.mlk.holdFrom = some c ∧ s.pairState ≠ 2) :=
  ⟨⟨(let s := pair 2; s.setMlk { s.mlk with holdFrom := some 9 }), 9, by decide +kernel⟩,
   ⟨(let s := pair 1; s.setMlk { s.mlk with holdFrom := some 9 }), 9, by decide +kernel⟩⟩

end P12

namespace P13
def tm : Nat := threadMid 15 8 7
def arg (a : W32) (s : State := live) : State := s.wr R.MGT_RCV_ARG a
def fence (c k : Nat) (s : State := live) : State := (coreMids c k).foldl (fun t m => t.setGen m 0) s
def setS (m st : Nat) (s : State := live) : State := s.setThr m { (s.thr m) with st := st }
def sub : State := (((fence 15 3).wf R.GLB_MODE F.GLB_MODE_SPARE 1).wr (R.CLU_CORE_SLOT 15 3 2) 0x98765432).wf (R.MGT_CORE_STATE 15) F.MGT_CORE_STATE_SPARE 8 |>.wf (R.CLU_KEEPER 15) F.CLU_KEEPER_CORE 3
def job (r : Nat) (sb : Nat := tm) : RcvJob := { rung := r, subject := sb, sev := 2, code := 0x3001 }
def opn (r : Nat) (j : RcvJob) (q : List RcvJob := []) (s : State := live) : State := (s.setOpen r (some j)).setJobs r q
def out15 : State := live.wr R.MGT_CLU_OUT 0x8000
def log1 (s : State) : State := s.setRcv { s.rcv with elog := [{ code := 5 }, { code := 6 }] }
def eu (u : Nat) (r : ErrRec) (s : State := live) : State := { s with err := s.err.set (fun _ => {}) u { q := [r, { code := 3 }], ovf := true, line := true } }
def dn (x : RcvSt) : State := { (live.wf R.BCN_MGT_STATUS F.BCN_MGT_STATUS_HEADLESS 1) with rcv := x, time := { clock := 1000000000 } }
def kp (s : State) : State := s.setBcn { s.bcn with kept := [{ code := 0x680A, sev := 3 }] }
def rmt : State := (live.setGen tm 0).setRcv { readmit := some (tm, 7) }
def flowS : State := (odsLive.setSlot 5 { used := true, tok := { id := 5, node := 1 }, place := .queue 0 }).setQueue 0 [5]
def pairM (s : State) : State := (s.wf R.GLB_MODE F.GLB_MODE_PAIR 1).wf R.MLK_PAIR_STATUS F.MLK_PAIR_STATUS_STATE 1

/-- States and operands that meet the hypotheses of clauses 1, 2, 3 of RecoveryCommandsComplete. -/
theorem met_RecoveryCommandsComplete_a :
    (∃ (s : State) (mid : Nat) (gen : BitVec 8) (m : Nat), RcvTakes s mid gen 1 ∧ m = (s.rd R.MGT_RCV_ARG).toNat % 4096 ∧ mayRevoke m = true) ∧
    (∃ (s : State) (mid : Nat) (gen : BitVec 8) (m : Nat), RcvTakes s mid gen 1 ∧ m = (s.rd R.MGT_RCV_ARG).toNat % 4096 ∧ mayRevoke m = true) ∧
    (∃ (s : State) (mid : Nat) (gen : BitVec 8) (m : Nat), RcvTakes s mid gen 2 ∧ m = (s.rd R.MGT_RCV_ARG).toNat % 4096 ∧ s.readmitCheck m = 0) ∧
    (∃ (s : State) (m c : Nat), s.rcv.readmit = some (m, c) ∧ s.headless = false ∧ (∀ p ∈ s.bcn.xings, p.1 ≠ midIsland m ∧ p.2 ≠ midIsland m)) :=
  ⟨⟨arg (BitVec.ofNat 32 tm), 0x807, 1, tm, by delta RcvTakes Sys2Proof.Machine.State.Reached; decide +kernel⟩,
   ⟨arg 0xB2F, 0x807, 1, 0xB2F, by delta RcvTakes Sys2Proof.Machine.State.Reached; decide +kernel⟩,
   ⟨(arg (BitVec.ofNat 32 tm)).setGen tm 0, 0x807, 1, tm, by delta RcvTakes Sys2Proof.Machine.State.Reached; decide +kernel⟩,
   ⟨rmt, tm, 7, by decide +kernel⟩⟩

/-- States and operands that meet the hypotheses of clauses 4, 5, 6 of RecoveryCommandsComplete. -/
theorem met_RecoveryCommandsComplete_b :
    (∃ (s : State) (mid : Nat) (gen : BitVec 8) (c k : Nat), RcvTakes s mid gen 3 ∧ c = bitsOf (s.rd R.MGT_RCV_ARG).toNat 4 4 ∧ k = (s.rd R.MGT_RCV_ARG).toNat % 16 ∧ k < 9 ∧ s.coreFenced c k = true ∧ ¬ (mid < 0x800 ∧ midCluster mid = c ∧ midCore mid = k)) ∧
    (∃ (s : State) (mid : Nat) (gen : BitVec 8) (c k : Nat), RcvTakes s mid gen 3 ∧ c = bitsOf (s.rd R.MGT_RCV_ARG).toNat 4 4 ∧ k = (s.rd R.MGT_RCV_ARG).toNat % 16 ∧ k < 9 ∧ s.coreFenced c k = true ∧ ¬ (mid < 0x800 ∧ midCluster mid = c ∧ midCore mid = k)) ∧
    (∃ (s : State) (mid : Nat) (gen : BitVec 8) (c k : Nat), RcvTakes s mid gen 4 ∧ c = bitsOf (s.rd R.MGT_RCV_ARG).toNat 4 4 ∧ k = (s.rd R.MGT_RCV_ARG).toNat % 16 ∧ k < 9 ∧ s.coreFenced c k = true ∧ s.mode F.GLB_MODE_SPARE = true ∧ s.flag (R.MGT_CORE_STATE c) F.MGT_CORE_STATE_SPARE_USED = false ∧ s.spareCore c < 9 ∧ s.spareCore c ≠ k) ∧
    (∃ (s : State) (c : Nat), c < 16 ∧ s.headless = false ∧ s.flag (R.MGT_CORE_STATE c) F.MGT_CORE_STATE_SPARE_USED = true ∧ (∀ m ∈ coreMids c (s.fd (R.MGT_CORE_STATE c) F.MGT_CORE_STATE_SUBST), s.genOf m ≠ 0 ∧ (s.thr m).st = 0)) :=
  ⟨⟨arg 0xF8 (fence 15 8), 0x807, 1, 15, 8, by delta RcvTakes Sys2Proof.Machine.State.Reached; decide +kernel⟩,
   ⟨arg 0xF3 (fence 15 3 (live.wf (R.CLU_KEEPER 15) F.CLU_KEEPER_CORE 8)), tm, 1, 15, 3, by delta RcvTakes Sys2Proof.Machine.State.Reached; decide +kernel⟩,
   ⟨arg 0xF3 sub, 0x807, 1, 15, 3, by delta RcvTakes Sys2Proof.Machine.State.Reached; decide +kernel⟩,
   ⟨((live.wf (R.MGT_CORE_STATE 15) F.MGT_CORE_STATE_SPARE_USED 1).wf (R.MGT_CORE_STATE 15) F.MGT_CORE_STATE_SUBST 8), 15, by decide +kernel⟩⟩

/-- States and operands that meet the hypotheses of clauses 7, 8, 9, 10 of RecoveryCommandsComplete. -/
theorem met_RecoveryCommandsComplete_c :
    (∃ (s : State) (mid : Nat) (gen : BitVec 8) (c : Nat), RcvTakes s mid gen 5 ∧ c = (s.rd R.MGT_RCV_ARG).toNat % 16 ∧ s.cluOut c = false) ∧
    (∃ (s : State) (mid : Nat) (gen : BitVec 8) (c : Nat), RcvTakes s mid gen 6 ∧ c = (s.rd R.MGT_RCV_ARG).toNat % 16 ∧ s.cluOut c = true ∧ c ∉ s.rcv.iramBad) ∧
    (∃ (s : State) (mid : Nat) (gen : BitVec 8) (c : Nat), RcvTakes s mid gen 7 ∧ c = (s.rd R.MGT_RCV_ARG).toNat % 16 ∧ s.cluOut c = true ∧ (∀ m ∈ cluMids c, s.genOf m ≠ 0)) ∧
    (∃ (s : State) (mid : Nat) (gen : BitVec 8) (arg : Nat), RcvTakes s mid gen 8 ∧ arg = (s.rd R.MGT_RCV_ARG).toNat) :=
  ⟨⟨arg 15, 0x807, 1, 15, by delta RcvTakes Sys2Proof.Machine.State.Reached; decide +kernel⟩,
   ⟨arg 15 out15, 0x807, 1, 15, by delta RcvTakes Sys2Proof.Machine.State.Reached; decide +kernel⟩,
   ⟨arg 15 out15, 0x807, 1, 15, by delta RcvTakes Sys2Proof.Machine.State.Reached; decide +kernel⟩,
   ⟨arg 0x80000005 flowS, 0x807, 1, 0x80000005, by delta RcvTakes Sys2Proof.Machine.State.Reached; decide +kernel⟩⟩

/-- States and operands that meet the hypotheses of clauses 10, 11, 12 of RecoveryCommandsComplete. -/
theorem met_RecoveryCommandsComplete_d :
    (∃ (s : State) (mid : Nat) (gen : BitVec 8) (arg : Nat), RcvTakes s mid gen 8 ∧ arg = (s.rd R.MGT_RCV_ARG).toNat) ∧
    (∃ (s : State) (mid : Nat) (gen : BitVec 8) (r : Nat) (j : RcvJob), RcvTakes s mid gen 9 ∧ s.recovererOf mid = some r ∧ s.openJob r = some j) ∧
    (∃ (s : State) (mid : Nat) (gen : BitVec 8) (r : Nat) (j : RcvJob), RcvTakes s mid gen 9 ∧ s.recovererOf mid = some r ∧ s.openJob r = some j) ∧
    (∃ (s : State) (mid : Nat) (gen : BitVec 8) (r : Nat) (j : RcvJob), RcvTakes s mid gen 0xA ∧ s.recovererOf mid = some r ∧ s.openJob r = some j) :=
  ⟨⟨arg 0x000FFFFF flowS, 0x807, 1, 0xFFFFF, by delta RcvTakes Sys2Proof.Machine.State.Reached; decide +kernel⟩,
   ⟨opn 16 (job 2) [job 2 3, job 2 4], 0x807, 1, 16, job 2, by delta RcvTakes Sys2Proof.Machine.State.Reached; decide +kernel⟩,
   ⟨opn 15 (job 0) [] (live.wf (R.CLU_KEEPER 15) F.CLU_KEEPER_CORE 8), tm, 1, 15, job 0, by delta RcvTakes Sys2Proof.Machine.State.Reached; decide +kernel⟩,
   ⟨opn 15 (job 0) [] (live.wf (R.CLU_KEEPER 15) F.CLU_KEEPER_CORE 8), tm, 1, 15, job 0, by delta RcvTakes Sys2Proof.Machine.State.Reached; decide +kernel⟩⟩

/-- States and operands that meet the hypotheses of clauses 12, 13, 14 of RecoveryCommandsComplete. -/
theorem met_RecoveryCommandsComplete_e :
    (∃ (s : State) (mid : Nat) (gen : BitVec 8) (r : Nat) (j : RcvJob), RcvTakes s mid gen 0xA ∧ s.recovererOf mid = some r ∧ s.openJob r = some j) ∧
    (∃ s : State, s.headless = false ∧ s.flag R.MGT_RCV_CMD F.MGT_RCV_CMD_BUSY = true ∧ s.rcvDone = true) ∧
    (∃ (s : State) (mid : Nat) (gen : BitVec 8), s.Reached mid gen R.MGT_ELOG_CTRL 0x40000000) :=
  ⟨⟨opn 16 (job 2) [job 2 3, job 2 4], 0x807, 1, 16, job 2, by delta RcvTakes Sys2Proof.Machine.State.Reached; decide +kernel⟩,
   ⟨(live.setRcv { waits := [3] }).wf R.MGT_RCV_CMD F.MGT_RCV_CMD_BUSY 1 |>.setRes R.MGT_RCV_CMD 0x01000005, by decide +kernel⟩,
   ⟨log1 live, 0x800, 1, by delta Sys2Proof.Machine.State.Reached; decide +kernel⟩⟩

/-- States and operands that meet the hypotheses of clauses 1, 2 of FaultWorkCompletes. -/
theorem met_FaultWorkCompletes_a :
    (∃ (s : State) (u : Nat) (r : ErrRec) (rest : List ErrRec), s.headless = false ∧ s.inReset = false ∧ s.nextUnit = some u ∧ (s.errOf u).q = r :: rest ∧ s.rcv.elog.length < 4096) ∧
    (∃ (s : State) (u : Nat) (r : ErrRec) (rest : List ErrRec), s.headless = false ∧ s.inReset = false ∧ s.nextUnit = some u ∧ (s.errOf u).q = r :: rest ∧ s.rcv.elog.length < 4096) ∧
    (∃ (s : State) (r : Nat) (j : RcvJob), r < 17 ∧ s.headless = false ∧ s.openJob r = some j) ∧
    (∃ (s : State) (r : Nat) (j : RcvJob), r < 17 ∧ s.headless = false ∧ s.openJob r = some j) :=
  ⟨⟨eu 16 { code := 0x8001 }, 16, { code := 0x8001 }, [{ code := 3 }], by decide +kernel⟩,
   ⟨(eu 6 { code := 0x3001, sev := 2, mid := BitVec.ofNat 12 tm, gen := 1, unit := 6 }).wf R.MGT_BOOT_STATUS F.MGT_BOOT_STATUS_STATE 1, 6, { code := 0x3001, sev := 2, mid := BitVec.ofNat 12 tm, gen := 1, unit := 6 }, [{ code := 3 }], by decide +kernel⟩,
   ⟨opn 16 (job 2) [job 2 3], 16, job 2, by decide +kernel⟩,
   ⟨opn 15 (job 0), 15, job 0, by decide +kernel⟩⟩

/-- States and operands that meet the hypotheses of clauses 3, 4, 5, 6 of FaultWorkCompletes. -/
theorem met_FaultWorkCompletes_b :
    (∃ s : State, s.inReset = false ∧ s.headless = false) ∧
    (∃ s : State, s.inReset = false ∧ s.headless = false ∧ s.flag R.BCN_MGT_WD F.BCN_MGT_WD_EN = true) ∧
    (∃ (s : State) (mid : Nat) (gen : BitVec 8) (v : W32), s.Reached mid gen R.BCN_MGT_WD (v ||| 0x40000000)) ∧
    (∃ (s : State) (n : Nat), n = s.fd R.BCN_MGT_STATUS F.BCN_MGT_STATUS_ATTEMPTS ∧ s.headless = true ∧ s.rcv.restarting = false ∧ s.rcv.noReturn = false ∧ s.inReset = false ∧ n < max 1 (s.fd R.BCN_MGT_WD F.BCN_MGT_WD_RETRIES)) :=
  ⟨⟨setS 0x807 1, by decide +kernel⟩,
   ⟨(setS 0x807 1).wf R.BCN_MGT_WD F.BCN_MGT_WD_EN 1, by decide +kernel⟩,
   ⟨live, 0x800, 1, 0x80000000, by delta Sys2Proof.Machine.State.Reached; decide +kernel⟩,
   ⟨dn { downAt := 999999999 }, 0, by decide +kernel⟩⟩

/-- States and operands that meet the hypotheses of clauses 7, 8, 9 of FaultWorkCompletes. -/
theorem met_FaultWorkCompletes_c :
    (∃ (s : State) (ms : Nat), s.headless = true ∧ s.rcv.restarting = true ∧ s.inReset = false ∧ ms = min 65535 ((s.time.clock - s.rcv.lostAt) / 250000)) ∧
    (∃ s : State, s.headless = true ∧ s.rcv.noReturn = false ∧ s.inReset = false) ∧
    (∃ s : State, s.headless = true ∧ s.rcv.noReturn = false ∧ s.inReset = false) ∧
    (∃ (s : State) (code : Nat), s.mlk.taking = none ∧ s.inReset = false ∧ s.chipCode = some code) :=
  ⟨⟨kp (dn { restarting := true, lostAt := 9 }), 3999, by decide +kernel⟩,
   ⟨dn { restarting := true, lostAt := 1000000000 }, by decide +kernel⟩,
   ⟨pairM (dn { lostAt := 7 }), by decide +kernel⟩,
   ⟨pairM (live.setRcv { chipDue := some 0x680C }), 0x680C, by decide +kernel⟩⟩

/-- States and operands that meet the hypotheses of clauses 9, 10 of FaultWorkCompletes. -/
theorem met_FaultWorkCompletes_d :
    (∃ (s : State) (code : Nat), s.mlk.taking = none ∧ s.inReset = false ∧ s.chipCode = some code) ∧
    (∃ (s : State) (c : Nat), s.rcv.chipAt = some c ∧ s.flag R.MGT_FAULT_CFG F.MGT_FAULT_CFG_AUTO_RESTART = true ∧ s.inReset = false) :=
  ⟨⟨{ dn {} with err := [(3, { chip := some 5 })] }, 5, by decide +kernel⟩,
   ⟨(live.setRcv { chipAt := some 5 }).wf R.MGT_FAULT_CFG F.MGT_FAULT_CFG_AUTO_RESTART 1, 5, by decide +kernel⟩⟩

end P13

namespace P14
def hst : State := live.wf R.HIF_PCIE_STATUS F.HIF_PCIE_STATUS_LINK_UP 1
def hl (x : HifSt) (s : State := hst) : State := s.setHif x
def hdr : State := (((hst.wf (R.DMC_CH_STATUS 7) F.DMC_CH_STATUS_STATE 3).wf (R.DMC_CH_STATUS 7) F.DMC_CH_STATUS_CAP 128).wr R.DMC_MAP 0x8002).wf R.DMC_GSTATUS F.DMC_GSTATUS_INSTALLED 128
def hdb : State := hdr.setBytes .dram (128 * 2 ^ 30 - 70) (List.replicate 70 7)
def bSp (s : State := hst) : State := s.wf R.HIF_BAR4_WIN F.HIF_BAR4_WIN_TARGET 0x1F
def bDr : State := hdb.wf R.HIF_BAR4_WIN F.HIF_BAR4_WIN_BASE 0x1FFF
def rdr : State := hl { reads := [{ bar := 0, off := 12, since := 5 }, { bar := 4, off := 1, since := 6 }] }
def rdw : State := hl { reads := [{ bar := 0, off := R.GLB_MODE, since := 5 }, { bar := 4, off := 1, since := 6 }] }
def spB : State := hst.setLow { hst.low with spitBusy := some (12, 5) }
def irqv (v : Nat) (x : HifSt) : State := (hl x).irq v
def qS (q cfg spad tail head : Nat) (s : State := hst) : State := (((s.setQw q 2 (BitVec.ofNat 32 cfg)).setQw q 3 (BitVec.ofNat 32 spad)).setQw q 4 (BitVec.ofNat 32 tail)).setQw q 5 (BitVec.ofNat 32 head)
def tmH : Nat := threadMid 15 8 7
def rxS : State := ((((qS 1791 (2 ^ 31 + 2 ^ 28 + 6 * 2 ^ 16 + 2 ^ 15) 0 9 65535).wf R.HIF_RX_MAP F.HIF_RX_MAP_BASE 1788).wf R.HIF_RX_MAP F.HIF_RX_MAP_LOG 2).setSlot 5 { used := true, refs := 1 }).relPush 145 { id := 5, tok := { length := 20, flow := 7 } }
def rxE : RelEnt := (rxS.relList 145).headD {}
def h2d (hd tl : Nat) (sp : Nat := 0x7E000) : State := ((qS 7 (2 ^ 31 + 2 * 2 ^ 28 + 6 * 2 ^ 16 + 2 ^ 15 + tmH) sp 2 65535).stN (.spad 15) sp 8 hd).stN (.spad 15) (sp + 8) 8 tl
def d2h (hd tl : Nat) (sp : Nat := 0x7E000) : State := ((qS 7 (2 ^ 31 + 3 * 2 ^ 28 + 6 * 2 ^ 16 + 2 ^ 15 + tmH) sp 2 65500).stN (.spad 15) sp 8 hd).stN (.spad 15) (sp + 8) 8 tl
def rcP (st : Nat) (p : Nat := 3) : State := ((hst.wr R.HIF_RC_CFG 2).wr R.HIF_RC_CTRL 8).wf (R.HIF_RC_STATUS p) F.HIF_RC_STATUS_STATE st
def rcN : State := ((rcP 3).wf (R.REC_NS 63) F.REC_NS_PORT 3).wf (R.REC_NS_STATUS 63) F.REC_NS_STATUS_STATE 1

/-- States and operands that meet the hypotheses of clauses 1, 2 of HostAccessesComplete. -/
theorem met_HostAccessesComplete_a :
    (∃ (s u : State) (off : Nat) (v : W32), s.hifOn = true ∧ s.hostUp = true ∧ off % 4 = 0 ∧ off < 2 ^ 24 ∧ s.semWaits hostMid off = false ∧ s.routeRead off hostMid s.hostGen = (u, .value v)) ∧
    (∃ (s u : State) (off : Nat) (v : W32), s.hifOn = true ∧ s.hostUp = true ∧ off % 4 = 0 ∧ off < 2 ^ 24 ∧ s.semWaits hostMid off = false ∧ s.routeRead off hostMid s.hostGen = (u, .value v)) ∧
    (∃ (s : State) (off v len : Nat) (q w : Nat), s.hifOn = true ∧ s.hostUp = true ∧ q < 1792 ∧ w < 7 ∧ off = 0x10000 + q * 0x40 + 4 * w ∧ len = 4 ∧ v = (s.qw q w).toNat) ∧
    (∃ (s : State) (off v len : Nat) (q w : Nat), s.hifOn = true ∧ s.hostUp = true ∧ q < 1792 ∧ w < 7 ∧ off = 0x10000 + q * 0x40 + 4 * w ∧ len = 4 ∧ v = (s.qw q w).toNat) :=
  ⟨⟨hst, (hst.routeRead R.GLB_MODE hostMid hst.hostGen).1, R.GLB_MODE, hst.rd R.GLB_MODE, by decide +kernel⟩,
   ⟨rdw, (rdw.routeRead R.GLB_MODE hostMid rdw.hostGen).1, R.GLB_MODE, rdw.rd R.GLB_MODE, by decide +kernel⟩,
   ⟨qS 1791 5 6 7 8, 0x10000 + 1791 * 0x40 + 8, 5, 4, 1791, 2, by decide +kernel⟩,
   ⟨qS 0 5 6 7 8, 0x10000 + 20, 8, 4, 0, 5, by decide +kernel⟩⟩

/-- States and operands that meet the hypotheses of clauses 3, 4 of HostAccessesComplete. -/
theorem met_HostAccessesComplete_b :
    (∃ (s : State) (off : Nat) (bs : List Byte) (v : W32) (c : Card), s.hifOn = true ∧ s.hostUp = true ∧ off ∈ plainRegs ∧ cardAt off = some c ∧ bs.length = 4 ∧ v = BitVec.ofNat 32 (leNat bs) ∧ s.Reached hostMid s.hostGen off v) ∧
    (∃ (s : State) (off : Nat) (bs : List Byte) (v : W32) (c : Card), s.hifOn = true ∧ s.hostUp = true ∧ off ∈ plainRegs ∧ cardAt off = some c ∧ bs.length = 4 ∧ v = BitVec.ofNat 32 (leNat bs) ∧ s.Reached hostMid s.hostGen off v) ∧
    (∃ (s : State) (off be : Nat) (bs : List Byte), s.hifOn = true ∧ s.hostUp = true) ∧
    (∃ (s : State) (off be : Nat) (bs : List Byte), s.hifOn = true ∧ s.hostUp = true) :=
  ⟨⟨hst, R.SEM_CFG, [1, 2, 3, 4], 0x04030201, cardOf R.SEM_CFG, by delta Sys2Proof.Machine.State.Reached; decide +kernel⟩,
   ⟨hst, R.MGT_FAULT_CFG, [255, 255, 255, 255], 0xFFFFFFFF, cardOf R.MGT_FAULT_CFG, by delta Sys2Proof.Machine.State.Reached; decide +kernel⟩,
   ⟨hst, 5, 3, [0, 0xC0], by decide +kernel⟩,
   ⟨hst, 5, 3, [0, 0x80, 9, 9], by decide +kernel⟩⟩

/-- States and operands that meet the hypotheses of clauses 5, 6, 7, 8 of HostAccessesComplete. -/
theorem met_HostAccessesComplete_c :
    (∃ (s : State) (r : HostRd) (rs : List HostRd), s.hifOn = true ∧ s.hif.reads = r :: rs) ∧
    (∃ (s : State) (off since : Nat), s.hifOn = true ∧ s.low.spitBusy = some (off, since)) ∧
    (∃ (s u : State) (off len be base : Nat) (bs : List Byte), s.hifOn = true ∧ s.hostUp = true ∧ s.bar4At = some (.dram base) ∧ 0 < len ∧ len ≤ 512 ∧ off + len ≤ 2 ^ 24 ∧ base + off + len ≤ s.dramSize ∧ s.hostGet 0 0 (lineParts (base + off) len) = (u, .bytes bs)) ∧
    (∃ (s : State) (off be c : Nat) (bs : List Byte), s.hifOn = true ∧ s.hostUp = true ∧ s.bar4At = some (.spad c) ∧ bs ≠ [] ∧ bs.length ≤ 512 ∧ off + bs.length ≤ 0x80000) :=
  ⟨⟨rdr, { bar := 0, off := 12, since := 5 }, [{ bar := 4, off := 1, since := 6 }], by decide +kernel⟩,
   ⟨spB, 12, 5, by decide +kernel⟩,
   ⟨bDr, (bDr.hostGet 0 0 (lineParts (0x1FFF * 2 ^ 24 + (2 ^ 24 - 70)) 70)).1, 2 ^ 24 - 70, 70, 3, 0x1FFF * 2 ^ 24, List.replicate 70 7, by decide +kernel⟩,
   ⟨bSp, 0x7FFF8, 3, 15, [1, 2, 3, 4, 5, 6, 7, 8], by decide +kernel⟩⟩

/-- States and operands that meet the hypotheses of clauses 9, 10 of HostAccessesComplete. -/
theorem met_HostAccessesComplete_d :
    (∃ (s u : State) (off : Nat) (v : W32), s.debugOpen = true ∧ s.hifOn = true ∧ off % 4 = 0 ∧ off < 2 ^ 24 ∧ (s.jtagBypass 0x10).routeRead off hostMid s.hostGen = (u, .value v)) ∧
    (∃ (s : State) (off c : Nat) (v : W32), s.hifOn = true ∧ s.bar4At = some (.spad c) ∧ off % 4 = 0 ∧ off + 4 ≤ 0x80000) :=
  ⟨⟨hst, ((hst.jtagBypass 0x10).routeRead R.GLB_MODE hostMid hst.hostGen).1, R.GLB_MODE, hst.rd R.GLB_MODE, by decide +kernel⟩,
   ⟨bSp, 0x7FFFC, 15, 0x12345678, by decide +kernel⟩⟩

/-- States and operands that meet the hypotheses of clauses 1, 2, 3 of HostInterfaceCompletes. -/
theorem met_HostInterfaceCompletes_a :
    (∃ (s : State) (cause : Nat), s.inReset = false) ∧
    (∃ (s : State) (cause : Nat), s.inReset = false) ∧
    (∃ (s : State) (width speed : Nat), s.hifOn = true ∧ s.boot.perst = true ∧ 3 ≤ s.fd R.MGT_BOOT_STATUS F.MGT_BOOT_STATUS_STEP) ∧
    (∃ (s : State) (v : Nat), v < 2048 ∧ ¬ (240 ≤ v ∧ v < 256) ∧ s.hifOn = true ∧ s.msix.get (fun _ => false) v = true ∧ s.hif.msixEn = true) :=
  ⟨⟨rdr, 0, by decide +kernel⟩,
   ⟨rdr, 7, by decide +kernel⟩,
   ⟨{ live with boot := { live.boot with perst := true } } |>.wf R.MGT_BOOT_STATUS F.MGT_BOOT_STATUS_STEP 3, 16, 5, by decide +kernel⟩,
   ⟨irqv 2047 { msixEn := true }, 2047, by decide +kernel⟩⟩

/-- States and operands that meet the hypotheses of clauses 3, 4, 5 of HostInterfaceCompletes. -/
theorem met_HostInterfaceCompletes_b :
    (∃ (s : State) (v : Nat), v < 2048 ∧ ¬ (240 ≤ v ∧ v < 256) ∧ s.hifOn = true ∧ s.msix.get (fun _ => false) v = true ∧ s.hif.msixEn = true) ∧
    (∃ (s : State) (mid : Nat) (gen : BitVec 8), s.Reached mid gen R.HIF_KEEPER_BELL 0 ∧ midIsThread mid = true ∧ mid = s.keeperMid (midCluster mid)) ∧
    (∃ (s : State) (q : Nat) (v w : W32), q < 1792 ∧ s.hifOn = true ∧ s.hostUp = true ∧ s.qOn q = false ∧ w = (v ||| 0x80000000) &&& 0xB00F8FFF ∧ bitsOf w.toNat 28 2 ≠ 0 ∧ 6 ≤ bitsOf w.toNat 16 4 ∧ bitsOf w.toNat 16 4 ≤ 12 ∧ ((2 ≤ bitsOf w.toNat 28 2 → midIsThread (bitsOf w.toNat 0 12) = true ∧ s.qSpad q + 64 + 64 * 2 ^ bitsOf w.toNat 16 4 ≤ 0x80000))) ∧
    (∃ (s : State) (q : Nat) (v w : W32), q < 1792 ∧ s.hifOn = true ∧ s.hostUp = true ∧ s.qOn q = false ∧ w = (v ||| 0x80000000) &&& 0xB00F8FFF ∧ bitsOf w.toNat 28 2 ≠ 0 ∧ 6 ≤ bitsOf w.toNat 16 4 ∧ bitsOf w.toNat 16 4 ≤ 12 ∧ ((2 ≤ bitsOf w.toNat 28 2 → midIsThread (bitsOf w.toNat 0 12) = true ∧ s.qSpad q + 64 + 64 * 2 ^ bitsOf w.toNat 16 4 ≤ 0x80000))) :=
  ⟨⟨irqv 0 { msixEn := true, msixMask := true, table := [(3, 0)] }, 0, by decide +kernel⟩,
   ⟨(live.wf (R.CLU_KEEPER 15) F.CLU_KEEPER_CORE 3), threadMid 15 3 7, 1, by delta Sys2Proof.Machine.State.Reached; decide +kernel⟩,
   ⟨qS 1791 0 0x7E000 7 8, 1791, 0x10060000, 0x90060000, by decide +kernel⟩,
   ⟨qS 1791 0 (0x80000 - 64 - 64 * 64) 7 8, 1791, BitVec.ofNat 32 (3 * 2 ^ 28 + 6 * 2 ^ 16 + tmH), BitVec.ofNat 32 (2 ^ 31 + 3 * 2 ^ 28 + 6 * 2 ^ 16 + tmH), by decide +kernel⟩⟩

/-- States and operands that meet the hypotheses of clauses 6, 7 of HostInterfaceCompletes. -/
theorem met_HostInterfaceCompletes_c :
    (∃ (s : State) (q : Nat) (v : W32), q < 1792 ∧ s.hifOn = true ∧ s.hostUp = true ∧ s.qKind q ≠ 3) ∧
    (∃ (s : State) (q : Nat) (v : W32), q < 1792 ∧ s.hifOn = true ∧ s.hostUp = true ∧ s.qKind q ≠ 3) ∧
    (∃ (s : State) (q : Nat) (v : W32), q < 1792 ∧ s.hifOn = true ∧ s.hostUp = true ∧ s.qKind q = 3) ∧
    (∃ (s : State) (q : Nat) (v : W32), q < 1792 ∧ s.hifOn = true ∧ s.hostUp = true ∧ s.qKind q = 3) :=
  ⟨⟨qS 1791 0x90060000 0 7 8, 1791, 0x12345678, by decide +kernel⟩,
   ⟨qS 0 0 0 7 8, 0, 0xFFFF, by decide +kernel⟩,
   ⟨qS 1791 0xB0060000 0 7 8, 1791, 0x12345678, by decide +kernel⟩,
   ⟨d2h 70 2, 7, 65530, by decide +kernel⟩⟩

/-- States and operands that meet the hypotheses of clauses 8, 9, 10 of HostInterfaceCompletes. -/
theorem met_HostInterfaceCompletes_d :
    (∃ (s : State) (e : RelEnt) (rest : List RelEnt) (q buf size : Nat), s.relList 145 = e :: rest ∧ s.hifOn = true ∧ q = s.fd R.HIF_RX_MAP F.HIF_RX_MAP_BASE + e.tok.flow.toNat % 2 ^ s.fd R.HIF_RX_MAP F.HIF_RX_MAP_LOG ∧ q < 1792 ∧ s.qOn q = true ∧ s.qKind q = 1 ∧ s.qHead q ≠ s.qTail q) ∧
    (∃ (s : State) (q c a size head tail n : Nat) (data : List Byte), q < 1792 ∧ s.hifOn = true ∧ s.qOn q = true ∧ s.qKind q = 2 ∧ c = midCluster (s.qMid q) ∧ a = s.qSpad q ∧ size = 2 ^ s.qLog q ∧ head = s.ldN (spadOf c) a 8 % 65536 ∧ tail = s.ldN (spadOf c) (a + 8) 8 % 65536 ∧ n = min (min (idxGap (s.qHead q) (s.qTail q)) (data.length / 64)) (size - min size (idxGap head tail)) ∧ n ≠ 0) ∧
    (∃ (s : State) (q c a size head tail n : Nat) (data : List Byte), q < 1792 ∧ s.hifOn = true ∧ s.qOn q = true ∧ s.qKind q = 2 ∧ c = midCluster (s.qMid q) ∧ a = s.qSpad q ∧ size = 2 ^ s.qLog q ∧ head = s.ldN (spadOf c) a 8 % 65536 ∧ tail = s.ldN (spadOf c) (a + 8) 8 % 65536 ∧ n = min (min (idxGap (s.qHead q) (s.qTail q)) (data.length / 64)) (size - min size (idxGap head tail)) ∧ n ≠ 0) ∧
    (∃ (s : State) (mid : Nat) (gen : BitVec 8) (q c a size head tail n : Nat), s.Reached mid gen R.HIF_D2H_BELL (BitVec.ofNat 32 q) ∧ q < 1792 ∧ s.qMid q = mid ∧ s.qOn q = true ∧ s.qKind q = 3 ∧ c = midCluster mid ∧ a = s.qSpad q ∧ size = 2 ^ s.qLog q ∧ head = s.ldN (spadOf c) a 8 % 65536 ∧ tail = s.ldN (spadOf c) (a + 8) 8 % 65536 ∧ n = min (min (idxGap head tail) size) (size - min size (idxGap (s.qHead q) (s.qTail q))) ∧ n ≠ 0) :=
  ⟨⟨rxS, rxE, [], 1791, 0x1000, 9, by decide +kernel⟩,
   ⟨h2d 65530 65535, 7, 15, 0x7E000, 64, 65530, 65535, 2, List.replicate 128 5, by decide +kernel⟩,
   ⟨h2d 0 63 0xFFFFFFC0, 7, 15, 0xFFFFFFC0, 64, 0, 63, 1, List.replicate 200 5, by decide +kernel⟩,
   ⟨d2h 65530 65535, tmH, 1, 7, 15, 0x7E000, 64, 65530, 65535, 5, by delta Sys2Proof.Machine.State.Reached; decide +kernel⟩⟩

/-- States and operands that meet the hypotheses of clauses 10, 11, 12 of HostInterfaceCompletes. -/
theorem met_HostInterfaceCompletes_e :
    (∃ (s : State) (mid : Nat) (gen : BitVec 8) (q c a size head tail n : Nat), s.Reached mid gen R.HIF_D2H_BELL (BitVec.ofNat 32 q) ∧ q < 1792 ∧ s.qMid q = mid ∧ s.qOn q = true ∧ s.qKind q = 3 ∧ c = midCluster mid ∧ a = s.qSpad q ∧ size = 2 ^ s.qLog q ∧ head = s.ldN (spadOf c) a 8 % 65536 ∧ tail = s.ldN (spadOf c) (a + 8) 8 % 65536 ∧ n = min (min (idxGap head tail) size) (size - min size (idxGap (s.qHead q) (s.qTail q))) ∧ n ≠ 0) ∧
    (∃ (s : State) (q reason : Nat), q < 1792 ∧ s.qOn q = true ∧ s.hifOn = true) ∧
    (∃ (s : State) (q reason : Nat), q < 1792 ∧ s.qOn q = true ∧ s.hifOn = true) ∧
    (∃ (s u : State) (mid : Nat) (gen : BitVec 8) (v : W32), s.takePair R.HIF_RC_CFG mid gen v = some u ∧ v.toNat % 4 ≠ 3 ∧ s.fd R.HIF_RC_CTRL F.HIF_RC_CTRL_EN = 0) :=
  ⟨⟨d2h 5 70 0xFFFFFFC0, tmH, 1, 7, 15, 0xFFFFFFC0, 64, 5, 70, 26, by delta Sys2Proof.Machine.State.Reached; decide +kernel⟩,
   ⟨qS 1791 0x90060000 0 7 8, 1791, 2, by decide +kernel⟩,
   ⟨qS 0 0x90060000 0 7 8, 0, 1, by decide +kernel⟩,
   ⟨offer (live.wr R.HIF_RC_CFG 1) R.HIF_RC_CFG 0xF6, taken (offer (live.wr R.HIF_RC_CFG 1) R.HIF_RC_CFG 0xF6) R.HIF_RC_CFG 0xF6, 0x800, 1, 0xF6, by decide +kernel⟩⟩

/-- States and operands that meet the hypotheses of clauses 13, 14 of HostInterfaceCompletes. -/
theorem met_HostInterfaceCompletes_f :
    (∃ (s : State) (mid : Nat) (gen : BitVec 8) (p : Nat), p < 4 ∧ p < s.rootPorts ∧ s.Reached mid gen R.HIF_RC_CTRL (s.rd R.HIF_RC_CTRL ||| BitVec.ofNat 32 (2 ^ p)) ∧ bitAt (s.rd R.HIF_RC_CTRL).toNat p = false) ∧
    (∃ (s : State) (mid : Nat) (gen : BitVec 8) (p : Nat), p < 4 ∧ p < s.rootPorts ∧ s.Reached mid gen R.HIF_RC_CTRL (s.rd R.HIF_RC_CTRL ||| BitVec.ofNat 32 (2 ^ p)) ∧ bitAt (s.rd R.HIF_RC_CTRL).toNat p = false) ∧
    (∃ (s : State) (p width speed ns : Nat), p < 4 ∧ s.hifOn = true ∧ ((s.rcState p = 1 ∨ s.rcState p = 2))) ∧
    (∃ (s : State) (p width speed ns : Nat), p < 4 ∧ s.hifOn = true ∧ ((s.rcState p = 1 ∨ s.rcState p = 2))) :=
  ⟨⟨(live.wr R.HIF_RC_CFG 2).wr R.HIF_RC_CTRL 7, 0x807, 1, 3, by delta Sys2Proof.Machine.State.Reached; decide +kernel⟩,
   ⟨live, 0x807, 1, 0, by delta Sys2Proof.Machine.State.Reached; decide +kernel⟩,
   ⟨rcP 1, 3, 16, 5, 700, by decide +kernel⟩,
   ⟨rcP 2 0, 0, 4, 3, 1, by decide +kernel⟩⟩

/-- States and operands that meet the hypotheses of clauses 15, 16, 17, 18 of HostInterfaceCompletes. -/
theorem met_HostInterfaceCompletes_g :
    (∃ (s : State) (p step width speed ns : Nat), p < 4 ∧ s.hifOn = true ∧ ((s.rcState p = 1 ∨ s.rcState p = 2)) ∧ step ≠ 0) ∧
    (∃ (s : State) (p addr : Nat) (bs : List Byte), p < 4 ∧ s.hifOn = true ∧ addr + bs.length ≤ s.dramSize) ∧
    (∃ (s : State) (p addr : Nat) (bs : List Byte), p < 4 ∧ s.hifOn = true ∧ s.dramSize < addr + bs.length) ∧
    (∃ (s : State) (p : Nat) (timeout : Bool), p < 4 ∧ s.rcState p = 3 ∧ s.hifOn = true) :=
  ⟨⟨rcP 1, 3, 6, 16, 5, 700, by decide +kernel⟩,
   ⟨hdr, 3, 128 * 2 ^ 30 - 2, [1, 2], by decide +kernel⟩,
   ⟨hdr, 3, 128 * 2 ^ 30 - 2, [1, 2, 3], by decide +kernel⟩,
   ⟨rcN, 3, true, by decide +kernel⟩⟩

/-- States and operands that meet the hypotheses of clauses 18 of HostInterfaceCompletes. -/
theorem met_HostInterfaceCompletes_h :
    (∃ (s : State) (p : Nat) (timeout : Bool), p < 4 ∧ s.rcState p = 3 ∧ s.hifOn = true) :=
  ⟨rcN, 3, false, by decide +kernel⟩

end P14

namespace P15
def lo (x : LowSt) (s : State := live) : State := s.setLow x
def spf : State := (((lo { flashSize := 2 ^ 24, flashErase := 3, flashSr := 0x40 }).wf R.MGT_BOOT_STATUS F.MGT_BOOT_STATUS_STATE 1).wr R.HIF_SPIF_ADDR 0x123400).setBytes .flash 0x123400 (List.replicate 8 0xF3)
def run (op addr len : Nat) : State := (spf.setLow { spf.low with spifOp := some (op, addr, len) }).wr (R.HIF_SPIF_BUF 0) 0x12345678
def rel1 : State := { live with boot := { live.boot with released := true } }
def i2 (cmd : W32) (x : I2cSt) (i : Nat := 3) : State := (live.setI2c i x).wr (R.HIF_I2C_CMD i) cmd
def md (cmd : W32) : State := live.wr (R.HIF_MDIO_CMD 1) cmd
def gp (cfg inp en : W32) : State := ((live.wr (R.HIF_GPIO_CFG 31) cfg).wr R.HIF_GPIO_IN inp).wr R.HIF_GPIO_INT_EN en

/-- States and operands that meet the hypotheses of clauses 1, 2 of SpiCommandsComplete. -/
theorem met_SpiCommandsComplete_a :
    (∃ (s : State) (mid : Nat) (gen : BitVec 8) (len : Nat), SpifTakes s mid gen 1 len) ∧
    (∃ (s : State) (mid : Nat) (gen : BitVec 8) (len : Nat), SpifTakes s mid gen 1 len) ∧
    (∃ (s : State) (mid : Nat) (gen : BitVec 8) (len : Nat), SpifTakes s mid gen 2 len) ∧
    (∃ (s : State) (mid : Nat) (gen : BitVec 8) (len : Nat), SpifTakes s mid gen 2 len) :=
  ⟨⟨spf, 0xA60, 1, 256, by delta SpifTakes Sys2Proof.Machine.State.Reached; decide +kernel⟩,
   ⟨spf, 0x807, 1, 513, by delta SpifTakes Sys2Proof.Machine.State.Reached; decide +kernel⟩,
   ⟨spf, 0x808, 1, 256, by delta SpifTakes Sys2Proof.Machine.State.Reached; decide +kernel⟩,
   ⟨spf, 0xA90, 1, 1, by delta SpifTakes Sys2Proof.Machine.State.Reached; decide +kernel⟩⟩

/-- States and operands that meet the hypotheses of clauses 3, 4, 5, 6 of SpiCommandsComplete. -/
theorem met_SpiCommandsComplete_b :
    (∃ (s : State) (mid : Nat) (gen : BitVec 8), SpifTakes s mid gen 3 0) ∧
    (∃ (s : State) (mid : Nat) (gen : BitVec 8), SpifTakes s mid gen 4 0) ∧
    (∃ (s : State) (mid : Nat) (gen : BitVec 8), SpifTakes s mid gen 5 0) ∧
    (∃ (s : State) (op addr len : Nat), s.low.spifOp = some (op, addr, len) ∧ s.hifOn = true) :=
  ⟨⟨spf, 0x800, 1, by delta SpifTakes Sys2Proof.Machine.State.Reached; decide +kernel⟩,
   ⟨spf, 0x800, 1, by delta SpifTakes Sys2Proof.Machine.State.Reached; decide +kernel⟩,
   ⟨spf, 0x800, 1, by delta SpifTakes Sys2Proof.Machine.State.Reached; decide +kernel⟩,
   ⟨run 1 0x123400 8, 1, 0x123400, 8, by decide +kernel⟩⟩

/-- States and operands that meet the hypotheses of clauses 6, 7, 8, 9 of SpiCommandsComplete. -/
theorem met_SpiCommandsComplete_c :
    (∃ (s : State) (op addr len : Nat), s.low.spifOp = some (op, addr, len) ∧ s.hifOn = true) ∧
    (∃ (s u : State) (off seq : Nat) (v : W32), s.hifOn = true ∧ s.low.spitBusy = none ∧ s.low.spitHeld = none ∧ off < 2 ^ 24 ∧ s.spitFrame.routeRead off 0xA90 (s.genOf 0xA90) = (u, .value v)) ∧
    (∃ (s : State) (off seq : Nat) (v : W32) (c : Card), s.hifOn = true ∧ s.low.spitBusy = none ∧ s.low.spitHeld = none ∧ off ∈ plainRegs ∧ cardAt off = some c ∧ s.boot.released = true ∧ s.Reached 0xA90 (s.genOf 0xA90) off v) ∧
    (∃ (s : State) (off seq : Nat) (v : W32), s.hifOn = true ∧ s.low.spitBusy = none ∧ s.low.spitHeld = none ∧ off < 2 ^ 24 ∧ isFirst off = true) :=
  ⟨⟨run 5 0x123402 4, 5, 0x123402, 4, by decide +kernel⟩,
   ⟨live, ((live.spitFrame).routeRead R.GLB_MODE 0xA90 (live.genOf 0xA90)).1, R.GLB_MODE, 259, live.rd R.GLB_MODE, by decide +kernel⟩,
   ⟨live, R.SEM_CFG, 256, 0x12345678, cardOf R.SEM_CFG, by delta Sys2Proof.Machine.State.Reached; decide +kernel⟩,
   ⟨live, R.MGT_BOOT_CTRL, 257, 5, by decide +kernel⟩⟩

/-- States and operands that meet the hypotheses of clauses 10, 11, 12 of SpiCommandsComplete. -/
theorem met_SpiCommandsComplete_d :
    (∃ (s : State) (seq : Nat), s.hifOn = true ∧ s.low.spitBusy = none ∧ s.low.spitHeld = none) ∧
    (∃ (s : State) (kind edges : Nat), s.hifOn = true ∧ kind < 4) ∧
    (∃ (s : State) (kind edges : Nat), s.hifOn = true ∧ kind < 4) ∧
    (∃ (s : State) (edges : Nat), s.hifOn = true) :=
  ⟨⟨lo { spit := { status := 3, seq := 4, data := 5 } }, 3, by decide +kernel⟩,
   ⟨live, 0, 4, by decide +kernel⟩,
   ⟨live, 3, 4, by decide +kernel⟩,
   ⟨live, 0x12345, by decide +kernel⟩⟩

/-- States and operands that meet the hypotheses of clauses 1, 2 of LowSpeedCommandsComplete. -/
theorem met_LowSpeedCommandsComplete_a :
    (∃ (s : State) (mid : Nat) (gen : BitVec 8) (i : Nat) (v : W32), i < 4 ∧ s.Reached mid gen (R.HIF_I2C_CMD i) v ∧ s.flag (R.HIF_I2C_CMD i) F.HIF_I2C_CMD_BUSY = false ∧ (s.i2c i).stuck = false) ∧
    (∃ (s : State) (mid : Nat) (gen : BitVec 8) (i : Nat) (v : W32), i < 4 ∧ s.Reached mid gen (R.HIF_I2C_CMD i) v ∧ s.flag (R.HIF_I2C_CMD i) F.HIF_I2C_CMD_BUSY = false ∧ (s.i2c i).stuck = false) ∧
    (∃ (s : State) (i n lines : Nat) (data : List Byte), i < 4 ∧ s.hifOn = true ∧ s.flag (R.HIF_I2C_CMD i) F.HIF_I2C_CMD_BUSY = true ∧ n = s.fd (R.HIF_I2C_CMD i) F.HIF_I2C_CMD_NBYTES) ∧
    (∃ (s : State) (i n lines : Nat) (data : List Byte), i < 4 ∧ s.hifOn = true ∧ s.flag (R.HIF_I2C_CMD i) F.HIF_I2C_CMD_BUSY = true ∧ n = s.fd (R.HIF_I2C_CMD i) F.HIF_I2C_CMD_NBYTES) :=
  ⟨⟨live, 0x807, 1, 3, 0x3F7F, by delta Sys2Proof.Machine.State.Reached; decide +kernel⟩,
   ⟨live, 0x807, 1, 3, 0xFFFFFFFF, by delta Sys2Proof.Machine.State.Reached; decide +kernel⟩,
   ⟨i2 0x80000305 { fifo := [1, 2, 3, 4] }, 3, 3, 7, [], by decide +kernel⟩,
   ⟨i2 0xFFFFFFFF { fifo := List.replicate 31 5 }, 3, 63, 7, [7, 8], by decide +kernel⟩⟩

/-- States and operands that meet the hypotheses of clauses 3, 4 of LowSpeedCommandsComplete. -/
theorem met_LowSpeedCommandsComplete_b :
    (∃ (s : State) (i : Nat) (pulses : Option Nat), i < 4 ∧ s.hifOn = true ∧ s.flag (R.HIF_I2C_CMD i) F.HIF_I2C_CMD_BUSY = true) ∧
    (∃ (s : State) (i : Nat) (pulses : Option Nat), i < 4 ∧ s.hifOn = true ∧ s.flag (R.HIF_I2C_CMD i) F.HIF_I2C_CMD_BUSY = true) ∧
    (∃ (s : State) (mid : Nat) (gen : BitVec 8) (i : Nat) (v : W32) (pulses : Option Nat), i < 4 ∧ s.Reached mid gen (R.HIF_I2C_CFG i) (v ||| 0x80000000) ∧ s.flag (R.HIF_I2C_CMD i) F.HIF_I2C_CMD_BUSY = false ∧ (s.i2c i).stuck = false) ∧
    (∃ (s : State) (mid : Nat) (gen : BitVec 8) (i : Nat) (v : W32) (pulses : Option Nat), i < 4 ∧ s.Reached mid gen (R.HIF_I2C_CFG i) (v ||| 0x80000000) ∧ s.flag (R.HIF_I2C_CMD i) F.HIF_I2C_CMD_BUSY = false ∧ (s.i2c i).stuck = false) :=
  ⟨⟨i2 0x80000305 { fifo := [1, 2, 3, 4] }, 3, some 0, by decide +kernel⟩,
   ⟨i2 0x80000305 { fifo := [1, 2, 3, 4] }, 3, none, by decide +kernel⟩,
   ⟨(i2 5 { fifo := [1, 2, 3, 4] }), 0x807, 1, 3, 5, some 0, by delta Sys2Proof.Machine.State.Reached; decide +kernel⟩,
   ⟨(i2 5 { fifo := [1, 2, 3, 4] }), 0x807, 1, 3, 0x7FFFFFFF, none, by delta Sys2Proof.Machine.State.Reached; decide +kernel⟩⟩

/-- States and operands that meet the hypotheses of clauses 5, 6, 7 of LowSpeedCommandsComplete. -/
theorem met_LowSpeedCommandsComplete_c :
    (∃ (s : State) (mid : Nat) (gen : BitVec 8) (i : Nat) (v : W32) (k : Nat), i < 4 ∧ s.Reached mid gen (R.HIF_I2C_CFG i) (v &&& 0x7FFFFFFF ||| 0x40000000)) ∧
    (∃ (s : State) (mid : Nat) (gen : BitVec 8) (m phy reg data : Nat), MdioTakes s mid gen m 1 phy reg data) ∧
    (∃ (s : State) (mid : Nat) (gen : BitVec 8) (m phy reg data : Nat), MdioTakes s mid gen m 1 phy reg data) ∧
    (∃ (s : State) (mid : Nat) (gen : BitVec 8) (m phy reg : Nat), MdioTakes s mid gen m 2 phy reg 0) :=
  ⟨⟨(i2 5 { fifo := [1, 2, 3, 4], stuck := true }), 0x807, 1, 3, 5, 8, by delta Sys2Proof.Machine.State.Reached; decide +kernel⟩,
   ⟨live, 0x807, 1, 1, 33, 32, 65537, by delta MdioTakes Sys2Proof.Machine.State.Reached; decide +kernel⟩,
   ⟨live, 0x807, 1, 1, 31, 31, 65535, by delta MdioTakes Sys2Proof.Machine.State.Reached; decide +kernel⟩,
   ⟨live, 0x807, 1, 1, 3, 33, by delta MdioTakes Sys2Proof.Machine.State.Reached; decide +kernel⟩⟩

/-- States and operands that meet the hypotheses of clauses 8, 9, 10, 11 of LowSpeedCommandsComplete. -/
theorem met_LowSpeedCommandsComplete_d :
    (∃ (s : State) (mid : Nat) (gen : BitVec 8) (m phy reg data : Nat), MdioTakes s mid gen m 3 phy reg data) ∧
    (∃ (s : State) (mid : Nat) (gen : BitVec 8) (m phy reg data : Nat), MdioTakes s mid gen m 4 phy reg data) ∧
    (∃ (s : State) (mid : Nat) (gen : BitVec 8) (m phy reg : Nat), MdioTakes s mid gen m 5 phy reg 0) ∧
    (∃ (s : State) (mid : Nat) (gen : BitVec 8) (m phy reg : Nat), MdioTakes s mid gen m 6 phy reg 0) :=
  ⟨⟨live, 0x807, 1, 1, 33, 32, 65537, by delta MdioTakes Sys2Proof.Machine.State.Reached; decide +kernel⟩,
   ⟨live, 0x807, 1, 1, 33, 32, 65537, by delta MdioTakes Sys2Proof.Machine.State.Reached; decide +kernel⟩,
   ⟨live, 0x807, 1, 1, 33, 32, by delta MdioTakes Sys2Proof.Machine.State.Reached; decide +kernel⟩,
   ⟨live, 0x807, 1, 0, 31, 32, by delta MdioTakes Sys2Proof.Machine.State.Reached; decide +kernel⟩⟩

/-- States and operands that meet the hypotheses of clauses 12, 13 of LowSpeedCommandsComplete. -/
theorem met_LowSpeedCommandsComplete_e :
    (∃ (s : State) (m data op : Nat), m < 2 ∧ s.hifOn = true ∧ s.flag (R.HIF_MDIO_CMD m) F.HIF_MDIO_CMD_BUSY = true ∧ op = s.fd (R.HIF_MDIO_CMD m) F.HIF_MDIO_CMD_OP) ∧
    (∃ (s : State) (m data op : Nat), m < 2 ∧ s.hifOn = true ∧ s.flag (R.HIF_MDIO_CMD m) F.HIF_MDIO_CMD_BUSY = true ∧ op = s.fd (R.HIF_MDIO_CMD m) F.HIF_MDIO_CMD_OP) ∧
    (∃ (s : State) (p : Nat) (level : Bool), p < 32 ∧ s.hifOn = true ∧ bitAt (s.rd R.HIF_GPIO_IN).toNat p ≠ level) ∧
    (∃ (s : State) (p : Nat) (level : Bool), p < 32 ∧ s.hifOn = true ∧ bitAt (s.rd R.HIF_GPIO_IN).toNat p ≠ level) :=
  ⟨⟨md 0xA3FF1234, 1, 0x15555, 2, by decide +kernel⟩,
   ⟨md 0xC0001234, 1, 0x15555, 4, by decide +kernel⟩,
   ⟨gp 0xFFFFFFFF 0 0x80000000, 31, true, by decide +kernel⟩,
   ⟨gp 0 0xFFFFFFFF 0, 0, false, by decide +kernel⟩⟩

end P15

namespace P16
def bt (step : Nat) (b : BootSt := {}) (f : FuseSt := {}) : State := ({ live with boot := { b with resetLow := false, stepAt := 5 }, fuse := f }).wf R.MGT_BOOT_STATUS F.MGT_BOOT_STATUS_STEP step
def fz : FuseSt := { lc := 1, serial := 0x1234567890, keys := [(0, [1, 2])], svn := 3, page0 := [1, 2, 3] }
def body : List Byte := [1, 2, 3, 4, 5, 6, 7, 8]
def secB (b : List Byte) (crc : Nat) (typ : Nat := 6) : List Byte := toLe 2 typ ++ toLe 2 0 ++ toLe 4 128 ++ toLe 4 b.length ++ toLe 8 64 ++ toLe 4 crc ++ toLe 8 0
def hdrB (flags ver : Nat) (sec : List Byte) : List Byte := let h := toLe 4 0x4E494E46 ++ toLe 2 1 ++ toLe 2 64 ++ toLe 4 448 ++ toLe 2 1 ++ toLe 2 flags ++ toLe 4 ver ++ toLe 4 5 ++ toLe 8 6 ++ toLe 8 0 ++ toLe 4 (imgCrc sec) ++ toLe 16 0; h ++ toLe 4 (imgCrc h)
def img (flags ver : Nat) : List Byte := let s := secB body (imgCrc body); hdrB flags ver s ++ s ++ List.replicate 32 0 ++ body
def rd3 : State := (bt 3).wf R.ECS_STATUS F.ECS_STATUS_SRAM_DONE 1
def fl1 : State := rd3.setBytes .flash 0 (img 1 7)
def fl2 : State := (rd3.setBytes .flash 0 (img 0 7)).setBytes .flash (2 ^ 19) (img 2 8)
def flB : State := rd3.setBytes .flash (2 ^ 19) (img 0 8)
def sz (s : State) : State := { s with low := { s.low with flashSize := 2 ^ 20, flashErase := 3 } }
def pick (s : State) (k : Nat) : State := (sz s).headersRead.wf R.MGT_BOOT_STATUS F.MGT_BOOT_STATUS_SLOT k
def au (lc : Nat := 1) (svn : Nat := 3) : State := ((bt 4 { base := 0, keySlot := 0, imgSvn := svn, sections := [{ typ := 6 }] } { fz with lc := lc }).setBytes .flash 16 [7, 8, 9, 10])
def sfl (s : State) (tried : List Nat) : State := (s.setBoot { s.boot with failed := true, tried := tried, sections := [{ typ := 1 }] }).wf R.MGT_BOOT_STATUS F.MGT_BOOT_STATUS_SLOT 1
def sflV (s : State) (tried : List Nat) : State := ((sfl s tried).setBoot { (sfl s tried).boot with failed := false, tried := tried ++ [1], sections := [], next := 0, regions := [], entries := [], txRel := [], coded := 0 }).resetIslands
def sec6 (dest : Nat) : Section := { typ := 6, off := 128, len := 8, dest := dest }
def sa (xs : List Section) (nx : Nat := 0) (st : Nat := 5) : State := ((bt st { sections := xs, next := nx } fz).stage 128 body)
def saOk (s : State) (x : Section) : State := match s.trained.applySection x with | .inr u => u | .inl _ => s
def lcS (keys : List (Nat × List Byte)) (v : W32) : State := offer (((bt 3 {} { keys := keys }).wf R.MGT_BOOT_STATUS F.MGT_BOOT_STATUS_STATE 4).wr (R.MGT_KEY_PROG 0) 0x12345678) R.MGT_LC_REQ v
def rty : State := offer (((bt 3 { tried := [1, 2], failed := false } fz).wf R.MGT_BOOT_STATUS F.MGT_BOOT_STATUS_STATE 2).holdFault 1 true) R.MGT_BOOT_CTRL 1

/-- States and operands that meet the hypotheses of clauses 2, 3, 4 of StartUpStepsComplete. -/
theorem met_StartUpStepsComplete_a :
    (∃ s : State, s.booting = true ∧ s.bootStep = 0) ∧
    (∃ s : State, s.booting = true ∧ s.bootStep = 1) ∧
    (∃ s : State, s.booting = true ∧ s.bootStep = 2) ∧
    (∃ s : State, s.booting = true ∧ s.bootStep = 2) :=
  ⟨⟨bt 0, by decide +kernel⟩,
   ⟨bt 1 {} fz, by decide +kernel⟩,
   ⟨bt 2, by decide +kernel⟩,
   ⟨(bt 2 {} fz).setBytes .packet 5 [7, 8], by decide +kernel⟩⟩

/-- States and operands that meet the hypotheses of clauses 5, 6, 7 of StartUpStepsComplete. -/
theorem met_StartUpStepsComplete_b :
    (∃ (s : State) (erase : Nat), s.booting = true ∧ s.bootStep = 3 ∧ s.flag R.ECS_STATUS F.ECS_STATUS_SRAM_DONE = true) ∧
    (∃ (s u w : State) (size erase k : Nat) (ks : List Nat), s.booting = true ∧ s.bootStep = 3 ∧ s.flag R.ECS_STATUS F.ECS_STATUS_SRAM_DONE = true ∧ size ≠ 0 ∧ u = ({ s with low := { s.low with flashSize := size, flashErase := erase % 4 } } : State).headersRead ∧ u.slotsValid = k :: ks ∧ w = u.wf R.MGT_BOOT_STATUS F.MGT_BOOT_STATUS_SLOT k ∧ w.imageBad (u.slotBase k) w.freeWord.toNat = none) ∧
    (∃ (s u w : State) (size erase k : Nat) (ks : List Nat), s.booting = true ∧ s.bootStep = 3 ∧ s.flag R.ECS_STATUS F.ECS_STATUS_SRAM_DONE = true ∧ size ≠ 0 ∧ u = ({ s with low := { s.low with flashSize := size, flashErase := erase % 4 } } : State).headersRead ∧ u.slotsValid = k :: ks ∧ w = u.wf R.MGT_BOOT_STATUS F.MGT_BOOT_STATUS_SLOT k ∧ w.imageBad (u.slotBase k) w.freeWord.toNat = none) ∧
    (∃ (s : State) (fuseOk : Bool) (pop : Nat), s.booting = true ∧ s.bootStep = 4 ∧ s.authFails true true = none ∧ ((∀ x ∈ s.boot.sections, x.typ = 9 → s.lcActs x = false))) :=
  ⟨⟨rd3, 6, by decide +kernel⟩,
   ⟨fl1, (sz fl1).headersRead, pick fl1 1, 2 ^ 20, 7, 1, [], by decide +kernel, by decide +kernel, by decide +kernel, by decide, rfl, by decide +kernel, rfl, by decide +kernel⟩,
   ⟨flB, (sz flB).headersRead, pick flB 2, 2 ^ 20, 7, 2, [], by decide +kernel, by decide +kernel, by decide +kernel, by decide, rfl, by decide +kernel, rfl, by decide +kernel⟩,
   ⟨au, true, 0x81, by decide +kernel⟩⟩

/-- States and operands that meet the hypotheses of clauses 8, 9 of StartUpStepsComplete. -/
theorem met_StartUpStepsComplete_c :
    (∃ (s : State) (hashOk sigOk fuseOk : Bool) (pop n : Nat), s.booting = true ∧ s.bootStep = 4 ∧ s.authFails hashOk sigOk = some n) ∧
    (∃ (s : State) (hashOk sigOk fuseOk : Bool) (pop n : Nat), s.booting = true ∧ s.bootStep = 4 ∧ s.authFails hashOk sigOk = some n) ∧
    (∃ (s v : State), s.boot.failed = true ∧ s.inReset = false ∧ s.bootState = 0 ∧ v = (s.setBoot { s.boot with failed := false, tried := s.boot.tried ++ [s.fd R.MGT_BOOT_STATUS F.MGT_BOOT_STATUS_SLOT], sections := [], next := 0, regions := [], entries := [], txRel := [], coded := 0 }).resetIslands) ∧
    (∃ (s v : State), s.boot.failed = true ∧ s.inReset = false ∧ s.bootState = 0 ∧ v = (s.setBoot { s.boot with failed := false, tried := s.boot.tried ++ [s.fd R.MGT_BOOT_STATUS F.MGT_BOOT_STATUS_SLOT], sections := [], next := 0, regions := [], entries := [], txRel := [], coded := 0 }).resetIslands) :=
  ⟨⟨au 4, true, true, true, 3, 1, by decide +kernel⟩,
   ⟨au 1 2, true, true, true, 3, 5, by decide +kernel⟩,
   ⟨sfl ((sz fl2).setBytes .packet 5 [7, 8]) [], sflV ((sz fl2).setBytes .packet 5 [7, 8]) [], by decide +kernel⟩,
   ⟨sfl (sz fl2) [2], sflV (sz fl2) [2], by decide +kernel⟩⟩

/-- States and operands that meet the hypotheses of clauses 10 of StartUpStepsComplete. -/
theorem met_StartUpStepsComplete_d :
    (∃ (s : State) (n : Nat), s.booting = true ∧ n = s.bootStep + 1 ∧ stepTmo n ≠ 0) ∧
    (∃ (s : State) (n : Nat), s.booting = true ∧ n = s.bootStep + 1 ∧ stepTmo n ≠ 0) :=
  ⟨⟨bt 0, 1, by decide +kernel⟩,
   ⟨bt 6, 7, by decide +kernel⟩⟩

/-- States and operands that meet the hypotheses of clauses 1, 2, 3 of StartUpCommandsComplete. -/
theorem met_StartUpCommandsComplete_a :
    (∃ (s v u : State) (x : Section), s.booting = true ∧ ((s.bootStep = 5 ∨ s.bootStep = 6)) ∧ s.anyCh 1 = false ∧ s.loadWaits = false ∧ v = s.trained ∧ s.boot.sections[s.boot.next]? = some x ∧ ¬ (x.inDram = true ∧ v.anyCh 2 = true) ∧ v.applySection x = .inr u ∧ ((s.boot.next + 1 ≠ s.boot.sections.length ∨ 32 ≤ u.fd R.ODS_FLOWMEM F.ODS_FLOWMEM_BASE))) ∧
    (∃ (s v u : State) (x : Section), s.booting = true ∧ ((s.bootStep = 5 ∨ s.bootStep = 6)) ∧ s.anyCh 1 = false ∧ s.loadWaits = false ∧ v = s.trained ∧ s.boot.sections[s.boot.next]? = some x ∧ ¬ (x.inDram = true ∧ v.anyCh 2 = true) ∧ v.applySection x = .inr u ∧ ((s.boot.next + 1 ≠ s.boot.sections.length ∨ 32 ≤ u.fd R.ODS_FLOWMEM F.ODS_FLOWMEM_BASE))) ∧
    (∃ (s v : State) (x : Section) (i : Nat), s.booting = true ∧ ((s.bootStep = 5 ∨ s.bootStep = 6)) ∧ s.anyCh 1 = false ∧ s.loadWaits = false ∧ v = s.trained ∧ s.boot.sections[s.boot.next]? = some x ∧ ¬ (x.inDram = true ∧ v.anyCh 2 = true) ∧ v.applySection x = .inl i) ∧
    (∃ s : State, s.booting = true ∧ s.bootStep = 6 ∧ s.boot.sections.length ≤ s.boot.next ∧ s.loadWaits = false ∧ s.anyCh 1 = false ∧ s.anyCh 2 = false) :=
  ⟨⟨sa [sec6 64, sec6 72], (sa [sec6 64, sec6 72]).trained, saOk (sa [sec6 64, sec6 72]) (sec6 64), sec6 64, by decide +kernel⟩,
   ⟨(sa [sec6 64, sec6 72] 1 6).wf R.ODS_FLOWMEM F.ODS_FLOWMEM_BASE 32, ((sa [sec6 64, sec6 72] 1 6).wf R.ODS_FLOWMEM F.ODS_FLOWMEM_BASE 32).trained, saOk ((sa [sec6 64, sec6 72] 1 6).wf R.ODS_FLOWMEM F.ODS_FLOWMEM_BASE 32) (sec6 72), sec6 72, by decide +kernel⟩,
   ⟨sa [sec6 (2 ^ 27)], (sa [sec6 (2 ^ 27)]).trained, sec6 (2 ^ 27), 0, by decide +kernel⟩,
   ⟨bt 6 { sections := [sec6 64], next := 1, featReq := 5 } fz, by decide +kernel⟩⟩

/-- States and operands that meet the hypotheses of clauses 4, 5 of StartUpCommandsComplete. -/
theorem met_StartUpCommandsComplete_b :
    (∃ s : State, s.booting = true ∧ s.bootStep = 8) ∧
    (∃ s : State, s.booting = true ∧ s.bootStep = 8) ∧
    (∃ (s : State) (mid : Nat) (gen : BitVec 8) (off : Nat) (v : W32), isHostPath mid = true ∧ s.boot.released = false ∧ bootReg off = false ∧ s.inReset = false ∧ s.powerStep < 3 ∧ s.xingHeld 41 (islandOf off) = false ∧ s.headless = false) ∧
    (∃ (s : State) (mid : Nat) (gen : BitVec 8) (off : Nat) (v : W32), isHostPath mid = true ∧ s.boot.released = false ∧ bootReg off = false ∧ s.inReset = false ∧ s.powerStep < 3 ∧ s.xingHeld 41 (islandOf off) = false ∧ s.headless = false) :=
  ⟨⟨bt 8 { svnCommit := true, imgSvn := 9 } { fz with lc := 2 }, by decide +kernel⟩,
   ⟨bt 8 {} fz, by decide +kernel⟩,
   ⟨bt 5, 0xA60, 1, R.SEM_CFG, 5, by decide +kernel⟩,
   ⟨bt 5, 0xA90, 1, 0x20174, 5, by decide +kernel⟩⟩

/-- States and operands that meet the hypotheses of clauses 6, 7, 8, 9 of StartUpCommandsComplete. -/
theorem met_StartUpCommandsComplete_c :
    (∃ (s u : State) (mid : Nat) (gen : BitVec 8), s.takePair R.MGT_BOOT_CTRL mid gen 1 = some u ∧ s.bootState = 2 ∧ s.low.spifOp = none) ∧
    (∃ (s u : State) (mid : Nat) (gen : BitVec 8) (slot : Nat), slot < 4 ∧ s.takePair R.MGT_LC_REQ mid gen (BitVec.ofNat 32 (2 ^ 12 + slot * 2 ^ 8)) = some u ∧ s.bootState = 4 ∧ (∀ e ∈ s.fuse.keys, e.1 ≠ slot)) ∧
    (∃ (s u : State) (mid : Nat) (gen : BitVec 8) (v : W32), s.takePair R.MGT_LC_REQ mid gen v = some u ∧ s.bootState = 4 ∧ v.toNat % 8 = 1 ∧ bitAt v.toNat 12 = false ∧ (∃ e ∈ s.fuse.keys, e.1 < 4)) ∧
    (∃ (s : State) (mid : Nat) (gen : BitVec 8) (v : W32), s.Reached mid gen (R.GLB_DRV_FEAT 1) v ∧ isHostPath mid = true ∧ 8 ≤ s.bootStep) :=
  ⟨⟨rty, taken rty R.MGT_BOOT_CTRL 1, 0x800, 1, by decide +kernel⟩,
   ⟨lcS [(0, [5]), (4, [6])] 0x1300, taken (lcS [(0, [5]), (4, [6])] 0x1300) R.MGT_LC_REQ 0x1300, 0x800, 1, 3, by decide +kernel⟩,
   ⟨lcS [(3, [5]), (4, [6])] 1, taken (lcS [(3, [5]), (4, [6])] 1) R.MGT_LC_REQ 1, 0x800, 1, 1, by decide +kernel⟩,
   ⟨bt 8, 0xA60, 1, 0x12345678, by delta Sys2Proof.Machine.State.Reached; decide +kernel⟩⟩

end P16

namespace P17

/-- A running device whose host link is up. -/
def hst : State := live.wf R.HIF_PCIE_STATUS F.HIF_PCIE_STATUS_LINK_UP 1

/-- A locked device. -/
def lockedS : State := hst.wf R.GLB_MODE F.GLB_MODE_LOCK 1

/-- A running device whose time runs. -/
def timed : State := live.wf R.BCN_TIME_STATUS F.BCN_TIME_STATUS_RUNNING 1

/-- No command waits, with time at rest and with time that runs. -/
theorem met_IdleStepsPassTime :
    (∃ s : State, s.pending = [] ∧ s.timeRuns = false) ∧
    (∃ s : State, s.pending = [] ∧ s.timeRuns = true ∧ s.time.total + 2 ^ 35 < 2 ^ 48 * 1000000000 * 2 ^ 32) :=
  ⟨⟨.reset, by decide +kernel⟩, ⟨timed, by decide +kernel⟩⟩

/-- A legal state. -/
theorem reset_sound : State.reset.Sound :=
  ⟨fun mid h => by simp [State.lastGenOf, State.genOf, State.reset, SMap.get, genReset, h], rfl,
    show (0 : Nat) < 1000000000 by decide,
    fun u => by simp [State.errOf, State.reset, SMap.get]⟩

/-- A legal state from which a step answers a next state. -/
theorem met_StepKeepsLegal : ∃ s t : State, s.Sound ∧ step s = .next t := ⟨.reset, _, reset_sound, rfl⟩

/-- Reserved addresses, the last of BAR0 among them. -/
theorem met_ReservedAddresses :
    (∃ (s : State) (off : Nat), off % 4 = 0 ∧ off < 2 ^ 24 ∧ cardAt off = none ∧ complementCard off = none ∧ s.hifOn = true ∧
      s.hostUp = true ∧ s.turnedAway hostMid s.hostGen off false 0 = none) ∧
    (∃ (s : State) (off mid : Nat) (gen : BitVec 8) (v : W32), off % 4 = 0 ∧ off < 2 ^ 24 ∧ cardAt off = none ∧
      complementCard off = none ∧ s.Reached mid gen off v ∧ s.pendOf (guardInst off) = none) :=
  ⟨⟨hst, 0xFFFFFC, by decide +kernel⟩, ⟨hst, 0xFFFFFC, 0x807, 1, 0xFFFFFFFF, by delta State.Reached; decide +kernel⟩⟩

/-- The first and the last G register of the map, and a write to A + 4 with no pair to complete. -/
theorem met_GuardedPairAddresses :
    (∃ (s : State) (off : Nat) (c : Card), cardAt off = some c ∧ c.guard = true ∧ s.hifOn = true ∧ s.hostUp = true ∧
      s.turnedAway hostMid s.hostGen off false 0 = none ∧ s.turnedAway hostMid s.hostGen (off + 4) false 0 = none) ∧
    (∃ (s : State) (off : Nat) (c : Card), cardAt off = some c ∧ c.guard = true ∧ off ≠ R.ECS_RT_ENT ∧ off ≠ R.ECS_SP_ENT) ∧
    (∃ (s : State) (off : Nat) (c : Card) (mid : Nat) (gen : BitVec 8) (v : W32), cardAt off = some c ∧ c.guard = true ∧
      s.turnedAway mid gen (off + 4) true v = none ∧ s.turnedAway mid gen off true (~~~v) = none ∧
      s.takePair off mid gen (~~~v) = none) :=
  ⟨⟨hst, R.MGT_BOOT_CTRL, cardOf R.MGT_BOOT_CTRL, by decide +kernel⟩, ⟨hst, R.MGT_BOOT_CTRL, cardOf R.MGT_BOOT_CTRL, by decide +kernel⟩,
   ⟨hst, R.MGT_BOOT_CTRL, cardOf R.MGT_BOOT_CTRL, 0x807, 1, 5, by decide +kernel⟩⟩

/-- A locked device and a register marked L, and its A + 4. -/
theorem met_LockHoldsRegisters :
    (∃ (s : State) (off : Nat), s.locked = true ∧ lockMarked off = true) ∧
    (∃ (s : State) (off : Nat), s.locked = true ∧ lockMarked (off + 4) = true ∧ isSecond (off + 4) = true) :=
  ⟨⟨lockedS, R.FTE_LAYOUT 9, by decide +kernel⟩, ⟨lockedS, R.FTE_LAYOUT 9, by decide +kernel⟩⟩

/-- Threads that are not their clusters' Keepers, with offsets at both ends of the SEM block's range. -/
theorem met_ThreadWritesKeepRights :
    (∃ (s : State) (mid off : Nat), midIsThread mid = true ∧ mid ≠ s.keeperMid (midCluster mid) ∧
      ¬ (0x50000 ≤ off ∧ off < 0x80000) ∧ off ≠ R.HIF_D2H_BELL ∧ off = 0x4FFFC) ∧
    (∃ (s : State) (mid off : Nat), midIsThread mid = true ∧ mid ≠ s.keeperMid (midCluster mid) ∧
      ¬ (0x50000 ≤ off ∧ off < 0x80000) ∧ off ≠ R.HIF_D2H_BELL ∧ off = 0x80000) :=
  ⟨⟨live, threadMid 15 3 7, 0x4FFFC, by decide +kernel⟩, ⟨live, threadMid 0 0 6, 0x80000, by decide +kernel⟩⟩

/-- A metadata word with every field at its greatest value. -/
theorem met_RecordsRoundTrip : ∃ m : Meta, m.holders < 256 ∧ m.owner < 4096 ∧ m.gen < 256 :=
  ⟨{ holders := 255, owner := 4095, gen := 255 }, by decide⟩

/-- A frame with its fields and its payload's length at their bounds, and a side. -/
theorem met_LinkFramesRoundTrip :
    (∃ (f : MlkFrame) (ack credit epoch lo hi k : Nat), f.src < 8 ∧ f.dst < 8 ∧ f.hops < 8 ∧ f.seq < 4096 ∧ f.cls < 8 ∧ ack < 4096 ∧
      credit < 1024 ∧ epoch < 256 ∧ frameLimit f.typ = some (lo, hi, k) ∧ lo ≤ f.payload.length ∧ f.payload.length ≤ hi ∧
      f.payload.length % k = 0) ∧ (∃ i : Nat, i < 2) :=
  ⟨⟨{ typ := 3, src := 7, srcV := true, dst := 7, hops := 7, seq := 4095, cls := 7, payload := List.replicate 32 5 }, 4095, 1023, 255,
    32, 32, 1, by decide +kernel⟩, ⟨1, by decide⟩⟩

/-- A word, and bytes on both sides of it. -/
theorem met_MetadataReadsBack :
    (∃ m : Meta, m.holders < 256 ∧ m.owner < 4096 ∧ m.gen < 256) ∧
    (∃ (s : State) (p i : Nat) (sp : Space) (a : Nat), s.metaAddr p i + 4 ≤ a ∧ a < 2 ^ 44 ∧ s.metaAddr p i + 4 ≤ 2 ^ 44 ∧
      sp = s.poolSpace p) ∧
    (∃ s : State, s.MemCanonical) :=
  ⟨⟨{ holders := 255, owner := 4095, gen := 255 }, by decide⟩,
   ⟨poolLive, 7, 7, poolLive.poolSpace 7, poolLive.metaAddr 7 7 + 4, by decide +kernel⟩, ⟨.reset, by delta State.MemCanonical; decide⟩⟩

/-- An undefined master, and a master under a generation that it has not. -/
theorem met_StrangersAreRefused :
    (∃ mid : Nat, midDefined mid = false) ∧
    (∃ (s : State) (mid : Nat) (gen : BitVec 8) (slot : Nat), midDefined mid = true ∧ gen ≠ s.genOf mid ∧ slot < 8) :=
  ⟨⟨0xFFF, by decide⟩, ⟨live, threadMid 15 8 7, 0, 7, by decide +kernel⟩⟩

end P17

end Sys2Proof.Tests
end

section
/-! Reserved addresses (R10): an offset that no register card defines is none of the registers whose reads act or show live
state, so a read of it returns 0; a plain write that reaches its block meets no register there. -/
namespace Sys2Proof.Machine
open Sys2Proof

/-! ## The cards of a block (R710) -/

theorem cardsFor_mgt {off : Nat} (hlo : 0x20000 ≤ off) (hhi : off < 0x30000) : cardsFor off = cardsMGT := by
  simp (disch := omega) only [cardsFor, if_pos, if_neg]

theorem cardsFor_hif {off : Nat} (hlo : 0x30000 ≤ off) (hhi : off < 0x40000) : cardsFor off = cardsHIF := by
  simp (disch := omega) only [cardsFor, if_pos, if_neg]

theorem cardsFor_sem {off : Nat} (hlo : 0x50000 ≤ off) (hhi : off < 0x80000) : cardsFor off = cardsSEM := by
  simp (disch := omega) only [cardsFor, if_pos, if_neg]

theorem cardsFor_ods {off : Nat} (hlo : 0x80000 ≤ off) (hhi : off < 0x100000) : cardsFor off = cardsODS := by
  simp (disch := omega) only [cardsFor, if_pos, if_neg]

theorem cardsFor_ecs {off : Nat} (hlo : 0x700000 ≤ off) (hhi : off < 0x800000) : cardsFor off = cardsECS := by
  simp (disch := omega) only [cardsFor, if_pos, if_neg]

theorem cardsFor_clu {off : Nat} (hlo : 0xC00000 ≤ off) (hhi : off < 0x1000000) : cardsFor off = cardsCLU := by
  simp (disch := omega) only [cardsFor, if_pos, if_neg]

/-- Whether a list of cards holds one with the base and the (count, stride) list given. -/
def hasCard (cs : List Card) (base : Nat) (dims : List (Nat × Nat)) : Bool :=
  cs.any (fun c => c.base == base && c.dims == dims)

theorem idxOf_eq_none_iff {off base st n : Nat} :
    idxOf off base st n = none ↔ ¬ (base ≤ off ∧ off < base + n * st ∧ (off - base) % st = 0) := by
  simp [idxOf]

/-! ## What a reserved offset is not -/

section
variable {off : Nat} (h : cardAt off = none)
include h

theorem ne_of_reserved (r : Nat) (hr : (cardAt r).isSome = true) : off ≠ r := by
  rintro rfl
  simp [h] at hr

/-- No card of the block that owns a reserved offset has an instance there. -/
theorem dimsHit_eq_false_of_reserved {cs : List Card} {base : Nat} {dims : List (Nat × Nat)} (hcs : cardsFor off = cs)
    (hcard : hasCard cs base dims = true) (hle : base ≤ off) : dimsHit dims (off - base) = false := by
  obtain ⟨c, hc, hbd⟩ := List.any_eq_true.mp hcard
  obtain ⟨rfl, rfl⟩ : c.base = base ∧ c.dims = dims := by simpa using hbd
  have hmiss := List.find?_eq_none.mp h c (hcs ▸ hc)
  simpa [Card.hit, hle] using hmiss

/-- A reserved offset names none of the registers of a card with one index; the block owns the offsets from `lo` to `hi`. -/
theorem idxOf_eq_none_of_reserved {cs : List Card} {base st n lo hi : Nat}
    (hblock : ∀ {o : Nat}, lo ≤ o → o < hi → cardsFor o = cs) (hlo : lo ≤ base) (hhi : base + n * st ≤ hi)
    (hcard : hasCard cs base [(n, st)] = true) : idxOf off base st n = none := by
  rw [idxOf_eq_none_iff]
  rintro ⟨hbase, hend, hmod⟩
  have hmiss := dimsHit_eq_false_of_reserved h (hblock (by omega) (by omega)) hcard hbase
  have hdiv : (off - base) / st < n := Nat.div_lt_of_lt_mul (by rw [Nat.mul_comm]; omega)
  simp [dimsHit, hdiv, hmod] at hmiss

theorem idxOf_semAcq_eq_none_of_reserved : idxOf off (R.SEM_ACQ 0) 4 semCount = none :=
  idxOf_eq_none_of_reserved h cardsFor_sem (by decide) (by decide) (by decide)

/-! ## Reads -/

theorem State.readValue_reserved (s : State) : s.readValue off = 0 := by
  simp [State.readValue, h]

theorem State.mgtRead_reserved (s : State) : s.mgtRead off = 0 := by
  have hrec : idxOf off (R.MGT_ELOG_REC 0) 4 8 = none :=
    idxOf_eq_none_of_reserved h cardsFor_mgt (by decide) (by decide) (by decide)
  have hrcv : idxOf off (R.MGT_RCV_STATUS 0) 4 17 = none :=
    idxOf_eq_none_of_reserved h cardsFor_mgt (by decide) (by decide) (by decide)
  have hcore : idxOf off (R.MGT_CORE_STATE 0) 4 16 = none :=
    idxOf_eq_none_of_reserved h cardsFor_mgt (by decide) (by decide) (by decide)
  simp only [State.mgtRead, ne_of_reserved h R.MGT_GEN rfl, ne_of_reserved h R.MGT_ELOG_CTRL rfl, hrec, hrcv, hcore,
    State.readValue_reserved h, if_false]

theorem State.odsRead_reserved (s : State) : s.odsRead off = 0 := by
  have hmask : idxOf off (R.ODS_TGMASK 0) 4 2 = none :=
    idxOf_eq_none_of_reserved h cardsFor_ods (by decide) (by decide) (by decide)
  simp only [State.odsRead, ne_of_reserved h R.ODS_STATUS rfl, ne_of_reserved h R.ODS_OLD_LIVE rfl,
    ne_of_reserved h R.ODS_TUSE rfl, ne_of_reserved h R.ODS_TCFG rfl, hmask, State.readValue_reserved h, if_false]

/-- CLU_CPQ_OWN: the cluster is the offset's, and the index within the cluster names no register. -/
theorem idxOf_cpqOwn_eq_none_of_reserved (hlo : 0xC00000 ≤ off) (hhi : off < 2 ^ 24) :
    idxOf (off - 0x40000 * ((off - 0xC00000) / 0x40000)) (R.CLU_CPQ_OWN 0 0) 4 4 = none := by
  rw [idxOf_eq_none_iff]
  rintro ⟨hbase, hend, hmod⟩
  simp only [R.CLU_CPQ_OWN] at hbase hend hmod
  have hmiss := dimsHit_eq_false_of_reserved h (cardsFor_clu hlo hhi)
    (base := 0xC00210) (dims := [(16, 0x40000), (4, 4)]) (by decide) (by omega)
  simp [dimsHit] at hmiss
  omega

/-- CLU_THR_STATUS: likewise for each core's group of registers. -/
theorem idxOf_thrStatus_eq_none_of_reserved (hlo : 0xC00000 ≤ off) (hhi : off < 2 ^ 24) {k : Nat} (hk : k < 9) :
    idxOf (off - 0x40000 * ((off - 0xC00000) / 0x40000)) (R.CLU_THR_STATUS 0 k 0) 4 8 = none := by
  rw [idxOf_eq_none_iff]
  rintro ⟨hbase, hend, hmod⟩
  simp only [R.CLU_THR_STATUS] at hbase hend hmod
  have hmiss := dimsHit_eq_false_of_reserved h (cardsFor_clu hlo hhi)
    (base := 0xC01040) (dims := [(16, 0x40000), (9, 0x100), (8, 4)]) (by decide) (by omega)
  simp [dimsHit] at hmiss
  omega

/-- The two base offsets stand as variables in this proof: the kernel would count down a subtraction of their literals. -/
theorem State.cluRead_reserved (s : State) (hlo : 0xC00000 ≤ off) (hhi : off < 2 ^ 24) : s.cluRead off = 0 := by
  have hown := idxOf_cpqOwn_eq_none_of_reserved h hlo hhi
  have hthr k (hk : k < 9) := idxOf_thrStatus_eq_none_of_reserved h hlo hhi hk
  unfold State.cluRead
  obtain ⟨clusters, hclusters⟩ : ∃ n, n = 0xC00000 := ⟨_, rfl⟩
  obtain ⟨cores, hcores⟩ : ∃ n, n = 0xC01000 := ⟨_, rfl⟩
  simp only [← hclusters] at hown hthr
  rw [← hclusters, ← hcores]
  simp only [hown, State.readValue_reserved h]
  split
  · rfl
  · split
    next t ht =>
      refine if_neg fun hcore => ?_
      simp [hthr _ hcore.1] at ht
    next => rfl

/-- A read of a reserved address returns 0 in every block (R10). -/
theorem State.readNow_reserved (s : State) (hhi : off < 2 ^ 24) : s.readNow off = 0 := by
  have hstate : idxOf off (R.SEM_STATE 0) 4 semCount = none :=
    idxOf_eq_none_of_reserved h cardsFor_sem (by decide) (by decide) (by decide)
  have hsus : idxOf off (R.ECS_SUS 0) 4 2 = none :=
    idxOf_eq_none_of_reserved h cardsFor_ecs (by decide) (by decide) (by decide)
  have hblocks : off < 0xC00000 ∨ s.cluRead off = 0 :=
    (Nat.lt_or_ge off 0xC00000).imp_right (fun hlo => State.cluRead_reserved h s hlo hhi)
  simp only [State.readNow, ne_of_reserved h R.BCN_MGT_STATUS rfl, ne_of_reserved h R.MLK_PAIR_STATUS rfl,
    ne_of_reserved h R.SEM_STATUS rfl, ne_of_reserved h R.FTE_STATUS rfl, ne_of_reserved h R.BPM_QUOTA rfl,
    ne_of_reserved h R.BPM_QUSE rfl, ne_of_reserved h R.ECS_RT_ENT rfl, ne_of_reserved h R.ECS_SP_ENT rfl, hstate,
    hsus, State.mgtRead_reserved h, State.odsRead_reserved h, State.readValue_reserved h, if_false]
  obtain hlt | hclu := hblocks
  · simp only [hlt, if_true, ite_self]
  · simp only [hclu, ite_self]

/-- None of the reads that act is at a reserved address. -/
theorem State.blockRead_reserved (s : State) (mid : Nat) (gen : BitVec 8) (hhi : off < 2 ^ 24) :
    s.blockRead off mid gen = (s, .value 0) := by
  have hi2c : idxOf off (R.HIF_I2C_DATA 0) 0x20 4 = none :=
    idxOf_eq_none_of_reserved h cardsFor_hif (by decide) (by decide) (by decide)
  have htry : idxOf off (R.SEM_TRY 0) 4 semCount = none :=
    idxOf_eq_none_of_reserved h cardsFor_sem (by decide) (by decide) (by decide)
  have hrenew : idxOf off (R.SEM_RENEW 0) 4 64 = none :=
    idxOf_eq_none_of_reserved h cardsFor_sem (by decide) (by decide) (by decide)
  simp only [State.blockRead, ne_of_reserved h R.BCN_TIME_NS rfl, ne_of_reserved h (R.BCN_BCNT 0) rfl,
    hi2c, idxOf_semAcq_eq_none_of_reserved h, htry, hrenew, State.readNow_reserved h s hhi, if_false]

theorem State.semWaits_reserved (s : State) (mid : Nat) : s.semWaits mid off = false := by
  have hacq := idxOf_eq_none_iff.mp (idxOf_semAcq_eq_none_of_reserved h)
  refine List.any_eq_false.mpr fun n hn => ?_
  have hn : n < semCount := List.mem_range.mp hn
  have hne : off ≠ R.SEM_ACQ n := by
    simp only [R.SEM_ACQ, semCount] at hacq hn ⊢
    omega
  simp [hne]

theorem State.bar0Read_reserved (s : State) (hhi : off < 2 ^ 24) (hpath : s.turnedAway hostMid s.hostGen off false 0 = none) :
    s.bar0Read off = s.complete 0 off (.data [0, 0, 0, 0]) := by
  simp only [State.bar0Read, State.semWaits_reserved h, State.routeRead, hpath, State.blockRead_reserved h s _ _ hhi]
  rfl

/-! ## Writes -/

theorem State.blockWrite_reserved (s : State) (mid : Nat) (gen : BitVec 8) (v : W32) (ue : Bool) :
    s.blockWrite off mid gen v ue = s := by
  simp [State.blockWrite, h]

end

/-- A word of the host's path within BAR0 is the router's to answer. -/
theorem execHostRead_bar0_word {s : State} {off : Nat} (hal : off % 4 = 0) (hhi : off < 2 ^ 24) (hon : s.hifOn = true)
    (hup : s.hostUp = true) : execHostRead 0 off 4 15 s = .next (s.bar0Read off) := by
  have hfit : ¬ barSize 0 < off + 4 := by
    simp only [barSize]
    omega
  simp [execHostRead, hon, hup, hfit, oneWord, hal]

/-- A write that reaches an instance with nothing pending changes only the router's note of the last write (R704). -/
theorem State.arrive_of_not_pending {s : State} {off : Nat} (hp : s.pendOf (guardInst off) = none) :
    s.arrive off = { s with lockSeen := (s.arrive off).lockSeen } := by
  simp [State.arrive, State.endOther, hp]

theorem State.reach_of_reached {s : State} {off mid : Nat} {gen : BitVec 8} {v : W32} (f : State → State)
    (hr : s.Reached mid gen off v) : s.reach off mid gen v f = f (s.arrive off) := by
  obtain ⟨hturn, hheld, hlock⟩ := hr
  have hkept : ¬ (s.locked = true ∧ lockMarked off = true) := by simpa using hlock
  simp only [State.reach, hturn, hheld, hkept, if_false, Bool.false_eq_true]

theorem State.routeWrite_reserved {s : State} {off mid : Nat} {gen : BitVec 8} {v : W32} (ue : Bool)
    (h : cardAt off = none) (hc : complementCard off = none) (hr : s.Reached mid gen off v) :
    s.routeWrite off mid gen v ue = s.arrive off := by
  have hfirst : isFirst off = false := by simp [isFirst, h]
  have hsecond : isSecond off = false := by simp [isSecond, hc]
  simp [State.routeWrite, hfirst, hsecond, State.reach_of_reached _ hr, State.blockWrite_reserved h]

/-- An answer to a thread's operation changes that thread's state alone. -/
theorem State.answer_eq_threads (s : State) (mid : Nat) (p : LongOp → Bool) (rs : List W40) (err : Bool) :
    s.answer mid p rs err = { s with threads := (s.answer mid p rs err).threads } := by
  unfold State.answer
  split <;> rfl

/-- Settles O48: a host read is answered with 0 by the router itself, and a write falls through to a block without a register
there. -/
theorem reservedAddresses : Obligations.ReservedAddresses := by
  unfold Obligations.ReservedAddresses
  intro s off hal hhi h hc
  constructor
  · intro hon hup hpath
    refine ⟨_, execHostRead_bar0_word hal hhi hon hup, ?_⟩
    rw [State.bar0Read_reserved h s hhi hpath]
    exact ⟨rfl, rfl⟩
  · intro mid gen v ue hr hp
    refine ⟨_, rfl, ?_⟩
    rw [State.writeFrom, State.routeWrite_reserved ue h hc hr, State.answer_eq_threads, State.arrive_of_not_pending hp]

end Sys2Proof.Machine
end

section
/-! Serial order of SEQ values (R39): the model subtracts in 24 bits, the rule subtracts integers modulo 2^24. -/
namespace Sys2Proof.Machine
open Sys2Proof

/-- A difference of words of `w` bits, read as a number, is the integer difference modulo `2 ^ w`. -/
theorem natCast_toNat_sub {w : Nat} (b a : BitVec w) :
    ((b - a).toNat : Int) = ((b.toNat : Int) - a.toNat) % 2 ^ w := by
  have ha : a.toNat ≤ 2 ^ w := a.isLt.le
  calc ((b - a).toNat : Int)
      = ((2 ^ w : Int) - a.toNat + b.toNat) % 2 ^ w := by simp [ha]
    _ = ((b.toNat : Int) - a.toNat + 2 ^ w) % 2 ^ w := by congr 1; ring
    _ = ((b.toNat : Int) - a.toNat) % 2 ^ w := Int.add_emod_right ..

theorem seqBefore_iff (a b : BitVec 24) :
    seqBefore a b = true ↔ 1 ≤ (b - a).toNat ∧ (b - a).toNat ≤ 8388607 := by
  simp only [seqBefore, decide_eq_true_eq]

/-- Settles O50: the rule's difference modulo 2^24 is the number that the 24-bit subtraction gives, and the model compares
that number with the same bounds. -/
theorem serialOrder : Obligations.SerialOrder := by
  unfold Obligations.SerialOrder
  intro a b
  rw [← natCast_toNat_sub, seqBefore_iff]
  omega

end Sys2Proof.Machine
end

section
/-! The two addresses of a G register (R702): a G register stands at A, where no read acts, and A + 4 is reserved; a write to
A + 4 that completes no pair changes no register and no memory. -/
namespace Sys2Proof.Machine
open Sys2Proof

/-! ## The addresses of the G registers (R700, R710) -/

/-- The offsets that a (count, stride) list gives, relative to its base. -/
def dimOffs : List (Nat × Nat) → List Nat
  | [] => [0]
  | (n, st) :: ds => (List.range n).flatMap (fun k => (dimOffs ds).map (st * k + ·))

theorem mem_dimOffs_of_dimsHit (ds : List (Nat × Nat)) {rel : Nat} (h : dimsHit ds rel = true) : rel ∈ dimOffs ds := by
  induction ds generalizing rel with
  | nil => simpa [dimsHit, dimOffs] using h
  | cons d ds ih =>
    obtain ⟨n, st⟩ := d
    obtain ⟨hk, hrest⟩ : rel / st < n ∧ dimsHit ds (rel % st) = true := by simpa [dimsHit] using h
    refine List.mem_flatMap.mpr ⟨rel / st, List.mem_range.mpr hk, List.mem_map.mpr ⟨rel % st, ih hrest, ?_⟩⟩
    exact Nat.div_add_mod rel st

/-- The offsets that a card defines. -/
def Card.offs (c : Card) : List Nat := (dimOffs c.dims).map (c.base + ·)

theorem Card.mem_offs_of_hit {c : Card} {off : Nat} (h : c.hit off = true) : off ∈ c.offs := by
  obtain ⟨hle, hdims⟩ : c.base ≤ off ∧ dimsHit c.dims (off - c.base) = true := by simpa [Card.hit] using h
  exact List.mem_map.mpr ⟨off - c.base, mem_dimOffs_of_dimsHit c.dims hdims, by omega⟩

/-- The cards of the device, block by block (R710). -/
def allCards : List Card :=
  [cardsGLB, cardsBCN, cardsMGT, cardsHIF, cardsMLK, cardsSEM, cardsODS, cardsPRS, cardsFTE, cardsBPM, cardsCVU, cardsREC,
    cardsDMC, cardsECS, cardsPX, cardsCLU].flatten

theorem ite_subset_append {α : Type} {p : Prop} [Decidable p] {a b l : List α} (h : b ⊆ l) : (if p then a else b) ⊆ a ++ l := by
  split
  · exact List.subset_append_left a l
  · exact List.subset_append_of_subset_right a h

theorem cardsFor_subset_allCards (off : Nat) : cardsFor off ⊆ allCards := by
  simp only [cardsFor, allCards, List.flatten_cons, List.flatten_nil]
  iterate 16 refine ite_subset_append ?_
  exact List.nil_subset _

/-- The addresses A of the G registers. -/
def guardedOffs : List Nat := (allCards.filter (·.guard)).flatMap Card.offs

/-- The arrays of registers whose reads act or show live state, as base, stride and count. -/
def liveArrays : List (Nat × Nat × Nat) :=
  [(R.MGT_ELOG_REC 0, 4, 8), (R.MGT_RCV_STATUS 0, 4, 17), (R.MGT_CORE_STATE 0, 4, 16), (R.HIF_I2C_DATA 0, 0x20, 4),
    (R.SEM_ACQ 0, 4, semCount), (R.SEM_TRY 0, 4, semCount), (R.SEM_RENEW 0, 4, 64), (R.SEM_STATE 0, 4, semCount),
    (R.ODS_TGMASK 0, 4, 2), (R.ECS_SUS 0, 4, 2)]

/-! Each of these facts is a computation over the offsets above; as a Bool it is one that the kernel runs fast. -/

theorem guardedCards_rs : (allCards.filter (·.guard)).all (fun c => c.rs == 0) = true := by decide +kernel

theorem guardedOffs_aligned : guardedOffs.all (fun off => decide (off % 4 = 0 ∧ off + 8 ≤ 2 ^ 24)) = true := by
  decide +kernel

theorem guardedOffs_block : guardedOffs.all (fun off => decide ((off < 0x50000 ∨ 0x80000 ≤ off) ∧ off < 0xC00000)) = true := by
  decide +kernel

theorem guardedOffs_not_live :
    guardedOffs.all (fun off => liveArrays.all (fun (base, st, n) => (idxOf off base st n).isNone)) = true := by
  decide +kernel

theorem guardedOffs_complement :
    guardedOffs.all (fun off => (cardAt (off + 4)).isNone && complementCard (off + 4) == cardAt off) = true := by
  decide +kernel

/-! ## What a G register's address is, and is not -/

section
variable {off : Nat} {c : Card} (h : cardAt off = some c) (hg : c.guard = true)
include h hg

theorem mem_guardedOffs : off ∈ guardedOffs := by
  have hc : c ∈ allCards := cardsFor_subset_allCards off (List.mem_of_find?_eq_some h)
  have hhit : c.hit off = true := List.find?_some (p := fun d : Card => d.hit off) h
  exact List.mem_flatMap.mpr ⟨c, List.mem_filter.mpr ⟨hc, hg⟩, Card.mem_offs_of_hit hhit⟩

theorem of_guardedOffs_all {p : Nat → Bool} (hall : guardedOffs.all p = true) : p off = true :=
  List.all_eq_true.mp hall off (mem_guardedOffs h hg)

theorem guarded_aligned : off % 4 = 0 ∧ off + 8 ≤ 2 ^ 24 :=
  of_decide_eq_true (of_guardedOffs_all h hg guardedOffs_aligned)

/-- No G register stands in SEM, or in CLU. -/
theorem guarded_block : (off < 0x50000 ∨ 0x80000 ≤ off) ∧ off < 0xC00000 :=
  of_decide_eq_true (of_guardedOffs_all h hg guardedOffs_block)

/-- A + 4 is no register's own address. -/
theorem cardAt_complement : cardAt (off + 4) = none := by
  have hfact := of_guardedOffs_all h hg guardedOffs_complement
  simp only [Bool.and_eq_true, Option.isNone_iff_eq_none] at hfact
  exact hfact.1

theorem complementCard_complement : complementCard (off + 4) = some c := by
  have hfact := of_guardedOffs_all h hg guardedOffs_complement
  simp only [Bool.and_eq_true, beq_iff_eq] at hfact
  exact hfact.2.trans h

theorem ne_of_guarded (r : Nat) (hr : isFirst r = false) : off ≠ r := by
  rintro rfl
  simp [isFirst, h, hg] at hr

theorem idxOf_eq_none_of_guarded {base st n : Nat} (hlive : (base, st, n) ∈ liveArrays := by simp [liveArrays]) :
    idxOf off base st n = none :=
  Option.isNone_iff_eq_none.mp (List.all_eq_true.mp (of_guardedOffs_all h hg guardedOffs_not_live) _ hlive)

/-! ## Reads of A -/

theorem State.readValue_guarded (s : State) : s.readValue off = s.rd off &&& ~~~BitVec.ofNat 32 c.wo := by
  have hc : c ∈ allCards := cardsFor_subset_allCards off (List.mem_of_find?_eq_some h)
  have hrs : c.rs = 0 := eq_of_beq (List.all_eq_true.mp guardedCards_rs c (List.mem_filter.mpr ⟨hc, hg⟩))
  simp [State.readValue, h, hrs]

theorem State.mgtRead_guarded (s : State) : s.mgtRead off = s.readValue off := by
  have hrec : idxOf off (R.MGT_ELOG_REC 0) 4 8 = none := idxOf_eq_none_of_guarded h hg
  have hrcv : idxOf off (R.MGT_RCV_STATUS 0) 4 17 = none := idxOf_eq_none_of_guarded h hg
  have hcore : idxOf off (R.MGT_CORE_STATE 0) 4 16 = none := idxOf_eq_none_of_guarded h hg
  simp only [State.mgtRead, ne_of_guarded h hg R.MGT_GEN rfl, ne_of_guarded h hg R.MGT_ELOG_CTRL rfl, hrec, hrcv, hcore,
    if_false]

theorem State.odsRead_guarded (s : State) : s.odsRead off = s.readValue off := by
  have hmask : idxOf off (R.ODS_TGMASK 0) 4 2 = none := idxOf_eq_none_of_guarded h hg
  simp only [State.odsRead, ne_of_guarded h hg R.ODS_STATUS rfl, ne_of_guarded h hg R.ODS_OLD_LIVE rfl,
    ne_of_guarded h hg R.ODS_TUSE rfl, ne_of_guarded h hg R.ODS_TCFG rfl, hmask, if_false]

/-- A G register reads by its access codes, but for the two of ECS that read through an index. -/
theorem State.readNow_guarded (s : State) (hrt : off ≠ R.ECS_RT_ENT) (hsp : off ≠ R.ECS_SP_ENT) :
    s.readNow off = s.readValue off := by
  have hsus : idxOf off (R.ECS_SUS 0) 4 2 = none := idxOf_eq_none_of_guarded h hg
  have hstate : idxOf off (R.SEM_STATE 0) 4 semCount = none := idxOf_eq_none_of_guarded h hg
  obtain ⟨-, hclu⟩ := guarded_block h hg
  simp only [State.readNow, ne_of_guarded h hg R.BCN_MGT_STATUS rfl, ne_of_guarded h hg R.MLK_PAIR_STATUS rfl,
    ne_of_guarded h hg R.SEM_STATUS rfl, ne_of_guarded h hg R.FTE_STATUS rfl, ne_of_guarded h hg R.BPM_QUOTA rfl,
    ne_of_guarded h hg R.BPM_QUSE rfl, hrt, hsp, hstate, hsus, hclu, State.mgtRead_guarded h hg,
    State.odsRead_guarded h hg, if_true, if_false, ite_self]

/-- None of the reads that act is at a G register's address. -/
theorem State.blockRead_guarded (s : State) (mid : Nat) (gen : BitVec 8) :
    s.blockRead off mid gen = (s, .value (s.readNow off)) := by
  have hi2c : idxOf off (R.HIF_I2C_DATA 0) 0x20 4 = none := idxOf_eq_none_of_guarded h hg
  have hacq : idxOf off (R.SEM_ACQ 0) 4 semCount = none := idxOf_eq_none_of_guarded h hg
  have htry : idxOf off (R.SEM_TRY 0) 4 semCount = none := idxOf_eq_none_of_guarded h hg
  have hrenew : idxOf off (R.SEM_RENEW 0) 4 64 = none := idxOf_eq_none_of_guarded h hg
  simp only [State.blockRead, ne_of_guarded h hg R.BCN_TIME_NS rfl, ne_of_guarded h hg (R.BCN_BCNT 0) rfl, hi2c,
    hacq, htry, hrenew, if_false]

theorem State.semWaits_guarded (s : State) (mid : Nat) : s.semWaits mid off = false := by
  obtain ⟨hsem, -⟩ := guarded_block h hg
  refine List.any_eq_false.mpr fun n hn => ?_
  have hn : n < semCount := List.mem_range.mp hn
  have hne : off ≠ R.SEM_ACQ n := by
    simp only [R.SEM_ACQ, semCount] at hn ⊢
    omega
  simp [hne]

theorem State.bar0Read_guarded (s : State) (hpath : s.turnedAway hostMid s.hostGen off false 0 = none) :
    s.bar0Read off = s.complete 0 off (.data (toLe 4 (s.readNow off).toNat)) := by
  simp only [State.bar0Read, State.semWaits_guarded h hg, State.routeRead, hpath, State.blockRead_guarded h hg]
  rfl

/-! ## A + 4 stands for its register -/

theorem isFirst_complement : isFirst (off + 4) = false := by
  simp [isFirst, cardAt_complement h hg]

theorem isSecond_complement : isSecond (off + 4) = true := by
  simp [isSecond, cardAt_complement h hg, complementCard_complement h hg]

theorem lockMarked_complement : lockMarked (off + 4) = lockMarked off := by
  simp [lockMarked, cardAt_complement h hg, complementCard_complement h hg, h]

theorem State.heldWrite_complement (s : State) : s.heldWrite (off + 4) = s.heldWrite off := by
  have hreg : regOff (off + 4) = regOff off := by
    simp [regOff, cardAt_complement h hg, complementCard_complement h hg, h]
  simp only [State.heldWrite, hreg]

end

/-! ## Writes that change no register and no memory -/

@[simp] theorem State.guardFail_store (s : State) (off mid : Nat) (gen : BitVec 8) (v : W32) (kind : Nat) :
    (s.guardFail off mid gen v kind).regs = s.regs ∧ (s.guardFail off mid gen v kind).mem = s.mem := ⟨rfl, rfl⟩

@[simp] theorem State.endOther_store (s : State) (off : Nat) :
    (s.endOther off).regs = s.regs ∧ (s.endOther off).mem = s.mem := by
  unfold State.endOther
  split <;> simp

@[simp] theorem State.arrive_store (s : State) (off : Nat) :
    (s.arrive off).regs = s.regs ∧ (s.arrive off).mem = s.mem := by
  simp [State.arrive]

@[simp] theorem State.holdDiscard_store (s : State) (off mid : Nat) (gen : BitVec 8) (v : W32) :
    (s.holdDiscard off mid gen v).regs = s.regs ∧ (s.holdDiscard off mid gen v).mem = s.mem := by
  simp only [State.holdDiscard, State.raiseLim, State.raiseLimN, State.raiseIf]
  split <;> simp

@[simp] theorem State.lockDiscard_store (s : State) (off mid : Nat) (gen : BitVec 8) (v : W32) :
    (s.lockDiscard off mid gen v).regs = s.regs ∧ (s.lockDiscard off mid gen v).mem = s.mem := by
  simp [State.lockDiscard, apply_ite State.regs, apply_ite State.mem]

/-- A pending first write that meets its complement is taken, where no hold and no lock keeps the pair from its register. -/
theorem State.takePair_of_pending {s : State} {off mid : Nat} {gen : BitVec 8} {p : GuardPend}
    (hp : s.pendOf (guardInst off) = some p) (hmatch : p.off = off ∧ p.mid = mid ∧ p.gen = gen ∧ s.inTime p)
    (hheld : ¬ s.heldWrite off) (hlock : ¬ (s.locked ∧ lockMarked off)) (hpath : s.turnedAway mid gen off true p.value = none) :
    s.takePair off mid gen p.value = some (s.endPend (guardInst off)) := by
  obtain ⟨hoff, hmid, hgen, htime⟩ := hmatch
  rw [State.takePair, hp]
  exact if_pos ⟨hoff, rfl, hmid, hgen, htime, hheld, hlock, Option.isNone_iff_eq_none.mpr hpath⟩

/-- The one branch of a write to A + 4 that reaches the block (R701) is that of the pair, which `takePair` would take. -/
theorem State.pairSecond_store {s : State} {off mid : Nat} {gen : BitVec 8} {v : W32} (hheld : ¬ s.heldWrite off)
    (hlock : ¬ (s.locked ∧ lockMarked off)) (hpath : s.turnedAway mid gen off true (~~~v) = none)
    (hpair : s.takePair off mid gen (~~~v) = none) :
    (s.pairSecond off mid gen v).regs = s.regs ∧ (s.pairSecond off mid gen v).mem = s.mem := by
  unfold State.pairSecond
  split
  · simp
  next p hp =>
    split
    next hmatch =>
      have hne : v ≠ ~~~p.value := by
        rintro rfl
        rw [BitVec.not_not] at hpair hpath
        simp [State.takePair_of_pending hp hmatch hheld hlock hpath] at hpair
      simp [hne]
    · simp

theorem State.routeWrite_complement_store {s : State} {off mid : Nat} {gen : BitVec 8} {v : W32} {c : Card} (ue : Bool)
    (h : cardAt off = some c) (hg : c.guard = true) (hpath4 : s.turnedAway mid gen (off + 4) true v = none)
    (hpath : s.turnedAway mid gen off true (~~~v) = none) (hpair : s.takePair off mid gen (~~~v) = none) :
    (s.routeWrite (off + 4) mid gen v ue).regs = s.regs ∧ (s.routeWrite (off + 4) mid gen v ue).mem = s.mem := by
  simp only [State.routeWrite, isFirst_complement h hg, isSecond_complement h hg, hpath4, State.heldWrite_complement h hg,
    lockMarked_complement h hg, Nat.add_sub_cancel, Bool.false_eq_true, if_false, if_true]
  split
  · simp
  next hheld =>
    split
    · simp
    next hlock => exact State.pairSecond_store hheld hlock hpath hpair

/-- Settles O49: no read acts at A, A + 4 is reserved (R10), and a write to A + 4 that the router passes is discarded by a
transaction's hold, by LOCK or by the guard. -/
theorem guardedPairAddresses : Obligations.GuardedPairAddresses := by
  unfold Obligations.GuardedPairAddresses
  intro s off c h hg
  obtain ⟨hal, hfit⟩ := guarded_aligned h hg
  refine ⟨fun hon hup hpath => ?_, fun hrt hsp => ?_, fun hon hup hpath => ?_, fun mid gen v ue hpath4 hpath hpair => ?_⟩
  · refine ⟨_, execHostRead_bar0_word hal (by omega) hon hup, ?_⟩
    rw [State.bar0Read_guarded h hg s hpath]
    exact ⟨rfl, rfl⟩
  · rw [State.readNow_guarded h hg s hrt hsp, State.readValue_guarded h hg]
  · refine ⟨_, execHostRead_bar0_word (by omega) (by omega) hon hup, ?_⟩
    rw [State.bar0Read_reserved (cardAt_complement h hg) s (by omega) hpath]
    exact ⟨rfl, rfl⟩
  · refine ⟨_, rfl, ?_⟩
    rw [State.writeFrom, State.answer_eq_threads]
    exact State.routeWrite_complement_store ue h hg hpath4 hpath hpair

end Sys2Proof.Machine
end
